-- ==== Sys2Proof/Word.lean ====
section
/-! DEFINITION. Words and the plainest arithmetic of the model: register words are 32 bits (R3), angles 64 bits (R29). -/
namespace Sys2Proof

/-- A register word (R3). -/
abbrev Word := BitVec 32
/-- A byte of memory. -/
abbrev Byte := BitVec 8
/-- A full angle: one unsigned count of phase units (R29). -/
abbrev Angle := BitVec 64

/-- One of two like things: an actuator, a port, a sequencer. -/
inductive Two where
  | zero
  | one
  deriving DecidableEq, Repr

/-- An actuator (and its SAC, RWC and MSQ). -/
abbrev Act := Two
/-- A host port (R260). -/
abbrev Port := Two

/-- Pick by index. -/
def Two.sel {α : Type} (i : Two) (x y : α) : α :=
  match i with
  | .zero => x
  | .one => y

/-- The index as a number. -/
def Two.num (i : Two) : Nat := i.sel 0 1

/-- The other one. -/
def Two.other (i : Two) : Two := i.sel Two.one Two.zero

/-- Two like things side by side. -/
structure Pair (α : Type) where
  p0 : α
  p1 : α
  deriving DecidableEq, Repr

/-- The thing of index `i`. -/
def Pair.get {α : Type} (p : Pair α) (i : Two) : α :=
  match i with
  | .zero => p.p0
  | .one => p.p1

/-- Replace the thing of index `i`. -/
def Pair.set {α : Type} (p : Pair α) (i : Two) (v : α) : Pair α :=
  match i with
  | .zero => { p with p0 := v }
  | .one => { p with p1 := v }

end Sys2Proof
end

