-- ==== Sys2Proof/Syntax.lean ====
section
/-! DEFINITION. The commands of the block: one constructor of `Instr` for each row of spec/opcode_table.json, in the table's order, and the
types of their operands.  The table gives its rows no operands and no bits; an operand here is what the manual says the step is given: the
word a register write carries, or what is measured, received or sensed outside the digital machine when an event comes about. -/
namespace Sys2Proof

/-- Kinds of core access (R19, Table 1.6), and accesses of device-specific CSRs with whether the hart is in machine mode (R25). -/
inductive AccessKind where
  | fetch
  | load
  | store
  | csrRead (machine : Bool)
  | csrWrite (machine : Bool)
  deriving DecidableEq, Repr

/-- Outcome of the catch measurement's direction (R60, SPC_STS.CATCHDIR). -/
inductive RotorDir where
  | standstill
  | forwards
  | backwards
  deriving DecidableEq, Repr

/-- The Token nets (R353). -/
inductive TokenNet where
  | tokA
  | tokB
  | tokS
  deriving DecidableEq, Repr

/-- Machine-check causes, MSQn_MCK.CAUSE (R161). -/
inductive MckCause where
  | parity
  | reserved
  | stack
  | watchdog
  deriving DecidableEq, Repr

/-- What one PWM period measures (R53, R54): the currents in the rotor frame as Q1.15 fractions of IMAX, the observer's angle,
whether its phase error exceeds 45 electrical degrees (R57), and whether a phase current reached SPC_BRAKE.BILIM (R69). -/
structure PwmIn where
  id : Int
  iq : Int
  angle : Nat
  failing : Bool
  overCurrent : Bool
  deriving DecidableEq, Repr

/-- What a SAC demodulates from one servo field (R76 to R79), with the SAM's near-angle stamp (Table 7.9). -/
structure WedgeIn where
  sam : Bool
  parityOk : Bool
  index : Nat
  n : Int
  q : Int
  track : Nat
  rro : Int
  stamp : BitVec 32
  deriving DecidableEq, Repr

/-- A sync mark found in a search window: its offset in cells from the nominal cell, its wrong bits and its metric (R115). -/
structure SyncCand where
  off : Int
  errs : Nat
  metric : Int
  deriving DecidableEq, Repr

/-- What one decode attempt gives (R118). -/
structure AttemptOut where
  syndromeZero : Bool
  crcOk : Bool
  git : Nat
  unsat : Nat
  flips : Nat
  deriving DecidableEq, Repr

/-- What the channel's detector and decoder give for one sector (R116 to R119): the outcomes of the attempts in the order the channel
makes them, the longest run of saturated cells (R119), the decoded bytes, and the
samples of readers A and B that the sample buffer keeps (R120). -/
structure DecodeIn where
  attempts : List AttemptOut
  satRun : Nat
  data : List Byte
  smpA : List Byte
  smpB : List Byte
  deriving DecidableEq, Repr

/-- What a pool engine's decode gives (R134, R141): the outcomes of the step's attempts in order, and the recovered bytes. -/
structure PoolDecode where
  attempts : List AttemptOut
  data : List Byte
  deriving DecidableEq, Repr

/-- A re-read pass as it arrives (R137, R139): the RESULT of its status word, the mark found in it, TA, whether its amplitude differs
by more than 6 dB, and its samples of readers A and B, aligned to pass 1. -/
structure PassIn where
  result : Nat
  markOff : Option Int
  ta : Bool
  ampOff : Bool
  smpA : List Byte
  smpB : List Byte
  deriving DecidableEq, Repr

/-- The fields of a microword (Table 7.1). -/
structure Microword where
  na : BitVec 14
  seq : BitVec 3
  cond : BitVec 6
  cinv : Bool
  y : Bool
  wait : BitVec 3
  warg : BitVec 6
  alu : BitVec 4
  ra : BitVec 4
  rb : BitVec 4
  dst : BitVec 4
  bimm : Bool
  flg : Bool
  gate : BitVec 2
  chan : BitVec 3
  servo : BitVec 2
  pre : BitVec 2
  asc : BitVec 3
  rpt : BitVec 2
  code : BitVec 8
  evt : Bool
  rsv : BitVec 21
  imm : Word
  deriving DecidableEq, Repr

/-- The sums of the samples of one calibration try: CAL_REF and ground, in two halves (R184). -/
structure CalTry where
  ref1 : Nat
  zero1 : Nat
  ref2 : Nat
  zero2 : Nat
  deriving DecidableEq, Repr

/-- A completion record as its submitter receives it (Table 7.12). -/
structure CompletionIn where
  status : Nat
  pdone : Nat
  tag : Word
  deriving DecidableEq, Repr

/-- A tag read by the replay tag scan (R224). -/
structure TagSeen where
  surf : Nat
  slot : Nat
  zone : Nat
  k : Nat
  gen : Nat
  seq : Nat
  deriving DecidableEq, Repr

/-- One member's sector read for a reconstruction (R227): the member number, whether it read good, its stored bytes. -/
structure MemberRead where
  m : Nat
  ok : Bool
  data : List Byte
  deriving DecidableEq, Repr

/-- A sector to be reconstructed and the reads of the other members (R227): those of the first round and of the second. -/
structure ReconIn where
  zone : Nat
  stripe : Nat
  sector : Nat
  member : Nat
  first : List MemberRead
  second : List MemberRead
  checkOk : Bool
  hostRead : Bool
  deriving DecidableEq, Repr

/-- A sector of a committed data chunk that replay reads (R223): zone, chunk index, sector of the chunk, its 4,112 bytes. -/
structure SectorRead where
  zone : Nat
  k : Nat
  i : Nat
  info : List Byte
  deriving DecidableEq, Repr

/-- Which copy of a conventional chunk reads good with the higher SEQ (R228). -/
structure CopyGood where
  chunk : Nat
  copy : Nat
  deriving DecidableEq, Repr

/-- What a Rinse read of one chunk finds (R232, R233), its unrecoverable sectors, and for those and for a parity comparison the members' sectors, one list for each sector index. -/
structure RinseIn where
  zone : Nat
  k : Nat
  maxRevs : Nat
  recovered : Nat
  reconstructed : Nat
  checkFails : Nat
  unrecoverable : List Nat
  members : List (List MemberRead)
  deriving DecidableEq, Repr

/-- How a write's data arrived (R225, R245, R267, R268). -/
inductive DataOutcome where
  | good
  | transferError
  | guardError
  | appTagError
  | refTagError
  deriving DecidableEq, Repr

/-- The data of a write: how it arrived and its blocks in stored form with their protection bytes (R347). -/
structure WriteData where
  outcome : DataOutcome
  blocks : List (List Byte)
  deriving DecidableEq, Repr

/-- A mover's request for an Interlocking entry (Table 11.1). -/
structure IlockReq where
  owner : Nat
  space : Nat
  part : Bool
  start : Nat
  len : Nat
  deriving DecidableEq, Repr

/-- An arriving PCIe completion (R268). -/
inductive PcieCpl where
  | good
  | poisoned
  | unsupported
  | abort
  deriving DecidableEq, Repr

/-- What every NVMe command carries: the port it arrived on, its queue, its identifier, its namespace, and the PRACT bit of a command with data (R280). -/
structure CmdHdr where
  port : Port
  qid : Nat
  cid : Nat
  nsid : Nat
  pract : Bool
  deriving DecidableEq, Repr

/-- One valid copy of the boot-control record (R336). -/
structure BootCtl where
  seq : Nat
  slot : Nat
  deriving DecidableEq, Repr

/-- One section of an image slot as far as the boot ROM acts on it (Tables 16.2, 16.3). -/
structure Section where
  typ : Nat
  critical : Bool
  dest : Nat
  bytes : List Byte
  deriving DecidableEq, Repr

/-- An image slot: the failure code of its first failing check among 0x12 to 0x17 except 0x15 (the verdicts of the published
standards on its bytes), its security version, its revision, and its sections as plain bytes (R337, R338). -/
structure SlotImage where
  fail : Option Nat
  svn : Nat
  revision : Nat
  sections : List Section
  deriving DecidableEq, Repr

/-- The contents of the configuration flash (R336). -/
structure Flash where
  responds : Bool
  ctl0 : Option BootCtl
  ctl1 : Option BootCtl
  slot1 : SlotImage
  slot2 : SlotImage
  deriving DecidableEq, Repr

/-- How a DDR5 read returned (R296). -/
inductive DdrErr where
  | clean
  | corrected
  | uncorrectable
  deriving DecidableEq, Repr

/-- A logical block of a namespace. -/
structure BlockId where
  nsid : Nat
  lba : Nat
  deriving DecidableEq, Repr

/-- A received Branch Line frame: its SEQ, whether its CRC holds, its REQ flag and its TAG (R363). -/
structure FrameIn where
  seq : Word
  crcOk : Bool
  req : Bool
  tag : Word
  deriving DecidableEq, Repr

/-- Actions of Zone Management Send (Table 9.2). -/
inductive ZoneAct where
  | opening
  | closing
  | finishing
  | resetting
  | offlining
  deriving DecidableEq, Repr

/-- What a host I/O command asks (Table 12.9). -/
inductive CmdKind where
  | read (slba nlb : Nat)
  | write (slba nlb : Nat) (fua : Bool)
  | append (zslba nlb : Nat) (fua : Bool)
  | zeroes (slba nlb : Nat)
  | zone (act : ZoneAct) (zslba : Nat) (all : Bool)
  | report (slba count : Nat)
  | flush
  deriving DecidableEq, Repr

/-- What a forwarded command asks (R371): an I/O command, or an admin command of the partner's namespace. -/
inductive FwdKind where
  | io (k : CmdKind)
  | format (lbaf pi ses : Nat)
  | sanitize
  | authenticate (ok : Bool)
  | setCredential (oldOk newEmpty : Bool)
  | lock
  | status
  deriving DecidableEq, Repr

/-- A forwarded submission entry with its controller and queue (R371): `hdr.cid` is the arrival chip's forwarding slot. -/
structure FwdEntry where
  hdr : CmdHdr
  kind : FwdKind
  deriving DecidableEq, Repr

/-- What an FCTL packet announces (R371). -/
inductive FwdNotice where
  | abort (port : Port) (cid : Nat)
  | controllerReset (port : Port)
  deriving DecidableEq, Repr

/-- The boundary cells as the model holds them (R386): the six spindle gates in the order UH, UL, VH, VL, WH, WL from bit 0, the three Token pins, and
the rest of the chain. -/
structure Cells where
  gates : BitVec 6
  tokens : BitVec 3
  rest : List Bool
  deriving DecidableEq, Repr

/-- What a Yard or Vault array gives for a word (R285, R290): how many of its stored bits are wrong, and whether they are still wrong when the word is
read again after its write-back. -/
structure ArrErr where
  bits : Nat
  hard : Bool
  deriving DecidableEq, Repr

/-- A wrong word that a scrub pass reads (R293): its core address and what the array gives. -/
structure FoundErr where
  addr : Nat
  err : ArrErr
  deriving DecidableEq, Repr

/-- What of the DDR5 areas without an address in the manual a read concerns (R296): blocks of the write buffer by their place in it, or neither
them nor a chunk-map or metadata word. -/
inductive DdrPlace where
  | other
  | buffer (blocks : List Nat)
  | accumulator
  deriving DecidableEq, Repr

/-- The commands of the block: the rows of spec/opcode_table.json, in its order. -/
inductive Instr where
  /-- REGISTER_WRITE (R7): A write to a register that has no row of its own takes effect under its access code. -/
  | registerWrite (off : Nat) (size : Nat) (v : BitVec 64)
  /-- WIDE_LOW_READ (R10): A read of the low register of a wide pair copies the high part into the pair's shadow. -/
  | wideLowRead (off : Nat)
  /-- WIDE_HIGH_READ (R10): A read of the high register returns and consumes the shadow, or the live high part if no shadow is held. -/
  | wideHighRead (off : Nat)
  /-- POWER_ON_RESET_RELEASE (R307): Power-on reset is released 10 ms after the last rail is in range and the crystal runs. -/
  | powerOnResetRelease (straps : BitVec 3) (auxLost : Bool)
  /-- START (R339): At the release of power-on reset or of a device reset, the boot ROM on hart 0 begins the boot sequence. -/
  | start (flash : Option Flash)
  /-- DDR5_TRAINING_END (R295): DDR5 training completes, and the boot ROM runs the size checks and copies the sections. -/
  | ddr5TrainingEnd (ok : Bool) (gib : Nat)
  /-- CONFIG_LOCK (R22): Setting GLB_LOCK fixes RWL fields and patch RAM and permits writes and CSTS.RDY. -/
  | configLock
  /-- GLB_RST_WRITE (R24): A GLB_RST write with the correct key requests a device reset; other keys are discarded. -/
  | glbRstWrite (v : Word)
  /-- DEVICE_RESET (R24): A device reset resets every block except the always-on domain and ROS fields, and invokes Buffer Stop on loaded actuators. -/
  | deviceReset
  /-- EVENT_CLAIM (R26): A read of MEVCLAIM claims the highest-priority pending event for the hart. -/
  | eventClaim (hart : Fin 4) (machine : Bool)
  /-- EVENT_COMPLETE (R333): A write of a source number to MEVCLAIM completes its handling and clears its hart latch. -/
  | eventComplete (hart : Fin 4) (machine : Bool) (v : Word)
  /-- HART_RELEASE (R27): A write of 1 to an MCORERUN RUN bit releases hart 1, 2 or 3 from reset. -/
  | hartRelease (hart : Fin 4) (machine : Bool) (v : Word)
  /-- CORE_ACCESS (R19): A core load, store or fetch is performed against the physical address map. -/
  | coreAccess (hart : Fin 4) (kind : AccessKind) (addr : Nat) (size : Nat) (v : BitVec 64) (err : ArrErr)
  /-- GATHER_IDLE_WRITEBACK (R287): A gather entry with no store for 64 cycles is written to the Yard. -/
  | gatherIdleWriteback (addr : Nat)
  /-- CORE_FENCE (R287): A FENCE by the storing hart drains its gather entries. -/
  | coreFence (hart : Fin 4)
  /-- BANK_COPY_END (R289): The copy of a logical bank to a spare ends and MEM_BANKMAP names the spare. -/
  | bankCopyEnd
  /-- TIMETABLE_ENABLE (R48): Writing TTB_CTL.EN = 1 moves the Timetable from IDLE to ACQUIRE. -/
  | timetableEnable (v : Word)
  /-- TIMETABLE_DISABLE (R48): Writing TTB_CTL.EN = 0 returns the Timetable to IDLE. -/
  | timetableDisable (v : Word)
  /-- ANGLE_SOURCE_SELECT (R38): A TTB_CTL write selects the angle source named in SRC from the next SAM of that source. -/
  | angleSourceSelect (v : Word)
  /-- SNAPSHOT_CAPTURE (R39): TTB_SNAP.CAP captures the full angle and clock time of one cycle. -/
  | snapshotCapture (v : Word)
  /-- MISS_COUNTER_CLEAR (R48): TTB_SNAP.CLRMISS clears the missed-SAM counter. -/
  | missCounterClear (v : Word)
  /-- SLOT_ARM (R40): Writing ARM = 1 latches a slot's target and arms it, fires it late, or rejects it outside the horizon. -/
  | slotArm (n : Fin 64) (v : Word)
  /-- SLOT_DISARM (R42): Writing ARM = 0 disarms a slot. -/
  | slotDisarm (n : Fin 64) (v : Word)
  /-- SLOT_FIRE (R41): A slot's target is reached; FIRED, its event and its strobe are set and it disarms or advances by PER. -/
  | slotFire (n : Fin 64)
  /-- WINDOW_OPEN (R44): The angle reaches a window's open target; INSIDE and the strobe rise. -/
  | windowOpen (n : Fin 64)
  /-- WINDOW_CLOSE (R44): The angle reaches a window's close target; INSIDE and the strobe fall. -/
  | windowClose (n : Fin 64)
  /-- SAM_DETECTED (R34): A servo address mark from the source actuator is stamped and judged for acceptance and lock error. -/
  | samDetected (a : Act) (stamp : Angle) (index : Fin 512) (parityOk : Bool)
  /-- SAM_MISSED (R34): An acceptance window closes without an accepted SAM; TTB_MISS counts it and TTB_INC returns to B. -/
  | samMissed
  /-- TIMETABLE_LOCK (R35): Enough consecutive SAMs within tolerance move the Timetable to LOCKED. -/
  | timetableLock
  /-- FLYWHEEL_ENTRY (R34): MISSN consecutive missed SAMs in LOCKED move the Timetable to FLYWHEEL. -/
  | flywheelEntry
  /-- LOST_ENTRY (R36): 512 wedges in FLYWHEEL without an accepted SAM move the Timetable to LOST. -/
  | lostEntry
  /-- STEP_END (R45): 64 consecutive accepted SAMs after INBAND rose clear TTB_STS.STEP. -/
  | stepEnd
  /-- SYNC_SEND (R46): At each revolution index the reference chip sends a SYNC packet with its full angle. -/
  | syncSend
  /-- TWINSYNC_SET (R46): 16 consecutive valid SYNC packets set TWINSYNC. -/
  | twinsyncSet
  /-- TWINSYNC_CLEAR (R46): 8 consecutive missing or invalid SYNC packets clear TWINSYNC. -/
  | twinsyncClear
  /-- PWM_PERIOD (R54): Each PWM period samples currents and runs the current loops, observer and braking pulse. -/
  | pwmPeriod (m : PwmIn)
  /-- SPEED_LOOP_PERIOD (R53): Every 8 PWM periods the speed loop updates the q-axis reference and the speed estimate. -/
  | speedLoopPeriod (est : Int)
  /-- OBSERVER_LOSS (R66): LOSSN failing periods declare observer loss; SPC coasts and reports it to the Timetable. -/
  | observerLoss
  /-- COMMUTATION_EVENT (R391): A back-EMF zero crossing is registered; speed, flywheel rate and revolution measurements update. -/
  | commutationEvent (interval : Nat) (ring : Nat) (good : Bool)
  /-- BRIDGE_FAULT (R52): SP_FLT# low drives all gates low, sets BRIDGEF and enters FAULT. -/
  | bridgeFault
  /-- SPINDLE_RUN (R60): Writing SPC_CTL.RUN = 1 in STOPPED enters CATCH or ALIGN. -/
  | spindleRun (v : Word)
  /-- SPINDLE_STOP (R65): Writing SPC_CTL.RUN = 0 stops the spindle by its state. -/
  | spindleStop (v : Word)
  /-- LOSS_COUNTER_CLEAR (R74): SPC_CTL.CLRLOSS clears SPC_LOSSCNT. -/
  | lossCounterClear (v : Word)
  /-- SPEED_TARGET_WRITE (R64): A write of SPC_TARGET selects a speed step. -/
  | speedTargetWrite (v : Word)
  /-- CATCH_MEASUREMENT_END (R60): After 20 ms of back-EMF measurement SPC decides by Table 3.3. -/
  | catchMeasurementEnd (dir : RotorDir) (speed : Nat)
  /-- ALIGN_END (R61): ALIGNT expires and SPC enters OPENLOOP. -/
  | alignEnd
  /-- OPENLOOP_HANDOFF (R61): 12 good commutation events above HANDOFF hand over to RUN. -/
  | openloopHandoff
  /-- LOCKED_ROTOR_EXPIRY (R62): 1.5 s in OPENLOOP without a commutation event declares a locked rotor. -/
  | lockedRotorExpiry
  /-- LOCKED_ROTOR_RETRY (R62): 2 s after a locked rotor SPC starts again from CATCH. -/
  | lockedRotorRetry
  /-- INBAND_RISE (R63): 4 consecutive revolutions within ±0.02 % set INBAND. -/
  | inbandRise
  /-- REACQUISITION (R67): 12 good commutation events in COAST reacquire the rotor and re-enter RUN or STOPPING. -/
  | reacquisition
  /-- REACQUISITION_TIMEOUT (R68): The reacquisition attempt ends without success; safe-stop and SAFEBRAKE. -/
  | reacquisitionTimeout
  /-- BRAKE_HOLD_TIMEOUT (R68): 300 ms of high-impedance wait ends and pulsed braking begins. -/
  | brakeHoldTimeout
  /-- STANDSTILL_GAP (R70): Every 50 ms of braking a 1 ms high-impedance gap samples back-EMF for standstill. -/
  | standstillGap (emf : Nat) (speed : Int)
  /-- KE_UPDATE (R72): Every 10 ms SPC_KE is recomputed from the speed. -/
  | keUpdate
  /-- WEDGE_DEMODULATED (R78): At phase 0x0C80 a SAC judges the wedge valid or missed and forms its position. -/
  | wedgeDemodulated (a : Act) (m : WedgeIn)
  /-- RECOVER_ENTRY (R80): MISSMAX consecutive missed wedges enter RECOVER, or end the unload seek. -/
  | recoverEntry (a : Act)
  /-- SETTLE_COMPLETE (R87): SETTLEN consecutive wedges within SETTOL enter FOLLOW and set ONTRK. -/
  | settleComplete (a : Act)
  /-- SAC_SEEK (R87): SACn_CMD OP 1 starts a seek from the measured state. -/
  | sacSeek (a : Act) (v : Word)
  /-- SAC_LOAD (R96): SACn_CMD OP 2 starts the load sequence. -/
  | sacLoad (a : Act) (v : Word)
  /-- SAC_UNLOAD (R97): SACn_CMD OP 3 starts the unload sequence. -/
  | sacUnload (a : Act) (v : Word)
  /-- SAC_SELFTEST (R81): SACn_CMD OP 4 drives SACn_TSTI from PARKED. -/
  | sacSelftest (a : Act) (v : Word)
  /-- SAC_ENDTEST (R81): SACn_CMD OP 5 sets the DACs to 0 and returns to PARKED. -/
  | sacEndtest (a : Act) (v : Word)
  /-- SAC_ENABLE (R102): Writing SACn_CTL.EN = 1 enables the SAC. -/
  | sacEnable (a : Act) (v : Word)
  /-- SAC_DISABLE (R102): Writing SACn_CTL.EN = 0 disables the SAC, only in PARKED. -/
  | sacDisable (a : Act) (v : Word)
  /-- INTEGRATOR_CLEAR (R84): SACn_CTL.CLRINT clears the integrator. -/
  | integratorClear (a : Act) (v : Word)
  /-- SAC_COUNTER_CLEAR (R102): SACn_CTL.CLRCNT clears SACn_MISS and SACn_WFCNT. -/
  | sacCounterClear (a : Act) (v : Word)
  /-- BANK_APPLY_REQUEST (R86): SACn_CCTL.APPLY requests a shadow copy at the next wedge boundary. -/
  | bankApplyRequest (a : Act) (v : Word)
  /-- FOLLOWING_ERROR_EXPIRY (R88): The following-error timer expires; RUNAWAY, safe-stop and Buffer Stop. -/
  | followingErrorExpiry (a : Act)
  /-- CURRENT_PLAUSIBILITY_TICK (R89): Every 20 µs the VCM current sense is compared with the command. -/
  | currentPlausibilityTick (a : Act) (vcms : Int)
  /-- IMPLAUSIBLE (R91): Eight failing current ticks or four failing model wedges make the actuator implausible. -/
  | implausible (a : Act)
  /-- ESTIMATE_INTERVAL_CLOSE (R94): A 1/64-wedge interval closes during a write and the two-reader estimate is judged. -/
  | estimateIntervalClose (a : Act) (aA : Nat) (aB : Nat)
  /-- LOAD_SERVO_FOUND (R96): 4 consecutive valid wedges in LOAD start the control engine and a SEEK. -/
  | loadServoFound (a : Act)
  /-- LOAD_TIMEOUT (R96): LOADT expires without servo; UNLOAD and a recoverable error. -/
  | loadTimeout (a : Act)
  /-- UNLOAD_PUSH_END (R97): UNLT ends and the unload switches to HOLDI. -/
  | unloadPushEnd (a : Act)
  /-- UNLOAD_HOLD_END (R97): HOLDT ends and the SAC enters PARKED. -/
  | unloadHoldEnd (a : Act)
  /-- RECOVER_SEEK (R98): 4 wedges passing model plausibility start a SEEK from RECOVER. -/
  | recoverSeek (a : Act)
  /-- RECOVER_TIMEOUT (R98): 512 wedges in RECOVER without a seek enter UNLOAD. -/
  | recoverTimeout (a : Act)
  /-- BUFFER_STOP_RETRACT (R100): At the first oscillator edge the engine is disconnected and RETI drives towards the ramp. -/
  | bufferStopRetract (a : Act)
  /-- BUFFER_STOP_SECOND_PHASE (R100): RETT1 expires and RETI2 is driven. -/
  | bufferStopSecondPhase (a : Act)
  /-- BUFFER_STOP_HOLD (R100): RETT2 expires and HOLDI is driven. -/
  | bufferStopHold (a : Act)
  /-- BUFFER_STOP_END (R100): HOLDT expires; DACs go to 0 and parked is reported. -/
  | bufferStopEnd (a : Act)
  /-- GATE_PERIOD_OPEN (R113): A read or write gate period opens at its compare unit if permitted. -/
  | gatePeriodOpen (a : Act) (ready : Nat)
  /-- GATE_PERIOD_CLOSE (R113): A gate period closes after its last cell or the fragment in progress. -/
  | gatePeriodClose (a : Act)
  /-- SYNC_WINDOW_CLOSE (R115): A sync search window closes and its best candidates are kept. -/
  | syncWindowClose (a : Act) (cands : List SyncCand)
  /-- SECTOR_DECODED (R116): A sector's decode attempts finish in the channel. -/
  | sectorDecoded (a : Act) (m : DecodeIn)
  /-- SERIAL_FRAME_COMMAND (R125): RWCn_PSCMD with GO = 1 requests a firmware serial frame. -/
  | serialFrameCommand (a : Act) (v : Word)
  /-- SERIAL_FRAME_START (R123): A waiting serial frame takes the free port and PSEN rises. -/
  | serialFrameStart (a : Act)
  /-- SERIAL_FRAME_DONE (R123): A serial frame completes and PSEN falls. -/
  | serialFrameDone (a : Act) (data : BitVec 16)
  /-- SERIAL_TIMEOUT (R124): No start bit within WAIT clocks; PSTO is set and a fault raised. -/
  | serialTimeout (a : Act)
  /-- SERIAL_TRAILER_END (R124): 17 clocks after a timeout PSEN falls and the frame ends. -/
  | serialTrailerEnd (a : Act)
  /-- LATE_PREAMP_REPLY (R124): A start bit after timeout is discarded, counted and recorded. -/
  | latePreampReply (a : Act)
  /-- PREAMP_FAULT (R127): PFLT_n# falling blocks gate periods and raises the preamplifier fault. -/
  | preampFault (a : Act)
  /-- CHANNEL_ENABLE (R129): Writing RWCn_CTL.EN enables or idles the channel. -/
  | channelEnable (a : Act) (v : Word)
  /-- CHANNEL_COUNTER_CLEAR (R129): RWCn_CTL.CLRCNT clears the four channel counters. -/
  | channelCounterClear (a : Act) (v : Word)
  /-- POOL_DECODE_COMPLETE (R134): A pool engine finishes a decode and the job moves to its next step or ends. -/
  | poolDecodeComplete (e : Fin 4) (m : PoolDecode)
  /-- REREAD_PASS (R139): A re-read pass arrives and is aligned and accumulated or decoded. -/
  | rereadPass (slot : Nat) (m : PassIn)
  /-- ACCUMULATOR_GRANT (R133): A waiting averaging job takes a freed accumulator pair. -/
  | accumulatorGrant
  /-- JOB_AGE_LIMIT (R142): A job reaches AGEMAX revolutions and ends with OUTCOME 4. -/
  | jobAgeLimit (slot : Nat)
  /-- POOL_ENABLE (R146): Writing DDP_CTL.EN = 1 lets the pool create jobs. -/
  | poolEnable (v : Word)
  /-- POOL_DISABLE (R142): Writing DDP_CTL.EN = 0 ends every job. -/
  | poolDisable (v : Word)
  /-- POOL_COUNTER_CLEAR (R146): DDP_CTL.CLRCNT clears the five pool counters. -/
  | poolCounterClear (v : Word)
  /-- MACHINE_CHECK (R161): A parity, reserved-field, stack or yield-watchdog error halts the sequencer and parks its actuator. -/
  | machineCheck (a : Act) (cause : MckCause) (pbytes : BitVec 16)
  /-- CONT (R150): The next address is current + 1. -/
  | cont (a : Act) (w : Microword)
  /-- JUMP (R150): The next address is NA. -/
  | jump (a : Act) (w : Microword)
  /-- BR (R150): The next address is NA if the condition holds, otherwise current + 1. -/
  | br (a : Act) (w : Microword)
  /-- CALL (R150): Current + 1 is pushed and the next address is NA. -/
  | call (a : Act) (w : Microword)
  /-- RET (R150): The next address is popped from the stack. -/
  | ret (a : Act) (w : Microword)
  /-- DISP (R150): The head of the operation queue becomes current and its dispatch entry is taken. -/
  | disp (a : Act) (w : Microword)
  /-- ERET (R150): The next address is popped and events are enabled again. -/
  | eret (a : Act) (w : Microword)
  /-- NOP (R151): No ALU result. -/
  | nop (a : Act) (w : Microword)
  /-- MOV (R151): DST receives the second operand. -/
  | mov (a : Act) (w : Microword)
  /-- ADD (R151): DST receives A plus the second operand. -/
  | add (a : Act) (w : Microword)
  /-- SUB (R151): DST receives A minus the second operand. -/
  | sub (a : Act) (w : Microword)
  /-- AND (R151): DST receives the bitwise AND. -/
  | and (a : Act) (w : Microword)
  /-- OR (R151): DST receives the bitwise OR. -/
  | or (a : Act) (w : Microword)
  /-- XOR (R151): DST receives the bitwise XOR. -/
  | xor (a : Act) (w : Microword)
  /-- SHL (R151): DST receives A shifted left. -/
  | shl (a : Act) (w : Microword)
  /-- SHR (R151): DST receives A shifted logically right. -/
  | shr (a : Act) (w : Microword)
  /-- CMP (R151): A minus the second operand sets the flags only. -/
  | cmp (a : Act) (w : Microword)
  /-- LDS (R151): DST receives a special source; source 3 removes the FIFO head. -/
  | lds (a : Act) (w : Microword)
  /-- LDD (R151): DST receives a word of the current descriptor. -/
  | ldd (a : Act) (w : Microword)
  /-- STD (R151): A is stored into the working copy of the descriptor. -/
  | std (a : Act) (w : Microword)
  /-- ANGLE_WAIT (R154): The word waits until the near angle reaches a register's target, or ends LATE or FAR. -/
  | angleWait (a : Act) (w : Microword)
  /-- COND_WAIT (R153): The word waits until a condition holds. -/
  | condWait (a : Act) (w : Microword)
  /-- STROBE_WAIT (R154): The word waits until the strobe latch is set and clears it. -/
  | strobeWait (a : Act) (w : Microword)
  /-- WAIT_END (R153): The awaited thing happens and the waiting word's fields take effect. -/
  | waitEnd (a : Act)
  /-- WAIT_LIMIT_EXPIRY (R153): MSQn_WLIM wedges pass and the wait ends with WTO. -/
  | waitLimitExpiry (a : Act)
  /-- YIELD (R157): A yield point runs and resets the yield watchdog. -/
  | yield (a : Act) (w : Microword)
  /-- GATE_READ (R158): GATE 1 sets the read request and clears the write request. -/
  | gateRead (a : Act) (w : Microword)
  /-- GATE_WRITE (R158): GATE 2 sets the write request and clears the read request. -/
  | gateWrite (a : Act) (w : Microword)
  /-- GATE_CLEAR (R158): GATE 3 clears both requests. -/
  | gateClear (a : Act) (w : Microword)
  /-- CHAN_LOAD (R158): CHAN 1 hands the channel the descriptor's transfer. -/
  | chanLoad (a : Act) (w : Microword)
  /-- CHAN_START (R158): CHAN 2 starts the loaded transfer at the first sector's next occurrence. -/
  | chanStart (a : Act) (w : Microword)
  /-- CHAN_ABORT (R158): CHAN 3 starts no further sector of the transfer. -/
  | chanAbort (a : Act) (w : Microword)
  /-- CHAN_LOADR (R158): CHAN 4 loads a single-sector re-read for the pool. -/
  | chanLoadr (a : Act) (w : Microword)
  /-- SERVO_SEEK (R158): SERVO 1 writes a SEEK to the SAC from the descriptor. -/
  | servoSeek (a : Act) (w : Microword)
  /-- SERVO_UNLOAD (R158): SERVO 2 writes an UNLOAD to the SAC. -/
  | servoUnload (a : Act) (w : Microword)
  /-- PRE_HEAD_SELECT (R158): PRE 1 sends the head-select frame. -/
  | preHeadSelect (a : Act) (w : Microword)
  /-- PRE_WRITE_FRAME (R158): PRE 2 sends a preamplifier write frame. -/
  | preWriteFrame (a : Act) (w : Microword)
  /-- PRE_READ_FRAME (R158): PRE 3 sends a preamplifier read frame. -/
  | preReadFrame (a : Act) (w : Microword)
  /-- ASC_READ_HEAT (R174): ASC action 1 sends the read-heater frame. -/
  | ascReadHeat (a : Act) (w : Microword)
  /-- ASC_WRITE_HEAT (R174): ASC action 2 sends the write-heater and assist frames. -/
  | ascWriteHeat (a : Act) (w : Microword)
  /-- ASC_IDLE (R174): ASC action 3 sends heater and assist to idle. -/
  | ascIdle (a : Act) (w : Microword)
  /-- TCHK (R181): ASC action 4 evaluates the write window and sets TWOK. -/
  | tchk (a : Act) (w : Microword)
  /-- END (R167): RPT 1 completes the current operation with CODE. -/
  | endOp (a : Act) (w : Microword)
  /-- MICROCODE_EVENT (R147): EVT raises the sequencer's microcode event to the Event Router. -/
  | microcodeEvent (a : Act) (w : Microword)
  /-- OPERATION_SUBMIT (R166): MSQn_OPSUB.GO submits the staged descriptor. -/
  | operationSubmit (a : Act) (v : Word)
  /-- HARDWARE_SUBMIT (R166): A ZNE or STE submission enters the queue once room is free. -/
  | hardwareSubmit (a : Act)
  /-- OPERATION_CANCEL (R169): A submitter cancels an operation by its tag. -/
  | operationCancel (a : Act) (submitter : Nat) (tag : Word)
  /-- COMPLETION_POST (R167): A deferred completion is posted once CHDONE holds and pool jobs end. -/
  | completionPost (a : Act) (guardBad : List Nat)
  /-- COMPLETION_POP (R166): MSQn_CPLPOP releases the oldest firmware completion. -/
  | completionPop (a : Act) (v : Word)
  /-- SEQUENCER_ENABLE (R171): Writing MSQn_CTL.EN = 1 starts the sequencer at 0x0000. -/
  | sequencerEnable (a : Act) (v : Word)
  /-- SEQUENCER_STOP (R171): Writing MSQn_CTL.EN = 0 stops it at the next idle yield point. -/
  | sequencerStop (a : Act) (v : Word)
  /-- SEQUENCER_COUNTER_CLEAR (R171): MSQn_CTL.CLRCNT clears the two counters. -/
  | sequencerCounterClear (a : Act) (v : Word)
  /-- PATCH_LOAD (R165): MSQn_PLDCTL.GO starts a patch load, or refuses it. -/
  | patchLoad (a : Act) (v : Word)
  /-- PATCH_LOAD_COMPLETE (R165): A patch load finishes its checks and writes its sections. -/
  | patchLoadComplete (a : Act) (sigOk : Bool) (tagOk : Bool) (plain : List Byte)
  /-- SETPOINT_APPLY_ARM (R175): ASC_CCTL.APPLYn arms an actuator for the next apply strobe. -/
  | setpointApplyArm (v : Word)
  /-- TELEMETRY_FRAME (R176): A 20-bit assist telemetry frame is received and judged. -/
  | telemetryFrame (a : Act) (bits : BitVec 20)
  /-- TELEMETRY_LOSS (R178): 4 frame periods without a valid TYPE 0 frame cut the write off. -/
  | telemetryLoss (a : Act)
  /-- TEMPERATURE_SCAN (R180): Every 10 ms a scan of 14 sensors completes. -/
  | temperatureScan (readings : List (Option Int))
  /-- WINDOW_EVALUATION (R181): Every 100 ms the write window state is evaluated. -/
  | windowEvaluation
  /-- THROTTLE_GRACE_EXPIRY (R182): The grace timer expires with THREQ set and throttling is enforced. -/
  | throttleGraceExpiry
  /-- CALIBRATION_START (R184): ASC_CALCTL.GO starts a calibration run. -/
  | calibrationStart (v : Word)
  /-- CALIBRATION_END (R185): A calibration run completes with a result or a code. -/
  | calibrationEnd (tries : List CalTry)
  /-- CALIBRATION_RESTORE (R186): ASC_CALCTL.RESTORE restores the calibration buffer. -/
  | calibrationRestore (v : Word)
  /-- AGEING_MEASUREMENT (R188): The ageing monitors are measured after enable and every 86,400 s. -/
  | ageingMeasurement (degr : List Int)
  /-- ASC_ENABLE (R190): Writing ASC_CTL.EN starts scanning, monitoring and acting. -/
  | ascEnable (v : Word)
  /-- ASC_COUNTER_CLEAR (R190): ASC_CTL.CLRCNT clears ASC_OVPCNT. -/
  | ascCounterClear (v : Word)
  /-- ZONE_ENGINE_ENABLE (R195): Writing ZNE_CTL.EN validates the geometry and runs ZNE, or refuses it. -/
  | zoneEngineEnable (v : Word)
  /-- ZNE_COUNTER_CLEAR (R212): ZNE_CTL.CLRCNT clears the three ZNE counters. -/
  | zneCounterClear (v : Word)
  /-- ZONE_ACTION_APPLY (R197): ZNE applies an admitted zone action in stamp order. -/
  | zoneActionApply
  /-- CHUNK_COMMIT (R203): ZNE writes a chunk to the next slot of the surface's OPEN band. -/
  | chunkCommit (zone : Nat) (k : Nat)
  /-- CHUNK_IDLE_EXPIRY (R203): A chunk without writes for ZNE_IDLE.CHUNK is committed. -/
  | chunkIdleExpiry (zone : Nat) (k : Nat)
  /-- CHUNK_WRITE_COMPLETE (R204): A chunk write's completion arrives; the map is updated or the chunk rewritten. -/
  | chunkWriteComplete (rec : CompletionIn)
  /-- WRITE_RETRY_TIMER (R204): Every 100 ms a chunk write refused by the temperature window is resubmitted. -/
  | writeRetryTimer
  /-- RECLAIM_COPY_COMPLETE (R207): A reclaim copy ends and changes the map only if the entry is unchanged. -/
  | reclaimCopyComplete (ok : Bool)
  /-- SPARE_ADD (R208): ZNE_SPADD.GO adds an entry to the Spare table. -/
  | spareAdd (v : Word)
  /-- STRIPE_ENGINE_ENABLE (R223): Writing STE_CTL.EN starts replay, or is refused. -/
  | stripeEngineEnable (v : Word)
  /-- REPLAY_LOAD_END (R223): Replay phase 1 ends after pages and records are applied and accumulators rebuilt. -/
  | replayLoadEnd (lostPages : Bool) (ringUe : Bool) (reads : List SectorRead) (conv : List CopyGood)
  /-- TAG_SCAN_END (R224): The replay tag scan ends and affected zones become Read Only. -/
  | tagScanEnd (tags : List TagSeen)
  /-- PARITY_PENDING_WRITE (R223): After GLB_LOCK, STE writes P and Q of sealed stripes. -/
  | parityPendingWrite
  /-- STE_COUNTER_CLEAR (R236): STE_CTL.CLRCNT clears the six STE counters. -/
  | steCounterClear (v : Word)
  /-- CHECKPOINT_REQUEST (R221): STE_CTL.CPREQ requests a checkpoint. -/
  | checkpointRequest (v : Word)
  /-- CHECKPOINT_TIMER (R221): CPINT seconds since the last checkpoint trigger one. -/
  | checkpointTimer
  /-- CHECKPOINT_START (R221): A checkpoint begins with its begin record and dirty-page writes. -/
  | checkpointStart
  /-- CHECKPOINT_WRITE_COMPLETE (R221): A checkpoint segment write completes. -/
  | checkpointWriteComplete (area : Fin 4) (ok : Bool)
  /-- JOURNAL_RATE_RELEASE (R218): Records held by the 4,096-per-second limit are written in the next second. -/
  | journalRateRelease
  /-- SECTOR_RECONSTRUCTION (R227): Member reads complete and a sector is reconstructed from parity. -/
  | sectorReconstruction (m : ReconIn)
  /-- SURFACE_RETIRE (R229): STE_RETIRE.GO retires a surface. -/
  | surfaceRetire (v : Word)
  /-- MEND_CHUNK (R231): STE mends a lost chunk of a retired surface to a new surface. -/
  | mendChunk (reads : List (List MemberRead))
  /-- RINSE_START (R232): STE_RCTL.GO starts a Rinse pass. -/
  | rinseStart (v : Word)
  /-- RINSE_STOP (R232): STE_RCTL.STOP ends the pass after outstanding operations. -/
  | rinseStop (v : Word)
  /-- RINSE_CHUNK_READ (R232): A Rinse read completes and the chunk is checked and re-homed if needed. -/
  | rinseChunkRead (m : RinseIn)
  /-- RINSE_END (R234): The pass ends and its summary is written. -/
  | rinseEnd
  /-- CONV_WRITE (R228): STE writes both copies of a conventional chunk between PEND and DONE records. -/
  | convWrite (stamp : Nat)
  /-- COMMAND_ADMISSION (R237): CQE admits a command into a slot with the next stamp. -/
  | commandAdmission (port : Port) (qid : Nat)
  /-- WRITE_DATA_RECEIVED (R248): A write's data is wholly received and checked; it may complete early. -/
  | writeDataReceived (stamp : Nat) (m : WriteData)
  /-- INTERLOCK_REQUEST (R246): A mover requests an Interlocking entry in WAIT with a snapshot. -/
  | interlockRequest (m : IlockReq)
  /-- INTERLOCK_HELD (R246): An entry becomes HELD once earlier overlapping work has retired. -/
  | interlockHeld (index : Nat)
  /-- INTERLOCK_RELEASE (R246): A mover releases its entry. -/
  | interlockRelease (index : Nat)
  /-- INTERLOCK_CAPTURE (R258): A read of CQE_ILDATA0 captures the selected entry. -/
  | interlockCapture
  /-- FLUSH_COMPLETE (R251): Every covered write is on media and the Flush completes. -/
  | flushComplete (stamp : Nat)
  /-- ACTIVATION_READY (R254): No admitted command remains and READY is set. -/
  | activationReady
  /-- ACTIVATION_DONE (R254): CQE_FWA.DONE resumes admission and posts the commit's completion. -/
  | activationDone (v : Word)
  /-- POWER_STATE_ENTRY (R255): A PS3 or PS4 request begins entry through the checkpoints. -/
  | powerStateEntry (v : Word)
  /-- ENTRY_CHECKPOINT (R255): Power-state entry reaches its next checkpoint. -/
  | entryCheckpoint
  /-- POWER_STATE_RETURN_END (R255): The return to an operational state completes. -/
  | powerStateReturnEnd
  /-- CQE_ENABLE (R258): Writing CQE_CTL.EN validates the staging area and starts admission. -/
  | cqeEnable (v : Word)
  /-- CQE_COUNTER_CLEAR (R259): CQE_CTL.CLRCNT clears the five CQE counters. -/
  | cqeCounterClear (v : Word)
  /-- LINK_UP (R260): A port trains its PCIe link. -/
  | linkUp (p : Port) (speed : Nat) (width : Nat)
  /-- FUNDAMENTAL_RESET (R264): PERSTn# resets one port's link, configuration and controller. -/
  | fundamentalReset (p : Port)
  /-- HOT_RESET (R264): A hot reset or link down resets one port. -/
  | hotReset (p : Port)
  /-- FUNCTION_LEVEL_RESET (R253): An FLR resets one function and applies the queue effects of Table 11.3. -/
  | functionLevelReset (p : Port)
  /-- CONTROLLER_DISABLE (R253): CC.EN to 0 stops admission and discards or completes commands. -/
  | controllerDisable (p : Port)
  /-- CONTROLLER_ENABLE (R272): CC.EN to 1 enables the controller, or is ignored. -/
  | controllerEnable (p : Port) (v : Word)
  /-- NORMAL_SHUTDOWN (R253): CC.SHN = 01b drains work and the window, then reports shutdown. -/
  | normalShutdown (p : Port)
  /-- ABRUPT_SHUTDOWN (R253): CC.SHN = 10b discards pending commands and drains the window. -/
  | abruptShutdown (p : Port)
  /-- CONFIGURATION_REQUEST (R265): A configuration request is answered, or retried before CFGRDY. -/
  | configurationRequest (p : Port) (wr : Bool) (reg : Nat) (v : Word)
  /-- CONFIG_READY (R265): HEP_CTL.CFGRDY makes configuration requests answered normally. -/
  | configReady (v : Word)
  /-- DOORBELL_WRITE (R265): A doorbell write updates a queue, or is discarded while CSTS.RDY = 0. -/
  | doorbellWrite (p : Port) (isCq : Bool) (qid : Nat) (v : Word)
  /-- PCIE_COMPLETION (R268): A PCIe completion arrives and is delivered or discarded by tag. -/
  | pcieCompletion (p : Port) (tag : Nat) (m : PcieCpl)
  /-- COMPLETION_TIMEOUT (R267): A read's completion timeout expires and the command ends with Data Transfer Error. -/
  | completionTimeout (p : Port) (tag : Nat)
  /-- BUS_MASTER_DISABLE (R269): Clearing BME stops new memory requests and pauses commands. -/
  | busMasterDisable (p : Port)
  /-- BUS_MASTER_ENABLE (R269): Setting BME resumes paused commands and pending messages. -/
  | busMasterEnable (p : Port)
  /-- COALESCING_TIMER (R270): An interrupt coalescing time limit expires and the message is sent. -/
  | coalescingTimer (p : Port) (qid : Nat)
  /-- EXPANSION_ROM_READ (R263): A read of the expansion ROM returns the Yard option image. -/
  | expansionRomRead (p : Port) (off : Nat)
  /-- CREATE_IO_SQ (R273): Admin command creating an I/O submission queue. -/
  | createIoSq (h : CmdHdr) (qid : Nat) (size : Nat) (cqid : Nat) (contig : Bool)
  /-- DELETE_IO_SQ (R273): Admin command deleting an I/O submission queue. -/
  | deleteIoSq (h : CmdHdr) (qid : Nat)
  /-- CREATE_IO_CQ (R273): Admin command creating an I/O completion queue. -/
  | createIoCq (h : CmdHdr) (qid : Nat) (size : Nat) (vector : Nat) (contig : Bool)
  /-- DELETE_IO_CQ (R273): Admin command deleting an I/O completion queue. -/
  | deleteIoCq (h : CmdHdr) (qid : Nat)
  /-- IDENTIFY (R273): Admin command returning identify data. -/
  | identify (h : CmdHdr) (cns : Nat)
  /-- GET_LOG_PAGE (R273): Admin command returning a standard log page. -/
  | getLogPage (h : CmdHdr) (lid : Nat)
  /-- SMART_HEALTH_LOG (R275): Get Log Page 0x02 returns the SMART/Health page. -/
  | smartHealthLog (h : CmdHdr)
  /-- DRIVE_LIFE_LOG (R273): Get Log Page 0xC0 returns the vendor drive-life page. -/
  | driveLifeLog (h : CmdHdr)
  /-- STATION_BOOK_LOG (R345): Get Log Page 0xC1 returns Station Book records to a SERVICE port. -/
  | stationBookLog (h : CmdHdr) (first : Nat) (count : Nat)
  /-- BOOT_STATUS_LOG (R345): Get Log Page 0xC2 returns SEC_BOOTSTS and the last start record. -/
  | bootStatusLog (h : CmdHdr)
  /-- ABORT (R252): Admin command aborting an admitted read not yet on media. -/
  | abort (h : CmdHdr) (sqid : Nat) (cid : Nat)
  /-- SET_FEATURES (R274): Admin command setting a controller or drive feature. -/
  | setFeatures (h : CmdHdr) (fid : Nat) (v : Word)
  /-- SET_POWER_MANAGEMENT (R274): Set Features of Power Management starts entry or a speed step. -/
  | setPowerManagement (h : CmdHdr) (ps : Nat)
  /-- SET_TIMESTAMP (R276): Set Features of Timestamp records an offset to clock time. -/
  | setTimestamp (h : CmdHdr) (ms : Nat)
  /-- SET_THERMAL_MANAGEMENT (R277): Set Features of Host Controlled Thermal Management sets the caps. -/
  | setThermalManagement (h : CmdHdr) (tmt1 : Nat) (tmt2 : Nat)
  /-- GET_FEATURES (R273): Admin command returning a feature value. -/
  | getFeatures (h : CmdHdr) (fid : Nat) (v : Word)
  /-- GET_TIMESTAMP (R276): Get Features of Timestamp returns clock time plus the offset. -/
  | getTimestamp (h : CmdHdr)
  /-- ASYNCHRONOUS_EVENT_REQUEST (R275): Admin command awaiting an asynchronous event. -/
  | asynchronousEventRequest (h : CmdHdr)
  /-- FIRMWARE_IMAGE_DOWNLOAD (R336): Admin command writing the inactive flash slot. -/
  | firmwareImageDownload (h : CmdHdr) (image : SlotImage)
  /-- FIRMWARE_COMMIT (R336): Firmware Commit for the next start rewrites the boot-control record. -/
  | firmwareCommit (h : CmdHdr) (slot : Nat) (action : Nat)
  /-- FIRMWARE_COMMIT_ACTIVATE (R254): Firmware Commit action 0b011 requests immediate activation. -/
  | firmwareCommitActivate (h : CmdHdr) (slot : Nat)
  /-- FORMAT_NVM (R349): Admin command formatting one namespace, with crypto erase under SES 2. -/
  | formatNvm (h : CmdHdr) (lbaf : Nat) (pi : Nat) (ses : Nat)
  /-- SANITIZE (R349): Admin command crypto-erasing both namespaces. -/
  | sanitize (h : CmdHdr)
  /-- SECURITY_PROTOCOL_DISCOVERY (R348): Security Receive of protocol 0x00 reports the supported protocols. -/
  | securityProtocolDiscovery (h : CmdHdr)
  /-- AUTHENTICATE (R348): Protocol 0xF0 operation 0x0001 unwraps a key block or authenticates the administrator. -/
  | authenticate (h : CmdHdr) (nsid : Nat) (ok : Bool)
  /-- SET_CREDENTIAL (R348): Protocol 0xF0 operation 0x0002 rewraps a key block under a new credential. -/
  | setCredential (h : CmdHdr) (nsid : Nat) (oldOk : Bool) (newEmpty : Bool)
  /-- LOCK (R348): Protocol 0xF0 operation 0x0003 zeroes a key slot. -/
  | lock (h : CmdHdr) (nsid : Nat)
  /-- SECURITY_STATUS (R348): Protocol 0xF0 operation 0x0010 returns lock state and attempts left. -/
  | securityStatus (h : CmdHdr)
  /-- FLUSH (R251): I/O command covering earlier writes until they are on media. -/
  | flush (h : CmdHdr)
  /-- WRITE (R248): I/O command writing logical blocks. -/
  | write (h : CmdHdr) (slba : Nat) (nlb : Nat) (fua : Bool)
  /-- READ (R242): I/O command reading logical blocks. -/
  | read (h : CmdHdr) (slba : Nat) (nlb : Nat)
  /-- WRITE_ZEROES (R241): I/O command writing zeroes to logical blocks. -/
  | writeZeroes (h : CmdHdr) (slba : Nat) (nlb : Nat)
  /-- ZONE_APPEND (R197): I/O command appending at the zone's write pointer. -/
  | zoneAppend (h : CmdHdr) (zslba : Nat) (nlb : Nat) (fua : Bool)
  /-- ZONE_OPEN (R197): Zone Management Send Open. -/
  | zoneOpen (h : CmdHdr) (zslba : Nat) (all : Bool)
  /-- ZONE_CLOSE (R197): Zone Management Send Close. -/
  | zoneClose (h : CmdHdr) (zslba : Nat) (all : Bool)
  /-- ZONE_FINISH (R205): Zone Management Send Finish. -/
  | zoneFinish (h : CmdHdr) (zslba : Nat) (all : Bool)
  /-- ZONE_RESET (R205): Zone Management Send Reset. -/
  | zoneReset (h : CmdHdr) (zslba : Nat) (all : Bool)
  /-- ZONE_OFFLINE (R197): Zone Management Send Offline, only from Read Only. -/
  | zoneOffline (h : CmdHdr) (zslba : Nat) (all : Bool)
  /-- REPORT_ZONES (R273): Zone Management Receive reports zone descriptors. -/
  | reportZones (h : CmdHdr) (slba : Nat) (count : Nat)
  /-- UNSUPPORTED_COMMAND (R1): A command not listed is answered as unsupported. -/
  | unsupportedCommand (h : CmdHdr) (admin : Bool) (opcode : Nat)
  /-- MI_BASIC_MANAGEMENT_READ (R282): An NVMe-MI basic management read at 0x6A. -/
  | miBasicManagementRead
  /-- READ_NVME_MI_DATA_STRUCTURE (R282): MCTP request returning an NVMe-MI data structure. -/
  | readNvmeMiDataStructure (dtyp : Nat)
  /-- SUBSYSTEM_HEALTH_STATUS_POLL (R282): MCTP request returning NVM subsystem health. -/
  | subsystemHealthStatusPoll
  /-- CONTROLLER_HEALTH_STATUS_POLL (R282): MCTP request returning controller health. -/
  | controllerHealthStatusPoll (p : Port)
  /-- CONFIGURATION_GET (R282): MCTP Configuration Get. -/
  | configurationGet (cid : Nat)
  /-- CONFIGURATION_SET (R282): MCTP Configuration Set. -/
  | configurationSet (cid : Nat) (v : Word)
  /-- MI_TUNNELED_COMMAND (R282): A tunnelled Identify, Get Log Page or Get Features. -/
  | miTunneledCommand (opcode : Nat) (arg : Nat)
  /-- MI_UNSUPPORTED_REQUEST (R282): Any other management request returns Invalid Command Opcode. -/
  | miUnsupportedRequest (opcode : Nat)
  /-- HEP_COUNTER_CLEAR (R283): HEP_CTL.CLRCNT clears the six HEP counters. -/
  | hepCounterClear (v : Word)
  /-- SCRUB_START (R293): MEM_SCRCTL.GO starts a scrub pass. -/
  | scrubStart (v : Word) (found : List FoundErr)
  /-- SCRUB_TIMER (R293): The effective interval expires and an automatic pass starts. -/
  | scrubTimer (found : List FoundErr)
  /-- SCRUB_END (R293): A scrub pass ends, sets DONE and raises the scrub event. -/
  | scrubEnd
  /-- CHECKBIT_TEST_ARM (R294): MEM_TEST.ARM arms check-bit corruption of the test word. -/
  | checkbitTestArm (v : Word)
  /-- REFRESH_RATE_POLL (R295): Every 32 ms MEM reads MR4 and sets the refresh rate. -/
  | refreshRatePoll (double : Bool)
  /-- DDR5_READ_COMPLETE (R296): A DDR5 read returns and is corrected or handled as uncorrectable. -/
  | ddr5ReadComplete (addr : Nat) (core : Bool) (err : DdrErr) (place : DdrPlace)
  /-- DDR5_READ_TIMEOUT (R297): A DDR5 read times out after 4,096 cycles. -/
  | ddr5ReadTimeout (addr : Nat) (core : Bool) (place : DdrPlace)
  /-- LATE_DDR5_DATA (R297): Data after a timeout is discarded, counted and recorded. -/
  | lateDdr5Data (addr : Nat)
  /-- MAP_CACHE_FILL (R300): A miss fill installs the line and serves merged misses. -/
  | mapCacheFill (line : Nat)
  /-- MERGE_DRAIN (R301): A merge buffer entry drains to DDR5. -/
  | mergeDrain
  /-- CACHE_LOCK (R302): MEM_MCC_OP 1 fills and locks a range of lines. -/
  | cacheLock (v : Word)
  /-- CACHE_UNLOCK (R302): MEM_MCC_OP 2 unlocks a range of lines. -/
  | cacheUnlock (v : Word)
  /-- CACHE_INVALIDATE (R303): MEM_MCC_OP 3 invalidates a range, releasing locks. -/
  | cacheInvalidate (v : Word)
  /-- RANGE_OPERATION_END (R303): A Map Cache range operation finishes and BUSY clears. -/
  | rangeOperationEnd
  /-- MAP_CACHE_DISABLE (R304): Writing MEM_MCC_CTL.EN = 0 stops allocation and drains the cache. -/
  | mapCacheDisable (v : Word)
  /-- MAP_CACHE_DISABLE_END (R304): The drain and invalidation end and OFF is set. -/
  | mapCacheDisableEnd
  /-- MAP_CACHE_ENABLE (R304): Writing MEM_MCC_CTL.EN = 1 clears OFF with an empty cache. -/
  | mapCacheEnable (v : Word)
  /-- MEM_COUNTER_CLEAR (R306): MEM_CTL.CLRCNT clears the seven MEM counters. -/
  | memCounterClear (v : Word)
  /-- MEASUREMENT_REQUEST (R310): PWR_CTL.MEAS requests a hold-up measurement. -/
  | measurementRequest (v : Word)
  /-- MEASUREMENT_TIMER (R310): Every 10 s a hold-up measurement starts. -/
  | measurementTimer
  /-- MEASUREMENT_END (R309): The test discharge ends and capacitance and energy are computed. -/
  | measurementEnd (s0 : Nat) (s1 : Nat)
  /-- POWER_FAIL_FALL (R312): POWER_FAIL# falls. -/
  | powerFailFall
  /-- POWER_LOSS (R312): POWER_FAIL# low for FILT periods stops admission, parks, harvests and starts the save. -/
  | powerLoss
  /-- WINDOW_SAVE_END (R313): The window, directory and header are in the Vault. -/
  | windowSaveEnd
  /-- POWER_RETURN (R314): POWER_FAIL# high for 100 ms ends the held stop with a device reset. -/
  | powerReturn
  /-- RESTORE_REQUEST (R315): PWR_CTL.RPGO checks the save header and restores the window. -/
  | restoreRequest (v : Word)
  /-- RESTORE_END (R315): The restore of saved blocks into DDR5 completes. -/
  | restoreEnd
  /-- GOVERNOR_PERIOD (R319): At each PERIOD the Rate Governor steps the speed by utilisation. -/
  | governorPeriod (util : Nat)
  /-- CORES_OFF (R320): PWR_CORE.OFF removes core power in PS4 entry. -/
  | coresOff (v : Word)
  /-- PS4_WAKE (R320): A doorbell or configuration access in PS4 starts the return. -/
  | ps4Wake
  /-- POWER_ON_HOUR (R322): Each hour of clock time the power-on hour count is written back. -/
  | powerOnHour
  /-- FAULT_MESSAGE (R326): A block's fault message reaches the Fault Collector queue and its class acts. -/
  | faultMessage
  /-- FATAL_HOLD_END (R328): VDD_CORE below threshold for 100 ms ends the fatal hold. -/
  | fatalHoldEnd
  /-- FAULT_MESSAGE_READ (R326): A read of FLT_MSG_LO removes the oldest message. -/
  | faultMessageRead
  /-- FLT_COUNTER_CLEAR (R335): FLT_CTL.CLRCNT clears FLT_DROP. -/
  | fltCounterClear (v : Word)
  /-- RAIL_OUT_OF_RANGE (R329): A rail beyond its limit for 1 µs changes FLT_MON and sends its message. -/
  | railOutOfRange (unit : Fin 6) (overs : Bool) (mv : Nat)
  /-- RAIL_BACK_IN_RANGE (R329): A rail within its return thresholds for 10 µs changes FLT_MON. -/
  | railBackInRange (unit : Fin 6)
  /-- CLOCK_FAILURE (R329): A crystal or PLL failure switches to the fallback clock and starts the fatal sequence. -/
  | clockFailure (pll : Bool) (edges : Nat)
  /-- TEST_UNLOCK (R330): FLT_UNLOCK writes open or close the test unlock. -/
  | testUnlock (v : Word)
  /-- FORCE_FAULT (R331): FLT_FORCE.GO makes a detector find a named fault at its next check. -/
  | forceFault (v : Word)
  /-- FORCE_LAPSE (R331): A force not taken within 1 s lapses. -/
  | forceLapse
  /-- SOFTWARE_EVENT (R333): EVR_SWSET raises a software event source. -/
  | softwareEvent (v : Word)
  /-- ROUTE_WRITE (R334): An EVR_ROUTE write changes a source's routing from the next cycle. -/
  | routeWrite (n : Fin 640) (v : Word)
  /-- GPIO_EDGE (R333): A GPIO input edge raises its event source. -/
  | gpioEdge (n : Fin 16) (level : Bool)
  /-- RECORD_WRITE (R343): BOK writes the next queued record to the Vault. -/
  | recordWrite
  /-- BUCKET_REFILL (R344): A code's bucket gains a token every PER seconds. -/
  | bucketRefill (code : BitVec 16)
  /-- STATION_BOOK_CLEAR (R346): BOK_CTL.CLR starts clearing the circulating area. -/
  | stationBookClear (v : Word)
  /-- STATION_BOOK_CLEAR_END (R346): The circulating area is zeroed and the clear record written. -/
  | stationBookClearEnd
  /-- FIRMWARE_RECORD (R343): BOK_FWREC.GO offers a firmware record. -/
  | firmwareRecord (v : Word)
  /-- BOK_COUNTER_CLEAR (R352): BOK_CTL.CLRCNT clears the two BOK counters. -/
  | bokCounterClear (v : Word)
  /-- SVN_UPDATE (R352): A write raising SEC_SVN.SVNMIN is stored in the Vault. -/
  | svnUpdate (v : Word)
  /-- DEBUG_CHALLENGE (R350): The debug port reads a 32-byte challenge. -/
  | debugChallenge
  /-- DEBUG_RESPONSE (R350): A signed response is verified and private debug opens, or the attempt fails. -/
  | debugResponse (ok : Bool)
  /-- BRANCH_LINE_ENABLE (R363): Writing BRL_CTL.EN starts training, heartbeat and pairing. -/
  | branchLineEnable (v : Word)
  /-- LINK_TRAINED (R363): The Branch Line trains, measures its delay and sets LINK. -/
  | linkTrained (delay : Nat)
  /-- FENCE (R360): BRL_CTL.FENCE fences the chip. -/
  | fence (v : Word)
  /-- HAND_BACK (R375): BRL_CTL.HANDBACK starts handing the partner set back. -/
  | handBack (v : Word)
  /-- HAND_BACK_END (R375): Hand-back ends: pair parked, SET cleared and the Token released. -/
  | handBackEnd
  /-- BRL_COUNTER_CLEAR (R377): BRL_CTL.CLRCNT clears the three BRL counters. -/
  | brlCounterClear (v : Word)
  /-- HEARTBEAT_KICK (R359): A write of BRL_HBKICK restarts the kick time. -/
  | heartbeatKick (v : Word)
  /-- HEARTBEAT_TOGGLE (R359): Every HBPER/2 HBO toggles and its pad is read back. -/
  | heartbeatToggle (padLevel : Bool)
  /-- KICK_EXPIRY (R360): KICKT passes without a kick and the chip fences. -/
  | kickExpiry
  /-- HEARTBEAT_EDGE (R361): An HBI edge from the partner is seen. -/
  | heartbeatEdge
  /-- PARTNER_SILENT (R361): HBMISS periods without an edge or frame declare the partner silent. -/
  | partnerSilent
  /-- GUARD_EXPIRY (R366): The guard ends with silence unbroken and the chip drives the partner's Token. -/
  | guardExpiry
  /-- TOKEN_NET_CHANGE (R354): A Token net changes level. -/
  | tokenNetChange (net : TokenNet) (level : Bool)
  /-- TOKEN_GAINED (R354): A net read at its level for 10 µs gives the chip the Token. -/
  | tokenGained (net : TokenNet)
  /-- TOKEN_LOST (R355): A net at the other level for 1 µs loses the Token and forces its ports off. -/
  | tokenLost (net : TokenNet)
  /-- TOKEN_WAIT_EXPIRY (R357): 1 ms without the hold condition abandons the takeover. -/
  | tokenWaitExpiry
  /-- IDLE_TIMER (R363): 1 µs without a packet sends IDLE. -/
  | idleTimer
  /-- IDLE (R363): An IDLE packet is received. -/
  | idle (f : FrameIn)
  /-- HELLO (R368): A HELLO packet is received and the chips pair or refuse. -/
  | hello (f : FrameIn) (id : Word) (side : Bool) (glbId : Word) (imgRev : Word) (angle : Angle)
  /-- SYNC (R365): A SYNC packet is stamped and judged against the valid-frame window. -/
  | sync (f : FrameIn) (angle : Angle) (stamp : Angle)
  /-- SPST (R369): An SPST packet updates the non-holder's spindle status. -/
  | spst (f : FrameIn) (sts : Word) (speed : Word) (target : Nat) (ceil : Nat) (parked : Bool)
  /-- JREC (R367): A JREC packet is applied to the partner copy and acknowledged. -/
  | jrec (f : FrameIn) (bytes : List Byte)
  /-- WIN (R367): A WIN packet stores a window block mirror and is acknowledged. -/
  | win (f : FrameIn) (lba : Nat) (nsid : Nat) (stamp : Nat) (bytes : List Byte)
  /-- WREL (R367): A WREL packet removes blocks from the window mirror. -/
  | wrel (f : FrameIn) (blocks : List BlockId)
  /-- MDCOPY (R368): An MDCOPY packet stores a metadata page of the partner. -/
  | mdcopy (f : FrameIn) (page : Nat) (off : Nat) (bytes : List Byte)
  /-- FWD (R371): A forwarded submission entry is admitted by the owner. -/
  | fwd (f : FrameIn) (e : FwdEntry)
  /-- FDATA (R371): Forwarded data is received. -/
  | fdata (f : FrameIn) (cid : Nat) (bytes : List Byte)
  /-- FCPL (R371): A forwarded completion is posted by the arrival chip. -/
  | fcpl (f : FrameIn) (cid : Nat) (status : Nat) (dw0 : Nat)
  /-- FCTL (R371): A forwarded abort or controller-reset notice is applied. -/
  | fctl (f : FrameIn) (n : FwdNotice)
  /-- XRDY (R364): A transfer-ready answer lets the full packet be sent. -/
  | xrdy (f : FrameIn)
  /-- ACK (R364): An acknowledgement confirms a stored payload. -/
  | ack (f : FrameIn)
  /-- FLTM (R363): A fault message from the partner is received. -/
  | fltm (f : FrameIn) (msg : BitVec 64)
  /-- FENCE_PACKET (R360): A FENCE packet from the partner is received. -/
  | fencePacket (f : FrameIn)
  /-- INVALID_FRAME (R363): A frame failing CRC or sequence is discarded and a replay requested. -/
  | invalidFrame (f : FrameIn)
  /-- HANDSHAKE_TIMEOUT (R364): An XRDY or ACK wait expires; the request is resent or the link dropped. -/
  | handshakeTimeout (tag : Nat)
  /-- STEER (R373): A write of BRL_STEER.SET switches the pair both ports serve, or is rejected. -/
  | steer (v : Word)
  /-- STEERING_DONE (R373): The settle or first-steering retract ends and BUSY clears. -/
  | steeringDone (reads : List SectorRead)
  /-- BYPASS (R386): JTAG BYPASS instruction. -/
  | bypass
  /-- IDCODE (R386): JTAG IDCODE instruction returns 0x1842_0D6B. -/
  | idcode
  /-- SAMPLE_PRELOAD (R386): JTAG SAMPLE/PRELOAD instruction. -/
  | samplePreload (pattern : Cells)
  /-- EXTEST (R386): JTAG EXTEST drives the boundary cells, never both gates of a phase. -/
  | extest
  /-- CLAMP (R386): JTAG CLAMP instruction. -/
  | clamp
  /-- HIGHZ (R386): JTAG HIGHZ instruction. -/
  | highz
  /-- PREAMP_FAULT_CLEAR (R127): PFLT_n# returns high, RWCn_STS.PFLT clears and gate periods and write permission may again be granted on that actuator. -/
  | preampFaultClear (a : Act)
  /-- POWER_FAIL_RISE (R314): POWER_FAIL# returns high, PWR_STS.PFAIL clears and the 100 ms high count towards leaving the held-stopped state begins. -/
  | powerFailRise
  /-- HOLD_RAIL_BELOW_VMIN (R311): The hold-up rail voltage read through HOLD_SENSE falls below VMIN, and ARMED falls in that cycle with early completion stopping. -/
  | holdRailBelowVmin (mv : Nat)
  /-- PARTNER_HEARTBEAT_LOSS (R361): No HBI edge is seen for HBMISS × HBPER while valid frames still arrive; HBLOSS is set and BRL kind 3 is raised without takeover. -/
  | partnerHeartbeatLoss
  /-- BRANCH_LINE_LINK_LOSS (R367): The Branch Line stops delivering valid frames while heartbeat edges continue; LINK falls, BRL kind 1 or 3 is raised and write-kind admission, mirroring and movers are held. -/
  | branchLineLinkLoss
  /-- FUNCTION_LEVEL_RESET_END (R265): A function-level reset completes within 100 ms and the function again answers configuration requests normally. -/
  | functionLevelResetEnd (p : Port)
  /-- MACHINE_TIMER_INTERRUPT (R19): The machine timer mtime reaches a hart's mtimecmp and the machine timer interrupt becomes pending on that hart. -/
  | machineTimerInterrupt (hart : Fin 4)
  deriving DecidableEq, Repr

end Sys2Proof
end

