-- ==== Sys2Proof/Decode.lean ====
section
/-! DEFINITION. No row of the opcode table has bits: the block takes commands, not encoded words, so no word spells one. -/
namespace Sys2Proof

/-- The command that a word of the opcode table's bits spells: none, since the table gives no row any bits. -/
def decodeTableWord (_nbits _w : Nat) : Option Instr := none

end Sys2Proof
end

