-- ==== Sys2Proof/Config.lean ====
section
/-! DEFINITION. The free values: what the manual leaves open.  Each is an opaque constant; nothing can be proved of its value.  A Nat argument
called `k` is State's count of free values taken (State.freeCtr), so that every use is a fresh value. -/
namespace Sys2Proof

/-- How the circle limit rounds (R54): both components after scaling to magnitude 1.0. -/
opaque Config.circleLimit : Int → Int → Int × Int
/-- The speed error in the speed loop's number format (R54 gives gains and rules, not the error's scale), from reference and speed. -/
opaque Config.speedError : Int → Int → Int
/-- Whether an unstated rounding goes up by one unit (R72). [assumption 85 DESIGN CHOICE] -/
opaque Config.roundUp : Nat → Bool
/-- The q-axis reference of the regulator that holds the hold-up rail (R71). -/
opaque Config.harvestIq : Nat → Int
/-- A result that the manual does not state for the operands it meets (each use is named in the assumption log). [assumptions 69 DESIGN CHOICE, 85 DESIGN CHOICE, 98 DESIGN CHOICE] -/
opaque Config.unstated : Nat → Nat
/-- Bits of a hardware random generator (R349, R350). -/
opaque Config.random : Nat → Byte
/-- The media key pair of a namespace where the model holds none: the one made at manufacture, the partner's, or one whose slot is empty (R347, R348). -/
opaque Config.mediaKey : Nat → List Byte
/-- Contents of the boot ROM (Table 1.6), by address. -/
opaque Config.bootRom : Nat → Byte

/-- What the Fjoma image gives the Identify pages (R273, Table 14.4): SN, MN, FR, SUBNQN and the power-state descriptors' own fields, by page offset. -/
opaque Config.imageByte : Nat → Byte
/-- The device serial number as the debug challenge holds it (R350). -/
opaque Config.serial : Nat → Byte

end Sys2Proof
end

