-- ==== Sys2Proof/Machine/State.lean ====
section
/-! DEFINITION. The machine's state as plain data: the vendor-window registers in one canonical sparse map, memory by core physical
address, the hidden state the chapters give each block, and the queue of waiting commands. -/
namespace Sys2Proof.Machine

/-- Why a run can stop with a fault.  No meaning of this model ends in one: every condition the manual calls a fault is a message to
the Fault Collector and changes State (R324).  The one constructor is kept for the interface; safe. -/
inductive Fault where
  /-- Raised by nothing. Safe. -/
  | unreachable
  deriving DecidableEq, Repr

/-- Why a command can be refused.  `notModelled` would be answered by an arm of `exec` that has no meaning yet; safe. -/
inductive Refusal where
  /-- An arm without a meaning answers it by name. Safe. -/
  | notModelled (mnemonic : String)
  deriving DecidableEq, Repr


/-- What arming a slot latched (R40, R43): its target, its close if it is a window, whether it is already late, and whether a window's
open has fired. -/
structure SlotLatch where
  target : Angle
  close : Angle
  window : Bool
  hw : Nat
  late : Bool
  opened : Bool
  deriving DecidableEq, Repr

/-- Timetable (TTB): the full angle and the carried fraction in units of 2^-28 (R33), the base rate B and the last non-zero speed
estimate E of R34, what is still to be slewed off the angle in units of 2^-28 and the rate at which
TTB_INC goes on when that is done (R35), the correction that an automatic switch gives the
new source's marks (R38), the counts of R35 and R34, the angle from which R36 counts, the count of R45, whether a SAM was accepted in the present wedge, the two twin counts of
R46, whether the first pairing has been made (R47) and the armed slots. -/
structure TtbSt where
  angle : Angle := 0
  frac : Nat := 0
  clkQ : Nat := 0
  base : Nat := 0
  lastE : Nat := 0
  slew : Nat := 0
  rate : Nat := 0
  markSkew : Int := 0
  lockRun : Nat := 0
  missRun : Nat := 0
  flyStart : Angle := 0
  stepSams : Option Nat := none
  acceptedInWedge : Bool := false
  syncRun : Nat := 0
  syncMiss : Nat := 0
  paired : Bool := false
  adopt : Option (BitVec 39) := none
  slots : List (Nat × SlotLatch) := []
  deriving DecidableEq, Repr


/-- What the spindle bridge does (Table 3.2, R69). -/
inductive Bridge where
  | hiZ
  | vector
  | foc
  | rectifier
  | pulsed
  | short
  | gatesLow
  deriving DecidableEq, Repr

/-- The braking exits of Table 3.3. -/
inductive BrakeExit where
  | standstill
  | below60
  deriving DecidableEq, Repr

/-- Spindle Control (SPC): the integrators, the references, the voltage vector and the limit flag of R54; the observer's angle; the
reference that ramps, in 2^-16 RPM times 10^8 (R64); the last intervals (R56), the revolution being timed and the in-band revolutions
(R63); the run of failing periods (R57) and of good commutation events (R61, R67); events since OPENLOOP (R62); locked-rotor
declarations; the braking exit; whether braking is held for parking (R68, R71); whether the harvest command was received; what the
bridge does, and whether the low-side switches are off for the rest of the period (R69); the overspeed limit in force (R58); the
position in the 8 periods of the speed loop (R53); the pin SP_FLT#; the time of the soft start in 800 MHz cycles (R67); and whether the speed loop's output was limited in its last period (R54). -/
structure SpcSt where
  intd : Int := 0
  intq : Int := 0
  ints : Int := 0
  iqRef : Int := 0
  idRef : Int := 0
  vd : Int := 0
  vq : Int := 0
  vlimited : Bool := false
  theta : Nat := 0
  rampRef : Int := 0
  intervals : List Nat := []
  revCycles : Nat := 0
  revEvents : Nat := 0
  bandRevs : Nat := 0
  failRun : Nat := 0
  goodRun : Nat := 0
  startEvents : Nat := 0
  locks : Nat := 0
  retryDue : Bool := false
  brakeExit : BrakeExit := .standstill
  brakeHold : Bool := false
  harvested : Bool := false
  bridge : Bridge := .hiZ
  lowOff : Bool := false
  ovspd : Nat := 0x1D88
  pwmCount : Nat := 0
  faultPin : Bool := false
  slewClk : Nat := 0
  slimited : Bool := false
  deriving DecidableEq, Repr


/-- Where an unload stands (R97): the seek to RAMPTRK, abandoned with the push to begin at the next wedge boundary, the push, the hold. -/
inductive UnloadPhase where
  | idle
  | seek
  | pushNext
  | push
  | hold
  deriving DecidableEq, Repr

/-- Where the Buffer Stop sequence stands (Table 4.6): not running, or the step last taken. -/
inductive BstopPhase where
  | idle
  | invoked
  | retract
  | second
  | hold
  | ended
  deriving DecidableEq, Repr

/-- One SAC and its Buffer Stop: the last wedges' positions and whether each was valid, newest first (R79, R80, R90); the errors of the
wedge before (R83); the seek reference (R87); the counts of R80, R87, R96, R98, R89 and R90; the timer of R88; the unload and Buffer
Stop phases; the head in use and the head waiting to be switched in; a bank copy that waits for the wedge boundary (R86); a LOAD to be
abandoned at it (Table 4.4); whether SEEK has been entered since LOAD (R84); whether the present region's wedge passed R93 and whether
an estimate has failed since (R92); good wedges since WFLT was last set; a device reset to leave at the sequence's end (R24, R100); SAM
detection in the last two wedges (R38). -/
structure SacSt where
  hist : List (Int × Bool) := []
  e1 : Int := 0
  ev1 : Int := 0
  rr : Int := 0
  vr : Int := 0
  ar : Int := 0
  jr : Int := 0
  settleRun : Nat := 0
  missRun : Nat := 0
  feTimer : Bool := false
  ipFails : Nat := 0
  plausFails : Nat := 0
  recGood : Nat := 0
  recWedges : Nat := 0
  loadValid : Nat := 0
  judging : Bool := false
  seekHold : Bool := false
  unload : UnloadPhase := .idle
  bstop : BstopPhase := .idle
  head : Nat := 0
  headNext : Nat := 0
  applyPend : Bool := false
  loadAbandon : Bool := false
  seekSinceLoad : Bool := false
  wedgeOk : Bool := false
  estFail : Bool := false
  goodSince : Nat := 15
  resetDue : Bool := false
  sams : Bool × Bool := (false, false)
  deriving DecidableEq, Repr


/-- The kinds of transfer of a channel (R122): a read-kind or a write-kind operation loaded by CHAN = 1, or a pool re-read (CHAN = 4). -/
inductive TransferKind where
  | read
  | write
  | reread
  deriving DecidableEq, Repr

/-- A sector or fragment inside a gate period: the phase at which a period that ended with it would close, and whether the sector is
complete with it (R393). -/
structure Frag where
  endPh : Nat
  last : Bool
  deriving DecidableEq, Repr

/-- A gate period (R112, R113): the wedge offset from the start wedge, the phase at which it opens, and what it holds in order; it closes
at the last one's end. -/
structure GatePeriod where
  wedge : Nat
  openPh : Nat
  frags : List Frag
  deriving DecidableEq, Repr

/-- Where a sector lies (R110): wedge offset from the start wedge, first cell, and `first` of a split sector, 0 for a whole one. -/
structure Place where
  wedge : Nat
  cell : Nat
  first : Nat
  deriving DecidableEq, Repr

/-- A loaded transfer: what LOAD handed over (R158, R104), its gate periods still to come (R110, R113), whether it has started, whether
no further sector starts (R393), the next sector to be given a status word (R122), sectors completed, extra attempts made for the
preceding sectors, newest first (R116), whether a split
sector's first fragment was the last thing closed, where its sectors lie, and the candidates of the sync and resync windows that have
closed, from the next sector to be given a word on (R115). -/
structure Transfer where
  kind : TransferKind
  fmt : Nat
  swedge : Nat
  first : Nat
  count : Nat
  daddr : Nat
  periods : List GatePeriod
  started : Bool
  stopped : Bool
  nextWord : Nat
  done : Nat
  extras : List Bool
  mid : Bool
  places : List Place
  marks : List (List SyncCand × Option (List SyncCand))
  deriving DecidableEq, Repr

/-- Who issued a serial frame (R123): firmware, a PRE action, or an ASC action. -/
inductive FrameSrc where
  | firmware
  | pre
  | asc
  deriving DecidableEq, Repr

/-- A serial frame (R123). -/
structure SerFrame where
  src : FrameSrc
  rd : Bool
  addr : BitVec 16
  data : BitVec 16
  deriving DecidableEq, Repr

/-- A read/write channel (RWC): the transfer, the open gate period, CHDONE and PARTIAL (R158, R393), the copied parameter set (R129), the
serial frame in progress, whether its timeout trailer runs (R124), the sequencer's waiting frames and the firmware's (R125), and
the sample buffer: the four most recent sectors with the samples of both readers (R120), and the information bytes of the sector
whose writing began last, with the CRC that the channel computed (R107), and the track and offset of the last mark found in the operation (R116). -/
structure RwcSt where
  transfer : Option Transfer := none
  gate : Option GatePeriod := none
  chdone : Bool := false
  partialEnd : Bool := false
  pset : List Word := List.replicate 32 0
  frame : Option SerFrame := none
  trailer : Bool := false
  seqWait : List SerFrame := []
  fwWait : Option SerFrame := none
  samples : List (Nat × List Byte × List Byte) := []
  wdata : List Byte := []
  lastMark : Option (Nat × Int) := none
  deriving DecidableEq, Repr


/-- Where a pool job stands (R133, R137, R144): queued for an engine, on engine `e`, waiting for a re-read pass, waiting for an accumulator
pair. -/
inductive JobState where
  | ready
  | engine (e : Nat)
  | waitPass
  | waitPair
  deriving DecidableEq, Repr

/-- What a job records of a sector's marks (R131, R141): whether the sector is split; for the first and for the second fragment, the
stored candidates not tried on the fly, the hypotheses tried on the fly, both in cells from the fragment's expected cell, and the alignment
the channel began with; and whether one of these was only predicted. -/
structure JobSync where
  split : Bool
  cands : List Int
  tried : List Int
  first : Int
  cands2 : List Int
  tried2 : List Int
  second : Int
  predicted : Bool
  deriving DecidableEq, Repr

/-- A pool job (R130, R131, R142): actuator, full sector index and tag, whether the operation was host-class, its recovery class, raw slot,
the operation's parameter set, where recovered bytes go (nowhere for VERIFY) and where the record goes, the ladder step, the actuator's configuration and ladder as they stood when it
started, revolutions used, accumulated passes, the alignment of both fragments, whether it was swept or predicted, whether a step has changed it (R138), the marks
recorded,
the accumulator pair, the angle of its creation, whether a step was cut for want of revolutions (R142), whether the pass asked for is the
repeat after a RESULT 8 (R137), whether an abort or the age limit waits for the decode's end, whether its pass has arrived, and what the last attempt gave. -/
structure Job where
  act : Act
  index : Nat
  tag : Word
  host : Bool
  norev : Bool
  slot : Nat
  pset : Nat
  addr : Option Nat
  recAddr : Nat
  step : Nat
  cfg : Word
  ladder : List Word
  started : Bool
  revs : Nat
  passes : Nat
  align : Int
  align2 : Int
  aligned : Bool
  moved : Bool
  sync : JobSync
  pair : Option Nat
  created : Angle
  short : Bool
  repeated : Bool
  abort : Bool
  aged : Bool
  passIn : Bool
  crcBad : Bool
  git : Nat
  unsat : Nat
  eng : Nat
  state : JobState
  deriving DecidableEq, Repr

/-- Deep Decode Pool (DDP): jobs in creation order, the re-read request FIFO of each actuator (Table 7.15), whose turn it is and how many grants the turn has left (R144). -/
structure DdpSt where
  jobs : List Job := []
  rereads : Pair (List Word) := ⟨[], []⟩
  turn : Act := .zero
  grants : Nat := 0
  deriving DecidableEq, Repr


/-- An operation that has been dispatched (R166, R167): its descriptor, whether CHAN = 2 was issued, how
it loaded the channel, status words handed over, whether one had RESULT 3 or higher, whether a write fault has occurred, whether
cancellation was requested, the records of SERVO_CAL written (Table 7.9), its pool jobs still open, ended and unrecovered, PDONE, and, once END has run, its CODE and the angle. -/
structure MsqOp where
  desc : List Word
  started : Bool
  loaded : Bool
  words : Nat
  chfail : Bool
  wflt : Bool
  cancel : Bool
  calRecs : Nat
  jobsOpen : Nat
  jobsDone : Nat
  nfail : Nat
  pdone : Nat
  partialEnd : Bool
  chdone : Bool
  code : Option Nat
  endAng : Word
  deriving DecidableEq, Repr

/-- A media sequencer (MSQ): G0 to G15 and the flags (R151), the call stack (R150), the operation queue and the hardware submissions that
wait for it (R166), the current operation, those whose posting is deferred (R167), the firmware
completions, the two requests (R158), the microword that waits with its first angle (R153) or holds (R155), how the last wait ended,
words since the last yield point (R156), the flags SREJ, TWOK and PSTO of Table 7.4, the last PRE read (Table 7.3), the request last
taken by LDS source 3 (R159), the pending bits 0 to 11 of Table 7.7, words of patch RAM that a patch has written (R164), the working copy of
the descriptor (Table 7.3) and whether a stop was asked for by EN = 0 (Table 7.18), and completion records that ZNE and STE have not yet acted on. -/
structure MsqSt where
  g : List Word := List.replicate 16 0
  z : Bool := false
  n : Bool := false
  c : Bool := false
  stack : List Nat := []
  queue : List (List Word) := []
  hwWait : List (List Word) := []
  cur : Option MsqOp := none
  ended : List MsqOp := []
  cpls : List (BitVec 128) := []
  readReq : Bool := false
  writeReq : Bool := false
  waiting : Option (Microword × Angle) := none
  held : Option Microword := none
  wto : Bool := false
  late : Bool := false
  far : Bool := false
  sinceYield : Nat := 0
  srej : Bool := false
  twok : Bool := false
  psto : Bool := false
  preData : BitVec 16 := 0
  rereadReq : Word := 0
  rereadOp : Option MsqOp := none
  evp : BitVec 32 := 0
  patch : List (Nat × BitVec 144) := []
  work : List Word := List.replicate 16 0
  stopAsked : Bool := false
  hwCpls : List (BitVec 128) := []
  deriving DecidableEq, Repr


/-- Assist telemetry of one actuator (R176 to R179): the head of the action 2 in force and the assist code it sent, SEQ of the last valid frame, the runs of
over-limit frames and of frame periods without a valid TYPE 0 frame, frames judged since the pair left idle, and the sum and count for
the trim of the open gate period (R177). -/
structure TelSt where
  armed : Option (Nat × Option Int) := none
  seq : Option Nat := none
  overs : Nat := 0
  missing : Nat := 0
  frames : Nat := 0
  sum : Nat := 0
  n : Nat := 0
  deriving DecidableEq, Repr

/-- Assist, calibration and thermal (ASC): telemetry of both actuators, whether the grace timer runs (R182), the drive temperature recorded
at the last run (R187), a calibration result that waits for the strobe (R185), and the restore buffer (R186). -/
structure AscSt where
  tel : Pair TelSt := ⟨{}, {}⟩
  grace : Bool := false
  recTemp : Option Int := none
  calPend : Option (Nat × Int) := none
  calBuf : List Word := [0, 0, 0, 0]
  deriving DecidableEq, Repr



/-- A chunk being written (R203, R204): zone and chunk index, the surface index and (once sent) the slot it goes to, its RGEN, the sectors it writes, the
TAGs of operations not yet complete, whether one has failed and whether it was refused by the temperature window (STATUS 0x24), failed attempts, whether it
waits for the 100 ms timer, whether it is a copy of reclaim, mending or re-homing and the entry read when it began (R207), whether it is reclaim's, the SEQ it
carries, whether its operations have been submitted (R194), whether a reset has made its slot dead, of parity and reconstructed chunks its sectors' 4,112
bytes (none for a poisoned one), of a copy the sectors that are not read but given (R230, R233), its data and status buffers, and, of a copy, the reads under
way (TAG, first sector, sectors), the sectors that wait to be reconstructed (R227), and those that failed a check (R226). -/
structure ChunkWr where
  zone : Nat
  k : Nat
  surf : Nat
  slot : Nat
  rgen : Nat
  count : Nat
  tags : List Nat
  failed : Bool
  refused : Bool
  attempts : Nat
  retry : Bool
  copy : Bool
  entry : Word
  reclaim : Bool
  seq : Nat
  sent : Bool
  dead : Bool
  rows : List (Option (List Byte))
  patch : List (Nat × Option (List Byte))
  buf : Nat
  staddr : Nat
  reads : List (Nat × Nat × Nat)
  waiting : List Nat
  stale : List Nat
  deriving DecidableEq, Repr

/-- Reclaim under way on a surface (R206): its index, the victim band, and its live slots not yet copied. -/
structure Reclaim where
  surf : Nat
  band : Nat
  slots : List Nat
  deriving DecidableEq, Repr

/-- Zone Engine (ZNE): chunk writes under way, surfaces reserved for chunks not yet placed (zone × 288 + k ↦ surface index, R201), the OPEN band and its next slot by surface
index (R194), live slots by surface index × 65,536 + band, the chunk that owns a written slot by surface index × 2^23 + slot (what the tags on media say),
bands that become FREE when the next checkpoint has completed (R206), reclaim under way, the operation count for tags (R204), and L when ZNE_CTL.EN was set (R228). -/
structure ZneSt where
  writes : List ChunkWr := []
  places : List (Nat × Nat) := []
  openBand : List (Nat × Nat) := []
  fill : List (Nat × Nat) := []
  live : List (Nat × Nat) := []
  owners : List (Nat × Nat) := []
  freeSoon : List Nat := []
  reclaim : Option Reclaim := none
  opCount : Nat := 0
  convMembers : List Nat := []
  deriving DecidableEq, Repr


/-- Parity accumulators of an OPEN or SEALED stripe (R215): the P and Q bytes of each sector index that has data, whether it is SEALED, and which of
its two parity chunks are written. -/
structure Acc where
  zone : Nat
  stripe : Nat
  rows : List (Nat × List Byte × List Byte)
  isSealed : Bool
  pDone : Bool
  qDone : Bool
  deriving DecidableEq, Repr

/-- A change that waits for the journal (R218, R219). -/
inductive Deferred where
  | chunk (rec : CompletionIn)
  | zone
  | spare (v : Word)
  | retire (v : Word)
  | conv (stamp : Nat)
  deriving DecidableEq, Repr

/-- Counts of one surface in a Rinse pass (Table 10.4). -/
structure RinseRow where
  chunks : Nat
  recovered : Nat
  reconstructed : Nat
  checkFails : Nat
  rehomed : Nat
  unrecoverable : Nat
  mismatches : Nat
  maxRevs : Nat
  deriving DecidableEq, Repr

/-- A Rinse pass (R232, R234): its start in clock time, stop requested, and its counts. -/
structure Rinse where
  start : Nat
  stop : Bool
  chunks : Nat
  stripes : Nat
  rows : List RinseRow
  deriving DecidableEq, Repr

/-- A journal-area segment write (R221): its area, page and segment. -/
structure SegWr where
  area : Fin 4
  page : Nat
  seg : Nat
  deriving DecidableEq, Repr

/-- A checkpoint under way (R221): C, the metadata cells it writes, the bands it frees (R206), the segment writes not yet complete, and the areas that
take part, all it has submitted, and the Spare-table count and retired surfaces at its begin. -/
structure Checkpoint where
  c : Nat
  free : List Nat
  cells : List Host.Cell
  todo : List SegWr
  good : List (Fin 4)
  wrote : List SegWr
  spares : Nat
  fail : Nat
  deriving DecidableEq, Repr

/-- An unrecoverable block whose sector is not yet poisoned on media (R230): its chunk and sector, whether the stripe's parity has been given new
bytes, and whether the chunk has been rewritten. -/
structure Unrec where
  zone : Nat
  k : Nat
  sector : Nat
  issued : Bool
  written : Bool
  deriving DecidableEq, Repr

/-- Stripe Engine (STE): accumulators, changes that wait for the journal, the clock time of enabling, records written in the present second since
then and that second (R218), the
checkpoint under way and whether another is requested (R221), areas that have newly taken a role (R222), consecutive failures of the segment write by area, a Rinse
pass, whether a replay found pages or records lost (R224), the two passes' mend cursors as chunk keys (R231), and unrecoverable blocks still to be poisoned (R230). -/
structure SteSt where
  accs : List Acc := []
  deferred : List Deferred := []
  since : Nat := 0
  second : Nat := 0
  written : Nat := 0
  cp : Option Checkpoint := none
  cpPend : Bool := false
  fresh : List (Fin 4) := []
  fails : List (Nat × Nat) := []
  rinse : Option Rinse := none
  lost : Bool := false
  mendPrio : Nat := 0
  mendNorm : Nat := 0
  unrec : List Unrec := []
  deriving DecidableEq, Repr


/-- A block in the write buffer (R203, R242, R248): its namespace and address, its write's stamp, whether it is poisoned (R245), whether it is in the protected
window, whether it is on media, whether it may leave the buffer once no read needs it (R203, R243), its 4,096 bytes in stored form and its 16 protection bytes. -/
structure WinBlk where
  nsid : Nat
  lba : Nat
  stamp : Nat
  poison : Bool
  early : Bool
  media : Bool
  done : Bool
  data : List Byte
  prot : List Byte
  deriving DecidableEq, Repr

/-- A host I/O command in a submission queue. -/
structure Cmd where
  hdr : CmdHdr
  kind : CmdKind
  deriving DecidableEq, Repr

/-- How a block of a read was resolved at admission (R242). -/
inductive BlkRes where
  | buffer (stamp : Nat)
  | media (entry : Word)
  | mirror
  | unwritten
  deriving DecidableEq, Repr

/-- A command slot (R237): the stamp, the command, its first block (a Zone Append's as placed), whether ZNE has applied it (R197), whether a write's data is wholly
received and checked, its status if it has failed, how a read's blocks were resolved, in order, whether it posts no completion (Table 11.3), and WIN packets not
yet acknowledged (R367). -/
structure Slot where
  stamp : Nat
  cmd : Cmd
  lba : Nat
  applied : Bool
  dataIn : Bool
  status : Nat
  blocks : List BlkRes
  mute : Bool
  wins : Nat
  deriving DecidableEq, Repr

/-- A media operation of a read (R226): its command's stamp, its TAG, the zone and chunk index (of the conventional namespace, the chunk number + 2^24, and
2^22 more for the partner's, with the copy in place of the chunk index), the entry resolved, the first block, the first sector of the chunk and the number, where
data and status words go, the sectors not yet delivered, those of them that failed a check, and whether it is the second copy's read. -/
structure ReadPart where
  stamp : Nat
  tag : Word
  zone : Nat
  k : Nat
  entry : Word
  lba0 : Nat
  first : Nat
  count : Nat
  addr : Nat
  staddr : Nat
  waiting : List Nat
  stale : List Nat
  other : Bool
  deriving DecidableEq, Repr

/-- An Interlocking entry (R246, Table 11.1). -/
structure IlEntry where
  index : Nat
  req : IlockReq
  snap : Nat
  held : Bool
  deriving DecidableEq, Repr

/-- Command Queue Engine (CQE): whether it admits and posts nothing (R250, R291), the write buffer, the command slots in stamp order, media operations of reads, Interlocking entries in
request order and requests that wait for a free one (R246), shutdown under way by port and whether it is abrupt (R253), the commit that activates (R254), the last operational power
state and whether a return is due (R255), whether movers are paused, whether a stamp has been issued since
the start (R239), the stamp at which an entry began, a state that waits for activation to end, and an activation that waits for an entry to end (R254). -/
structure CqeSt where
  stopped : Bool := false
  buffer : List WinBlk := []
  slots : List Slot := []
  parts : List ReadPart := []
  il : List IlEntry := []
  ilWait : List IlockReq := []
  closing : Pair Bool := ⟨false, false⟩
  fwCmd : Option CmdHdr := none
  lastOp : Nat := 0
  returnDue : Bool := false
  paused : Bool := false
  stamped : Bool := false
  entryStamp : Nat := 0
  entryWait : Option Nat := none
  fwWait : Bool := false
  deriving DecidableEq, Repr


/-- A completion as HEP posts it: the command, the status (SCT × 256 + SC), DW0 and the data a page returns. -/
structure Cpl where
  hdr : CmdHdr
  status : Nat
  dw0 : Nat
  data : List Byte
  deriving DecidableEq, Repr

/-- A submission queue: identifier, size, its completion queue, the tail its doorbell gave, and the I/O commands waiting in it, oldest first. -/
structure Sq where
  qid : Nat
  size : Nat
  cqid : Nat
  tail : Nat
  cmds : List Cmd
  deriving DecidableEq, Repr

/-- A completion queue: identifier, size, vector, entries posted and consumed, and messages held back by coalescing. -/
structure Cq where
  qid : Nat
  size : Nat
  vector : Nat
  posted : Nat
  head : Nat
  coalesced : Nat
  deriving DecidableEq, Repr

/-- A memory read request under way (R266): its tag, its command (the admission stamp, or `fwdStamp` and the forwarding slot), whether a flip of the generation has made it an earlier
generation's, and whether it has timed out. -/
structure TagUse where
  tag : Nat
  stamp : Nat
  old : Bool
  timedOut : Bool
  deriving DecidableEq, Repr

/-- One port and its controller (R260 to R272): configuration space and the registers of BAR0 as written (offset ↦ word), CC, the shutdown status (1 in progress, 2 drained with
its checkpoint asked for) and CFS, queues, reads under way and blocks still to be asked for by command (R266, R269), completions that wait (R269), pending MSI-X messages and
messages sent by vector, a held enable, a running function-level reset, asynchronous event requests and events that wait for one, features of controller scope, the queue whose turn
it is with the commands taken from it (R238), whether BAR2 is implemented (R262), and the Error Information log with its count. -/
structure PortSt where
  cfg : List (Nat × Word) := []
  bar0 : List (Nat × Word) := []
  cc : Word := 0
  shst : Nat := 0
  cfs : Bool := false
  sqs : List Sq := []
  cqs : List Cq := []
  tags : List TagUse := []
  fetch : List Nat := []
  held : List Cpl := []
  pba : BitVec 129 := 0
  sent : List Nat := []
  enHeld : Bool := false
  flr : Bool := false
  aers : List Nat := []
  events : List Nat := []
  features : List (Nat × Word) := []
  turn : Nat := 0
  burst : Nat := 0
  bar2 : Bool := false
  errors : List Cpl := []
  errCount : Nat := 0
  deriving DecidableEq, Repr

/-- Host Endpoint (HEP): the ports, completions posted, oldest first, features of drive scope, the timestamp offset's presence (R276), thermal
thresholds and the caps they set (R277), firmware images downloaded, the LBA formats (R280), what the critical-warning bits were (R275), the admin turn, zones changed, ANA
states of the partner's and own namespaces (R281), which port admitted last (R238), the count of ANA changes, namespaces changed, the frequency code of the SMBus endpoint, what the last configuration
or ROM read answered (none: Retry), and the last answers of the SMBus endpoint. -/
structure HepSt where
  ports : Pair PortSt := ⟨{}, {}⟩
  posted : List Cpl := []
  features : List (Nat × Word) := []
  tsSet : Bool := false
  tmt1 : Nat := 0
  tmt2 : Nat := 0
  cap1 : Bool := false
  cap2 : Bool := false
  download : Option SlotImage := none
  lbaf : List (Nat × Nat) := []
  warn : Nat := 0
  changedZones : List Nat := []
  ana : Nat := 0
  anaCount : Nat := 0
  changedNs : List Nat := []
  miFreq : Nat := 1
  lastPort : Port := .zero
  tsOff : Int := 0
  answer : Option Word := none
  rom : Byte := 0
  mctp : List Byte := []
  health : List Byte := []
  deriving DecidableEq, Repr


/-- A line of the Map Cache (R298, R299): its tag, whether it is locked, and its age. -/
structure CLine where
  tag : Nat
  locked : Bool
  age : Nat
  deriving DecidableEq, Repr

/-- A core access that waits for DDR5 (R300): hart, address, size, and the value of a store. -/
structure Waiter where
  hart : Fin 4
  addr : Nat
  size : Nat
  store : Option (BitVec 64)
  deriving DecidableEq, Repr

/-- A DDR5 read under way for the cores (R300): its line, whether it allocates in the Map Cache (a miss register) or goes past it, misses
merged into it, the loads that wait for it, whether the line is to keep a lock (R298), and whether its data has come. -/
structure Miss where
  line : Nat
  alloc : Bool
  merged : Nat
  waiters : List Waiter
  locked : Bool
  arrived : Bool
  deriving DecidableEq, Repr

/-- Memory system (MEM) in the core domain: Yard and Vault words whose stored check bits are wrong and in how many bits (R294), bank copies
that run or wait as (logical bank, spare) (R289), how often the scrub interval was halved, whether the pass that runs is automatic, whether a fault reset runs
(R291), the Map Cache's lines by set × 16 + way (R298), its miss registers (R300), accesses that stall, the merge buffer as (line, byte
mask) in allocation order (R301), the range operation that runs as (OP, first line, lines) (R302, R303), whether a disable runs and
whether EN was written meanwhile (R304), lines whose read timed out (R297), and the fitted DDR5 in bytes (Table 1.6). -/
structure MemSt where
  bad : List (Nat × Nat) := []
  copies : List (Nat × Nat) := []
  halvings : Nat := 0
  faultReset : Bool := false
  lines : List (Nat × CLine) := []
  misses : List Miss := []
  stalled : List Waiter := []
  merge : List (Nat × Nat) := []
  rangeOp : Option (Nat × Nat × Nat) := none
  disabling : Bool := false
  enAsked : Bool := false
  late : List Nat := []
  fitted : Nat := 0
  deriving DecidableEq, Repr

/-- One hart (R25, Table 1.9, Table 1.6): released from reset, MEVTHR.THR, what its last load, fetch or CSR read returned, the exception its last
access raised (cause codes of the privileged specification), mtimecmp, and its software and timer interrupts pending. -/
structure Hart where
  released : Bool
  thr : Nat
  data : BitVec 64
  trap : Option Nat
  mtimecmp : BitVec 64
  msip : Bool
  mtip : Bool
  deriving DecidableEq, Repr

/-- Processor cluster: the harts, whether the cores are stopped (R291, R312, R320), the gather buffer as (word number, byte mask, hart), oldest
first (R287), MBOOTINFO's CAUSE, REPLAY and IMGREV (Table 1.9), a device reset that is due with its cause (R24), and what the last register
read returned (the model's own), and the address at which the cores were last released other than by the boot ROM (R320). -/
structure CoreSt where
  harts : List Hart := [⟨true, 0, 0, none, 0, false, false⟩, ⟨false, 0, 0, none, 0, false, false⟩, ⟨false, 0, 0, none, 0, false, false⟩, ⟨false, 0, 0, none, 0, false, false⟩]
  stopped : Bool := false
  gather : List (Nat × Nat × Fin 4) := []
  cause : Nat := 0
  replay : Bool := false
  imgRev : Nat := 0
  resetDue : Option Nat := none
  rdata : Word := 0
  wake : Option Nat := none
  deriving DecidableEq, Repr

/-- What the Vault keeps outside the areas that cores can read (Table 1.6: key slots and reserved): Darning entries as physical bank × 16 + entry ↦
word (R288), the logical banks held by the spares (R289), replaced Vault words (R290), the next record number (R342), the start count (R341), power-on
hours, unsafe shutdowns (R322), SVNMIN (R352), the save sequence, the save directory and header (R313), the stamp bound (R239), the next JSEQ and the C of the last
complete checkpoint (R217, R221), the metadata cells on the journal areas (R221), the areas' roles (R220, R222), the write sequence (R215), the directory of
latest copies as area × 1,024 + page ↦ segment and each area's next segment (R221), the Spare table's count and the retired surfaces as of that checkpoint, and
the conventional blocks written since the last format, as NSID × 2^40 + block, ascending (R279),
and the number of the last start record (R341). -/
structure VaultSt where
  darn : List (Nat × Nat) := []
  spare0 : Option Nat := none
  spare1 : Option Nat := none
  remap : List Nat := []
  bokNext : Nat := 0
  starts : Nat := 0
  poh : Nat := 0
  saveCnt : Nat := 0
  svnMin : Nat := 0
  saveSeq : Nat := 0
  saveDir : List (List Byte) := []
  saveHeader : List Byte := []
  stampBound : Nat := 0
  jseq : Nat := 1
  cpSeq : Nat := 0
  cpCells : List Host.Cell := []
  roles : List Nat := [0, 0, 0, 0]
  wseq : Nat := 0
  dir : List (Nat × Nat) := []
  segNext : List Nat := [0, 0, 0, 0]
  cpSpares : Nat := 0
  cpFail : Nat := 0
  convWritten : List Nat := []
  startRec : Option Nat := none
  deriving DecidableEq, Repr


/-- Power (PWR): the caps of the power state and of R277 on the speed step (R318), whether a measurement is due or runs (R309, R310), whether the
last one was valid, its capacitor energy in µJ and rail voltage in mV, whether the rail has since fallen below VMIN (R311), a save under way
with its CAUSE (R313), whether the device is held stopped after a power loss (R314), periods below DNTH (R319), the clock time at which the
loss or fault was detected, and whether the cores are off in PS4 (R320). -/
structure PwrSt where
  psCap : Nat := 5
  hctmCap : Nat := 5
  measDue : Bool := false
  measOk : Bool := false
  ecap : Nat := 0
  rail : Nat := 0
  railLow : Bool := false
  saving : Option Nat := none
  held : Bool := false
  dnRun : Nat := 0
  detected : BitVec 64 := 0
  ps4Off : Bool := false
  deriving DecidableEq, Repr

/-- Fault Collector (FLT): messages on their way, the queue of R326, the SEQ counts of R324, a force that waits (source, kind; R331),
whether the first unlock key was the last FLT write (R330), whether the fatal sequence runs to its hold, the message's source and
kind, and whether the hold stands (R328). -/
structure FltSt where
  inflight : List (BitVec 64) := []
  queue : List (BitVec 64) := []
  seqs : List (Nat × Nat) := []
  force : Option (Nat × Nat) := none
  unlockArmed : Bool := false
  fatalSeq : Bool := false
  fatalSrc : Nat := 0
  fatalKind : Nat := 0
  fatalHold : Bool := false
  deriving DecidableEq, Repr

/-- Event Router (EVR): the hart latches, the latches of MSQ0 and MSQ1 (R333) and the events claimed and not yet completed (R26). -/
structure EvrSt where
  hart : BitVec 640 := 0
  msq : Pair (BitVec 640) := ⟨0, 0⟩
  claimed : BitVec 640 := 0
  deriving DecidableEq, Repr

/-- A Station Book record waiting to be written: Table 16.6 without its number and CRC, and whether its message was of class 4 or 5. -/
structure BokRec where
  code : BitVec 16
  time : BitVec 64
  info : BitVec 64
  supp : Nat
  forced : Bool
  high : Bool
  deriving DecidableEq, Repr

/-- A token bucket (R344). -/
structure Bucket where
  code : BitVec 16
  tokens : Nat
  supp : Nat
  deriving DecidableEq, Repr

/-- Station Book (BOK): records waiting (R343), buckets with the least recently used first (R344), whether a clear runs (R346), records
written in the present second of clock time and that second (R343), and messages whose record was written before they reached the
Collector (R291, R314). -/
structure BokSt where
  queue : List BokRec := []
  buckets : List Bucket := []
  clearing : Bool := false
  second : Nat := 0
  written : Nat := 0
  direct : List (BitVec 64) := []
  deriving DecidableEq, Repr



/-- A key block (R348): the salt, whether a credential wraps it, and the key pair it holds. -/
structure KeyBlock where
  salt : List Byte
  cred : Bool
  key : List Byte
  deriving DecidableEq, Repr

/-- Security (SEC): the key slots of the chip's conventional and zoned namespace (none: empty), the key blocks on media, whether the administrator has a credential, a crypto-erase under way
(the namespaces, 0 conventional and 1 zoned, and whether step 3 is done; held in the Vault, R349), failed debug responses in this start and the challenge that was read (R350), whether a slot has
passed R338 in this start, the debug-key digest of its type 1 section, whether the sanitize log has an erase to report,
and whether the patch key register holds its key (R350). -/
structure SecSt where
  slots : Pair (Option (List Byte)) := ⟨some [], some []⟩
  blocks : Pair (Option KeyBlock) := ⟨some ⟨[], false, []⟩, some ⟨[], false, []⟩⟩
  adminCred : Bool := false
  erase : Option (List Nat × Bool) := none
  dbgFails : Nat := 0
  challenge : Option (List Byte) := none
  slotPassed : Bool := false
  dbgDigest : List Byte := []
  sanitized : Bool := false
  patchKey : Bool := true
  deriving DecidableEq, Repr


/-- A packet of the Branch Line (Table 17.2): its content as the chapter gives it; SEQ and CRC are the frame's. -/
inductive TxPkt where
  | idle
  | hello (id : Word) (side : Bool) (glbId imgRev : Word)
  | sync (angle : Angle)
  | spst (sts speed : Word) (target ceil : Nat) (parked : Bool)
  | jrec (bytes : List Byte)
  | win (lba nsid stamp : Nat) (bytes : List Byte)
  | wrel (blocks : List BlockId)
  | mdcopy (page off : Nat) (bytes : List Byte)
  | fwd (e : FwdEntry)
  | fdata (cid : Nat) (bytes : List Byte)
  | fcpl (cid status dw0 : Nat)
  | fctl (n : FwdNotice)
  | xrdy
  | ack
  | fltm (msg : BitVec 64)
  | fence
  deriving DecidableEq, Repr

/-- A frame as sent (R363, R364): its TAG, and whether it is the request (REQ = 1, LEN = 0) for the packet. -/
structure TxFrame where
  tag : Nat
  req : Bool
  pkt : TxPkt
  deriving DecidableEq, Repr

/-- A wait for an XRDY or an ACK (R364): the tag, the packet, whether it is an ACK that is awaited, and whether the request has been sent once more. -/
structure LineWait where
  tag : Nat
  pkt : TxPkt
  ack : Bool
  again : Bool
  deriving DecidableEq, Repr

/-- A forwarding slot of the arrival chip (R371): its number, the command as it came, what it asks, whether it has gone to the owner, and the data that has come back. -/
structure FwdUse where
  slot : Nat
  hdr : CmdHdr
  kind : FwdKind
  sent : Bool
  data : List Byte
  deriving DecidableEq, Repr

/-- Where a hand-back stands (R375). -/
inductive HandBack where
  | idle
  | locks
  | commit
  | checkpoint
  | copy
  | park
  deriving DecidableEq, Repr

/-- Branch Line (BRL): the last 256 frames sent, oldest first, and the SEQ of the next; the SEQ of the last valid frame; the next TAG, waits for answers and tags whose second expiry has been
reported (R364); forwarding slots (R371), the owner's data in arrival by slot, and forwarded commands whose returns are to be discarded; the partner's retired surfaces by index + 24, and
entries of its Spare table; the mirror of its window (R367); whether PAIRED and MIRSYNC have both been 1 (R358); the next packet of the metadata copy, the JSEQ at which it began and the TAG of the
last record of the copy (R368); the level of HBO and its disagreements in a row, and whether KICKT has not passed since a kick (R359); the nets whose takeover waits (R357); whether the first
steering to the own and to the partner's pair is still to come and whether a retract runs (R373); this chip's request, the partner's request, ceiling and parked state (R369); whether the copy under way is a hand-back's,
whether the chip's set has come back and waits for its checkpoint (R375);
and where the hand-back stands. -/
structure BrlSt where
  tx : List TxFrame := []
  txSeq : Nat := 0
  rxSeq : Option Word := none
  nextTag : Nat := 0
  waits : List LineWait := []
  late : List Nat := []
  fwds : List FwdUse := []
  dataIn : List (Nat × List Byte) := []
  dropped : List Nat := []
  failed : List Nat := []
  spares : Nat := 0
  winMirror : List WinBlk := []
  synced : Bool := false
  copyNext : Option Nat := none
  copySeq : Nat := 0
  lastRec : Option Nat := none
  hbo : Bool := false
  hbBad : Nat := 0
  kicked : Bool := false
  tokWait : Bool := false
  firstOwn : Bool := false
  firstPartner : Bool := false
  ownTarget : Nat := 5
  partTarget : Option Nat := none
  partCeil : Nat := 5
  partParked : Bool := false
  copySet : Bool := false
  setBack : Bool := false
  handBack : HandBack := .idle
  deriving DecidableEq, Repr


/-- The JTAG instruction in force (R386). -/
inductive JtagInstr where
  | bypass
  | idcode
  | samplePreload
  | extest
  | clamp
  | highz
  deriving DecidableEq, Repr

/-- Pins and boundary scan: the GPIO inputs' levels (Table 15.7), GPIO 15 as the boot ROM drives it (R340; HBO stands in `BrlSt`, the Token nets in BRL_TKSTS),
the JTAG instruction in force, the preloaded cells, what the scan drives on pins while it owns them, and the selected data register
(R386). -/
structure PinSt where
  gpioIn : BitVec 16 := 0
  gpio15 : Bool := false
  instr : JtagInstr := .idcode
  cells : Cells := ⟨0, 0, []⟩
  driven : Option Cells := none
  dr : Word := 0
  deriving DecidableEq, Repr

/-- The machine.  `regs` holds every vendor-window register (Table 1.5) by its offset, one entry for each that differs from its reset value;
`live` the live copies of registers that are written through a shadow (R86, R175), in the same form and by the same offsets; `shadows`
the held high halves of R10 by the offset of the low register; `mem` the bytes of Table 1.6 that are not zero, by core physical address;
`flash` is what the configuration flash holds as far as the chip has read or written it (R2, R336); `freeCtr` counts the free values taken so far (the model's own). -/
structure State where
  pending : List Instr := []
  regs : List (Nat × Word) := []
  live : List (Nat × Word) := []
  shadows : List (Nat × Word) := []
  mem : List Host.Cell := []
  ttb : TtbSt := {}
  spc : SpcSt := {}
  sac : Pair SacSt := ⟨{}, {}⟩
  rwc : Pair RwcSt := ⟨{}, {}⟩
  ddp : DdpSt := {}
  msq : Pair MsqSt := ⟨{}, {}⟩
  asc : AscSt := {}
  zne : ZneSt := {}
  ste : SteSt := {}
  cqe : CqeSt := {}
  hep : HepSt := {}
  ms : MemSt := {}
  core : CoreSt := {}
  vault : VaultSt := {}
  pwr : PwrSt := {}
  flt : FltSt := {}
  evr : EvrSt := {}
  bok : BokSt := {}
  sec : SecSt := {}
  brl : BrlSt := {}
  pins : PinSt := {}
  flash : Option Flash := none
  freeCtr : Nat := 0
  deriving DecidableEq, Repr

/-- The machine right after reset: every register at the reset value of its table (an empty `regs` reads so, `regReset`), memory with
nothing listed, no command waiting, and every other field at the value its structure names. -/
def State.reset : State := {}

end Sys2Proof.Machine
end

