-- ==== Sys2Proof/Machine/RegTable.lean ====
section
/-! DEFINITION. The register tables of the manual (Tables 1.8, 2.5, 3.7, 4.9, 5.9, 6.8, 7.18, 8.4, 9.6, 10.8, 11.8, 12.15, 13.4,
14.7, 15.9, 16.12, 17.8) as rows: the registers of one row of a table, their access codes as bit masks (Table 0.1, R7) and their
reset values (R6).  Offsets are within the block's 64 KiB window (Table 1.5, R17).  A bit in no mask is RO or reserved. -/
namespace Sys2Proof.Machine

/-- One row: the registers at `base + stride * i` for `i < count`, with the masks of the writable access codes of Table 0.1
and the reset value `reset + step * i`. -/
structure RegRow where
  base : Nat
  stride : Nat
  count : Nat
  rw : Nat
  rwl : Nat
  w1c : Nat
  w1s : Nat
  wo : Nat
  ros : Nat
  reset : Nat
  step : Nat
  deriving DecidableEq, Repr

/-- Registers of GLB. -/
def regRowsGlb : List RegRow := [
  ⟨0x0, 0x0, 1, 0x0, 0x0, 0x0, 0x0, 0x0, 0x0, 0x84201000, 0x0⟩ /- GLB_ID -/,
  ⟨0x4, 0x0, 1, 0x0, 0x0, 0x0, 0x1, 0x0, 0x0, 0x0, 0x0⟩ /- GLB_LOCK -/,
  ⟨0x8, 0x0, 1, 0x0, 0x0, 0x0, 0x0, 0xffff0001, 0x0, 0x0, 0x0⟩ /- GLB_RST -/,
  ⟨0xc, 0x0, 1, 0x0, 0x0, 0x0, 0x0, 0x0, 0x0, 0x0, 0x0⟩ /- GLB_CFG -/
]

/-- Registers of HEP. -/
def regRowsHep : List RegRow := [
  ⟨0x0, 0x0, 1, 0x0, 0x0, 0x0, 0x1, 0x2, 0x0, 0x0, 0x0⟩ /- HEP_CTL -/,
  ⟨0x4, 0x0, 1, 0x0, 0x0, 0x0, 0x0, 0x0, 0x0, 0x0, 0x0⟩ /- HEP_STS -/,
  ⟨0x8, 0x4, 2, 0x0, 0x3f, 0x0, 0x0, 0x0, 0x0, 0x1f, 0x0⟩ /- HEP_AUTH -/,
  ⟨0x10, 0x0, 1, 0x0, 0xffffffff, 0x0, 0x0, 0x0, 0x0, 0x1fa8, 0x0⟩ /- HEP_SSID -/,
  ⟨0x14, 0x0, 1, 0x0, 0x3ff, 0x0, 0x0, 0x0, 0x0, 0x0, 0x0⟩ /- HEP_OPTLEN -/,
  ⟨0x18, 0x4, 2, 0x0, 0x0, 0x0, 0x0, 0x0, 0x0, 0x0, 0x0⟩ /- HEP_LINK -/,
  ⟨0x20, 0x0, 1, 0x0, 0xff, 0x0, 0x0, 0x0, 0x0, 0x9d, 0x0⟩ /- HEP_MI -/,
  ⟨0x28, 0x0, 1, 0x0, 0xffffffff, 0x0, 0x0, 0x0, 0x0, 0x0, 0x0⟩ /- HEP_DSN_LO -/,
  ⟨0x2c, 0x0, 1, 0x0, 0xffffffff, 0x0, 0x0, 0x0, 0x0, 0x0, 0x0⟩ /- HEP_DSN_HI -/,
  ⟨0x30, 0x0, 1, 0x0, 0x0, 0x0, 0x0, 0x0, 0x0, 0x0, 0x0⟩ /- HEP_TSOFF_LO -/,
  ⟨0x34, 0x0, 1, 0x0, 0x0, 0x0, 0x0, 0x0, 0x0, 0x0, 0x0⟩ /- HEP_TSOFF_HI -/,
  ⟨0x40, 0x20, 2, 0x0, 0x0, 0x0, 0x0, 0x0, 0x0, 0x0, 0x0⟩ /- HEP_LATE_CPL_LO -/,
  ⟨0x44, 0x20, 2, 0x0, 0x0, 0x0, 0x0, 0x0, 0x0, 0x0, 0x0⟩ /- HEP_LATE_CPL_HI -/,
  ⟨0x48, 0x20, 2, 0x0, 0x0, 0x0, 0x0, 0x0, 0x0, 0x0, 0x0⟩ /- HEP_STALE_LO -/,
  ⟨0x4c, 0x20, 2, 0x0, 0x0, 0x0, 0x0, 0x0, 0x0, 0x0, 0x0⟩ /- HEP_STALE_HI -/,
  ⟨0x50, 0x20, 2, 0x0, 0x0, 0x0, 0x0, 0x0, 0x0, 0x0, 0x0⟩ /- HEP_CTO_LO -/,
  ⟨0x54, 0x20, 2, 0x0, 0x0, 0x0, 0x0, 0x0, 0x0, 0x0, 0x0⟩ /- HEP_CTO_HI -/
]

/-- Registers of CQE. -/
def regRowsCqe : List RegRow := [
  ⟨0x0, 0x0, 1, 0x1, 0x0, 0x0, 0x0, 0x2, 0x0, 0x0, 0x0⟩ /- CQE_CTL -/,
  ⟨0x4, 0x0, 1, 0x0, 0x0, 0x2, 0x0, 0x0, 0x0, 0x0, 0x0⟩ /- CQE_STS -/,
  ⟨0x8, 0x0, 1, 0x0, 0x0, 0x0, 0x0, 0x0, 0x0, 0x0, 0x0⟩ /- CQE_STAMP_LO -/,
  ⟨0xc, 0x0, 1, 0x0, 0x0, 0x0, 0x0, 0x0, 0x0, 0x0, 0x0⟩ /- CQE_STAMP_HI -/,
  ⟨0x10, 0x0, 1, 0x0, 0x0, 0x0, 0x0, 0x0, 0x0, 0x0, 0x0⟩ /- CQE_SLOTS -/,
  ⟨0x14, 0x0, 1, 0x0, 0x0, 0x0, 0x0, 0x0, 0x0, 0x0, 0x0⟩ /- CQE_IL -/,
  ⟨0x18, 0x0, 1, 0x0, 0x1fff, 0x0, 0x0, 0x0, 0x0, 0x1000, 0x0⟩ /- CQE_PWCFG -/,
  ⟨0x1c, 0x0, 1, 0x0, 0x0, 0x0, 0x0, 0x0, 0x0, 0x0, 0x0⟩ /- CQE_PWOCC -/,
  ⟨0x20, 0x0, 1, 0x0, 0xfffff, 0x0, 0x0, 0x0, 0x0, 0x4000, 0x0⟩ /- CQE_CSTAGE -/,
  ⟨0x24, 0x0, 1, 0x0, 0x0, 0x0, 0x0, 0x80000007, 0x0, 0x0, 0x0⟩ /- CQE_PSCTL -/,
  ⟨0x28, 0x0, 1, 0x0, 0x0, 0x800, 0x0, 0x0, 0x0, 0x0, 0x0⟩ /- CQE_PSTS -/,
  ⟨0x2c, 0x0, 1, 0x0, 0x0, 0x0, 0x0, 0x4, 0x0, 0x0, 0x0⟩ /- CQE_FWA -/,
  ⟨0x30, 0x0, 1, 0x3ff, 0x0, 0x0, 0x0, 0x0, 0x0, 0x0, 0x0⟩ /- CQE_ILSEL -/,
  ⟨0x40, 0x4, 4, 0x0, 0x0, 0x0, 0x0, 0x0, 0x0, 0x0, 0x0⟩ /- CQE_ILDATA -/,
  ⟨0x80, 0x0, 1, 0x0, 0x0, 0x0, 0x0, 0x0, 0x0, 0x0, 0x0⟩ /- CQE_ADMIT_LO -/,
  ⟨0x84, 0x0, 1, 0x0, 0x0, 0x0, 0x0, 0x0, 0x0, 0x0, 0x0⟩ /- CQE_ADMIT_HI -/,
  ⟨0x88, 0x0, 1, 0x0, 0x0, 0x0, 0x0, 0x0, 0x0, 0x0, 0x0⟩ /- CQE_EARLY_LO -/,
  ⟨0x8c, 0x0, 1, 0x0, 0x0, 0x0, 0x0, 0x0, 0x0, 0x0, 0x0⟩ /- CQE_EARLY_HI -/,
  ⟨0x90, 0x0, 1, 0x0, 0x0, 0x0, 0x0, 0x0, 0x0, 0x0, 0x0⟩ /- CQE_MVCAN_LO -/,
  ⟨0x94, 0x0, 1, 0x0, 0x0, 0x0, 0x0, 0x0, 0x0, 0x0, 0x0⟩ /- CQE_MVCAN_HI -/,
  ⟨0x98, 0x0, 1, 0x0, 0x0, 0x0, 0x0, 0x0, 0x0, 0x0, 0x0⟩ /- CQE_POISON_LO -/,
  ⟨0x9c, 0x0, 1, 0x0, 0x0, 0x0, 0x0, 0x0, 0x0, 0x0, 0x0⟩ /- CQE_POISON_HI -/,
  ⟨0xa0, 0x0, 1, 0x0, 0x0, 0x0, 0x0, 0x0, 0x0, 0x0, 0x0⟩ /- CQE_PSABAND_LO -/,
  ⟨0xa4, 0x0, 1, 0x0, 0x0, 0x0, 0x0, 0x0, 0x0, 0x0, 0x0⟩ /- CQE_PSABAND_HI -/
]

/-- Registers of ZNE. -/
def regRowsZne : List RegRow := [
  ⟨0x0, 0x0, 1, 0x1, 0x0, 0x0, 0x0, 0x2, 0x0, 0x0, 0x0⟩ /- ZNE_CTL -/,
  ⟨0x4, 0x0, 1, 0x0, 0x0, 0x2, 0x0, 0x0, 0x0, 0x0, 0x0⟩ /- ZNE_STS -/,
  ⟨0x8, 0x0, 1, 0x0, 0xffffff, 0x0, 0x0, 0x0, 0x0, 0x300000, 0x0⟩ /- ZNE_CFG -/,
  ⟨0xc, 0x0, 1, 0x0, 0xfff0fff, 0x0, 0x0, 0x0, 0x0, 0x0, 0x0⟩ /- ZNE_SURF -/,
  ⟨0x10, 0x0, 1, 0x0, 0x0, 0x0, 0xfff0fff, 0x0, 0x0, 0x0, 0x0⟩ /- ZNE_FAIL -/,
  ⟨0x14, 0x0, 1, 0x0, 0x1ff01ff, 0x0, 0x0, 0x0, 0x0, 0x1000100, 0x0⟩ /- ZNE_LIMIT -/,
  ⟨0x18, 0x0, 1, 0x0, 0x0, 0x0, 0x0, 0x0, 0x0, 0x0, 0x0⟩ /- ZNE_CNT -/,
  ⟨0x1c, 0x0, 1, 0x0, 0xfff, 0x0, 0x0, 0x0, 0x0, 0x0, 0x0⟩ /- ZNE_MDBASE -/,
  ⟨0x20, 0x0, 1, 0x0, 0x7ff, 0x0, 0x0, 0x0, 0x0, 0x0, 0x0⟩ /- ZNE_CONV -/,
  ⟨0x24, 0x0, 1, 0x0, 0xffff, 0x0, 0x0, 0x0, 0x0, 0x32, 0x0⟩ /- ZNE_IDLE -/,
  ⟨0x28, 0x0, 1, 0x0, 0xffffffff, 0x0, 0x0, 0x0, 0x0, 0x80004, 0x0⟩ /- ZNE_RCLM -/,
  ⟨0x2c, 0x0, 1, 0x0, 0x0, 0x0, 0x0, 0x0, 0x0, 0x0, 0x0⟩ /- ZNE_SPCNT -/,
  ⟨0x30, 0x0, 1, 0x0, 0x0, 0x0, 0x0, 0xbfffffff, 0x0, 0x0, 0x0⟩ /- ZNE_SPADD -/,
  ⟨0x34, 0x0, 1, 0x0, 0x0, 0x2, 0x0, 0x0, 0x0, 0x0, 0x0⟩ /- ZNE_SPSTS -/,
  ⟨0x40, 0x0, 1, 0x0, 0x0, 0x0, 0x0, 0x0, 0x0, 0x0, 0x0⟩ /- ZNE_RELOC_LO -/,
  ⟨0x44, 0x0, 1, 0x0, 0x0, 0x0, 0x0, 0x0, 0x0, 0x0, 0x0⟩ /- ZNE_RELOC_HI -/,
  ⟨0x48, 0x0, 1, 0x0, 0x0, 0x0, 0x0, 0x0, 0x0, 0x0, 0x0⟩ /- ZNE_RCLMCNT_LO -/,
  ⟨0x4c, 0x0, 1, 0x0, 0x0, 0x0, 0x0, 0x0, 0x0, 0x0, 0x0⟩ /- ZNE_RCLMCNT_HI -/,
  ⟨0x50, 0x0, 1, 0x0, 0x0, 0x0, 0x0, 0x0, 0x0, 0x0, 0x0⟩ /- ZNE_ZRESET_LO -/,
  ⟨0x54, 0x0, 1, 0x0, 0x0, 0x0, 0x0, 0x0, 0x0, 0x0, 0x0⟩ /- ZNE_ZRESET_HI -/,
  ⟨0x1000, 0x10, 768, 0x0, 0xffffffff, 0x0, 0x0, 0x0, 0x0, 0x0, 0x0⟩ /- ZNE_RGN_W0 -/,
  ⟨0x1004, 0x10, 768, 0x0, 0x7fffffff, 0x0, 0x0, 0x0, 0x0, 0x0, 0x0⟩ /- ZNE_RGN_W1 -/,
  ⟨0x1008, 0x10, 768, 0x0, 0x0, 0x0, 0x0, 0x0, 0x0, 0x0, 0x0⟩ /- ZNE_RGN_W2 -/,
  ⟨0x100c, 0x10, 768, 0x0, 0x0, 0x0, 0x0, 0x0, 0x0, 0x0, 0x0⟩ /- ZNE_RGN_W3 -/
]

/-- Registers of STE (part 1). -/
def regRowsSte1 : List RegRow := [
  ⟨0x0, 0x0, 1, 0x1, 0x0, 0x0, 0x0, 0x6, 0x0, 0x0, 0x0⟩ /- STE_CTL -/,
  ⟨0x4, 0x0, 1, 0x0, 0x0, 0x100, 0x0, 0x0, 0x0, 0x0, 0x0⟩ /- STE_STS -/,
  ⟨0x8, 0x0, 1, 0x0, 0xffffff, 0x0, 0x0, 0x0, 0x0, 0x3c8000, 0x0⟩ /- STE_JCFG -/,
  ⟨0xc, 0x0, 1, 0x0, 0x0, 0x0, 0x0, 0x0, 0x0, 0x0, 0x0⟩ /- STE_JOCC -/,
  ⟨0x10, 0x0, 1, 0x0, 0x0, 0x0, 0x0, 0x0, 0x0, 0x0, 0x0⟩ /- STE_JSEQ_LO -/,
  ⟨0x14, 0x0, 1, 0x0, 0x0, 0x0, 0x0, 0x0, 0x0, 0x0, 0x0⟩ /- STE_JSEQ_HI -/,
  ⟨0x18, 0x0, 1, 0x0, 0x0, 0x0, 0x0, 0x0, 0x0, 0x0, 0x0⟩ /- STE_CPSEQ_LO -/,
  ⟨0x1c, 0x0, 1, 0x0, 0x0, 0x0, 0x0, 0x0, 0x0, 0x0, 0x0⟩ /- STE_CPSEQ_HI -/,
  ⟨0x40, 0x10, 4, 0x0, 0x3fffffff, 0x0, 0x0, 0x0, 0x0, 0x0, 0x0⟩ /- STE_JAREA_W0 -/,
  ⟨0x44, 0x10, 4, 0x0, 0xfffffff, 0x0, 0x0, 0x0, 0x0, 0x0, 0x0⟩ /- STE_JAREA_W1 -/,
  ⟨0x48, 0x10, 4, 0x0, 0x1ff, 0x0, 0x0, 0x0, 0x0, 0x0, 0x0⟩ /- STE_JAREA_W2 -/,
  ⟨0x80, 0x0, 1, 0x0, 0x1f, 0x0, 0x0, 0x0, 0x0, 0x5, 0x0⟩ /- STE_MCFG -/,
  ⟨0x84, 0x0, 1, 0x0, 0x0, 0x0, 0x0, 0x8000001f, 0x0, 0x0, 0x0⟩ /- STE_RETIRE -/,
  ⟨0x88, 0x0, 1, 0x0, 0x0, 0x0, 0x0, 0x0, 0x0, 0x0, 0x0⟩ /- STE_MSTS -/,
  ⟨0x8c, 0x0, 1, 0x0, 0x0, 0x0, 0x0, 0x0, 0x0, 0x0, 0x0⟩ /- STE_MCUR -/,
  ⟨0x90, 0x0, 1, 0x1fc, 0x0, 0x0, 0x0, 0x3, 0x0, 0x40, 0x0⟩ /- STE_RCTL -/,
  ⟨0x94, 0x0, 1, 0xfff0fff, 0x0, 0x0, 0x0, 0x0, 0x0, 0x0, 0x0⟩ /- STE_RMASK -/,
  ⟨0x98, 0x0, 1, 0xffffffff, 0x0, 0x0, 0x0, 0x0, 0x0, 0x0, 0x0⟩ /- STE_RSADDR_LO -/,
  ⟨0x9c, 0x0, 1, 0xffffffff, 0x0, 0x0, 0x0, 0x0, 0x0, 0x0, 0x0⟩ /- STE_RSADDR_HI -/,
  ⟨0xa0, 0x0, 1, 0x0, 0x0, 0x2, 0x0, 0x0, 0x0, 0x0, 0x0⟩ /- STE_RSTS -/,
  ⟨0xa4, 0x0, 1, 0x3, 0x0, 0x0, 0x0, 0x0, 0x0, 0x0, 0x0⟩ /- STE_CCFG -/,
  ⟨0xc0, 0x0, 1, 0x0, 0x0, 0x0, 0x0, 0x0, 0x0, 0x0, 0x0⟩ /- STE_SILENT_LO -/,
  ⟨0xc4, 0x0, 1, 0x0, 0x0, 0x0, 0x0, 0x0, 0x0, 0x0, 0x0⟩ /- STE_SILENT_HI -/,
  ⟨0xc8, 0x0, 1, 0x0, 0x0, 0x0, 0x0, 0x0, 0x0, 0x0, 0x0⟩ /- STE_RECON_LO -/
]

/-- Registers of STE (part 2). -/
def regRowsSte2 : List RegRow := [
  ⟨0xcc, 0x0, 1, 0x0, 0x0, 0x0, 0x0, 0x0, 0x0, 0x0, 0x0⟩ /- STE_RECON_HI -/,
  ⟨0xd0, 0x0, 1, 0x0, 0x0, 0x0, 0x0, 0x0, 0x0, 0x0, 0x0⟩ /- STE_UNREC_LO -/,
  ⟨0xd4, 0x0, 1, 0x0, 0x0, 0x0, 0x0, 0x0, 0x0, 0x0, 0x0⟩ /- STE_UNREC_HI -/,
  ⟨0xd8, 0x0, 1, 0x0, 0x0, 0x0, 0x0, 0x0, 0x0, 0x0, 0x0⟩ /- STE_MENDCNT_LO -/,
  ⟨0xdc, 0x0, 1, 0x0, 0x0, 0x0, 0x0, 0x0, 0x0, 0x0, 0x0⟩ /- STE_MENDCNT_HI -/,
  ⟨0xe0, 0x0, 1, 0x0, 0x0, 0x0, 0x0, 0x0, 0x0, 0x0, 0x0⟩ /- STE_PMISM_LO -/,
  ⟨0xe4, 0x0, 1, 0x0, 0x0, 0x0, 0x0, 0x0, 0x0, 0x0, 0x0⟩ /- STE_PMISM_HI -/,
  ⟨0xe8, 0x0, 1, 0x0, 0x0, 0x0, 0x0, 0x0, 0x0, 0x0, 0x0⟩ /- STE_CPCNT_LO -/,
  ⟨0xec, 0x0, 1, 0x0, 0x0, 0x0, 0x0, 0x0, 0x0, 0x0, 0x0⟩ /- STE_CPCNT_HI -/
]

/-- Registers of STE. -/
def regRowsSte : List RegRow :=
  regRowsSte1 ++ regRowsSte2

/-- Registers of MEM (part 1). -/
def regRowsMem1 : List RegRow := [
  ⟨0x0, 0x0, 1, 0x0, 0x0, 0x0, 0x0, 0x1, 0x0, 0x0, 0x0⟩ /- MEM_CTL -/,
  ⟨0x4, 0x0, 1, 0x0, 0x0, 0x0, 0x0, 0x0, 0x0, 0x0, 0x0⟩ /- MEM_STS -/,
  ⟨0x8, 0x0, 1, 0x7ff, 0x0, 0x0, 0x0, 0x0, 0x0, 0x0, 0x0⟩ /- MEM_DARNSEL -/,
  ⟨0xc, 0x0, 1, 0x0, 0x0, 0x0, 0x0, 0x0, 0x0, 0x0, 0x0⟩ /- MEM_DARNDATA -/,
  ⟨0x10, 0x0, 1, 0x0, 0x0, 0x0, 0x0, 0x0, 0x0, 0x7f7f, 0x0⟩ /- MEM_BANKMAP -/,
  ⟨0x14, 0x0, 1, 0x0, 0x0, 0x0, 0x0, 0x0, 0x7, 0x0, 0x0⟩ /- MEM_UEINFO -/,
  ⟨0x18, 0x0, 1, 0x0, 0x0, 0x0, 0x0, 0x0, 0xffffffff, 0x0, 0x0⟩ /- MEM_UEADDR_LO -/,
  ⟨0x1c, 0x0, 1, 0x0, 0x0, 0x0, 0x0, 0x0, 0xffffffff, 0x0, 0x0⟩ /- MEM_UEADDR_HI -/,
  ⟨0x20, 0x0, 1, 0xfffe, 0xff0000, 0x0, 0x0, 0x1, 0x0, 0x8000, 0x0⟩ /- MEM_SCRCTL -/,
  ⟨0x24, 0x0, 1, 0x0, 0x0, 0x2, 0x0, 0x0, 0x0, 0x0, 0x0⟩ /- MEM_SCRSTS -/,
  ⟨0x28, 0x0, 1, 0x0, 0x0, 0x0, 0x0, 0x0, 0x0, 0x0, 0x0⟩ /- MEM_SCRWORDS -/,
  ⟨0x2c, 0x0, 1, 0x0, 0x0, 0x0, 0x0, 0x0, 0x0, 0x0, 0x0⟩ /- MEM_SCRCE -/,
  ⟨0x30, 0x0, 1, 0x0, 0x0, 0x0, 0x0, 0x0, 0x0, 0x0, 0x0⟩ /- MEM_SCRDARN -/,
  ⟨0x34, 0x0, 1, 0xffff0001, 0x0, 0x0, 0x0, 0x0, 0x0, 0x0, 0x0⟩ /- MEM_TEST -/,
  ⟨0x38, 0x0, 1, 0xffffffff, 0x0, 0x0, 0x0, 0x0, 0x0, 0x0, 0x0⟩ /- MEM_TESTADDR -/,
  ⟨0x40, 0x0, 1, 0x0, 0x3f, 0x0, 0x0, 0x0, 0x0, 0x0, 0x0⟩ /- MEM_DDRCFG -/,
  ⟨0x44, 0x0, 1, 0x0, 0x0, 0x0, 0x0, 0x0, 0x0, 0x0, 0x0⟩ /- MEM_DDRSTS -/,
  ⟨0x48, 0x0, 1, 0x0, 0x0, 0x0, 0x0, 0x0, 0x0, 0x0, 0x0⟩ /- MEM_VREMAP -/,
  ⟨0x80, 0x0, 1, 0x0, 0x0, 0x0, 0x0, 0x0, 0x0, 0x0, 0x0⟩ /- MEM_YCE_LO -/,
  ⟨0x84, 0x0, 1, 0x0, 0x0, 0x0, 0x0, 0x0, 0x0, 0x0, 0x0⟩ /- MEM_YCE_HI -/,
  ⟨0x88, 0x0, 1, 0x0, 0x0, 0x0, 0x0, 0x0, 0x0, 0x0, 0x0⟩ /- MEM_VCE_LO -/,
  ⟨0x8c, 0x0, 1, 0x0, 0x0, 0x0, 0x0, 0x0, 0x0, 0x0, 0x0⟩ /- MEM_VCE_HI -/,
  ⟨0x90, 0x0, 1, 0x0, 0x0, 0x0, 0x0, 0x0, 0x0, 0x0, 0x0⟩ /- MEM_DDRCE_LO -/,
  ⟨0x94, 0x0, 1, 0x0, 0x0, 0x0, 0x0, 0x0, 0x0, 0x0, 0x0⟩ /- MEM_DDRCE_HI -/
]

/-- Registers of MEM (part 2). -/
def regRowsMem2 : List RegRow := [
  ⟨0x98, 0x0, 1, 0x0, 0x0, 0x0, 0x0, 0x0, 0x0, 0x0, 0x0⟩ /- MEM_DDRUE_LO -/,
  ⟨0x9c, 0x0, 1, 0x0, 0x0, 0x0, 0x0, 0x0, 0x0, 0x0, 0x0⟩ /- MEM_DDRUE_HI -/,
  ⟨0xa0, 0x0, 1, 0x0, 0x0, 0x0, 0x0, 0x0, 0x0, 0x0, 0x0⟩ /- MEM_LATE_CPL_LO -/,
  ⟨0xa4, 0x0, 1, 0x0, 0x0, 0x0, 0x0, 0x0, 0x0, 0x0, 0x0⟩ /- MEM_LATE_CPL_HI -/,
  ⟨0xa8, 0x0, 1, 0x0, 0x0, 0x0, 0x0, 0x0, 0x0, 0x0, 0x0⟩ /- MEM_MCHIT_LO -/,
  ⟨0xac, 0x0, 1, 0x0, 0x0, 0x0, 0x0, 0x0, 0x0, 0x0, 0x0⟩ /- MEM_MCHIT_HI -/,
  ⟨0xb0, 0x0, 1, 0x0, 0x0, 0x0, 0x0, 0x0, 0x0, 0x0, 0x0⟩ /- MEM_MCMISS_LO -/,
  ⟨0xb4, 0x0, 1, 0x0, 0x0, 0x0, 0x0, 0x0, 0x0, 0x0, 0x0⟩ /- MEM_MCMISS_HI -/,
  ⟨0x100, 0x0, 1, 0x1, 0x0, 0x0, 0x0, 0x0, 0x0, 0x1, 0x0⟩ /- MEM_MCC_CTL -/,
  ⟨0x104, 0x0, 1, 0x0, 0x0, 0xc, 0x0, 0x0, 0x0, 0x0, 0x0⟩ /- MEM_MCC_STS -/,
  ⟨0x108, 0x0, 1, 0x7ffffff, 0x0, 0x0, 0x0, 0x0, 0x0, 0x0, 0x0⟩ /- MEM_MCC_LBASE -/,
  ⟨0x10c, 0x0, 1, 0x7fff, 0x0, 0x0, 0x0, 0x0, 0x0, 0x0, 0x0⟩ /- MEM_MCC_LLEN -/,
  ⟨0x110, 0x0, 1, 0x0, 0x0, 0x0, 0x0, 0x3, 0x0, 0x0, 0x0⟩ /- MEM_MCC_OP -/
]

/-- Registers of MEM. -/
def regRowsMem : List RegRow :=
  regRowsMem1 ++ regRowsMem2

/-- Registers of TTB. -/
def regRowsTtb : List RegRow := [
  ⟨0x0, 0x0, 1, 0xf, 0x0, 0x0, 0x0, 0x0, 0x0, 0x0, 0x0⟩ /- TTB_CTL -/,
  ⟨0x4, 0x0, 1, 0x0, 0x0, 0x300, 0x0, 0x0, 0x0, 0x18, 0x0⟩ /- TTB_STS -/,
  ⟨0x8, 0x0, 1, 0x0, 0x0, 0x0, 0x0, 0x0, 0x0, 0x0, 0x0⟩ /- TTB_NOW_LO -/,
  ⟨0xc, 0x0, 1, 0x0, 0x0, 0x0, 0x0, 0x0, 0x0, 0x0, 0x0⟩ /- TTB_NOW_HI -/,
  ⟨0x10, 0x0, 1, 0x0, 0x0, 0x0, 0x0, 0x0, 0x0, 0x0, 0x0⟩ /- TTB_CLK_LO -/,
  ⟨0x14, 0x0, 1, 0x0, 0x0, 0x0, 0x0, 0x0, 0x0, 0x0, 0x0⟩ /- TTB_CLK_HI -/,
  ⟨0x20, 0x0, 1, 0x0, 0x0, 0x0, 0x0, 0x0, 0x0, 0x0, 0x0⟩ /- TTB_SNAPANG_LO -/,
  ⟨0x24, 0x0, 1, 0x0, 0x0, 0x0, 0x0, 0x0, 0x0, 0x0, 0x0⟩ /- TTB_SNAPANG_HI -/,
  ⟨0x28, 0x0, 1, 0x0, 0x0, 0x0, 0x0, 0x0, 0x0, 0x0, 0x0⟩ /- TTB_SNAPCLK_LO -/,
  ⟨0x2c, 0x0, 1, 0x0, 0x0, 0x0, 0x0, 0x0, 0x0, 0x0, 0x0⟩ /- TTB_SNAPCLK_HI -/,
  ⟨0x18, 0x0, 1, 0x0, 0x0, 0x0, 0x0, 0x3, 0x0, 0x0, 0x0⟩ /- TTB_SNAP -/,
  ⟨0x30, 0x0, 1, 0x0, 0x0, 0x0, 0x0, 0x0, 0x0, 0x0, 0x0⟩ /- TTB_INC -/,
  ⟨0x34, 0x0, 1, 0x0, 0xffffffff, 0x0, 0x0, 0x0, 0x0, 0x41000420, 0x0⟩ /- TTB_LOCKCFG -/,
  ⟨0x38, 0x0, 1, 0x0, 0x1ffffff, 0x0, 0x0, 0x0, 0x0, 0x0, 0x0⟩ /- TTB_SKEW -/,
  ⟨0x3c, 0x0, 1, 0x0, 0x0, 0x0, 0x0, 0x0, 0x0, 0x0, 0x0⟩ /- TTB_PHERR -/,
  ⟨0x40, 0x0, 1, 0x0, 0x0, 0x0, 0x0, 0x0, 0x0, 0x0, 0x0⟩ /- TTB_MISS_LO -/,
  ⟨0x44, 0x0, 1, 0x0, 0x0, 0x0, 0x0, 0x0, 0x0, 0x0, 0x0⟩ /- TTB_MISS_HI -/,
  ⟨0x48, 0x0, 1, 0x0, 0x0, 0x0, 0x0, 0x0, 0x0, 0x0, 0x0⟩ /- TTB_TWERR -/,
  ⟨0x100, 0x0, 1, 0x0, 0x0, 0xffffffff, 0x0, 0x0, 0x0, 0x0, 0x0⟩ /- TTB_FIRED_LO -/,
  ⟨0x104, 0x0, 1, 0x0, 0x0, 0xffffffff, 0x0, 0x0, 0x0, 0x0, 0x0⟩ /- TTB_FIRED_HI -/,
  ⟨0x400, 0x10, 64, 0xffffffff, 0x0, 0x0, 0x0, 0x0, 0x0, 0x0, 0x0⟩ /- TTB_SLOT_TGT_LO -/,
  ⟨0x404, 0x10, 64, 0xffffffff, 0x0, 0x0, 0x0, 0x0, 0x0, 0x0, 0x0⟩ /- TTB_SLOT_TGT_HI -/,
  ⟨0x408, 0x10, 64, 0xfffffff0, 0x0, 0x0, 0x0, 0x0, 0x0, 0x0, 0x0⟩ /- TTB_SLOT_PER -/,
  ⟨0x40c, 0x10, 64, 0x1f, 0x0, 0x0, 0x0, 0x0, 0x0, 0x0, 0x0⟩ /- TTB_SLOT_CTL -/
]

/-- Registers of SPC. -/
def regRowsSpc : List RegRow := [
  ⟨0x0, 0x0, 1, 0x3, 0x0, 0x0, 0x0, 0x4, 0x0, 0x2, 0x0⟩ /- SPC_CTL -/,
  ⟨0x4, 0x0, 1, 0x0, 0x0, 0x180, 0x0, 0x0, 0x0, 0x0, 0x0⟩ /- SPC_STS -/,
  ⟨0x8, 0x0, 1, 0x7, 0x0, 0x0, 0x0, 0x0, 0x0, 0x5, 0x0⟩ /- SPC_TARGET -/,
  ⟨0xc, 0x0, 1, 0x0, 0x0, 0x0, 0x0, 0x0, 0x0, 0x0, 0x0⟩ /- SPC_SPEED -/,
  ⟨0x10, 0x0, 1, 0x0, 0xffff000f, 0x0, 0x0, 0x0, 0x0, 0x5dc0004, 0x0⟩ /- SPC_MOTOR -/,
  ⟨0x14, 0x0, 1, 0x0, 0xffffffff, 0x0, 0x0, 0x0, 0x0, 0x28144e20, 0x0⟩ /- SPC_PWM -/,
  ⟨0x18, 0x0, 1, 0x0, 0xffffffff, 0x0, 0x0, 0x0, 0x0, 0x1001000, 0x0⟩ /- SPC_ILOOP -/,
  ⟨0x1c, 0x0, 1, 0x0, 0xffffffff, 0x0, 0x0, 0x0, 0x0, 0x100800, 0x0⟩ /- SPC_SLOOP -/,
  ⟨0x20, 0x0, 1, 0x0, 0xfffffff, 0x0, 0x0, 0x0, 0x0, 0x81f43e8, 0x0⟩ /- SPC_OBS -/,
  ⟨0x24, 0x0, 1, 0x0, 0xff0fffff, 0x0, 0x0, 0x0, 0x0, 0x1e028014, 0x0⟩ /- SPC_START -/,
  ⟨0x28, 0x0, 1, 0x0, 0xfff, 0x0, 0x0, 0x0, 0x0, 0x32, 0x0⟩ /- SPC_CATCH -/,
  ⟨0x2c, 0x0, 1, 0x0, 0xffffffff, 0x0, 0x0, 0x0, 0x0, 0x64258258, 0x0⟩ /- SPC_RAMP -/,
  ⟨0x30, 0x0, 1, 0x0, 0xffffffff, 0x0, 0x0, 0x0, 0x0, 0x32d887d0, 0x0⟩ /- SPC_LIMIT -/,
  ⟨0x34, 0x0, 1, 0x0, 0xfff, 0x0, 0x0, 0x0, 0x0, 0x3e8, 0x0⟩ /- SPC_BRAKE -/,
  ⟨0x38, 0x0, 1, 0x0, 0xffffffff, 0x0, 0x0, 0x0, 0x0, 0xc0960961, 0x0⟩ /- SPC_HARV -/,
  ⟨0x3c, 0x0, 1, 0x0, 0x0, 0x0, 0x0, 0x0, 0x0, 0x0, 0x0⟩ /- SPC_KE -/,
  ⟨0x40, 0x0, 1, 0x0, 0x0, 0x0, 0x0, 0x0, 0x0, 0x0, 0x0⟩ /- SPC_LOSSCNT_LO -/,
  ⟨0x44, 0x0, 1, 0x0, 0x0, 0x0, 0x0, 0x0, 0x0, 0x0, 0x0⟩ /- SPC_LOSSCNT_HI -/,
  ⟨0x100, 0x4, 32, 0x0, 0xffffffff, 0x0, 0x0, 0x0, 0x0, 0x0, 0x0⟩ /- SPC_PADV -/
]

/-- Registers of SAC (part 1). -/
def regRowsSac1 : List RegRow := [
  ⟨0x0, 0x0, 1, 0x1, 0x0, 0x0, 0x0, 0x6, 0x0, 0x0, 0x0⟩ /- SAC_CTL -/,
  ⟨0x4, 0x0, 1, 0x0, 0x0, 0x0, 0x0, 0x1ff, 0x0, 0x0, 0x0⟩ /- SAC_CMD -/,
  ⟨0x8, 0x0, 1, 0x0, 0x0, 0xc0, 0x0, 0x0, 0x0, 0xa800, 0x0⟩ /- SAC_STS -/,
  ⟨0xc, 0x0, 1, 0xffffff, 0x0, 0x0, 0x0, 0x0, 0x0, 0x0, 0x0⟩ /- SAC_TGT -/,
  ⟨0x10, 0x0, 1, 0xffff, 0x0, 0x0, 0x0, 0x0, 0x0, 0x0, 0x0⟩ /- SAC_OFFS -/,
  ⟨0x14, 0x0, 1, 0xffff, 0x0, 0x0, 0x0, 0x0, 0x0, 0x0, 0x0⟩ /- SAC_TSTI -/,
  ⟨0x18, 0x0, 1, 0x0, 0x0, 0x0, 0x0, 0x1, 0x0, 0x0, 0x0⟩ /- SAC_CCTL -/,
  ⟨0x20, 0x0, 1, 0x0, 0x0, 0x0, 0x0, 0x0, 0x0, 0x0, 0x0⟩ /- SAC_POS_LO -/,
  ⟨0x24, 0x0, 1, 0x0, 0x0, 0x0, 0x0, 0x0, 0x0, 0x0, 0x0⟩ /- SAC_POS_HI -/,
  ⟨0x28, 0x0, 1, 0x0, 0x0, 0x0, 0x0, 0x0, 0x0, 0x0, 0x0⟩ /- SAC_INT_LO -/,
  ⟨0x2c, 0x0, 1, 0x0, 0x0, 0x0, 0x0, 0x0, 0x0, 0x0, 0x0⟩ /- SAC_INT_HI -/,
  ⟨0x30, 0x0, 1, 0x0, 0x0, 0x0, 0x0, 0x0, 0x0, 0x0, 0x0⟩ /- SAC_DAC -/,
  ⟨0x34, 0x0, 1, 0x0, 0x0, 0x0, 0x0, 0x0, 0x0, 0x0, 0x0⟩ /- SAC_IMEAS -/,
  ⟨0x38, 0x0, 1, 0x0, 0x0, 0x0, 0x0, 0x0, 0x0, 0x0, 0x0⟩ /- SAC_OTEST -/,
  ⟨0x40, 0x0, 1, 0x0, 0xfffff1ff, 0x0, 0x0, 0x0, 0x0, 0x20040141, 0x0⟩ /- SAC_SCFG -/,
  ⟨0x44, 0x0, 1, 0x0, 0x1fffffff, 0x0, 0x0, 0x0, 0x0, 0x1319a0cd, 0x0⟩ /- SAC_WFG -/,
  ⟨0x48, 0x0, 1, 0x0, 0xffffffff, 0x0, 0x0, 0x0, 0x0, 0x10000100, 0x0⟩ /- SAC_SUP -/,
  ⟨0x4c, 0x0, 1, 0x0, 0x3ff, 0x0, 0x0, 0x0, 0x0, 0x1db, 0x0⟩ /- SAC_SUPT -/,
  ⟨0x50, 0x0, 1, 0x0, 0xffffffff, 0x0, 0x0, 0x0, 0x0, 0x10004010, 0x0⟩ /- SAC_PLAU -/,
  ⟨0x54, 0x0, 1, 0x0, 0xffffffff, 0x0, 0x0, 0x0, 0x0, 0x14200200, 0x0⟩ /- SAC_LOAD -/,
  ⟨0x58, 0x0, 1, 0x0, 0xffffffff, 0x0, 0x0, 0x0, 0x0, 0x1e000000, 0x0⟩ /- SAC_RAMP -/,
  ⟨0x60, 0x0, 1, 0x0, 0x1fffff, 0x0, 0x0, 0x0, 0x0, 0x28300, 0x0⟩ /- SAC_BSP1 -/,
  ⟨0x64, 0x0, 1, 0x0, 0xfffff, 0x0, 0x0, 0x0, 0x0, 0x3c180, 0x0⟩ /- SAC_BSP2 -/,
  ⟨0x68, 0x0, 1, 0x0, 0xfffff, 0x0, 0x0, 0x0, 0x0, 0x14100, 0x0⟩ /- SAC_BSP3 -/
]

/-- Registers of SAC (part 2). -/
def regRowsSac2 : List RegRow := [
  ⟨0x70, 0x0, 1, 0x0, 0x0, 0x0, 0x0, 0x0, 0x0, 0x0, 0x0⟩ /- SAC_MISS_LO -/,
  ⟨0x74, 0x0, 1, 0x0, 0x0, 0x0, 0x0, 0x0, 0x0, 0x0, 0x0⟩ /- SAC_MISS_HI -/,
  ⟨0x78, 0x0, 1, 0x0, 0x0, 0x0, 0x0, 0x0, 0x0, 0x0, 0x0⟩ /- SAC_WFCNT_LO -/,
  ⟨0x7c, 0x0, 1, 0x0, 0x0, 0x0, 0x0, 0x0, 0x0, 0x0, 0x0⟩ /- SAC_WFCNT_HI -/,
  ⟨0x100, 0x20, 5, 0xffffffff, 0x0, 0x0, 0x0, 0x0, 0x0, 0x0, 0x0⟩ /- SAC_BANK_C0 -/,
  ⟨0x104, 0x20, 5, 0xffffffff, 0x0, 0x0, 0x0, 0x0, 0x0, 0x0, 0x0⟩ /- SAC_BANK_C1 -/,
  ⟨0x108, 0x20, 5, 0xffffffff, 0x0, 0x0, 0x0, 0x0, 0x0, 0x0, 0x0⟩ /- SAC_BANK_C2 -/,
  ⟨0x10c, 0x20, 5, 0xffffffff, 0x0, 0x0, 0x0, 0x0, 0x0, 0x0, 0x0⟩ /- SAC_BANK_C3 -/,
  ⟨0x110, 0x20, 5, 0xffffffff, 0x0, 0x0, 0x0, 0x0, 0x0, 0x0, 0x0⟩ /- SAC_BANK_C4 -/,
  ⟨0x114, 0x20, 5, 0xffffffff, 0x0, 0x0, 0x0, 0x0, 0x0, 0x0, 0x0⟩ /- SAC_BANK_C5 -/,
  ⟨0x118, 0x20, 5, 0xffffff, 0x0, 0x0, 0x0, 0x0, 0x0, 0x0, 0x0⟩ /- SAC_BANK_C6 -/,
  ⟨0x11c, 0x20, 5, 0x0, 0x0, 0x0, 0x0, 0x0, 0x0, 0x0, 0x0⟩ /- SAC_BANK_C7 -/,
  ⟨0x200, 0x4, 12, 0xffffffff, 0x0, 0x0, 0x0, 0x0, 0x0, 0x1000, 0x0⟩ /- SAC_OTCAL -/
]

/-- Registers of SAC. -/
def regRowsSac : List RegRow :=
  regRowsSac1 ++ regRowsSac2

/-- Registers of MSQ (part 1). -/
def regRowsMsq1 : List RegRow := [
  ⟨0x0, 0x0, 1, 0x1, 0x0, 0x0, 0x0, 0x2, 0x0, 0x0, 0x0⟩ /- MSQ_CTL -/,
  ⟨0x4, 0x0, 1, 0x0, 0x0, 0x60, 0x0, 0x0, 0x0, 0x0, 0x0⟩ /- MSQ_STS -/,
  ⟨0x8, 0x0, 1, 0x0, 0x0, 0x0, 0x0, 0x0, 0x0, 0x0, 0x0⟩ /- MSQ_PC -/,
  ⟨0xc, 0x0, 1, 0x0, 0x0, 0x0, 0x0, 0x0, 0xffff7, 0x0, 0x0⟩ /- MSQ_MCK -/,
  ⟨0x10, 0x0, 1, 0x0, 0x0, 0x0, 0x0, 0x0, 0x7fff, 0x0, 0x0⟩ /- MSQ_HALTPC -/,
  ⟨0x14, 0x0, 1, 0x0, 0x0, 0x0, 0x0, 0x0, 0x0, 0x0, 0x0⟩ /- MSQ_EVP -/,
  ⟨0x18, 0x0, 1, 0xffffffff, 0x0, 0x0, 0x0, 0x0, 0x0, 0x0, 0x0⟩ /- MSQ_EVM -/,
  ⟨0x1c, 0x0, 1, 0x0, 0xffff, 0x0, 0x0, 0x0, 0x0, 0x400, 0x0⟩ /- MSQ_WLIM -/,
  ⟨0x20, 0x0, 1, 0x0, 0x0, 0x0, 0x0, 0x1, 0x0, 0x0, 0x0⟩ /- MSQ_OPSUB -/,
  ⟨0x24, 0x0, 1, 0x0, 0x0, 0x0, 0x0, 0x1, 0x0, 0x0, 0x0⟩ /- MSQ_CPLPOP -/,
  ⟨0x30, 0x4, 4, 0x0, 0x0, 0x0, 0x0, 0x0, 0x0, 0x0, 0x0⟩ /- MSQ_CPL -/,
  ⟨0x40, 0x4, 16, 0xffffffff, 0x0, 0x0, 0x0, 0x0, 0x0, 0x0, 0x0⟩ /- MSQ_OPD -/,
  ⟨0x80, 0x0, 1, 0x0, 0x0, 0x0, 0x0, 0x0, 0x0, 0x0, 0x0⟩ /- MSQ_OPS_LO -/,
  ⟨0x84, 0x0, 1, 0x0, 0x0, 0x0, 0x0, 0x0, 0x0, 0x0, 0x0⟩ /- MSQ_OPS_HI -/,
  ⟨0x88, 0x0, 1, 0x0, 0x0, 0x0, 0x0, 0x0, 0x0, 0x0, 0x0⟩ /- MSQ_PART_LO -/,
  ⟨0x8c, 0x0, 1, 0x0, 0x0, 0x0, 0x0, 0x0, 0x0, 0x0, 0x0⟩ /- MSQ_PART_HI -/,
  ⟨0x90, 0x0, 1, 0x0, 0xffffffff, 0x0, 0x0, 0x0, 0x0, 0x0, 0x0⟩ /- MSQ_PLD -/,
  ⟨0x94, 0x0, 1, 0x0, 0x0, 0x0, 0x0, 0x1, 0x0, 0x0, 0x0⟩ /- MSQ_PLDCTL -/,
  ⟨0x98, 0x0, 1, 0x0, 0x0, 0x2, 0x0, 0x0, 0x0, 0x0, 0x0⟩ /- MSQ_PSTS -/,
  ⟨0x100, 0x4, 64, 0x0, 0x0, 0x0, 0x0, 0x0, 0x0, 0x0, 0x0⟩ /- MSQ_OVL -/,
  ⟨0x400, 0x4, 1, 0x0, 0x0, 0x0, 0x0, 0x0, 0x0, 0x8, 0x0⟩ /- MSQ_DISP -/,
  ⟨0x404, 0x4, 1, 0x0, 0x0, 0x0, 0x0, 0x0, 0x0, 0x200, 0x0⟩ /- MSQ_DISP -/,
  ⟨0x408, 0x4, 1, 0x0, 0x0, 0x0, 0x0, 0x0, 0x0, 0x400, 0x0⟩ /- MSQ_DISP -/,
  ⟨0x40c, 0x4, 1, 0x0, 0x0, 0x0, 0x0, 0x0, 0x0, 0x300, 0x0⟩ /- MSQ_DISP -/
]

/-- Registers of MSQ (part 2). -/
def regRowsMsq2 : List RegRow := [
  ⟨0x410, 0x4, 1, 0x0, 0x0, 0x0, 0x0, 0x0, 0x0, 0x600, 0x0⟩ /- MSQ_DISP -/,
  ⟨0x414, 0x4, 1, 0x0, 0x0, 0x0, 0x0, 0x0, 0x0, 0x700, 0x0⟩ /- MSQ_DISP -/,
  ⟨0x418, 0x4, 1, 0x0, 0x0, 0x0, 0x0, 0x0, 0x0, 0x180, 0x0⟩ /- MSQ_DISP -/,
  ⟨0x41c, 0x4, 217, 0x0, 0x0, 0x0, 0x0, 0x0, 0x0, 0x8, 0x0⟩ /- MSQ_DISP -/,
  ⟨0x780, 0x4, 32, 0x0, 0x0, 0x0, 0x0, 0x0, 0x0, 0x40, 0x8⟩ /- MSQ_DISP -/
]

/-- Registers of MSQ. -/
def regRowsMsq : List RegRow :=
  regRowsMsq1 ++ regRowsMsq2

/-- Registers of RWC (part 1). -/
def regRowsRwc1 : List RegRow := [
  ⟨0x0, 0x0, 1, 0x1, 0x0, 0x0, 0x0, 0x2, 0x0, 0x0, 0x0⟩ /- RWC_CTL -/,
  ⟨0x4, 0x0, 1, 0x0, 0x0, 0x34, 0x0, 0x0, 0x0, 0x40, 0x0⟩ /- RWC_STS -/,
  ⟨0x8, 0x0, 1, 0x1ffff, 0x0, 0x0, 0x0, 0x0, 0x0, 0x13d2b, 0x0⟩ /- RWC_DCFG -/,
  ⟨0xc, 0x0, 1, 0x0, 0xfff, 0x0, 0x0, 0x0, 0x0, 0x10f, 0x0⟩ /- RWC_PSC -/,
  ⟨0x10, 0x0, 1, 0x0, 0x0, 0x0, 0x0, 0xc000ffff, 0x0, 0x0, 0x0⟩ /- RWC_PSCMD -/,
  ⟨0x14, 0x0, 1, 0xffff, 0x0, 0x0, 0x0, 0x0, 0x0, 0x0, 0x0⟩ /- RWC_PSDATA -/,
  ⟨0x18, 0x0, 1, 0x0, 0xfffff, 0x0, 0x0, 0x0, 0x0, 0x0, 0x0⟩ /- RWC_PMAP -/,
  ⟨0x20, 0x0, 1, 0x0, 0x0, 0x0, 0x0, 0x0, 0x0, 0x0, 0x0⟩ /- RWC_SECT_LO -/,
  ⟨0x24, 0x0, 1, 0x0, 0x0, 0x0, 0x0, 0x0, 0x0, 0x0, 0x0⟩ /- RWC_SECT_HI -/,
  ⟨0x28, 0x0, 1, 0x0, 0x0, 0x0, 0x0, 0x0, 0x0, 0x0, 0x0⟩ /- RWC_FAIL_LO -/,
  ⟨0x2c, 0x0, 1, 0x0, 0x0, 0x0, 0x0, 0x0, 0x0, 0x0, 0x0⟩ /- RWC_FAIL_HI -/,
  ⟨0x30, 0x0, 1, 0x0, 0x0, 0x0, 0x0, 0x0, 0x0, 0x0, 0x0⟩ /- RWC_SMISS_LO -/,
  ⟨0x34, 0x0, 1, 0x0, 0x0, 0x0, 0x0, 0x0, 0x0, 0x0, 0x0⟩ /- RWC_SMISS_HI -/,
  ⟨0x38, 0x0, 1, 0x0, 0x0, 0x0, 0x0, 0x0, 0x0, 0x0, 0x0⟩ /- RWC_LATE_CPL_LO -/,
  ⟨0x3c, 0x0, 1, 0x0, 0x0, 0x0, 0x0, 0x0, 0x0, 0x0, 0x0⟩ /- RWC_LATE_CPL_HI -/,
  ⟨0x100, 0x4, 64, 0x0, 0x1ffff, 0x0, 0x0, 0x0, 0x0, 0x0, 0x0⟩ /- RWC_FMT -/,
  ⟨0x1000, 0x80, 64, 0xffffff, 0x0, 0x0, 0x0, 0x0, 0x0, 0x0, 0x0⟩ /- RWC_PSET_W0 -/,
  ⟨0x1004, 0x80, 64, 0xffffffff, 0x0, 0x0, 0x0, 0x0, 0x0, 0x0, 0x0⟩ /- RWC_PSET_W1 -/,
  ⟨0x1008, 0x80, 64, 0xffff, 0x0, 0x0, 0x0, 0x0, 0x0, 0x0, 0x0⟩ /- RWC_PSET_W2 -/,
  ⟨0x100c, 0x80, 64, 0xffffffff, 0x0, 0x0, 0x0, 0x0, 0x0, 0x0, 0x0⟩ /- RWC_PSET_W3 -/,
  ⟨0x1010, 0x80, 64, 0xffffffff, 0x0, 0x0, 0x0, 0x0, 0x0, 0x0, 0x0⟩ /- RWC_PSET_W4 -/,
  ⟨0x1014, 0x80, 64, 0xffffffff, 0x0, 0x0, 0x0, 0x0, 0x0, 0x0, 0x0⟩ /- RWC_PSET_W5 -/,
  ⟨0x1018, 0x80, 64, 0xffffffff, 0x0, 0x0, 0x0, 0x0, 0x0, 0x0, 0x0⟩ /- RWC_PSET_W6 -/,
  ⟨0x101c, 0x80, 64, 0xffffffff, 0x0, 0x0, 0x0, 0x0, 0x0, 0x0, 0x0⟩ /- RWC_PSET_W7 -/
]

/-- Registers of RWC (part 2). -/
def regRowsRwc2 : List RegRow := [
  ⟨0x1020, 0x80, 64, 0xffffffff, 0x0, 0x0, 0x0, 0x0, 0x0, 0x0, 0x0⟩ /- RWC_PSET_W8 -/,
  ⟨0x1024, 0x80, 64, 0xffffffff, 0x0, 0x0, 0x0, 0x0, 0x0, 0x0, 0x0⟩ /- RWC_PSET_W9 -/,
  ⟨0x1028, 0x80, 64, 0xffffffff, 0x0, 0x0, 0x0, 0x0, 0x0, 0x0, 0x0⟩ /- RWC_PSET_W10 -/,
  ⟨0x102c, 0x80, 64, 0xffffffff, 0x0, 0x0, 0x0, 0x0, 0x0, 0x0, 0x0⟩ /- RWC_PSET_W11 -/,
  ⟨0x1030, 0x80, 64, 0xffffffff, 0x0, 0x0, 0x0, 0x0, 0x0, 0x0, 0x0⟩ /- RWC_PSET_W12 -/,
  ⟨0x1034, 0x80, 64, 0xffffffff, 0x0, 0x0, 0x0, 0x0, 0x0, 0x0, 0x0⟩ /- RWC_PSET_W13 -/,
  ⟨0x1038, 0x80, 64, 0xffffffff, 0x0, 0x0, 0x0, 0x0, 0x0, 0x0, 0x0⟩ /- RWC_PSET_W14 -/,
  ⟨0x103c, 0x80, 64, 0xffffffff, 0x0, 0x0, 0x0, 0x0, 0x0, 0x0, 0x0⟩ /- RWC_PSET_W15 -/,
  ⟨0x1040, 0x80, 64, 0xffffffff, 0x0, 0x0, 0x0, 0x0, 0x0, 0x0, 0x0⟩ /- RWC_PSET_W16 -/,
  ⟨0x1044, 0x80, 64, 0xffffffff, 0x0, 0x0, 0x0, 0x0, 0x0, 0x0, 0x0⟩ /- RWC_PSET_W17 -/,
  ⟨0x1048, 0x80, 64, 0xffffffff, 0x0, 0x0, 0x0, 0x0, 0x0, 0x0, 0x0⟩ /- RWC_PSET_W18 -/,
  ⟨0x104c, 0x80, 64, 0xffffffff, 0x0, 0x0, 0x0, 0x0, 0x0, 0x0, 0x0⟩ /- RWC_PSET_W19 -/,
  ⟨0x1050, 0x80, 64, 0xff, 0x0, 0x0, 0x0, 0x0, 0x0, 0x0, 0x0⟩ /- RWC_PSET_W20 -/,
  ⟨0x1054, 0x80, 64, 0xffffffff, 0x0, 0x0, 0x0, 0x0, 0x0, 0x0, 0x0⟩ /- RWC_PSET_W21 -/,
  ⟨0x1058, 0x80, 64, 0xffffffff, 0x0, 0x0, 0x0, 0x0, 0x0, 0x0, 0x0⟩ /- RWC_PSET_W22 -/,
  ⟨0x105c, 0x80, 64, 0xffffffff, 0x0, 0x0, 0x0, 0x0, 0x0, 0x0, 0x0⟩ /- RWC_PSET_W23 -/,
  ⟨0x1060, 0x80, 64, 0xffffffff, 0x0, 0x0, 0x0, 0x0, 0x0, 0x0, 0x0⟩ /- RWC_PSET_W24 -/,
  ⟨0x1064, 0x80, 64, 0xffffffff, 0x0, 0x0, 0x0, 0x0, 0x0, 0x0, 0x0⟩ /- RWC_PSET_W25 -/,
  ⟨0x1068, 0x80, 64, 0xffffffff, 0x0, 0x0, 0x0, 0x0, 0x0, 0x0, 0x0⟩ /- RWC_PSET_W26 -/,
  ⟨0x106c, 0x80, 64, 0xffffffff, 0x0, 0x0, 0x0, 0x0, 0x0, 0x0, 0x0⟩ /- RWC_PSET_W27 -/,
  ⟨0x1070, 0x80, 64, 0xffffffff, 0x0, 0x0, 0x0, 0x0, 0x0, 0x0, 0x0⟩ /- RWC_PSET_W28 -/,
  ⟨0x1074, 0x80, 64, 0x3f3f, 0x0, 0x0, 0x0, 0x0, 0x0, 0x0, 0x0⟩ /- RWC_PSET_W29 -/,
  ⟨0x1078, 0x80, 64, 0xffff, 0x0, 0x0, 0x0, 0x0, 0x0, 0x0, 0x0⟩ /- RWC_PSET_W30 -/,
  ⟨0x107c, 0x80, 64, 0x0, 0x0, 0x0, 0x0, 0x0, 0x0, 0x0, 0x0⟩ /- RWC_PSET_W31 -/
]

/-- Registers of RWC. -/
def regRowsRwc : List RegRow :=
  regRowsRwc1 ++ regRowsRwc2

/-- Registers of DDP. -/
def regRowsDdp : List RegRow := [
  ⟨0x0, 0x0, 1, 0x1, 0x0, 0x0, 0x0, 0x2, 0x0, 0x0, 0x0⟩ /- DDP_CTL -/,
  ⟨0x4, 0x0, 1, 0x0, 0x0, 0x30, 0x0, 0x0, 0x0, 0x0, 0x0⟩ /- DDP_STS -/,
  ⟨0x8, 0x4, 2, 0xfffff, 0x0, 0x0, 0x0, 0x0, 0x0, 0x1b063, 0x0⟩ /- DDP_CFG -/,
  ⟨0x20, 0x0, 1, 0x0, 0x0, 0x0, 0x0, 0x0, 0x0, 0x0, 0x0⟩ /- DDP_JOBS_LO -/,
  ⟨0x24, 0x0, 1, 0x0, 0x0, 0x0, 0x0, 0x0, 0x0, 0x0, 0x0⟩ /- DDP_JOBS_HI -/,
  ⟨0x28, 0x0, 1, 0x0, 0x0, 0x0, 0x0, 0x0, 0x0, 0x0, 0x0⟩ /- DDP_RECOV_LO -/,
  ⟨0x2c, 0x0, 1, 0x0, 0x0, 0x0, 0x0, 0x0, 0x0, 0x0, 0x0⟩ /- DDP_RECOV_HI -/,
  ⟨0x30, 0x0, 1, 0x0, 0x0, 0x0, 0x0, 0x0, 0x0, 0x0, 0x0⟩ /- DDP_UNREC_LO -/,
  ⟨0x34, 0x0, 1, 0x0, 0x0, 0x0, 0x0, 0x0, 0x0, 0x0, 0x0⟩ /- DDP_UNREC_HI -/,
  ⟨0x38, 0x0, 1, 0x0, 0x0, 0x0, 0x0, 0x0, 0x0, 0x0, 0x0⟩ /- DDP_REVS_LO -/,
  ⟨0x3c, 0x0, 1, 0x0, 0x0, 0x0, 0x0, 0x0, 0x0, 0x0, 0x0⟩ /- DDP_REVS_HI -/,
  ⟨0x40, 0x0, 1, 0x0, 0x0, 0x0, 0x0, 0x0, 0x0, 0x0, 0x0⟩ /- DDP_REFUSED_LO -/,
  ⟨0x44, 0x0, 1, 0x0, 0x0, 0x0, 0x0, 0x0, 0x0, 0x0, 0x0⟩ /- DDP_REFUSED_HI -/,
  ⟨0x100, 0x4, 32, 0xffffffff, 0x0, 0x0, 0x0, 0x0, 0x0, 0x0, 0x0⟩ /- DDP_LAD -/,
  ⟨0x200, 0x4, 4, 0x0, 0x0, 0x0, 0x0, 0x0, 0x0, 0x0, 0x0⟩ /- DDP_ENG -/
]

/-- Registers of ASC (part 1). -/
def regRowsAsc1 : List RegRow := [
  ⟨0x0, 0x0, 1, 0x1, 0x6, 0x0, 0x0, 0x8, 0x0, 0x0, 0x0⟩ /- ASC_CTL -/,
  ⟨0x4, 0x0, 1, 0x0, 0x0, 0xe00, 0x0, 0x0, 0x0, 0x0, 0x0⟩ /- ASC_STS -/,
  ⟨0x8, 0x0, 1, 0x0, 0x0, 0x0, 0x3, 0x0, 0x0, 0x0, 0x0⟩ /- ASC_CCTL -/,
  ⟨0x10, 0x4, 2, 0x0, 0xffffffff, 0x0, 0x0, 0x0, 0x0, 0x0, 0x0⟩ /- ASC_PADDR -/,
  ⟨0x18, 0x4, 2, 0x0, 0xfff7ffff, 0x0, 0x0, 0x0, 0x0, 0x41031000, 0x0⟩ /- ASC_TEL -/,
  ⟨0x20, 0x0, 1, 0x0, 0xffffff, 0x0, 0x0, 0x0, 0x0, 0x2780a, 0x0⟩ /- ASC_TW -/,
  ⟨0x24, 0x0, 1, 0x0, 0x7fffffff, 0x0, 0x0, 0x0, 0x0, 0x3325786e, 0x0⟩ /- ASC_THR -/,
  ⟨0x28, 0x0, 1, 0x0, 0x1ffff, 0x0, 0x0, 0x0, 0x0, 0x12808, 0x0⟩ /- ASC_RECAL -/,
  ⟨0x2c, 0x0, 1, 0x0, 0x3fff, 0x0, 0x0, 0x0, 0x0, 0x3000, 0x0⟩ /- ASC_DTMASK -/,
  ⟨0x30, 0x0, 1, 0x0, 0x0, 0x0, 0x0, 0x0, 0x0, 0x0, 0x0⟩ /- ASC_DTEMP -/,
  ⟨0x34, 0x0, 1, 0x0, 0x0, 0x0, 0x0, 0x0, 0x0, 0x0, 0x0⟩ /- ASC_JTEMP -/,
  ⟨0x38, 0x0, 1, 0x0, 0x0, 0xfff0fff, 0x0, 0x0, 0x0, 0x0, 0x0⟩ /- ASC_HDIS -/,
  ⟨0x40, 0x4, 14, 0x0, 0x0, 0x0, 0x0, 0x0, 0x0, 0x0, 0x0⟩ /- ASC_TSEN -/,
  ⟨0x80, 0x0, 1, 0xfff04, 0x0, 0x0, 0x0, 0x3, 0x0, 0x80404, 0x0⟩ /- ASC_CALCTL -/,
  ⟨0x84, 0x0, 1, 0x0, 0x0, 0x0, 0x0, 0x0, 0x0, 0x0, 0x0⟩ /- ASC_CALSTS -/,
  ⟨0x88, 0x0, 1, 0x0, 0x0, 0x0, 0x0, 0x0, 0x0, 0x0, 0x0⟩ /- ASC_CALTIME_LO -/,
  ⟨0x8c, 0x0, 1, 0x0, 0x0, 0x0, 0x0, 0x0, 0x0, 0x0, 0x0⟩ /- ASC_CALTIME_HI -/,
  ⟨0x90, 0x0, 1, 0x0, 0x0, 0x0, 0x0, 0x0, 0x0, 0x4000, 0x0⟩ /- ASC_CALRES0 -/,
  ⟨0x94, 0x0, 1, 0x0, 0x0, 0x0, 0x0, 0x0, 0x0, 0x0, 0x0⟩ /- ASC_CALRES1 -/,
  ⟨0x98, 0x0, 1, 0x0, 0x0, 0x0, 0x0, 0x0, 0x0, 0x0, 0x0⟩ /- ASC_CALRES2 -/,
  ⟨0x9c, 0x0, 1, 0x0, 0x0, 0x0, 0x0, 0x0, 0x0, 0x0, 0x0⟩ /- ASC_CALRES3 -/,
  ⟨0xa0, 0x0, 1, 0x0, 0x0, 0x0, 0x0, 0x0, 0x0, 0x0, 0x0⟩ /- ASC_OVPCNT_LO -/,
  ⟨0xa4, 0x0, 1, 0x0, 0x0, 0x0, 0x0, 0x0, 0x0, 0x0, 0x0⟩ /- ASC_OVPCNT_HI -/,
  ⟨0xb0, 0x4, 4, 0x0, 0x0, 0x0, 0x0, 0xffffffff, 0x0, 0x0, 0x0⟩ /- ASC_CALBUF -/
]

/-- Registers of ASC (part 2). -/
def regRowsAsc2 : List RegRow := [
  ⟨0x100, 0x4, 8, 0x0, 0x0, 0x0, 0x0, 0x0, 0x0, 0x0, 0x0⟩ /- ASC_AGE -/,
  ⟨0x120, 0x0, 1, 0x0, 0xffff00, 0x0, 0x0, 0x0, 0x0, 0x1f400, 0x0⟩ /- ASC_AGESUM -/,
  ⟨0x400, 0x20, 12, 0xffffffff, 0x0, 0x0, 0x0, 0x0, 0x0, 0x0, 0x0⟩ /- ASC_SP_W0 -/,
  ⟨0x600, 0x20, 12, 0xffffffff, 0x0, 0x0, 0x0, 0x0, 0x0, 0x0, 0x0⟩ /- ASC_SP_W0 -/,
  ⟨0x404, 0x20, 12, 0xffffffff, 0x0, 0x0, 0x0, 0x0, 0x0, 0x0, 0x0⟩ /- ASC_SP_W1 -/,
  ⟨0x604, 0x20, 12, 0xffffffff, 0x0, 0x0, 0x0, 0x0, 0x0, 0x0, 0x0⟩ /- ASC_SP_W1 -/,
  ⟨0x408, 0x20, 12, 0xffffffff, 0x0, 0x0, 0x0, 0x0, 0x0, 0x0, 0x0⟩ /- ASC_SP_W2 -/,
  ⟨0x608, 0x20, 12, 0xffffffff, 0x0, 0x0, 0x0, 0x0, 0x0, 0x0, 0x0⟩ /- ASC_SP_W2 -/,
  ⟨0x40c, 0x20, 12, 0xffffffff, 0x0, 0x0, 0x0, 0x0, 0x0, 0x0, 0x0⟩ /- ASC_SP_W3 -/,
  ⟨0x60c, 0x20, 12, 0xffffffff, 0x0, 0x0, 0x0, 0x0, 0x0, 0x0, 0x0⟩ /- ASC_SP_W3 -/,
  ⟨0x410, 0x20, 12, 0xffffffff, 0x0, 0x0, 0x0, 0x0, 0x0, 0x0, 0x0⟩ /- ASC_SP_W4 -/,
  ⟨0x610, 0x20, 12, 0xffffffff, 0x0, 0x0, 0x0, 0x0, 0x0, 0x0, 0x0⟩ /- ASC_SP_W4 -/,
  ⟨0x414, 0x20, 12, 0xffffff, 0x0, 0x0, 0x0, 0x0, 0x0, 0x0, 0x0⟩ /- ASC_SP_W5 -/,
  ⟨0x614, 0x20, 12, 0xffffff, 0x0, 0x0, 0x0, 0x0, 0x0, 0x0, 0x0⟩ /- ASC_SP_W5 -/,
  ⟨0x418, 0x20, 12, 0xffffffff, 0x0, 0x0, 0x0, 0x0, 0x0, 0xffc00000, 0x0⟩ /- ASC_SP_W6 -/,
  ⟨0x618, 0x20, 12, 0xffffffff, 0x0, 0x0, 0x0, 0x0, 0x0, 0xffc00000, 0x0⟩ /- ASC_SP_W6 -/,
  ⟨0x41c, 0x20, 12, 0x0, 0x0, 0x0, 0x0, 0x0, 0x0, 0x0, 0x0⟩ /- ASC_SP_W7 -/,
  ⟨0x61c, 0x20, 12, 0x0, 0x0, 0x0, 0x0, 0x0, 0x0, 0x0, 0x0⟩ /- ASC_SP_W7 -/
]

/-- Registers of ASC. -/
def regRowsAsc : List RegRow :=
  regRowsAsc1 ++ regRowsAsc2

/-- Registers of FLT. -/
def regRowsFlt : List RegRow := [
  ⟨0x0, 0x0, 1, 0x0, 0x0, 0x0, 0x0, 0x1, 0x0, 0x0, 0x0⟩ /- FLT_CTL -/,
  ⟨0x4, 0x0, 1, 0x0, 0x0, 0x3f, 0x0, 0x0, 0x0, 0x0, 0x0⟩ /- FLT_STS -/,
  ⟨0x8, 0x0, 1, 0x0, 0x0, 0x0, 0x0, 0x0, 0x0, 0x0, 0x0⟩ /- FLT_MSG_LO -/,
  ⟨0xc, 0x0, 1, 0x0, 0x0, 0x0, 0x0, 0x0, 0x0, 0x0, 0x0⟩ /- FLT_MSG_HI -/,
  ⟨0x10, 0x0, 1, 0x0, 0x0, 0x0, 0x0, 0x0, 0x0, 0x0, 0x0⟩ /- FLT_DROP_LO -/,
  ⟨0x14, 0x0, 1, 0x0, 0x0, 0x0, 0x0, 0x0, 0x0, 0x0, 0x0⟩ /- FLT_DROP_HI -/,
  ⟨0x18, 0x0, 1, 0x0, 0x0, 0x0, 0x0, 0xffff, 0x0, 0x0, 0x0⟩ /- FLT_UNLOCK -/,
  ⟨0x1c, 0x0, 1, 0x0, 0x0, 0x0, 0x0, 0x1ffff, 0x0, 0x0, 0x0⟩ /- FLT_FORCE -/,
  ⟨0x20, 0x0, 1, 0x0, 0x0, 0x0, 0x0, 0x0, 0x0, 0x0, 0x0⟩ /- FLT_MON -/,
  ⟨0x24, 0x0, 1, 0x0, 0x0, 0x0, 0x0, 0x0, 0x1ffff, 0x0, 0x0⟩ /- FLT_FATAL -/
]

/-- Registers of BOK. -/
def regRowsBok : List RegRow := [
  ⟨0x0, 0x0, 1, 0x0, 0x0, 0x0, 0x0, 0x3, 0x0, 0x0, 0x0⟩ /- BOK_CTL -/,
  ⟨0x4, 0x0, 1, 0x0, 0x0, 0x4, 0x0, 0x0, 0x0, 0x0, 0x0⟩ /- BOK_STS -/,
  ⟨0x8, 0x0, 1, 0x0, 0x0, 0x0, 0x0, 0x0, 0x0, 0x0, 0x0⟩ /- BOK_HEAD_LO -/,
  ⟨0xc, 0x0, 1, 0x0, 0x0, 0x0, 0x0, 0x0, 0x0, 0x0, 0x0⟩ /- BOK_HEAD_HI -/,
  ⟨0x10, 0x0, 1, 0x0, 0xfff, 0x0, 0x0, 0x0, 0x0, 0x18, 0x0⟩ /- BOK_RATE -/,
  ⟨0x18, 0x0, 1, 0xffffffff, 0x0, 0x0, 0x0, 0x0, 0x0, 0x0, 0x0⟩ /- BOK_FWINFO_LO -/,
  ⟨0x1c, 0x0, 1, 0xffffffff, 0x0, 0x0, 0x0, 0x0, 0x0, 0x0, 0x0⟩ /- BOK_FWINFO_HI -/,
  ⟨0x20, 0x0, 1, 0x0, 0x0, 0x0, 0x0, 0x8000ffff, 0x0, 0x0, 0x0⟩ /- BOK_FWREC -/,
  ⟨0x28, 0x0, 1, 0x0, 0x0, 0x0, 0x0, 0x0, 0x0, 0x0, 0x0⟩ /- BOK_DROP_LO -/,
  ⟨0x2c, 0x0, 1, 0x0, 0x0, 0x0, 0x0, 0x0, 0x0, 0x0, 0x0⟩ /- BOK_DROP_HI -/,
  ⟨0x30, 0x0, 1, 0x0, 0x0, 0x0, 0x0, 0x0, 0x0, 0x0, 0x0⟩ /- BOK_SUPP_LO -/,
  ⟨0x34, 0x0, 1, 0x0, 0x0, 0x0, 0x0, 0x0, 0x0, 0x0, 0x0⟩ /- BOK_SUPP_HI -/
]

/-- Registers of SEC. -/
def regRowsSec : List RegRow := [
  ⟨0x0, 0x0, 1, 0x0, 0x0, 0x0, 0x0, 0x0, 0x0, 0x0, 0x0⟩ /- SEC_STS -/,
  ⟨0x4, 0x0, 1, 0x0, 0x0, 0x0, 0x0, 0x0, 0x0, 0x0, 0x0⟩ /- SEC_BOOTSTS -/,
  ⟨0x8, 0x0, 1, 0x0, 0xff, 0x0, 0x0, 0x0, 0x0, 0x0, 0x0⟩ /- SEC_SVN -/,
  ⟨0xc, 0x0, 1, 0x0, 0x0, 0x0, 0x0, 0x0, 0x1ffff, 0x0, 0x0⟩ /- SEC_TAMPER -/
]

/-- Registers of PWR. -/
def regRowsPwr : List RegRow := [
  ⟨0x0, 0x0, 1, 0x0, 0x1, 0x0, 0x0, 0x6, 0x0, 0x1, 0x0⟩ /- PWR_CTL -/,
  ⟨0x4, 0x0, 1, 0x0, 0x0, 0x4, 0x0, 0x0, 0x0, 0x0, 0x0⟩ /- PWR_STS -/,
  ⟨0x8, 0x0, 1, 0x0, 0xffffffff, 0x0, 0x0, 0x0, 0x0, 0x3c014064, 0x0⟩ /- PWR_HCFG -/,
  ⟨0xc, 0x0, 1, 0x0, 0xfffffff, 0x0, 0x0, 0x0, 0x0, 0x2ee02ee, 0x0⟩ /- PWR_HREQ -/,
  ⟨0x10, 0x0, 1, 0x0, 0x0, 0x0, 0x0, 0x0, 0x0, 0x0, 0x0⟩ /- PWR_HV -/,
  ⟨0x14, 0x0, 1, 0x0, 0x0, 0x0, 0x0, 0x0, 0x0, 0x0, 0x0⟩ /- PWR_HCAP -/,
  ⟨0x18, 0x0, 1, 0x0, 0x0, 0x0, 0x0, 0x0, 0x0, 0x0, 0x0⟩ /- PWR_HEN -/,
  ⟨0x1c, 0x0, 1, 0x0, 0xff, 0x0, 0x0, 0x0, 0x0, 0x8, 0x0⟩ /- PWR_PFCFG -/,
  ⟨0x20, 0x0, 1, 0x7fffffff, 0x0, 0x0, 0x0, 0x0, 0x0, 0x5031ea1, 0x0⟩ /- PWR_RG -/,
  ⟨0x24, 0x0, 1, 0x0, 0x0, 0x0, 0x0, 0x0, 0x0, 0x5, 0x0⟩ /- PWR_RGSTS -/,
  ⟨0x28, 0x0, 1, 0x0, 0xffffffff, 0x0, 0x0, 0x0, 0x0, 0x11840000, 0x0⟩ /- PWR_WAKEVEC -/,
  ⟨0x2c, 0x0, 1, 0x0, 0x0, 0x0, 0x0, 0x1, 0x0, 0x0, 0x0⟩ /- PWR_CORE -/,
  ⟨0x30, 0x0, 1, 0x0, 0x0, 0x0, 0x0, 0x0, 0x0, 0x0, 0x0⟩ /- PWR_POH -/,
  ⟨0x34, 0x0, 1, 0x0, 0x0, 0x0, 0x0, 0x0, 0x0, 0x0, 0x0⟩ /- PWR_SAVECNT -/,
  ⟨0x38, 0x0, 1, 0x0, 0x0, 0x0, 0x0, 0x0, 0x0, 0x0, 0x0⟩ /- PWR_RPBLK -/
]

/-- Registers of BRL. -/
def regRowsBrl : List RegRow := [
  ⟨0x0, 0x0, 1, 0x1, 0x0, 0x0, 0x0, 0xe, 0x0, 0x0, 0x0⟩ /- BRL_CTL -/,
  ⟨0x4, 0x0, 1, 0x0, 0x0, 0x200, 0x0, 0x0, 0x0, 0x0, 0x0⟩ /- BRL_STS -/,
  ⟨0x8, 0x0, 1, 0x0, 0xffffffff, 0x0, 0x0, 0x0, 0x0, 0x0, 0x0⟩ /- BRL_TWINID -/,
  ⟨0xc, 0x0, 1, 0x0, 0xfffff, 0x0, 0x0, 0x0, 0x0, 0x1440a, 0x0⟩ /- BRL_HB -/,
  ⟨0x10, 0x0, 1, 0x0, 0x0, 0x0, 0x0, 0x1, 0x0, 0x0, 0x0⟩ /- BRL_HBKICK -/,
  ⟨0x14, 0x0, 1, 0x0, 0xff, 0x0, 0x0, 0x0, 0x0, 0x64, 0x0⟩ /- BRL_TKCFG -/,
  ⟨0x18, 0x0, 1, 0x0, 0x0, 0x0, 0x0, 0x0, 0x0, 0x0, 0x0⟩ /- BRL_TKSTS -/,
  ⟨0x1c, 0x0, 1, 0x1, 0x0, 0x4, 0x0, 0x0, 0x0, 0x0, 0x0⟩ /- BRL_STEER -/,
  ⟨0x28, 0x0, 1, 0x0, 0x0, 0x0, 0x0, 0x0, 0x0, 0x0, 0x0⟩ /- BRL_DELAY -/,
  ⟨0x2c, 0x0, 1, 0x0, 0xfff, 0x0, 0x0, 0x0, 0x0, 0x64, 0x0⟩ /- BRL_XRDYT -/,
  ⟨0x30, 0x0, 1, 0x0, 0xfff, 0x0, 0x0, 0x0, 0x0, 0x0, 0x0⟩ /- BRL_MIRBASE -/,
  ⟨0x20, 0x4, 2, 0x0, 0x1ffffff, 0x0, 0x0, 0x0, 0x0, 0x0, 0x0⟩ /- BRL_PSKEW -/,
  ⟨0x40, 0x0, 1, 0x0, 0x0, 0x0, 0x0, 0x0, 0x0, 0x0, 0x0⟩ /- BRL_LATE_CPL_LO -/,
  ⟨0x44, 0x0, 1, 0x0, 0x0, 0x0, 0x0, 0x0, 0x0, 0x0, 0x0⟩ /- BRL_LATE_CPL_HI -/,
  ⟨0x48, 0x0, 1, 0x0, 0x0, 0x0, 0x0, 0x0, 0x0, 0x0, 0x0⟩ /- BRL_CRCERR_LO -/,
  ⟨0x4c, 0x0, 1, 0x0, 0x0, 0x0, 0x0, 0x0, 0x0, 0x0, 0x0⟩ /- BRL_CRCERR_HI -/,
  ⟨0x50, 0x0, 1, 0x0, 0x0, 0x0, 0x0, 0x0, 0x0, 0x0, 0x0⟩ /- BRL_XRDYTO_LO -/,
  ⟨0x54, 0x0, 1, 0x0, 0x0, 0x0, 0x0, 0x0, 0x0, 0x0, 0x0⟩ /- BRL_XRDYTO_HI -/
]

/-- Registers of EVR. -/
def regRowsEvr : List RegRow := [
  ⟨0x4, 0x0, 1, 0x0, 0x0, 0x0, 0x0, 0x8000007f, 0x0, 0x0, 0x0⟩ /- EVR_SWSET -/,
  ⟨0x100, 0x4, 20, 0x0, 0x0, 0x0, 0x0, 0x0, 0x0, 0x0, 0x0⟩ /- EVR_PEND -/,
  ⟨0x1000, 0x4, 640, 0x3ffff, 0x0, 0x0, 0x0, 0x0, 0x0, 0x0, 0x0⟩ /- EVR_ROUTE -/
]

/-- The rows of the block whose window is number `k` (Table 1.5: the block offset shifted right by 16). -/
def blockRows (k : Nat) : List RegRow :=
  match k with
  | 0 => regRowsGlb
  | 1 => regRowsHep
  | 2 => regRowsCqe
  | 3 => regRowsZne
  | 4 => regRowsSte
  | 5 => regRowsMem
  | 6 => regRowsTtb
  | 7 => regRowsSpc
  | 8 => regRowsSac
  | 9 => regRowsSac
  | 10 => regRowsMsq
  | 11 => regRowsMsq
  | 12 => regRowsRwc
  | 13 => regRowsRwc
  | 14 => regRowsDdp
  | 15 => regRowsAsc
  | 16 => regRowsFlt
  | 17 => regRowsBok
  | 18 => regRowsSec
  | 19 => regRowsPwr
  | 20 => regRowsBrl
  | 21 => regRowsEvr
  | _ => []

/-- Whether the row names a register at block offset `o`. -/
def RegRow.covers (r : RegRow) (o : Nat) : Bool :=
  if r.stride = 0 then o == r.base
  else decide (r.base ≤ o) && (o - r.base) % r.stride == 0 && decide ((o - r.base) / r.stride < r.count)

/-- The row of the register at vendor-window offset `off`, if one is defined there (R5, R18). -/
def regRow (off : Nat) : Option RegRow :=
  (blockRows (off / 0x10000)).find? (fun r => r.covers (off % 0x10000))

/-- The reset value of the register at vendor-window offset `off` (R6); 0 where no register is defined (R5). -/
def regReset (off : Nat) : BitVec 32 :=
  match regRow off with
  | some r => BitVec.ofNat 32 (r.reset + (if r.stride = 0 then 0 else r.step * ((off % 0x10000 - r.base) / r.stride)))
  | none => 0

end Sys2Proof.Machine
end

