-- ==== Sys2Proof/Machine/Fields.lean ====
section
/-! DEFINITION. The names of the manual's registers and register fields (the same tables): the vendor-window offset of each register
(`Rg`) and each field's register, lowest bit and width (`F`).  An index is taken modulo the number of registers its row gives.  Index names are the manual's: `a` the actuator of SACn, RWCn, MSQn;
`b` a bank 1 to 5; `h` a head; other letters as in the register summaries. -/
namespace Sys2Proof.Machine

/-- A field: its register's vendor-window offset, its lowest bit and its width. -/
structure Fld where
  addr : Nat
  lo : Nat
  w : Nat
  deriving DecidableEq, Repr

/-- Window of SACn (Table 1.5). -/
def winSac (a : Act) : Nat := a.sel 0x80000 0x90000
/-- Window of MSQn (Table 1.5). -/
def winMsq (a : Act) : Nat := a.sel 0xA0000 0xB0000
/-- Window of RWCn (Table 1.5). -/
def winRwc (a : Act) : Nat := a.sel 0xC0000 0xD0000

def Rg.GLB_ID : Nat := 0x0
def F.GLB_ID_PART : Fld := ⟨Rg.GLB_ID, 16, 16⟩
def F.GLB_ID_MAJOR : Fld := ⟨Rg.GLB_ID, 12, 4⟩
def F.GLB_ID_MINOR : Fld := ⟨Rg.GLB_ID, 8, 4⟩
def Rg.GLB_LOCK : Nat := 0x4
def F.GLB_LOCK_LOCK : Fld := ⟨Rg.GLB_LOCK, 0, 1⟩
def Rg.GLB_RST : Nat := 0x8
def F.GLB_RST_KEY : Fld := ⟨Rg.GLB_RST, 16, 16⟩
def F.GLB_RST_DEVRST : Fld := ⟨Rg.GLB_RST, 0, 1⟩
def Rg.GLB_CFG : Nat := 0xc
def F.GLB_CFG_TWIN : Fld := ⟨Rg.GLB_CFG, 0, 1⟩
def F.GLB_CFG_SIDE : Fld := ⟨Rg.GLB_CFG, 1, 1⟩
def F.GLB_CFG_PORTS : Fld := ⟨Rg.GLB_CFG, 2, 1⟩
def F.GLB_CFG_STRAP : Fld := ⟨Rg.GLB_CFG, 4, 3⟩
def Rg.TTB_CTL : Nat := 0x60000
def F.TTB_CTL_EN : Fld := ⟨Rg.TTB_CTL, 0, 1⟩
def F.TTB_CTL_SRC : Fld := ⟨Rg.TTB_CTL, 1, 2⟩
def F.TTB_CTL_AUTOSRC : Fld := ⟨Rg.TTB_CTL, 3, 1⟩
def Rg.TTB_STS : Nat := 0x60004
def F.TTB_STS_STATE : Fld := ⟨Rg.TTB_STS, 0, 3⟩
def F.TTB_STS_WINH : Fld := ⟨Rg.TTB_STS, 3, 1⟩
def F.TTB_STS_RINH : Fld := ⟨Rg.TTB_STS, 4, 1⟩
def F.TTB_STS_STEP : Fld := ⟨Rg.TTB_STS, 5, 1⟩
def F.TTB_STS_TWINSYNC : Fld := ⟨Rg.TTB_STS, 6, 1⟩
def F.TTB_STS_SRCACT : Fld := ⟨Rg.TTB_STS, 7, 1⟩
def F.TTB_STS_FAR : Fld := ⟨Rg.TTB_STS, 8, 1⟩
def F.TTB_STS_JUMP : Fld := ⟨Rg.TTB_STS, 9, 1⟩
def Rg.TTB_NOW_LO : Nat := 0x60008
def F.TTB_NOW_LO_ANGLE : Fld := ⟨Rg.TTB_NOW_LO, 0, 32⟩
def Rg.TTB_NOW_HI : Nat := 0x6000c
def F.TTB_NOW_HI_ANGLE : Fld := ⟨Rg.TTB_NOW_HI, 0, 32⟩
def Rg.TTB_CLK_LO : Nat := 0x60010
def F.TTB_CLK_LO_NS : Fld := ⟨Rg.TTB_CLK_LO, 0, 32⟩
def Rg.TTB_CLK_HI : Nat := 0x60014
def F.TTB_CLK_HI_NS : Fld := ⟨Rg.TTB_CLK_HI, 0, 32⟩
def Rg.TTB_SNAPANG_LO : Nat := 0x60020
def F.TTB_SNAPANG_LO_VALUE : Fld := ⟨Rg.TTB_SNAPANG_LO, 0, 32⟩
def Rg.TTB_SNAPANG_HI : Nat := 0x60024
def F.TTB_SNAPANG_HI_VALUE : Fld := ⟨Rg.TTB_SNAPANG_HI, 0, 32⟩
def Rg.TTB_SNAPCLK_LO : Nat := 0x60028
def F.TTB_SNAPCLK_LO_VALUE : Fld := ⟨Rg.TTB_SNAPCLK_LO, 0, 32⟩
def Rg.TTB_SNAPCLK_HI : Nat := 0x6002c
def F.TTB_SNAPCLK_HI_VALUE : Fld := ⟨Rg.TTB_SNAPCLK_HI, 0, 32⟩
def Rg.TTB_SNAP : Nat := 0x60018
def F.TTB_SNAP_CAP : Fld := ⟨Rg.TTB_SNAP, 0, 1⟩
def F.TTB_SNAP_CLRMISS : Fld := ⟨Rg.TTB_SNAP, 1, 1⟩
def Rg.TTB_INC : Nat := 0x60030
def F.TTB_INC_INC : Fld := ⟨Rg.TTB_INC, 0, 32⟩
def Rg.TTB_LOCKCFG : Nat := 0x60034
def F.TTB_LOCKCFG_LOCKN : Fld := ⟨Rg.TTB_LOCKCFG, 0, 8⟩
def F.TTB_LOCKCFG_MISSN : Fld := ⟨Rg.TTB_LOCKCFG, 8, 8⟩
def F.TTB_LOCKCFG_TOL : Fld := ⟨Rg.TTB_LOCKCFG, 16, 12⟩
def F.TTB_LOCKCFG_ISH : Fld := ⟨Rg.TTB_LOCKCFG, 28, 4⟩
def Rg.TTB_SKEW : Nat := 0x60038
def F.TTB_SKEW_SKEW : Fld := ⟨Rg.TTB_SKEW, 0, 25⟩
def Rg.TTB_PHERR : Nat := 0x6003c
def F.TTB_PHERR_ERR : Fld := ⟨Rg.TTB_PHERR, 0, 16⟩
def Rg.TTB_MISS_LO : Nat := 0x60040
def F.TTB_MISS_LO_COUNT : Fld := ⟨Rg.TTB_MISS_LO, 0, 32⟩
def Rg.TTB_MISS_HI : Nat := 0x60044
def F.TTB_MISS_HI_COUNT : Fld := ⟨Rg.TTB_MISS_HI, 0, 16⟩
def Rg.TTB_TWERR : Nat := 0x60048
def F.TTB_TWERR_ERR : Fld := ⟨Rg.TTB_TWERR, 0, 16⟩
def Rg.TTB_FIRED_LO : Nat := 0x60100
def F.TTB_FIRED_LO_FIRED : Fld := ⟨Rg.TTB_FIRED_LO, 0, 32⟩
def Rg.TTB_FIRED_HI : Nat := 0x60104
def F.TTB_FIRED_HI_FIRED : Fld := ⟨Rg.TTB_FIRED_HI, 0, 32⟩
def Rg.TTB_SLOT_TGT_LO (n : Nat) : Nat := 0x60400 + 0x10 * (n % 64)
def F.TTB_SLOT_TGT_LO_TGT (n : Nat) : Fld := ⟨Rg.TTB_SLOT_TGT_LO n, 0, 32⟩
def Rg.TTB_SLOT_TGT_HI (n : Nat) : Nat := 0x60404 + 0x10 * (n % 64)
def F.TTB_SLOT_TGT_HI_TGT (n : Nat) : Fld := ⟨Rg.TTB_SLOT_TGT_HI n, 0, 32⟩
def Rg.TTB_SLOT_PER (n : Nat) : Nat := 0x60408 + 0x10 * (n % 64)
def F.TTB_SLOT_PER_PER (n : Nat) : Fld := ⟨Rg.TTB_SLOT_PER n, 4, 28⟩
def Rg.TTB_SLOT_CTL (n : Nat) : Nat := 0x6040c + 0x10 * (n % 64)
def F.TTB_SLOT_CTL_ARM (n : Nat) : Fld := ⟨Rg.TTB_SLOT_CTL n, 0, 1⟩
def F.TTB_SLOT_CTL_MODE (n : Nat) : Fld := ⟨Rg.TTB_SLOT_CTL n, 1, 1⟩
def F.TTB_SLOT_CTL_HW (n : Nat) : Fld := ⟨Rg.TTB_SLOT_CTL n, 2, 3⟩
def F.TTB_SLOT_CTL_LATE (n : Nat) : Fld := ⟨Rg.TTB_SLOT_CTL n, 8, 1⟩
def F.TTB_SLOT_CTL_FAR (n : Nat) : Fld := ⟨Rg.TTB_SLOT_CTL n, 9, 1⟩
def F.TTB_SLOT_CTL_INSIDE (n : Nat) : Fld := ⟨Rg.TTB_SLOT_CTL n, 10, 1⟩
def Rg.SPC_CTL : Nat := 0x70000
def F.SPC_CTL_RUN : Fld := ⟨Rg.SPC_CTL, 0, 1⟩
def F.SPC_CTL_CATCH : Fld := ⟨Rg.SPC_CTL, 1, 1⟩
def F.SPC_CTL_CLRLOSS : Fld := ⟨Rg.SPC_CTL, 2, 1⟩
def Rg.SPC_STS : Nat := 0x70004
def F.SPC_STS_STATE : Fld := ⟨Rg.SPC_STS, 0, 4⟩
def F.SPC_STS_OBSLOSS : Fld := ⟨Rg.SPC_STS, 4, 1⟩
def F.SPC_STS_STEP : Fld := ⟨Rg.SPC_STS, 5, 1⟩
def F.SPC_STS_BRIDGEF : Fld := ⟨Rg.SPC_STS, 6, 1⟩
def F.SPC_STS_LOCKROT : Fld := ⟨Rg.SPC_STS, 7, 1⟩
def F.SPC_STS_OVSPD : Fld := ⟨Rg.SPC_STS, 8, 1⟩
def F.SPC_STS_INBAND : Fld := ⟨Rg.SPC_STS, 9, 1⟩
def F.SPC_STS_CATCHDIR : Fld := ⟨Rg.SPC_STS, 10, 2⟩
def F.SPC_STS_HARV : Fld := ⟨Rg.SPC_STS, 12, 1⟩
def F.SPC_STS_PARKWAIT : Fld := ⟨Rg.SPC_STS, 13, 1⟩
def Rg.SPC_TARGET : Nat := 0x70008
def F.SPC_TARGET_SEL : Fld := ⟨Rg.SPC_TARGET, 0, 3⟩
def Rg.SPC_SPEED : Nat := 0x7000c
def F.SPC_SPEED_RPM : Fld := ⟨Rg.SPC_SPEED, 0, 32⟩
def Rg.SPC_MOTOR : Nat := 0x70010
def F.SPC_MOTOR_POLEP : Fld := ⟨Rg.SPC_MOTOR, 0, 4⟩
def F.SPC_MOTOR_INERTIA : Fld := ⟨Rg.SPC_MOTOR, 16, 16⟩
def Rg.SPC_PWM : Nat := 0x70014
def F.SPC_PWM_PERIOD : Fld := ⟨Rg.SPC_PWM, 0, 16⟩
def F.SPC_PWM_DEAD : Fld := ⟨Rg.SPC_PWM, 16, 8⟩
def F.SPC_PWM_MINPW : Fld := ⟨Rg.SPC_PWM, 24, 8⟩
def Rg.SPC_ILOOP : Nat := 0x70018
def F.SPC_ILOOP_KP : Fld := ⟨Rg.SPC_ILOOP, 0, 16⟩
def F.SPC_ILOOP_KI : Fld := ⟨Rg.SPC_ILOOP, 16, 16⟩
def Rg.SPC_SLOOP : Nat := 0x7001c
def F.SPC_SLOOP_KP : Fld := ⟨Rg.SPC_SLOOP, 0, 16⟩
def F.SPC_SLOOP_KI : Fld := ⟨Rg.SPC_SLOOP, 16, 16⟩
def Rg.SPC_OBS : Nat := 0x70020
def F.SPC_OBS_RS : Fld := ⟨Rg.SPC_OBS, 0, 12⟩
def F.SPC_OBS_LS : Fld := ⟨Rg.SPC_OBS, 12, 12⟩
def F.SPC_OBS_LOSSN : Fld := ⟨Rg.SPC_OBS, 24, 4⟩
def Rg.SPC_START : Nat := 0x70024
def F.SPC_START_ALIGNT : Fld := ⟨Rg.SPC_START, 0, 8⟩
def F.SPC_START_ISTART : Fld := ⟨Rg.SPC_START, 8, 8⟩
def F.SPC_START_RETRY : Fld := ⟨Rg.SPC_START, 16, 4⟩
def F.SPC_START_HANDOFF : Fld := ⟨Rg.SPC_START, 24, 8⟩
def Rg.SPC_CATCH : Nat := 0x70028
def F.SPC_CATCH_MINEMF : Fld := ⟨Rg.SPC_CATCH, 0, 12⟩
def Rg.SPC_RAMP : Nat := 0x7002c
def F.SPC_RAMP_ACCEL : Fld := ⟨Rg.SPC_RAMP, 0, 12⟩
def F.SPC_RAMP_DECEL : Fld := ⟨Rg.SPC_RAMP, 12, 12⟩
def F.SPC_RAMP_OLACC : Fld := ⟨Rg.SPC_RAMP, 24, 8⟩
def Rg.SPC_LIMIT : Nat := 0x70030
def F.SPC_LIMIT_IMAX : Fld := ⟨Rg.SPC_LIMIT, 0, 12⟩
def F.SPC_LIMIT_OVSPD : Fld := ⟨Rg.SPC_LIMIT, 12, 12⟩
def F.SPC_LIMIT_ISLEW : Fld := ⟨Rg.SPC_LIMIT, 24, 8⟩
def Rg.SPC_BRAKE : Nat := 0x70034
def F.SPC_BRAKE_BILIM : Fld := ⟨Rg.SPC_BRAKE, 0, 12⟩
def Rg.SPC_HARV : Nat := 0x70038
def F.SPC_HARV_EN : Fld := ⟨Rg.SPC_HARV, 0, 1⟩
def F.SPC_HARV_VSET : Fld := ⟨Rg.SPC_HARV, 1, 12⟩
def F.SPC_HARV_MINRPM : Fld := ⟨Rg.SPC_HARV, 13, 12⟩
def F.SPC_HARV_EFF : Fld := ⟨Rg.SPC_HARV, 25, 7⟩
def Rg.SPC_KE : Nat := 0x7003c
def F.SPC_KE_UJ : Fld := ⟨Rg.SPC_KE, 0, 32⟩
def Rg.SPC_LOSSCNT_LO : Nat := 0x70040
def F.SPC_LOSSCNT_LO_COUNT : Fld := ⟨Rg.SPC_LOSSCNT_LO, 0, 32⟩
def Rg.SPC_LOSSCNT_HI : Nat := 0x70044
def F.SPC_LOSSCNT_HI_COUNT : Fld := ⟨Rg.SPC_LOSSCNT_HI, 0, 16⟩
def Rg.SPC_PADV (k : Nat) : Nat := 0x70100 + 0x4 * (k % 32)
def F.SPC_PADV_ADV (k : Nat) : Fld := ⟨Rg.SPC_PADV k, 0, 16⟩
def F.SPC_PADV_ID (k : Nat) : Fld := ⟨Rg.SPC_PADV k, 16, 16⟩
def Rg.SAC_CTL (a : Act) : Nat := winSac a + 0x0
def F.SAC_CTL_EN (a : Act) : Fld := ⟨Rg.SAC_CTL a, 0, 1⟩
def F.SAC_CTL_CLRINT (a : Act) : Fld := ⟨Rg.SAC_CTL a, 1, 1⟩
def F.SAC_CTL_CLRCNT (a : Act) : Fld := ⟨Rg.SAC_CTL a, 2, 1⟩
def Rg.SAC_CMD (a : Act) : Nat := winSac a + 0x4
def F.SAC_CMD_OP (a : Act) : Fld := ⟨Rg.SAC_CMD a, 0, 4⟩
def F.SAC_CMD_HEAD (a : Act) : Fld := ⟨Rg.SAC_CMD a, 4, 5⟩
def Rg.SAC_STS (a : Act) : Nat := winSac a + 0x8
def F.SAC_STS_STATE (a : Act) : Fld := ⟨Rg.SAC_STS a, 0, 4⟩
def F.SAC_STS_ONTRK (a : Act) : Fld := ⟨Rg.SAC_STS a, 4, 1⟩
def F.SAC_STS_WRPERM (a : Act) : Fld := ⟨Rg.SAC_STS a, 5, 1⟩
def F.SAC_STS_WFLT (a : Act) : Fld := ⟨Rg.SAC_STS a, 6, 1⟩
def F.SAC_STS_REJ (a : Act) : Fld := ⟨Rg.SAC_STS a, 7, 1⟩
def F.SAC_STS_RUNAWAY (a : Act) : Fld := ⟨Rg.SAC_STS a, 8, 1⟩
def F.SAC_STS_IMPLAUS (a : Act) : Fld := ⟨Rg.SAC_STS a, 9, 1⟩
def F.SAC_STS_BSACT (a : Act) : Fld := ⟨Rg.SAC_STS a, 10, 1⟩
def F.SAC_STS_PARKED (a : Act) : Fld := ⟨Rg.SAC_STS a, 11, 1⟩
def F.SAC_STS_MISSV (a : Act) : Fld := ⟨Rg.SAC_STS a, 12, 1⟩
def F.SAC_STS_BANK (a : Act) : Fld := ⟨Rg.SAC_STS a, 13, 3⟩
def Rg.SAC_TGT (a : Act) : Nat := winSac a + 0xc
def F.SAC_TGT_TRACK (a : Act) : Fld := ⟨Rg.SAC_TGT a, 0, 24⟩
def Rg.SAC_OFFS (a : Act) : Nat := winSac a + 0x10
def F.SAC_OFFS_OFFS (a : Act) : Fld := ⟨Rg.SAC_OFFS a, 0, 16⟩
def Rg.SAC_TSTI (a : Act) : Nat := winSac a + 0x14
def F.SAC_TSTI_CODE (a : Act) : Fld := ⟨Rg.SAC_TSTI a, 0, 16⟩
def Rg.SAC_CCTL (a : Act) : Nat := winSac a + 0x18
def F.SAC_CCTL_APPLY (a : Act) : Fld := ⟨Rg.SAC_CCTL a, 0, 1⟩
def Rg.SAC_POS_LO (a : Act) : Nat := winSac a + 0x20
def F.SAC_POS_LO_POS (a : Act) : Fld := ⟨Rg.SAC_POS_LO a, 0, 32⟩
def Rg.SAC_POS_HI (a : Act) : Nat := winSac a + 0x24
def F.SAC_POS_HI_POS (a : Act) : Fld := ⟨Rg.SAC_POS_HI a, 0, 8⟩
def Rg.SAC_INT_LO (a : Act) : Nat := winSac a + 0x28
def F.SAC_INT_LO_ACC (a : Act) : Fld := ⟨Rg.SAC_INT_LO a, 0, 32⟩
def Rg.SAC_INT_HI (a : Act) : Nat := winSac a + 0x2c
def F.SAC_INT_HI_ACC (a : Act) : Fld := ⟨Rg.SAC_INT_HI a, 0, 8⟩
def Rg.SAC_DAC (a : Act) : Nat := winSac a + 0x30
def F.SAC_DAC_VCM (a : Act) : Fld := ⟨Rg.SAC_DAC a, 0, 16⟩
def F.SAC_DAC_MA (a : Act) : Fld := ⟨Rg.SAC_DAC a, 16, 14⟩
def Rg.SAC_IMEAS (a : Act) : Nat := winSac a + 0x34
def F.SAC_IMEAS_CODE (a : Act) : Fld := ⟨Rg.SAC_IMEAS a, 0, 16⟩
def Rg.SAC_OTEST (a : Act) : Nat := winSac a + 0x38
def F.SAC_OTEST_EST (a : Act) : Fld := ⟨Rg.SAC_OTEST a, 0, 16⟩
def F.SAC_OTEST_VALID (a : Act) : Fld := ⟨Rg.SAC_OTEST a, 16, 1⟩
def Rg.SAC_SCFG (a : Act) : Nat := winSac a + 0x40
def F.SAC_SCFG_SAMTOL (a : Act) : Fld := ⟨Rg.SAC_SCFG a, 0, 2⟩
def F.SAC_SCFG_SRDR (a : Act) : Fld := ⟨Rg.SAC_SCFG a, 2, 2⟩
def F.SAC_SCFG_MISSMAX (a : Act) : Fld := ⟨Rg.SAC_SCFG a, 4, 4⟩
def F.SAC_SCFG_RROEN (a : Act) : Fld := ⟨Rg.SAC_SCFG a, 8, 1⟩
def F.SAC_SCFG_AMPMIN (a : Act) : Fld := ⟨Rg.SAC_SCFG a, 12, 12⟩
def F.SAC_SCFG_OTAMIN (a : Act) : Fld := ⟨Rg.SAC_SCFG a, 24, 8⟩
def Rg.SAC_WFG (a : Act) : Nat := winSac a + 0x44
def F.SAC_WFG_WRLIM (a : Act) : Fld := ⟨Rg.SAC_WFG a, 0, 12⟩
def F.SAC_WFG_OTLIM (a : Act) : Fld := ⟨Rg.SAC_WFG a, 12, 12⟩
def F.SAC_WFG_RECOV (a : Act) : Fld := ⟨Rg.SAC_WFG a, 24, 4⟩
def F.SAC_WFG_OTEN (a : Act) : Fld := ⟨Rg.SAC_WFG a, 28, 1⟩
def Rg.SAC_SUP (a : Act) : Nat := winSac a + 0x48
def F.SAC_SUP_FELIM (a : Act) : Fld := ⟨Rg.SAC_SUP a, 0, 16⟩
def F.SAC_SUP_FESK (a : Act) : Fld := ⟨Rg.SAC_SUP a, 16, 16⟩
def Rg.SAC_SUPT (a : Act) : Nat := winSac a + 0x4c
def F.SAC_SUPT_FET (a : Act) : Fld := ⟨Rg.SAC_SUPT a, 0, 10⟩
def Rg.SAC_PLAU (a : Act) : Nat := winSac a + 0x50
def F.SAC_PLAU_IPTOL (a : Act) : Fld := ⟨Rg.SAC_PLAU a, 0, 8⟩
def F.SAC_PLAU_PLTOL (a : Act) : Fld := ⟨Rg.SAC_PLAU a, 8, 8⟩
def F.SAC_PLAU_IGAIN (a : Act) : Fld := ⟨Rg.SAC_PLAU a, 16, 16⟩
def Rg.SAC_LOAD (a : Act) : Nat := winSac a + 0x54
def F.SAC_LOAD_LOADI (a : Act) : Fld := ⟨Rg.SAC_LOAD a, 0, 12⟩
def F.SAC_LOAD_UNLI (a : Act) : Fld := ⟨Rg.SAC_LOAD a, 12, 12⟩
def F.SAC_LOAD_UNLT (a : Act) : Fld := ⟨Rg.SAC_LOAD a, 24, 8⟩
def Rg.SAC_RAMP (a : Act) : Nat := winSac a + 0x58
def F.SAC_RAMP_RAMPTRK (a : Act) : Fld := ⟨Rg.SAC_RAMP a, 0, 24⟩
def F.SAC_RAMP_LOADT (a : Act) : Fld := ⟨Rg.SAC_RAMP a, 24, 8⟩
def Rg.SAC_BSP1 (a : Act) : Nat := winSac a + 0x60
def F.SAC_BSP1_RETI (a : Act) : Fld := ⟨Rg.SAC_BSP1 a, 0, 12⟩
def F.SAC_BSP1_RETT1 (a : Act) : Fld := ⟨Rg.SAC_BSP1 a, 12, 8⟩
def F.SAC_BSP1_RETDIR (a : Act) : Fld := ⟨Rg.SAC_BSP1 a, 20, 1⟩
def Rg.SAC_BSP2 (a : Act) : Nat := winSac a + 0x64
def F.SAC_BSP2_RETI2 (a : Act) : Fld := ⟨Rg.SAC_BSP2 a, 0, 12⟩
def F.SAC_BSP2_RETT2 (a : Act) : Fld := ⟨Rg.SAC_BSP2 a, 12, 8⟩
def Rg.SAC_BSP3 (a : Act) : Nat := winSac a + 0x68
def F.SAC_BSP3_HOLDI (a : Act) : Fld := ⟨Rg.SAC_BSP3 a, 0, 12⟩
def F.SAC_BSP3_HOLDT (a : Act) : Fld := ⟨Rg.SAC_BSP3 a, 12, 8⟩
def Rg.SAC_MISS_LO (a : Act) : Nat := winSac a + 0x70
def F.SAC_MISS_LO_COUNT (a : Act) : Fld := ⟨Rg.SAC_MISS_LO a, 0, 32⟩
def Rg.SAC_MISS_HI (a : Act) : Nat := winSac a + 0x74
def F.SAC_MISS_HI_COUNT (a : Act) : Fld := ⟨Rg.SAC_MISS_HI a, 0, 16⟩
def Rg.SAC_WFCNT_LO (a : Act) : Nat := winSac a + 0x78
def F.SAC_WFCNT_LO_COUNT (a : Act) : Fld := ⟨Rg.SAC_WFCNT_LO a, 0, 32⟩
def Rg.SAC_WFCNT_HI (a : Act) : Nat := winSac a + 0x7c
def F.SAC_WFCNT_HI_COUNT (a : Act) : Fld := ⟨Rg.SAC_WFCNT_HI a, 0, 16⟩
def Rg.SAC_BANK_C0 (a : Act) (b : Nat) : Nat := winSac a + 0x100 + 0x20 * ((b - 1) % 5)
def F.SAC_BANK_C0_KP (a : Act) (b : Nat) : Fld := ⟨Rg.SAC_BANK_C0 a b, 0, 16⟩
def F.SAC_BANK_C0_KD (a : Act) (b : Nat) : Fld := ⟨Rg.SAC_BANK_C0 a b, 16, 16⟩
def Rg.SAC_BANK_C1 (a : Act) (b : Nat) : Nat := winSac a + 0x104 + 0x20 * ((b - 1) % 5)
def F.SAC_BANK_C1_KI (a : Act) (b : Nat) : Fld := ⟨Rg.SAC_BANK_C1 a b, 0, 16⟩
def F.SAC_BANK_C1_KFF (a : Act) (b : Nat) : Fld := ⟨Rg.SAC_BANK_C1 a b, 16, 16⟩
def Rg.SAC_BANK_C2 (a : Act) (b : Nat) : Nat := winSac a + 0x108 + 0x20 * ((b - 1) % 5)
def F.SAC_BANK_C2_KMP (a : Act) (b : Nat) : Fld := ⟨Rg.SAC_BANK_C2 a b, 0, 16⟩
def F.SAC_BANK_C2_KMD (a : Act) (b : Nat) : Fld := ⟨Rg.SAC_BANK_C2 a b, 16, 16⟩
def Rg.SAC_BANK_C3 (a : Act) (b : Nat) : Nat := winSac a + 0x10c + 0x20 * ((b - 1) % 5)
def F.SAC_BANK_C3_GM (a : Act) (b : Nat) : Fld := ⟨Rg.SAC_BANK_C3 a b, 0, 16⟩
def F.SAC_BANK_C3_KAM (a : Act) (b : Nat) : Fld := ⟨Rg.SAC_BANK_C3 a b, 16, 16⟩
def Rg.SAC_BANK_C4 (a : Act) (b : Nat) : Nat := winSac a + 0x110 + 0x20 * ((b - 1) % 5)
def F.SAC_BANK_C4_AMAX (a : Act) (b : Nat) : Fld := ⟨Rg.SAC_BANK_C4 a b, 0, 24⟩
def F.SAC_BANK_C4_RAMPW (a : Act) (b : Nat) : Fld := ⟨Rg.SAC_BANK_C4 a b, 24, 8⟩
def Rg.SAC_BANK_C5 (a : Act) (b : Nat) : Nat := winSac a + 0x114 + 0x20 * ((b - 1) % 5)
def F.SAC_BANK_C5_VMAX (a : Act) (b : Nat) : Fld := ⟨Rg.SAC_BANK_C5 a b, 0, 32⟩
def Rg.SAC_BANK_C6 (a : Act) (b : Nat) : Nat := winSac a + 0x118 + 0x20 * ((b - 1) % 5)
def F.SAC_BANK_C6_SETTOL (a : Act) (b : Nat) : Fld := ⟨Rg.SAC_BANK_C6 a b, 0, 16⟩
def F.SAC_BANK_C6_SETTLEN (a : Act) (b : Nat) : Fld := ⟨Rg.SAC_BANK_C6 a b, 16, 8⟩
def Rg.SAC_BANK_C7 (a : Act) (b : Nat) : Nat := winSac a + 0x11c + 0x20 * ((b - 1) % 5)
def Rg.SAC_OTCAL (a : Act) (h : Nat) : Nat := winSac a + 0x200 + 0x4 * (h % 12)
def F.SAC_OTCAL_GAIN (a : Act) (h : Nat) : Fld := ⟨Rg.SAC_OTCAL a h, 0, 16⟩
def F.SAC_OTCAL_BIAS (a : Act) (h : Nat) : Fld := ⟨Rg.SAC_OTCAL a h, 16, 16⟩
def Rg.RWC_CTL (a : Act) : Nat := winRwc a + 0x0
def F.RWC_CTL_EN (a : Act) : Fld := ⟨Rg.RWC_CTL a, 0, 1⟩
def F.RWC_CTL_CLRCNT (a : Act) : Fld := ⟨Rg.RWC_CTL a, 1, 1⟩
def Rg.RWC_STS (a : Act) : Nat := winRwc a + 0x4
def F.RWC_STS_BUSY (a : Act) : Fld := ⟨Rg.RWC_STS a, 0, 1⟩
def F.RWC_STS_PSBUSY (a : Act) : Fld := ⟨Rg.RWC_STS a, 1, 1⟩
def F.RWC_STS_PSTO (a : Act) : Fld := ⟨Rg.RWC_STS a, 2, 1⟩
def F.RWC_STS_PFLT (a : Act) : Fld := ⟨Rg.RWC_STS a, 3, 1⟩
def F.RWC_STS_FMTERR (a : Act) : Fld := ⟨Rg.RWC_STS a, 4, 1⟩
def F.RWC_STS_UNDERRUN (a : Act) : Fld := ⟨Rg.RWC_STS a, 5, 1⟩
def F.RWC_STS_IDLE (a : Act) : Fld := ⟨Rg.RWC_STS a, 6, 1⟩
def Rg.RWC_DCFG (a : Act) : Nat := winRwc a + 0x8
def F.RWC_DCFG_GITER (a : Act) : Fld := ⟨Rg.RWC_DCFG a, 0, 3⟩
def F.RWC_DCFG_LITER (a : Act) : Fld := ⟨Rg.RWC_DCFG a, 3, 4⟩
def F.RWC_DCFG_SMTOL (a : Act) : Fld := ⟨Rg.RWC_DCFG a, 7, 3⟩
def F.RWC_DCFG_APSEN (a : Act) : Fld := ⟨Rg.RWC_DCFG a, 10, 1⟩
def F.RWC_DCFG_SECOND (a : Act) : Fld := ⟨Rg.RWC_DCFG a, 11, 1⟩
def F.RWC_DCFG_SYNCTRY (a : Act) : Fld := ⟨Rg.RWC_DCFG a, 12, 4⟩
def F.RWC_DCFG_TAEN (a : Act) : Fld := ⟨Rg.RWC_DCFG a, 16, 1⟩
def Rg.RWC_PSC (a : Act) : Nat := winRwc a + 0xc
def F.RWC_PSC_DIV (a : Act) : Fld := ⟨Rg.RWC_PSC a, 0, 4⟩
def F.RWC_PSC_WAIT (a : Act) : Fld := ⟨Rg.RWC_PSC a, 4, 8⟩
def Rg.RWC_PSCMD (a : Act) : Nat := winRwc a + 0x10
def F.RWC_PSCMD_ADDR (a : Act) : Fld := ⟨Rg.RWC_PSCMD a, 0, 16⟩
def F.RWC_PSCMD_RD (a : Act) : Fld := ⟨Rg.RWC_PSCMD a, 30, 1⟩
def F.RWC_PSCMD_GO (a : Act) : Fld := ⟨Rg.RWC_PSCMD a, 31, 1⟩
def Rg.RWC_PSDATA (a : Act) : Nat := winRwc a + 0x14
def F.RWC_PSDATA_DATA (a : Act) : Fld := ⟨Rg.RWC_PSDATA a, 0, 16⟩
def Rg.RWC_PMAP (a : Act) : Nat := winRwc a + 0x18
def F.RWC_PMAP_HADDR (a : Act) : Fld := ⟨Rg.RWC_PMAP a, 0, 16⟩
def F.RWC_PMAP_HSHIFT (a : Act) : Fld := ⟨Rg.RWC_PMAP a, 16, 4⟩
def Rg.RWC_SECT_LO (a : Act) : Nat := winRwc a + 0x20
def F.RWC_SECT_LO_COUNT (a : Act) : Fld := ⟨Rg.RWC_SECT_LO a, 0, 32⟩
def Rg.RWC_SECT_HI (a : Act) : Nat := winRwc a + 0x24
def F.RWC_SECT_HI_COUNT (a : Act) : Fld := ⟨Rg.RWC_SECT_HI a, 0, 16⟩
def Rg.RWC_FAIL_LO (a : Act) : Nat := winRwc a + 0x28
def F.RWC_FAIL_LO_COUNT (a : Act) : Fld := ⟨Rg.RWC_FAIL_LO a, 0, 32⟩
def Rg.RWC_FAIL_HI (a : Act) : Nat := winRwc a + 0x2c
def F.RWC_FAIL_HI_COUNT (a : Act) : Fld := ⟨Rg.RWC_FAIL_HI a, 0, 16⟩
def Rg.RWC_SMISS_LO (a : Act) : Nat := winRwc a + 0x30
def F.RWC_SMISS_LO_COUNT (a : Act) : Fld := ⟨Rg.RWC_SMISS_LO a, 0, 32⟩
def Rg.RWC_SMISS_HI (a : Act) : Nat := winRwc a + 0x34
def F.RWC_SMISS_HI_COUNT (a : Act) : Fld := ⟨Rg.RWC_SMISS_HI a, 0, 16⟩
def Rg.RWC_LATE_CPL_LO (a : Act) : Nat := winRwc a + 0x38
def F.RWC_LATE_CPL_LO_COUNT (a : Act) : Fld := ⟨Rg.RWC_LATE_CPL_LO a, 0, 32⟩
def Rg.RWC_LATE_CPL_HI (a : Act) : Nat := winRwc a + 0x3c
def F.RWC_LATE_CPL_HI_COUNT (a : Act) : Fld := ⟨Rg.RWC_LATE_CPL_HI a, 0, 16⟩
def Rg.RWC_FMT (a : Act) (f : Nat) : Nat := winRwc a + 0x100 + 0x4 * (f % 64)
def F.RWC_FMT_DBITS (a : Act) (f : Nat) : Fld := ⟨Rg.RWC_FMT a f, 0, 17⟩
def Rg.RWC_PSET_W0 (a : Act) (m : Nat) : Nat := winRwc a + 0x1000 + 0x80 * (m % 64)
def Rg.RWC_PSET_W1 (a : Act) (m : Nat) : Nat := winRwc a + 0x1004 + 0x80 * (m % 64)
def F.RWC_PSET_W1_WOFF (a : Act) (m : Nat) : Fld := ⟨Rg.RWC_PSET_W1 a m, 0, 32⟩
def Rg.RWC_PSET_W2 (a : Act) (m : Nat) : Nat := winRwc a + 0x1008 + 0x80 * (m % 64)
def F.RWC_PSET_W2_BSKEW (a : Act) (m : Nat) : Fld := ⟨Rg.RWC_PSET_W2 a m, 0, 16⟩
def Rg.RWC_PSET_W3 (a : Act) (m : Nat) : Nat := winRwc a + 0x100c + 0x80 * (m % 64)
def Rg.RWC_PSET_W4 (a : Act) (m : Nat) : Nat := winRwc a + 0x1010 + 0x80 * (m % 64)
def Rg.RWC_PSET_W5 (a : Act) (m : Nat) : Nat := winRwc a + 0x1014 + 0x80 * (m % 64)
def Rg.RWC_PSET_W6 (a : Act) (m : Nat) : Nat := winRwc a + 0x1018 + 0x80 * (m % 64)
def Rg.RWC_PSET_W7 (a : Act) (m : Nat) : Nat := winRwc a + 0x101c + 0x80 * (m % 64)
def Rg.RWC_PSET_W8 (a : Act) (m : Nat) : Nat := winRwc a + 0x1020 + 0x80 * (m % 64)
def Rg.RWC_PSET_W9 (a : Act) (m : Nat) : Nat := winRwc a + 0x1024 + 0x80 * (m % 64)
def Rg.RWC_PSET_W10 (a : Act) (m : Nat) : Nat := winRwc a + 0x1028 + 0x80 * (m % 64)
def Rg.RWC_PSET_W11 (a : Act) (m : Nat) : Nat := winRwc a + 0x102c + 0x80 * (m % 64)
def Rg.RWC_PSET_W12 (a : Act) (m : Nat) : Nat := winRwc a + 0x1030 + 0x80 * (m % 64)
def Rg.RWC_PSET_W13 (a : Act) (m : Nat) : Nat := winRwc a + 0x1034 + 0x80 * (m % 64)
def Rg.RWC_PSET_W14 (a : Act) (m : Nat) : Nat := winRwc a + 0x1038 + 0x80 * (m % 64)
def Rg.RWC_PSET_W15 (a : Act) (m : Nat) : Nat := winRwc a + 0x103c + 0x80 * (m % 64)
def Rg.RWC_PSET_W16 (a : Act) (m : Nat) : Nat := winRwc a + 0x1040 + 0x80 * (m % 64)
def Rg.RWC_PSET_W17 (a : Act) (m : Nat) : Nat := winRwc a + 0x1044 + 0x80 * (m % 64)
def Rg.RWC_PSET_W18 (a : Act) (m : Nat) : Nat := winRwc a + 0x1048 + 0x80 * (m % 64)
def Rg.RWC_PSET_W19 (a : Act) (m : Nat) : Nat := winRwc a + 0x104c + 0x80 * (m % 64)
def Rg.RWC_PSET_W20 (a : Act) (m : Nat) : Nat := winRwc a + 0x1050 + 0x80 * (m % 64)
def Rg.RWC_PSET_W21 (a : Act) (m : Nat) : Nat := winRwc a + 0x1054 + 0x80 * (m % 64)
def Rg.RWC_PSET_W22 (a : Act) (m : Nat) : Nat := winRwc a + 0x1058 + 0x80 * (m % 64)
def Rg.RWC_PSET_W23 (a : Act) (m : Nat) : Nat := winRwc a + 0x105c + 0x80 * (m % 64)
def Rg.RWC_PSET_W24 (a : Act) (m : Nat) : Nat := winRwc a + 0x1060 + 0x80 * (m % 64)
def Rg.RWC_PSET_W25 (a : Act) (m : Nat) : Nat := winRwc a + 0x1064 + 0x80 * (m % 64)
def Rg.RWC_PSET_W26 (a : Act) (m : Nat) : Nat := winRwc a + 0x1068 + 0x80 * (m % 64)
def Rg.RWC_PSET_W27 (a : Act) (m : Nat) : Nat := winRwc a + 0x106c + 0x80 * (m % 64)
def Rg.RWC_PSET_W28 (a : Act) (m : Nat) : Nat := winRwc a + 0x1070 + 0x80 * (m % 64)
def Rg.RWC_PSET_W29 (a : Act) (m : Nat) : Nat := winRwc a + 0x1074 + 0x80 * (m % 64)
def F.RWC_PSET_W29_PC1 (a : Act) (m : Nat) : Fld := ⟨Rg.RWC_PSET_W29 a m, 0, 6⟩
def F.RWC_PSET_W29_PC2 (a : Act) (m : Nat) : Fld := ⟨Rg.RWC_PSET_W29 a m, 8, 6⟩
def Rg.RWC_PSET_W30 (a : Act) (m : Nat) : Nat := winRwc a + 0x1078 + 0x80 * (m % 64)
def Rg.RWC_PSET_W31 (a : Act) (m : Nat) : Nat := winRwc a + 0x107c + 0x80 * (m % 64)
def Rg.DDP_CTL : Nat := 0xe0000
def F.DDP_CTL_EN : Fld := ⟨Rg.DDP_CTL, 0, 1⟩
def F.DDP_CTL_CLRCNT : Fld := ⟨Rg.DDP_CTL, 1, 1⟩
def Rg.DDP_STS : Nat := 0xe0004
def F.DDP_STS_BUSY : Fld := ⟨Rg.DDP_STS, 0, 4⟩
def F.DDP_STS_QFULL0 : Fld := ⟨Rg.DDP_STS, 4, 1⟩
def F.DDP_STS_QFULL1 : Fld := ⟨Rg.DDP_STS, 5, 1⟩
def F.DDP_STS_QDEPTH0 : Fld := ⟨Rg.DDP_STS, 6, 6⟩
def F.DDP_STS_QDEPTH1 : Fld := ⟨Rg.DDP_STS, 12, 6⟩
def Rg.DDP_CFG (n : Nat) : Nat := 0xe0008 + 0x4 * (n % 2)
def F.DDP_CFG_MODE (n : Nat) : Fld := ⟨Rg.DDP_CFG n, 0, 2⟩
def F.DDP_CFG_REVMAX (n : Nat) : Fld := ⟨Rg.DDP_CFG n, 2, 6⟩
def F.DDP_CFG_AGEMAX (n : Nat) : Fld := ⟨Rg.DDP_CFG n, 8, 6⟩
def F.DDP_CFG_MAXENG (n : Nat) : Fld := ⟨Rg.DDP_CFG n, 14, 2⟩
def F.DDP_CFG_WEIGHT (n : Nat) : Fld := ⟨Rg.DDP_CFG n, 16, 4⟩
def Rg.DDP_JOBS_LO : Nat := 0xe0020
def F.DDP_JOBS_LO_COUNT : Fld := ⟨Rg.DDP_JOBS_LO, 0, 32⟩
def Rg.DDP_JOBS_HI : Nat := 0xe0024
def F.DDP_JOBS_HI_COUNT : Fld := ⟨Rg.DDP_JOBS_HI, 0, 16⟩
def Rg.DDP_RECOV_LO : Nat := 0xe0028
def F.DDP_RECOV_LO_COUNT : Fld := ⟨Rg.DDP_RECOV_LO, 0, 32⟩
def Rg.DDP_RECOV_HI : Nat := 0xe002c
def F.DDP_RECOV_HI_COUNT : Fld := ⟨Rg.DDP_RECOV_HI, 0, 16⟩
def Rg.DDP_UNREC_LO : Nat := 0xe0030
def F.DDP_UNREC_LO_COUNT : Fld := ⟨Rg.DDP_UNREC_LO, 0, 32⟩
def Rg.DDP_UNREC_HI : Nat := 0xe0034
def F.DDP_UNREC_HI_COUNT : Fld := ⟨Rg.DDP_UNREC_HI, 0, 16⟩
def Rg.DDP_REVS_LO : Nat := 0xe0038
def F.DDP_REVS_LO_COUNT : Fld := ⟨Rg.DDP_REVS_LO, 0, 32⟩
def Rg.DDP_REVS_HI : Nat := 0xe003c
def F.DDP_REVS_HI_COUNT : Fld := ⟨Rg.DDP_REVS_HI, 0, 16⟩
def Rg.DDP_REFUSED_LO : Nat := 0xe0040
def F.DDP_REFUSED_LO_COUNT : Fld := ⟨Rg.DDP_REFUSED_LO, 0, 32⟩
def Rg.DDP_REFUSED_HI : Nat := 0xe0044
def F.DDP_REFUSED_HI_COUNT : Fld := ⟨Rg.DDP_REFUSED_HI, 0, 16⟩
def Rg.DDP_LAD (n k : Nat) : Nat := 0xe0100 + 0x40 * (n % 2) + 0x4 * (k % 16)
def F.DDP_LAD_STEP (n k : Nat) : Fld := ⟨Rg.DDP_LAD n k, 0, 32⟩
def Rg.DDP_ENG (e : Nat) : Nat := 0xe0200 + 0x4 * (e % 4)
def F.DDP_ENG_ACTV (e : Nat) : Fld := ⟨Rg.DDP_ENG e, 0, 1⟩
def F.DDP_ENG_ACTR (e : Nat) : Fld := ⟨Rg.DDP_ENG e, 1, 1⟩
def F.DDP_ENG_STEP (e : Nat) : Fld := ⟨Rg.DDP_ENG e, 2, 4⟩
def F.DDP_ENG_REVS (e : Nat) : Fld := ⟨Rg.DDP_ENG e, 6, 6⟩
def F.DDP_ENG_SLOT (e : Nat) : Fld := ⟨Rg.DDP_ENG e, 12, 7⟩
def Rg.MSQ_CTL (a : Act) : Nat := winMsq a + 0x0
def F.MSQ_CTL_EN (a : Act) : Fld := ⟨Rg.MSQ_CTL a, 0, 1⟩
def F.MSQ_CTL_CLRCNT (a : Act) : Fld := ⟨Rg.MSQ_CTL a, 1, 1⟩
def Rg.MSQ_STS (a : Act) : Nat := winMsq a + 0x4
def F.MSQ_STS_RUN (a : Act) : Fld := ⟨Rg.MSQ_STS a, 0, 1⟩
def F.MSQ_STS_HALT (a : Act) : Fld := ⟨Rg.MSQ_STS a, 1, 1⟩
def F.MSQ_STS_WAITING (a : Act) : Fld := ⟨Rg.MSQ_STS a, 2, 1⟩
def F.MSQ_STS_EVEN (a : Act) : Fld := ⟨Rg.MSQ_STS a, 3, 1⟩
def F.MSQ_STS_STRB (a : Act) : Fld := ⟨Rg.MSQ_STS a, 4, 1⟩
def F.MSQ_STS_FAR (a : Act) : Fld := ⟨Rg.MSQ_STS a, 5, 1⟩
def F.MSQ_STS_QREJ (a : Act) : Fld := ⟨Rg.MSQ_STS a, 6, 1⟩
def F.MSQ_STS_QDEPTH (a : Act) : Fld := ⟨Rg.MSQ_STS a, 7, 6⟩
def F.MSQ_STS_CPLN (a : Act) : Fld := ⟨Rg.MSQ_STS a, 13, 4⟩
def Rg.MSQ_PC (a : Act) : Nat := winMsq a + 0x8
def F.MSQ_PC_ADDR (a : Act) : Fld := ⟨Rg.MSQ_PC a, 0, 14⟩
def Rg.MSQ_MCK (a : Act) : Nat := winMsq a + 0xc
def F.MSQ_MCK_CAUSE (a : Act) : Fld := ⟨Rg.MSQ_MCK a, 0, 3⟩
def F.MSQ_MCK_PBYTES (a : Act) : Fld := ⟨Rg.MSQ_MCK a, 4, 16⟩
def Rg.MSQ_HALTPC (a : Act) : Nat := winMsq a + 0x10
def F.MSQ_HALTPC_ADDR (a : Act) : Fld := ⟨Rg.MSQ_HALTPC a, 0, 14⟩
def F.MSQ_HALTPC_PARTIAL (a : Act) : Fld := ⟨Rg.MSQ_HALTPC a, 14, 1⟩
def Rg.MSQ_EVP (a : Act) : Nat := winMsq a + 0x14
def F.MSQ_EVP_PEND (a : Act) : Fld := ⟨Rg.MSQ_EVP a, 0, 32⟩
def Rg.MSQ_EVM (a : Act) : Nat := winMsq a + 0x18
def F.MSQ_EVM_MASK (a : Act) : Fld := ⟨Rg.MSQ_EVM a, 0, 32⟩
def Rg.MSQ_WLIM (a : Act) : Nat := winMsq a + 0x1c
def F.MSQ_WLIM_WEDGES (a : Act) : Fld := ⟨Rg.MSQ_WLIM a, 0, 16⟩
def Rg.MSQ_OPSUB (a : Act) : Nat := winMsq a + 0x20
def F.MSQ_OPSUB_GO (a : Act) : Fld := ⟨Rg.MSQ_OPSUB a, 0, 1⟩
def Rg.MSQ_CPLPOP (a : Act) : Nat := winMsq a + 0x24
def F.MSQ_CPLPOP_POP (a : Act) : Fld := ⟨Rg.MSQ_CPLPOP a, 0, 1⟩
def Rg.MSQ_CPL (a : Act) (i : Nat) : Nat := winMsq a + 0x30 + 0x4 * (i % 4)
def F.MSQ_CPL_CPL (a : Act) (i : Nat) : Fld := ⟨Rg.MSQ_CPL a i, 0, 32⟩
def Rg.MSQ_OPD (a : Act) (i : Nat) : Nat := winMsq a + 0x40 + 0x4 * (i % 16)
def F.MSQ_OPD_WORD (a : Act) (i : Nat) : Fld := ⟨Rg.MSQ_OPD a i, 0, 32⟩
def Rg.MSQ_OPS_LO (a : Act) : Nat := winMsq a + 0x80
def F.MSQ_OPS_LO_COUNT (a : Act) : Fld := ⟨Rg.MSQ_OPS_LO a, 0, 32⟩
def Rg.MSQ_OPS_HI (a : Act) : Nat := winMsq a + 0x84
def F.MSQ_OPS_HI_COUNT (a : Act) : Fld := ⟨Rg.MSQ_OPS_HI a, 0, 16⟩
def Rg.MSQ_PART_LO (a : Act) : Nat := winMsq a + 0x88
def F.MSQ_PART_LO_COUNT (a : Act) : Fld := ⟨Rg.MSQ_PART_LO a, 0, 32⟩
def Rg.MSQ_PART_HI (a : Act) : Nat := winMsq a + 0x8c
def F.MSQ_PART_HI_COUNT (a : Act) : Fld := ⟨Rg.MSQ_PART_HI a, 0, 16⟩
def Rg.MSQ_PLD (a : Act) : Nat := winMsq a + 0x90
def F.MSQ_PLD_ADDR (a : Act) : Fld := ⟨Rg.MSQ_PLD a, 0, 32⟩
def Rg.MSQ_PLDCTL (a : Act) : Nat := winMsq a + 0x94
def F.MSQ_PLDCTL_GO (a : Act) : Fld := ⟨Rg.MSQ_PLDCTL a, 0, 1⟩
def Rg.MSQ_PSTS (a : Act) : Nat := winMsq a + 0x98
def F.MSQ_PSTS_BUSY (a : Act) : Fld := ⟨Rg.MSQ_PSTS a, 0, 1⟩
def F.MSQ_PSTS_DONE (a : Act) : Fld := ⟨Rg.MSQ_PSTS a, 1, 1⟩
def F.MSQ_PSTS_CODE (a : Act) : Fld := ⟨Rg.MSQ_PSTS a, 4, 4⟩
def F.MSQ_PSTS_PREV (a : Act) : Fld := ⟨Rg.MSQ_PSTS a, 16, 16⟩
def Rg.MSQ_OVL (a : Act) (k : Nat) : Nat := winMsq a + 0x100 + 0x4 * (k % 64)
def F.MSQ_OVL_VALID (a : Act) (k : Nat) : Fld := ⟨Rg.MSQ_OVL a k, 0, 1⟩
def F.MSQ_OVL_ROMBLK (a : Act) (k : Nat) : Fld := ⟨Rg.MSQ_OVL a k, 4, 10⟩
def F.MSQ_OVL_PBLK (a : Act) (k : Nat) : Fld := ⟨Rg.MSQ_OVL a k, 16, 8⟩
def Rg.MSQ_DISP (a : Act) (i : Nat) : Nat := winMsq a + 0x400 + 0x4 * (i % 256)
def F.MSQ_DISP_TARGET (a : Act) (i : Nat) : Fld := ⟨Rg.MSQ_DISP a i, 0, 14⟩
def Rg.ASC_CTL : Nat := 0xf0000
def F.ASC_CTL_EN : Fld := ⟨Rg.ASC_CTL, 0, 1⟩
def F.ASC_CTL_KIND0 : Fld := ⟨Rg.ASC_CTL, 1, 1⟩
def F.ASC_CTL_KIND1 : Fld := ⟨Rg.ASC_CTL, 2, 1⟩
def F.ASC_CTL_CLRCNT : Fld := ⟨Rg.ASC_CTL, 3, 1⟩
def Rg.ASC_STS : Nat := 0xf0004
def F.ASC_STS_DTVALID : Fld := ⟨Rg.ASC_STS, 0, 1⟩
def F.ASC_STS_TWIN : Fld := ⟨Rg.ASC_STS, 1, 1⟩
def F.ASC_STS_THREQ : Fld := ⟨Rg.ASC_STS, 2, 1⟩
def F.ASC_STS_THENF : Fld := ⟨Rg.ASC_STS, 3, 1⟩
def F.ASC_STS_CRIT : Fld := ⟨Rg.ASC_STS, 4, 1⟩
def F.ASC_STS_HOLD0 : Fld := ⟨Rg.ASC_STS, 5, 1⟩
def F.ASC_STS_HOLD1 : Fld := ⟨Rg.ASC_STS, 6, 1⟩
def F.ASC_STS_APBUSY0 : Fld := ⟨Rg.ASC_STS, 7, 1⟩
def F.ASC_STS_APBUSY1 : Fld := ⟨Rg.ASC_STS, 8, 1⟩
def F.ASC_STS_OVP0 : Fld := ⟨Rg.ASC_STS, 9, 1⟩
def F.ASC_STS_OVP1 : Fld := ⟨Rg.ASC_STS, 10, 1⟩
def F.ASC_STS_RECALDUE : Fld := ⟨Rg.ASC_STS, 11, 1⟩
def Rg.ASC_CCTL : Nat := 0xf0008
def F.ASC_CCTL_APPLY0 : Fld := ⟨Rg.ASC_CCTL, 0, 1⟩
def F.ASC_CCTL_APPLY1 : Fld := ⟨Rg.ASC_CCTL, 1, 1⟩
def Rg.ASC_PADDR (n : Nat) : Nat := 0xf0010 + 0x4 * (n % 2)
def F.ASC_PADDR_HTRADDR (n : Nat) : Fld := ⟨Rg.ASC_PADDR n, 0, 16⟩
def F.ASC_PADDR_ASTADDR (n : Nat) : Fld := ⟨Rg.ASC_PADDR n, 16, 16⟩
def Rg.ASC_TEL (n : Nat) : Nat := 0xf0018 + 0x4 * (n % 2)
def F.ASC_TEL_SCALE (n : Nat) : Fld := ⟨Rg.ASC_TEL n, 0, 16⟩
def F.ASC_TEL_OPN (n : Nat) : Fld := ⟨Rg.ASC_TEL n, 16, 3⟩
def F.ASC_TEL_LOOPG (n : Nat) : Fld := ⟨Rg.ASC_TEL n, 20, 8⟩
def F.ASC_TEL_TRIMLIM (n : Nat) : Fld := ⟨Rg.ASC_TEL n, 28, 4⟩
def Rg.ASC_TW : Nat := 0xf0020
def F.ASC_TW_TWLO : Fld := ⟨Rg.ASC_TW, 0, 8⟩
def F.ASC_TW_TWHI : Fld := ⟨Rg.ASC_TW, 8, 8⟩
def F.ASC_TW_HYST : Fld := ⟨Rg.ASC_TW, 16, 8⟩
def Rg.ASC_THR : Nat := 0xf0024
def F.ASC_THR_THROT : Fld := ⟨Rg.ASC_THR, 0, 8⟩
def F.ASC_THR_CRIT : Fld := ⟨Rg.ASC_THR, 8, 8⟩
def F.ASC_THR_THHYS : Fld := ⟨Rg.ASC_THR, 16, 4⟩
def F.ASC_THR_GRACE : Fld := ⟨Rg.ASC_THR, 20, 8⟩
def F.ASC_THR_CAPSTEP : Fld := ⟨Rg.ASC_THR, 28, 3⟩
def Rg.ASC_RECAL : Nat := 0xf0028
def F.ASC_RECAL_DELTA : Fld := ⟨Rg.ASC_RECAL, 0, 8⟩
def F.ASC_RECAL_TREF : Fld := ⟨Rg.ASC_RECAL, 8, 8⟩
def F.ASC_RECAL_AUTO : Fld := ⟨Rg.ASC_RECAL, 16, 1⟩
def Rg.ASC_DTMASK : Nat := 0xf002c
def F.ASC_DTMASK_MASK : Fld := ⟨Rg.ASC_DTMASK, 0, 14⟩
def Rg.ASC_DTEMP : Nat := 0xf0030
def F.ASC_DTEMP_TEMP : Fld := ⟨Rg.ASC_DTEMP, 0, 16⟩
def F.ASC_DTEMP_SRC : Fld := ⟨Rg.ASC_DTEMP, 16, 4⟩
def Rg.ASC_JTEMP : Nat := 0xf0034
def F.ASC_JTEMP_TEMP : Fld := ⟨Rg.ASC_JTEMP, 0, 16⟩
def F.ASC_JTEMP_SRC : Fld := ⟨Rg.ASC_JTEMP, 16, 4⟩
def Rg.ASC_HDIS : Nat := 0xf0038
def F.ASC_HDIS_HEAD0 : Fld := ⟨Rg.ASC_HDIS, 0, 12⟩
def F.ASC_HDIS_HEAD1 : Fld := ⟨Rg.ASC_HDIS, 16, 12⟩
def Rg.ASC_TSEN (s : Nat) : Nat := 0xf0040 + 0x4 * (s % 14)
def F.ASC_TSEN_TEMP (s : Nat) : Fld := ⟨Rg.ASC_TSEN s, 0, 16⟩
def F.ASC_TSEN_FLT (s : Nat) : Fld := ⟨Rg.ASC_TSEN s, 16, 1⟩
def Rg.ASC_CALCTL : Nat := 0xf0080
def F.ASC_CALCTL_GO : Fld := ⟨Rg.ASC_CALCTL, 0, 1⟩
def F.ASC_CALCTL_RESTORE : Fld := ⟨Rg.ASC_CALCTL, 1, 1⟩
def F.ASC_CALCTL_IMMED : Fld := ⟨Rg.ASC_CALCTL, 2, 1⟩
def F.ASC_CALCTL_AGREE : Fld := ⟨Rg.ASC_CALCTL, 8, 8⟩
def F.ASC_CALCTL_AVG : Fld := ⟨Rg.ASC_CALCTL, 16, 4⟩
def Rg.ASC_CALSTS : Nat := 0xf0084
def F.ASC_CALSTS_BUSY : Fld := ⟨Rg.ASC_CALSTS, 0, 1⟩
def F.ASC_CALSTS_PEND : Fld := ⟨Rg.ASC_CALSTS, 1, 1⟩
def F.ASC_CALSTS_SRC : Fld := ⟨Rg.ASC_CALSTS, 2, 2⟩
def F.ASC_CALSTS_CODE : Fld := ⟨Rg.ASC_CALSTS, 4, 4⟩
def F.ASC_CALSTS_TRIES : Fld := ⟨Rg.ASC_CALSTS, 8, 2⟩
def Rg.ASC_CALTIME_LO : Nat := 0xf0088
def F.ASC_CALTIME_LO_NS : Fld := ⟨Rg.ASC_CALTIME_LO, 0, 32⟩
def Rg.ASC_CALTIME_HI : Nat := 0xf008c
def F.ASC_CALTIME_HI_NS : Fld := ⟨Rg.ASC_CALTIME_HI, 0, 32⟩
def Rg.ASC_CALRES0 : Nat := 0xf0090
def F.ASC_CALRES0_GAIN : Fld := ⟨Rg.ASC_CALRES0, 0, 16⟩
def F.ASC_CALRES0_OFFSET : Fld := ⟨Rg.ASC_CALRES0, 16, 16⟩
def Rg.ASC_CALRES1 : Nat := 0xf0094
def F.ASC_CALRES1_COUNT : Fld := ⟨Rg.ASC_CALRES1, 0, 32⟩
def Rg.ASC_CALRES2 : Nat := 0xf0098
def F.ASC_CALRES2_TEMP : Fld := ⟨Rg.ASC_CALRES2, 0, 16⟩
def Rg.ASC_CALRES3 : Nat := 0xf009c
def F.ASC_CALRES3_CRC : Fld := ⟨Rg.ASC_CALRES3, 0, 32⟩
def Rg.ASC_OVPCNT_LO : Nat := 0xf00a0
def F.ASC_OVPCNT_LO_COUNT : Fld := ⟨Rg.ASC_OVPCNT_LO, 0, 32⟩
def Rg.ASC_OVPCNT_HI : Nat := 0xf00a4
def F.ASC_OVPCNT_HI_COUNT : Fld := ⟨Rg.ASC_OVPCNT_HI, 0, 16⟩
def Rg.ASC_CALBUF (i : Nat) : Nat := 0xf00b0 + 0x4 * (i % 4)
def F.ASC_CALBUF_WORD (i : Nat) : Fld := ⟨Rg.ASC_CALBUF i, 0, 32⟩
def Rg.ASC_AGE (k : Nat) : Nat := 0xf0100 + 0x4 * (k % 8)
def F.ASC_AGE_DEGR (k : Nat) : Fld := ⟨Rg.ASC_AGE k, 0, 16⟩
def Rg.ASC_AGESUM : Nat := 0xf0120
def F.ASC_AGESUM_USED : Fld := ⟨Rg.ASC_AGESUM, 0, 8⟩
def F.ASC_AGESUM_LIMIT : Fld := ⟨Rg.ASC_AGESUM, 8, 16⟩
def Rg.ASC_SP_W0 (n h : Nat) : Nat := 0xf0400 + 0x200 * (n % 2) + 0x20 * (h % 12)
def F.ASC_SP_W0_ASSIST (n h : Nat) : Fld := ⟨Rg.ASC_SP_W0 n h, 0, 12⟩
def F.ASC_SP_W0_WHTR (n h : Nat) : Fld := ⟨Rg.ASC_SP_W0 n h, 12, 10⟩
def F.ASC_SP_W0_RHTR (n h : Nat) : Fld := ⟨Rg.ASC_SP_W0 n h, 22, 10⟩
def Rg.ASC_SP_W1 (n h : Nat) : Nat := 0xf0404 + 0x200 * (n % 2) + 0x20 * (h % 12)
def F.ASC_SP_W1_ASSIST (n h : Nat) : Fld := ⟨Rg.ASC_SP_W1 n h, 0, 12⟩
def F.ASC_SP_W1_WHTR (n h : Nat) : Fld := ⟨Rg.ASC_SP_W1 n h, 12, 10⟩
def F.ASC_SP_W1_RHTR (n h : Nat) : Fld := ⟨Rg.ASC_SP_W1 n h, 22, 10⟩
def Rg.ASC_SP_W2 (n h : Nat) : Nat := 0xf0408 + 0x200 * (n % 2) + 0x20 * (h % 12)
def F.ASC_SP_W2_ASSIST (n h : Nat) : Fld := ⟨Rg.ASC_SP_W2 n h, 0, 12⟩
def F.ASC_SP_W2_WHTR (n h : Nat) : Fld := ⟨Rg.ASC_SP_W2 n h, 12, 10⟩
def F.ASC_SP_W2_RHTR (n h : Nat) : Fld := ⟨Rg.ASC_SP_W2 n h, 22, 10⟩
def Rg.ASC_SP_W3 (n h : Nat) : Nat := 0xf040c + 0x200 * (n % 2) + 0x20 * (h % 12)
def F.ASC_SP_W3_ASSIST (n h : Nat) : Fld := ⟨Rg.ASC_SP_W3 n h, 0, 12⟩
def F.ASC_SP_W3_WHTR (n h : Nat) : Fld := ⟨Rg.ASC_SP_W3 n h, 12, 10⟩
def F.ASC_SP_W3_RHTR (n h : Nat) : Fld := ⟨Rg.ASC_SP_W3 n h, 22, 10⟩
def Rg.ASC_SP_W4 (n h : Nat) : Nat := 0xf0410 + 0x200 * (n % 2) + 0x20 * (h % 12)
def F.ASC_SP_W4_ASSIST (n h : Nat) : Fld := ⟨Rg.ASC_SP_W4 n h, 0, 12⟩
def F.ASC_SP_W4_WHTR (n h : Nat) : Fld := ⟨Rg.ASC_SP_W4 n h, 12, 10⟩
def F.ASC_SP_W4_RHTR (n h : Nat) : Fld := ⟨Rg.ASC_SP_W4 n h, 22, 10⟩
def Rg.ASC_SP_W5 (n h : Nat) : Nat := 0xf0414 + 0x200 * (n % 2) + 0x20 * (h % 12)
def F.ASC_SP_W5_TCA (n h : Nat) : Fld := ⟨Rg.ASC_SP_W5 n h, 0, 8⟩
def F.ASC_SP_W5_TCW (n h : Nat) : Fld := ⟨Rg.ASC_SP_W5 n h, 8, 8⟩
def F.ASC_SP_W5_TCR (n h : Nat) : Fld := ⟨Rg.ASC_SP_W5 n h, 16, 8⟩
def Rg.ASC_SP_W6 (n h : Nat) : Nat := 0xf0418 + 0x200 * (n % 2) + 0x20 * (h % 12)
def F.ASC_SP_W6_AMAX (n h : Nat) : Fld := ⟨Rg.ASC_SP_W6 n h, 0, 12⟩
def F.ASC_SP_W6_HMAX (n h : Nat) : Fld := ⟨Rg.ASC_SP_W6 n h, 12, 10⟩
def F.ASC_SP_W6_OPLIM (n h : Nat) : Fld := ⟨Rg.ASC_SP_W6 n h, 22, 10⟩
def Rg.ASC_SP_W7 (n h : Nat) : Nat := 0xf041c + 0x200 * (n % 2) + 0x20 * (h % 12)
def F.ASC_SP_W7_TRIM (n h : Nat) : Fld := ⟨Rg.ASC_SP_W7 n h, 0, 12⟩
def Rg.ZNE_CTL : Nat := 0x30000
def F.ZNE_CTL_EN : Fld := ⟨Rg.ZNE_CTL, 0, 1⟩
def F.ZNE_CTL_CLRCNT : Fld := ⟨Rg.ZNE_CTL, 1, 1⟩
def Rg.ZNE_STS : Nat := 0x30004
def F.ZNE_STS_RUN : Fld := ⟨Rg.ZNE_STS, 0, 1⟩
def F.ZNE_STS_CFGERR : Fld := ⟨Rg.ZNE_STS, 1, 1⟩
def F.ZNE_STS_CODE : Fld := ⟨Rg.ZNE_STS, 2, 4⟩
def F.ZNE_STS_SPFULL : Fld := ⟨Rg.ZNE_STS, 6, 1⟩
def F.ZNE_STS_RCLM : Fld := ⟨Rg.ZNE_STS, 7, 1⟩
def Rg.ZNE_CFG : Nat := 0x30008
def F.ZNE_CFG_NZONES : Fld := ⟨Rg.ZNE_CFG, 0, 20⟩
def F.ZNE_CFG_WRETRY : Fld := ⟨Rg.ZNE_CFG, 20, 4⟩
def Rg.ZNE_SURF : Nat := 0x3000c
def F.ZNE_SURF_MASK0 : Fld := ⟨Rg.ZNE_SURF, 0, 12⟩
def F.ZNE_SURF_MASK1 : Fld := ⟨Rg.ZNE_SURF, 16, 12⟩
def Rg.ZNE_FAIL : Nat := 0x30010
def F.ZNE_FAIL_FAIL0 : Fld := ⟨Rg.ZNE_FAIL, 0, 12⟩
def F.ZNE_FAIL_FAIL1 : Fld := ⟨Rg.ZNE_FAIL, 16, 12⟩
def Rg.ZNE_LIMIT : Nat := 0x30014
def F.ZNE_LIMIT_MAXOPEN : Fld := ⟨Rg.ZNE_LIMIT, 0, 9⟩
def F.ZNE_LIMIT_MAXACT : Fld := ⟨Rg.ZNE_LIMIT, 16, 9⟩
def Rg.ZNE_CNT : Nat := 0x30018
def F.ZNE_CNT_NOPEN : Fld := ⟨Rg.ZNE_CNT, 0, 9⟩
def F.ZNE_CNT_NACTIVE : Fld := ⟨Rg.ZNE_CNT, 16, 9⟩
def Rg.ZNE_MDBASE : Nat := 0x3001c
def F.ZNE_MDBASE_BLK : Fld := ⟨Rg.ZNE_MDBASE, 0, 12⟩
def Rg.ZNE_CONV : Nat := 0x30020
def F.ZNE_CONV_SIZE : Fld := ⟨Rg.ZNE_CONV, 0, 11⟩
def Rg.ZNE_IDLE : Nat := 0x30024
def F.ZNE_IDLE_CHUNK : Fld := ⟨Rg.ZNE_IDLE, 0, 16⟩
def Rg.ZNE_RCLM : Nat := 0x30028
def F.ZNE_RCLM_LOWFREE : Fld := ⟨Rg.ZNE_RCLM, 0, 16⟩
def F.ZNE_RCLM_HIGHFREE : Fld := ⟨Rg.ZNE_RCLM, 16, 16⟩
def Rg.ZNE_SPCNT : Nat := 0x3002c
def F.ZNE_SPCNT_COUNT : Fld := ⟨Rg.ZNE_SPCNT, 0, 18⟩
def Rg.ZNE_SPADD : Nat := 0x30030
def F.ZNE_SPADD_ENTRY : Fld := ⟨Rg.ZNE_SPADD, 0, 30⟩
def F.ZNE_SPADD_GO : Fld := ⟨Rg.ZNE_SPADD, 31, 1⟩
def Rg.ZNE_SPSTS : Nat := 0x30034
def F.ZNE_SPSTS_BUSY : Fld := ⟨Rg.ZNE_SPSTS, 0, 1⟩
def F.ZNE_SPSTS_DONE : Fld := ⟨Rg.ZNE_SPSTS, 1, 1⟩
def F.ZNE_SPSTS_RESULT : Fld := ⟨Rg.ZNE_SPSTS, 2, 2⟩
def Rg.ZNE_RELOC_LO : Nat := 0x30040
def F.ZNE_RELOC_LO_COUNT : Fld := ⟨Rg.ZNE_RELOC_LO, 0, 32⟩
def Rg.ZNE_RELOC_HI : Nat := 0x30044
def F.ZNE_RELOC_HI_COUNT : Fld := ⟨Rg.ZNE_RELOC_HI, 0, 16⟩
def Rg.ZNE_RCLMCNT_LO : Nat := 0x30048
def F.ZNE_RCLMCNT_LO_COUNT : Fld := ⟨Rg.ZNE_RCLMCNT_LO, 0, 32⟩
def Rg.ZNE_RCLMCNT_HI : Nat := 0x3004c
def F.ZNE_RCLMCNT_HI_COUNT : Fld := ⟨Rg.ZNE_RCLMCNT_HI, 0, 16⟩
def Rg.ZNE_ZRESET_LO : Nat := 0x30050
def F.ZNE_ZRESET_LO_COUNT : Fld := ⟨Rg.ZNE_ZRESET_LO, 0, 32⟩
def Rg.ZNE_ZRESET_HI : Nat := 0x30054
def F.ZNE_ZRESET_HI_COUNT : Fld := ⟨Rg.ZNE_ZRESET_HI, 0, 16⟩
def Rg.ZNE_RGN_W0 (s r : Nat) : Nat := 0x31000 + 0x200 * (s % 24) + 0x10 * (r % 32)
def F.ZNE_RGN_W0_FIRSTTRK (s r : Nat) : Fld := ⟨Rg.ZNE_RGN_W0 s r, 0, 24⟩
def F.ZNE_RGN_W0_FMT (s r : Nat) : Fld := ⟨Rg.ZNE_RGN_W0 s r, 24, 6⟩
def F.ZNE_RGN_W0_KIND (s r : Nat) : Fld := ⟨Rg.ZNE_RGN_W0 s r, 30, 2⟩
def Rg.ZNE_RGN_W1 (s r : Nat) : Nat := 0x31004 + 0x200 * (s % 24) + 0x10 * (r % 32)
def F.ZNE_RGN_W1_NBANDS (s r : Nat) : Fld := ⟨Rg.ZNE_RGN_W1 s r, 0, 16⟩
def F.ZNE_RGN_W1_PSET (s r : Nat) : Fld := ⟨Rg.ZNE_RGN_W1 s r, 16, 6⟩
def F.ZNE_RGN_W1_TSKEW (s r : Nat) : Fld := ⟨Rg.ZNE_RGN_W1 s r, 22, 9⟩
def Rg.ZNE_RGN_W2 (s r : Nat) : Nat := 0x31008 + 0x200 * (s % 24) + 0x10 * (r % 32)
def F.ZNE_RGN_W2_SPT (s r : Nat) : Fld := ⟨Rg.ZNE_RGN_W2 s r, 0, 11⟩
def F.ZNE_RGN_W2_SPB (s r : Nat) : Fld := ⟨Rg.ZNE_RGN_W2 s r, 12, 9⟩
def Rg.ZNE_RGN_W3 (s r : Nat) : Nat := 0x3100c + 0x200 * (s % 24) + 0x10 * (r % 32)
def F.ZNE_RGN_W3_FIRSTSLOT (s r : Nat) : Fld := ⟨Rg.ZNE_RGN_W3 s r, 0, 23⟩
def Rg.STE_CTL : Nat := 0x40000
def F.STE_CTL_EN : Fld := ⟨Rg.STE_CTL, 0, 1⟩
def F.STE_CTL_CLRCNT : Fld := ⟨Rg.STE_CTL, 1, 1⟩
def F.STE_CTL_CPREQ : Fld := ⟨Rg.STE_CTL, 2, 1⟩
def Rg.STE_STS : Nat := 0x40004
def F.STE_STS_RUN : Fld := ⟨Rg.STE_STS, 0, 1⟩
def F.STE_STS_RPHASE : Fld := ⟨Rg.STE_STS, 1, 2⟩
def F.STE_STS_CPBUSY : Fld := ⟨Rg.STE_STS, 3, 1⟩
def F.STE_STS_JSTALL : Fld := ⟨Rg.STE_STS, 4, 1⟩
def F.STE_STS_JSINGLE : Fld := ⟨Rg.STE_STS, 5, 1⟩
def F.STE_STS_MEND : Fld := ⟨Rg.STE_STS, 6, 1⟩
def F.STE_STS_RINSE : Fld := ⟨Rg.STE_STS, 7, 1⟩
def F.STE_STS_CFGERR : Fld := ⟨Rg.STE_STS, 8, 1⟩
def F.STE_STS_CODE : Fld := ⟨Rg.STE_STS, 9, 4⟩
def Rg.STE_JCFG : Nat := 0x40008
def F.STE_JCFG_CPHIGH : Fld := ⟨Rg.STE_JCFG, 0, 16⟩
def F.STE_JCFG_CPINT : Fld := ⟨Rg.STE_JCFG, 16, 8⟩
def Rg.STE_JOCC : Nat := 0x4000c
def F.STE_JOCC_OCC : Fld := ⟨Rg.STE_JOCC, 0, 17⟩
def Rg.STE_JSEQ_LO : Nat := 0x40010
def F.STE_JSEQ_LO_VALUE : Fld := ⟨Rg.STE_JSEQ_LO, 0, 32⟩
def Rg.STE_JSEQ_HI : Nat := 0x40014
def F.STE_JSEQ_HI_VALUE : Fld := ⟨Rg.STE_JSEQ_HI, 0, 32⟩
def Rg.STE_CPSEQ_LO : Nat := 0x40018
def F.STE_CPSEQ_LO_VALUE : Fld := ⟨Rg.STE_CPSEQ_LO, 0, 32⟩
def Rg.STE_CPSEQ_HI : Nat := 0x4001c
def F.STE_CPSEQ_HI_VALUE : Fld := ⟨Rg.STE_CPSEQ_HI, 0, 32⟩
def Rg.STE_JAREA_W0 (a : Nat) : Nat := 0x40040 + 0x10 * (a % 4)
def F.STE_JAREA_W0_FIRSTTRK (a : Nat) : Fld := ⟨Rg.STE_JAREA_W0 a, 0, 24⟩
def F.STE_JAREA_W0_FMT (a : Nat) : Fld := ⟨Rg.STE_JAREA_W0 a, 24, 6⟩
def Rg.STE_JAREA_W1 (a : Nat) : Nat := 0x40044 + 0x10 * (a % 4)
def F.STE_JAREA_W1_NTRK (a : Nat) : Fld := ⟨Rg.STE_JAREA_W1 a, 0, 16⟩
def F.STE_JAREA_W1_SURF (a : Nat) : Fld := ⟨Rg.STE_JAREA_W1 a, 16, 5⟩
def F.STE_JAREA_W1_PSET (a : Nat) : Fld := ⟨Rg.STE_JAREA_W1 a, 21, 6⟩
def F.STE_JAREA_W1_EN (a : Nat) : Fld := ⟨Rg.STE_JAREA_W1 a, 27, 1⟩
def Rg.STE_JAREA_W2 (a : Nat) : Nat := 0x40048 + 0x10 * (a % 4)
def F.STE_JAREA_W2_TSKEW (a : Nat) : Fld := ⟨Rg.STE_JAREA_W2 a, 0, 9⟩
def F.STE_JAREA_W2_ROLE (a : Nat) : Fld := ⟨Rg.STE_JAREA_W2 a, 14, 2⟩
def F.STE_JAREA_W2_SEGS (a : Nat) : Fld := ⟨Rg.STE_JAREA_W2 a, 16, 16⟩
def Rg.STE_MCFG : Nat := 0x40080
def F.STE_MCFG_AUTORET : Fld := ⟨Rg.STE_MCFG, 0, 1⟩
def F.STE_MCFG_MOUT : Fld := ⟨Rg.STE_MCFG, 1, 4⟩
def Rg.STE_RETIRE : Nat := 0x40084
def F.STE_RETIRE_SURF : Fld := ⟨Rg.STE_RETIRE, 0, 5⟩
def F.STE_RETIRE_GO : Fld := ⟨Rg.STE_RETIRE, 31, 1⟩
def Rg.STE_MSTS : Nat := 0x40088
def F.STE_MSTS_PEND : Fld := ⟨Rg.STE_MSTS, 0, 24⟩
def Rg.STE_MCUR : Nat := 0x4008c
def F.STE_MCUR_ZONE : Fld := ⟨Rg.STE_MCUR, 0, 19⟩
def F.STE_MCUR_STRIPE : Fld := ⟨Rg.STE_MCUR, 19, 4⟩
def F.STE_MCUR_PRIO : Fld := ⟨Rg.STE_MCUR, 23, 1⟩
def Rg.STE_RCTL : Nat := 0x40090
def F.STE_RCTL_GO : Fld := ⟨Rg.STE_RCTL, 0, 1⟩
def F.STE_RCTL_STOP : Fld := ⟨Rg.STE_RCTL, 1, 1⟩
def F.STE_RCTL_CHECKP : Fld := ⟨Rg.STE_RCTL, 2, 1⟩
def F.STE_RCTL_RELOCREV : Fld := ⟨Rg.STE_RCTL, 3, 6⟩
def Rg.STE_RMASK : Nat := 0x40094
def F.STE_RMASK_MASK0 : Fld := ⟨Rg.STE_RMASK, 0, 12⟩
def F.STE_RMASK_MASK1 : Fld := ⟨Rg.STE_RMASK, 16, 12⟩
def Rg.STE_RSADDR_LO : Nat := 0x40098
def F.STE_RSADDR_LO_ADDR : Fld := ⟨Rg.STE_RSADDR_LO, 0, 32⟩
def Rg.STE_RSADDR_HI : Nat := 0x4009c
def F.STE_RSADDR_HI_ADDR : Fld := ⟨Rg.STE_RSADDR_HI, 0, 32⟩
def Rg.STE_RSTS : Nat := 0x400a0
def F.STE_RSTS_BUSY : Fld := ⟨Rg.STE_RSTS, 0, 1⟩
def F.STE_RSTS_DONE : Fld := ⟨Rg.STE_RSTS, 1, 1⟩
def F.STE_RSTS_CODE : Fld := ⟨Rg.STE_RSTS, 2, 2⟩
def F.STE_RSTS_PASSES : Fld := ⟨Rg.STE_RSTS, 16, 16⟩
def Rg.STE_CCFG : Nat := 0x400a4
def F.STE_CCFG_RSEL : Fld := ⟨Rg.STE_CCFG, 0, 2⟩
def Rg.STE_SILENT_LO : Nat := 0x400c0
def F.STE_SILENT_LO_COUNT : Fld := ⟨Rg.STE_SILENT_LO, 0, 32⟩
def Rg.STE_SILENT_HI : Nat := 0x400c4
def F.STE_SILENT_HI_COUNT : Fld := ⟨Rg.STE_SILENT_HI, 0, 16⟩
def Rg.STE_RECON_LO : Nat := 0x400c8
def F.STE_RECON_LO_COUNT : Fld := ⟨Rg.STE_RECON_LO, 0, 32⟩
def Rg.STE_RECON_HI : Nat := 0x400cc
def F.STE_RECON_HI_COUNT : Fld := ⟨Rg.STE_RECON_HI, 0, 16⟩
def Rg.STE_UNREC_LO : Nat := 0x400d0
def F.STE_UNREC_LO_COUNT : Fld := ⟨Rg.STE_UNREC_LO, 0, 32⟩
def Rg.STE_UNREC_HI : Nat := 0x400d4
def F.STE_UNREC_HI_COUNT : Fld := ⟨Rg.STE_UNREC_HI, 0, 16⟩
def Rg.STE_MENDCNT_LO : Nat := 0x400d8
def F.STE_MENDCNT_LO_COUNT : Fld := ⟨Rg.STE_MENDCNT_LO, 0, 32⟩
def Rg.STE_MENDCNT_HI : Nat := 0x400dc
def F.STE_MENDCNT_HI_COUNT : Fld := ⟨Rg.STE_MENDCNT_HI, 0, 16⟩
def Rg.STE_PMISM_LO : Nat := 0x400e0
def F.STE_PMISM_LO_COUNT : Fld := ⟨Rg.STE_PMISM_LO, 0, 32⟩
def Rg.STE_PMISM_HI : Nat := 0x400e4
def F.STE_PMISM_HI_COUNT : Fld := ⟨Rg.STE_PMISM_HI, 0, 16⟩
def Rg.STE_CPCNT_LO : Nat := 0x400e8
def F.STE_CPCNT_LO_COUNT : Fld := ⟨Rg.STE_CPCNT_LO, 0, 32⟩
def Rg.STE_CPCNT_HI : Nat := 0x400ec
def F.STE_CPCNT_HI_COUNT : Fld := ⟨Rg.STE_CPCNT_HI, 0, 16⟩
def Rg.CQE_CTL : Nat := 0x20000
def F.CQE_CTL_EN : Fld := ⟨Rg.CQE_CTL, 0, 1⟩
def F.CQE_CTL_CLRCNT : Fld := ⟨Rg.CQE_CTL, 1, 1⟩
def Rg.CQE_STS : Nat := 0x20004
def F.CQE_STS_RUN : Fld := ⟨Rg.CQE_STS, 0, 1⟩
def F.CQE_STS_CFGERR : Fld := ⟨Rg.CQE_STS, 1, 1⟩
def F.CQE_STS_SLOTFULL : Fld := ⟨Rg.CQE_STS, 2, 1⟩
def F.CQE_STS_JSTALL : Fld := ⟨Rg.CQE_STS, 3, 1⟩
def F.CQE_STS_FWACT : Fld := ⟨Rg.CQE_STS, 4, 1⟩
def F.CQE_STS_QUIESCE : Fld := ⟨Rg.CQE_STS, 5, 1⟩
def F.CQE_STS_EARLY : Fld := ⟨Rg.CQE_STS, 6, 1⟩
def Rg.CQE_STAMP_LO : Nat := 0x20008
def F.CQE_STAMP_LO_STAMP : Fld := ⟨Rg.CQE_STAMP_LO, 0, 32⟩
def Rg.CQE_STAMP_HI : Nat := 0x2000c
def F.CQE_STAMP_HI_STAMP : Fld := ⟨Rg.CQE_STAMP_HI, 0, 32⟩
def Rg.CQE_SLOTS : Nat := 0x20010
def F.CQE_SLOTS_USED : Fld := ⟨Rg.CQE_SLOTS, 0, 14⟩
def Rg.CQE_IL : Nat := 0x20014
def F.CQE_IL_USED : Fld := ⟨Rg.CQE_IL, 0, 11⟩
def F.CQE_IL_HELD : Fld := ⟨Rg.CQE_IL, 16, 11⟩
def Rg.CQE_PWCFG : Nat := 0x20018
def F.CQE_PWCFG_LIMIT : Fld := ⟨Rg.CQE_PWCFG, 0, 13⟩
def Rg.CQE_PWOCC : Nat := 0x2001c
def F.CQE_PWOCC_BLOCKS : Fld := ⟨Rg.CQE_PWOCC, 0, 13⟩
def Rg.CQE_CSTAGE : Nat := 0x20020
def F.CQE_CSTAGE_BLK : Fld := ⟨Rg.CQE_CSTAGE, 0, 12⟩
def F.CQE_CSTAGE_SIZE : Fld := ⟨Rg.CQE_CSTAGE, 12, 8⟩
def Rg.CQE_PSCTL : Nat := 0x20024
def F.CQE_PSCTL_TARGET : Fld := ⟨Rg.CQE_PSCTL, 0, 3⟩
def F.CQE_PSCTL_GO : Fld := ⟨Rg.CQE_PSCTL, 31, 1⟩
def Rg.CQE_PSTS : Nat := 0x20028
def F.CQE_PSTS_CUR : Fld := ⟨Rg.CQE_PSTS, 0, 3⟩
def F.CQE_PSTS_TARGET : Fld := ⟨Rg.CQE_PSTS, 3, 3⟩
def F.CQE_PSTS_CKPT : Fld := ⟨Rg.CQE_PSTS, 6, 3⟩
def F.CQE_PSTS_ENTRY : Fld := ⟨Rg.CQE_PSTS, 9, 1⟩
def F.CQE_PSTS_RETURN : Fld := ⟨Rg.CQE_PSTS, 10, 1⟩
def F.CQE_PSTS_ABAND : Fld := ⟨Rg.CQE_PSTS, 11, 1⟩
def Rg.CQE_FWA : Nat := 0x2002c
def F.CQE_FWA_REQ : Fld := ⟨Rg.CQE_FWA, 0, 1⟩
def F.CQE_FWA_READY : Fld := ⟨Rg.CQE_FWA, 1, 1⟩
def F.CQE_FWA_DONE : Fld := ⟨Rg.CQE_FWA, 2, 1⟩
def Rg.CQE_ILSEL : Nat := 0x20030
def F.CQE_ILSEL_INDEX : Fld := ⟨Rg.CQE_ILSEL, 0, 10⟩
def Rg.CQE_ILDATA (i : Nat) : Nat := 0x20040 + 0x4 * (i % 4)
def F.CQE_ILDATA_WORD (i : Nat) : Fld := ⟨Rg.CQE_ILDATA i, 0, 32⟩
def Rg.CQE_ADMIT_LO : Nat := 0x20080
def F.CQE_ADMIT_LO_COUNT : Fld := ⟨Rg.CQE_ADMIT_LO, 0, 32⟩
def Rg.CQE_ADMIT_HI : Nat := 0x20084
def F.CQE_ADMIT_HI_COUNT : Fld := ⟨Rg.CQE_ADMIT_HI, 0, 16⟩
def Rg.CQE_EARLY_LO : Nat := 0x20088
def F.CQE_EARLY_LO_COUNT : Fld := ⟨Rg.CQE_EARLY_LO, 0, 32⟩
def Rg.CQE_EARLY_HI : Nat := 0x2008c
def F.CQE_EARLY_HI_COUNT : Fld := ⟨Rg.CQE_EARLY_HI, 0, 16⟩
def Rg.CQE_MVCAN_LO : Nat := 0x20090
def F.CQE_MVCAN_LO_COUNT : Fld := ⟨Rg.CQE_MVCAN_LO, 0, 32⟩
def Rg.CQE_MVCAN_HI : Nat := 0x20094
def F.CQE_MVCAN_HI_COUNT : Fld := ⟨Rg.CQE_MVCAN_HI, 0, 16⟩
def Rg.CQE_POISON_LO : Nat := 0x20098
def F.CQE_POISON_LO_COUNT : Fld := ⟨Rg.CQE_POISON_LO, 0, 32⟩
def Rg.CQE_POISON_HI : Nat := 0x2009c
def F.CQE_POISON_HI_COUNT : Fld := ⟨Rg.CQE_POISON_HI, 0, 16⟩
def Rg.CQE_PSABAND_LO : Nat := 0x200a0
def F.CQE_PSABAND_LO_COUNT : Fld := ⟨Rg.CQE_PSABAND_LO, 0, 32⟩
def Rg.CQE_PSABAND_HI : Nat := 0x200a4
def F.CQE_PSABAND_HI_COUNT : Fld := ⟨Rg.CQE_PSABAND_HI, 0, 16⟩
def Rg.HEP_CTL : Nat := 0x10000
def F.HEP_CTL_CFGRDY : Fld := ⟨Rg.HEP_CTL, 0, 1⟩
def F.HEP_CTL_CLRCNT : Fld := ⟨Rg.HEP_CTL, 1, 1⟩
def Rg.HEP_STS : Nat := 0x10004
def F.HEP_STS_RDY0 : Fld := ⟨Rg.HEP_STS, 0, 1⟩
def F.HEP_STS_RDY1 : Fld := ⟨Rg.HEP_STS, 1, 1⟩
def F.HEP_STS_GEN0 : Fld := ⟨Rg.HEP_STS, 2, 1⟩
def F.HEP_STS_GEN1 : Fld := ⟨Rg.HEP_STS, 3, 1⟩
def F.HEP_STS_BMEP0 : Fld := ⟨Rg.HEP_STS, 4, 1⟩
def F.HEP_STS_BMEP1 : Fld := ⟨Rg.HEP_STS, 5, 1⟩
def Rg.HEP_AUTH (n : Nat) : Nat := 0x10008 + 0x4 * (n % 2)
def F.HEP_AUTH_READ (n : Nat) : Fld := ⟨Rg.HEP_AUTH n, 0, 1⟩
def F.HEP_AUTH_WRITE (n : Nat) : Fld := ⟨Rg.HEP_AUTH n, 1, 1⟩
def F.HEP_AUTH_ADMIN (n : Nat) : Fld := ⟨Rg.HEP_AUTH n, 2, 1⟩
def F.HEP_AUTH_FW (n : Nat) : Fld := ⟨Rg.HEP_AUTH n, 3, 1⟩
def F.HEP_AUTH_SECURITY (n : Nat) : Fld := ⟨Rg.HEP_AUTH n, 4, 1⟩
def F.HEP_AUTH_SERVICE (n : Nat) : Fld := ⟨Rg.HEP_AUTH n, 5, 1⟩
def Rg.HEP_SSID : Nat := 0x10010
def F.HEP_SSID_SSVID : Fld := ⟨Rg.HEP_SSID, 0, 16⟩
def F.HEP_SSID_SSID : Fld := ⟨Rg.HEP_SSID, 16, 16⟩
def Rg.HEP_OPTLEN : Nat := 0x10014
def F.HEP_OPTLEN_LEN : Fld := ⟨Rg.HEP_OPTLEN, 0, 10⟩
def Rg.HEP_LINK (n : Nat) : Nat := 0x10018 + 0x4 * (n % 2)
def F.HEP_LINK_SPEED (n : Nat) : Fld := ⟨Rg.HEP_LINK n, 0, 3⟩
def F.HEP_LINK_WIDTH (n : Nat) : Fld := ⟨Rg.HEP_LINK n, 3, 3⟩
def Rg.HEP_MI : Nat := 0x10020
def F.HEP_MI_ADDR : Fld := ⟨Rg.HEP_MI, 0, 7⟩
def F.HEP_MI_EN : Fld := ⟨Rg.HEP_MI, 7, 1⟩
def Rg.HEP_DSN_LO : Nat := 0x10028
def F.HEP_DSN_LO_DSN : Fld := ⟨Rg.HEP_DSN_LO, 0, 32⟩
def Rg.HEP_DSN_HI : Nat := 0x1002c
def F.HEP_DSN_HI_DSN : Fld := ⟨Rg.HEP_DSN_HI, 0, 32⟩
def Rg.HEP_TSOFF_LO : Nat := 0x10030
def F.HEP_TSOFF_LO_OFFSET : Fld := ⟨Rg.HEP_TSOFF_LO, 0, 32⟩
def Rg.HEP_TSOFF_HI : Nat := 0x10034
def F.HEP_TSOFF_HI_OFFSET : Fld := ⟨Rg.HEP_TSOFF_HI, 0, 32⟩
def Rg.HEP_LATE_CPL_LO (n : Nat) : Nat := 0x10040 + 0x20 * (n % 2)
def F.HEP_LATE_CPL_LO_COUNT (n : Nat) : Fld := ⟨Rg.HEP_LATE_CPL_LO n, 0, 32⟩
def Rg.HEP_LATE_CPL_HI (n : Nat) : Nat := 0x10044 + 0x20 * (n % 2)
def F.HEP_LATE_CPL_HI_COUNT (n : Nat) : Fld := ⟨Rg.HEP_LATE_CPL_HI n, 0, 16⟩
def Rg.HEP_STALE_LO (n : Nat) : Nat := 0x10048 + 0x20 * (n % 2)
def F.HEP_STALE_LO_COUNT (n : Nat) : Fld := ⟨Rg.HEP_STALE_LO n, 0, 32⟩
def Rg.HEP_STALE_HI (n : Nat) : Nat := 0x1004c + 0x20 * (n % 2)
def F.HEP_STALE_HI_COUNT (n : Nat) : Fld := ⟨Rg.HEP_STALE_HI n, 0, 16⟩
def Rg.HEP_CTO_LO (n : Nat) : Nat := 0x10050 + 0x20 * (n % 2)
def F.HEP_CTO_LO_COUNT (n : Nat) : Fld := ⟨Rg.HEP_CTO_LO n, 0, 32⟩
def Rg.HEP_CTO_HI (n : Nat) : Nat := 0x10054 + 0x20 * (n % 2)
def F.HEP_CTO_HI_COUNT (n : Nat) : Fld := ⟨Rg.HEP_CTO_HI n, 0, 16⟩
def Rg.MEM_CTL : Nat := 0x50000
def F.MEM_CTL_CLRCNT : Fld := ⟨Rg.MEM_CTL, 0, 1⟩
def Rg.MEM_STS : Nat := 0x50004
def F.MEM_STS_SPARES : Fld := ⟨Rg.MEM_STS, 0, 2⟩
def Rg.MEM_DARNSEL : Nat := 0x50008
def F.MEM_DARNSEL_BANK : Fld := ⟨Rg.MEM_DARNSEL, 0, 7⟩
def F.MEM_DARNSEL_ENTRY : Fld := ⟨Rg.MEM_DARNSEL, 7, 4⟩
def Rg.MEM_DARNDATA : Nat := 0x5000c
def F.MEM_DARNDATA_WORD : Fld := ⟨Rg.MEM_DARNDATA, 0, 17⟩
def F.MEM_DARNDATA_VALID : Fld := ⟨Rg.MEM_DARNDATA, 17, 1⟩
def Rg.MEM_BANKMAP : Nat := 0x50010
def F.MEM_BANKMAP_SPARE0 : Fld := ⟨Rg.MEM_BANKMAP, 0, 7⟩
def F.MEM_BANKMAP_SPARE1 : Fld := ⟨Rg.MEM_BANKMAP, 8, 7⟩
def Rg.MEM_UEINFO : Nat := 0x50014
def F.MEM_UEINFO_SRC : Fld := ⟨Rg.MEM_UEINFO, 0, 2⟩
def F.MEM_UEINFO_MULTI : Fld := ⟨Rg.MEM_UEINFO, 2, 1⟩
def Rg.MEM_UEADDR_LO : Nat := 0x50018
def F.MEM_UEADDR_LO_ADDR : Fld := ⟨Rg.MEM_UEADDR_LO, 0, 32⟩
def Rg.MEM_UEADDR_HI : Nat := 0x5001c
def F.MEM_UEADDR_HI_ADDR : Fld := ⟨Rg.MEM_UEADDR_HI, 0, 32⟩
def Rg.MEM_SCRCTL : Nat := 0x50020
def F.MEM_SCRCTL_GO : Fld := ⟨Rg.MEM_SCRCTL, 0, 1⟩
def F.MEM_SCRCTL_TGT : Fld := ⟨Rg.MEM_SCRCTL, 1, 2⟩
def F.MEM_SCRCTL_FIRST : Fld := ⟨Rg.MEM_SCRCTL, 3, 6⟩
def F.MEM_SCRCTL_NBANKS : Fld := ⟨Rg.MEM_SCRCTL, 9, 7⟩
def F.MEM_SCRCTL_INTV : Fld := ⟨Rg.MEM_SCRCTL, 16, 8⟩
def Rg.MEM_SCRSTS : Nat := 0x50024
def F.MEM_SCRSTS_BUSY : Fld := ⟨Rg.MEM_SCRSTS, 0, 1⟩
def F.MEM_SCRSTS_DONE : Fld := ⟨Rg.MEM_SCRSTS, 1, 1⟩
def F.MEM_SCRSTS_EFFINTV : Fld := ⟨Rg.MEM_SCRSTS, 16, 8⟩
def Rg.MEM_SCRWORDS : Nat := 0x50028
def F.MEM_SCRWORDS_COUNT : Fld := ⟨Rg.MEM_SCRWORDS, 0, 32⟩
def Rg.MEM_SCRCE : Nat := 0x5002c
def F.MEM_SCRCE_COUNT : Fld := ⟨Rg.MEM_SCRCE, 0, 32⟩
def Rg.MEM_SCRDARN : Nat := 0x50030
def F.MEM_SCRDARN_COUNT : Fld := ⟨Rg.MEM_SCRDARN, 0, 32⟩
def Rg.MEM_TEST : Nat := 0x50034
def F.MEM_TEST_ARM : Fld := ⟨Rg.MEM_TEST, 0, 1⟩
def F.MEM_TEST_CHK : Fld := ⟨Rg.MEM_TEST, 16, 16⟩
def Rg.MEM_TESTADDR : Nat := 0x50038
def F.MEM_TESTADDR_ADDR : Fld := ⟨Rg.MEM_TESTADDR, 0, 32⟩
def Rg.MEM_DDRCFG : Nat := 0x50040
def F.MEM_DDRCFG_RATE : Fld := ⟨Rg.MEM_DDRCFG, 0, 2⟩
def F.MEM_DDRCFG_SIZE : Fld := ⟨Rg.MEM_DDRCFG, 2, 2⟩
def F.MEM_DDRCFG_RANKS : Fld := ⟨Rg.MEM_DDRCFG, 4, 1⟩
def F.MEM_DDRCFG_DW : Fld := ⟨Rg.MEM_DDRCFG, 5, 1⟩
def Rg.MEM_DDRSTS : Nat := 0x50044
def F.MEM_DDRSTS_TRAINED : Fld := ⟨Rg.MEM_DDRSTS, 0, 1⟩
def F.MEM_DDRSTS_HOTREF : Fld := ⟨Rg.MEM_DDRSTS, 1, 1⟩
def Rg.MEM_VREMAP : Nat := 0x50048
def F.MEM_VREMAP_USED : Fld := ⟨Rg.MEM_VREMAP, 0, 9⟩
def Rg.MEM_YCE_LO : Nat := 0x50080
def F.MEM_YCE_LO_COUNT : Fld := ⟨Rg.MEM_YCE_LO, 0, 32⟩
def Rg.MEM_YCE_HI : Nat := 0x50084
def F.MEM_YCE_HI_COUNT : Fld := ⟨Rg.MEM_YCE_HI, 0, 16⟩
def Rg.MEM_VCE_LO : Nat := 0x50088
def F.MEM_VCE_LO_COUNT : Fld := ⟨Rg.MEM_VCE_LO, 0, 32⟩
def Rg.MEM_VCE_HI : Nat := 0x5008c
def F.MEM_VCE_HI_COUNT : Fld := ⟨Rg.MEM_VCE_HI, 0, 16⟩
def Rg.MEM_DDRCE_LO : Nat := 0x50090
def F.MEM_DDRCE_LO_COUNT : Fld := ⟨Rg.MEM_DDRCE_LO, 0, 32⟩
def Rg.MEM_DDRCE_HI : Nat := 0x50094
def F.MEM_DDRCE_HI_COUNT : Fld := ⟨Rg.MEM_DDRCE_HI, 0, 16⟩
def Rg.MEM_DDRUE_LO : Nat := 0x50098
def F.MEM_DDRUE_LO_COUNT : Fld := ⟨Rg.MEM_DDRUE_LO, 0, 32⟩
def Rg.MEM_DDRUE_HI : Nat := 0x5009c
def F.MEM_DDRUE_HI_COUNT : Fld := ⟨Rg.MEM_DDRUE_HI, 0, 16⟩
def Rg.MEM_LATE_CPL_LO : Nat := 0x500a0
def F.MEM_LATE_CPL_LO_COUNT : Fld := ⟨Rg.MEM_LATE_CPL_LO, 0, 32⟩
def Rg.MEM_LATE_CPL_HI : Nat := 0x500a4
def F.MEM_LATE_CPL_HI_COUNT : Fld := ⟨Rg.MEM_LATE_CPL_HI, 0, 16⟩
def Rg.MEM_MCHIT_LO : Nat := 0x500a8
def F.MEM_MCHIT_LO_COUNT : Fld := ⟨Rg.MEM_MCHIT_LO, 0, 32⟩
def Rg.MEM_MCHIT_HI : Nat := 0x500ac
def F.MEM_MCHIT_HI_COUNT : Fld := ⟨Rg.MEM_MCHIT_HI, 0, 16⟩
def Rg.MEM_MCMISS_LO : Nat := 0x500b0
def F.MEM_MCMISS_LO_COUNT : Fld := ⟨Rg.MEM_MCMISS_LO, 0, 32⟩
def Rg.MEM_MCMISS_HI : Nat := 0x500b4
def F.MEM_MCMISS_HI_COUNT : Fld := ⟨Rg.MEM_MCMISS_HI, 0, 16⟩
def Rg.MEM_MCC_CTL : Nat := 0x50100
def F.MEM_MCC_CTL_EN : Fld := ⟨Rg.MEM_MCC_CTL, 0, 1⟩
def Rg.MEM_MCC_STS : Nat := 0x50104
def F.MEM_MCC_STS_OFF : Fld := ⟨Rg.MEM_MCC_STS, 0, 1⟩
def F.MEM_MCC_STS_BUSY : Fld := ⟨Rg.MEM_MCC_STS, 1, 1⟩
def F.MEM_MCC_STS_LOCK_LOST : Fld := ⟨Rg.MEM_MCC_STS, 2, 1⟩
def F.MEM_MCC_STS_LOCKFAIL : Fld := ⟨Rg.MEM_MCC_STS, 3, 1⟩
def Rg.MEM_MCC_LBASE : Nat := 0x50108
def F.MEM_MCC_LBASE_LINE : Fld := ⟨Rg.MEM_MCC_LBASE, 0, 27⟩
def Rg.MEM_MCC_LLEN : Nat := 0x5010c
def F.MEM_MCC_LLEN_LINES : Fld := ⟨Rg.MEM_MCC_LLEN, 0, 15⟩
def Rg.MEM_MCC_OP : Nat := 0x50110
def F.MEM_MCC_OP_OP : Fld := ⟨Rg.MEM_MCC_OP, 0, 2⟩
def Rg.PWR_CTL : Nat := 0x130000
def F.PWR_CTL_HEN : Fld := ⟨Rg.PWR_CTL, 0, 1⟩
def F.PWR_CTL_MEAS : Fld := ⟨Rg.PWR_CTL, 1, 1⟩
def F.PWR_CTL_RPGO : Fld := ⟨Rg.PWR_CTL, 2, 1⟩
def Rg.PWR_STS : Nat := 0x130004
def F.PWR_STS_ARMED : Fld := ⟨Rg.PWR_STS, 0, 1⟩
def F.PWR_STS_SAVED : Fld := ⟨Rg.PWR_STS, 1, 1⟩
def F.PWR_STS_MEASERR : Fld := ⟨Rg.PWR_STS, 2, 1⟩
def F.PWR_STS_PFAIL : Fld := ⟨Rg.PWR_STS, 3, 1⟩
def F.PWR_STS_RPST : Fld := ⟨Rg.PWR_STS, 4, 2⟩
def F.PWR_STS_RPCODE : Fld := ⟨Rg.PWR_STS, 6, 2⟩
def Rg.PWR_HCFG : Nat := 0x130008
def F.PWR_HCFG_RTEST : Fld := ⟨Rg.PWR_HCFG, 0, 12⟩
def F.PWR_HCFG_TTEST : Fld := ⟨Rg.PWR_HCFG, 12, 8⟩
def F.PWR_HCFG_DIV : Fld := ⟨Rg.PWR_HCFG, 20, 12⟩
def Rg.PWR_HREQ : Nat := 0x13000c
def F.PWR_HREQ_EREQ : Fld := ⟨Rg.PWR_HREQ, 0, 16⟩
def F.PWR_HREQ_VMIN : Fld := ⟨Rg.PWR_HREQ, 16, 12⟩
def Rg.PWR_HV : Nat := 0x130010
def F.PWR_HV_V0 : Fld := ⟨Rg.PWR_HV, 0, 16⟩
def F.PWR_HV_V1 : Fld := ⟨Rg.PWR_HV, 16, 16⟩
def Rg.PWR_HCAP : Nat := 0x130014
def F.PWR_HCAP_CAP : Fld := ⟨Rg.PWR_HCAP, 0, 32⟩
def Rg.PWR_HEN : Nat := 0x130018
def F.PWR_HEN_ECAP : Fld := ⟨Rg.PWR_HEN, 0, 16⟩
def F.PWR_HEN_ETOT : Fld := ⟨Rg.PWR_HEN, 16, 16⟩
def Rg.PWR_PFCFG : Nat := 0x13001c
def F.PWR_PFCFG_FILT : Fld := ⟨Rg.PWR_PFCFG, 0, 8⟩
def Rg.PWR_RG : Nat := 0x130020
def F.PWR_RG_EN : Fld := ⟨Rg.PWR_RG, 0, 1⟩
def F.PWR_RG_UPTH : Fld := ⟨Rg.PWR_RG, 1, 7⟩
def F.PWR_RG_DNTH : Fld := ⟨Rg.PWR_RG, 8, 7⟩
def F.PWR_RG_DWELL : Fld := ⟨Rg.PWR_RG, 15, 8⟩
def F.PWR_RG_PERIOD : Fld := ⟨Rg.PWR_RG, 23, 8⟩
def Rg.PWR_RGSTS : Nat := 0x130024
def F.PWR_RGSTS_CEIL : Fld := ⟨Rg.PWR_RGSTS, 0, 3⟩
def F.PWR_RGSTS_UTIL : Fld := ⟨Rg.PWR_RGSTS, 3, 7⟩
def Rg.PWR_WAKEVEC : Nat := 0x130028
def F.PWR_WAKEVEC_ADDR : Fld := ⟨Rg.PWR_WAKEVEC, 0, 32⟩
def Rg.PWR_CORE : Nat := 0x13002c
def F.PWR_CORE_OFF : Fld := ⟨Rg.PWR_CORE, 0, 1⟩
def Rg.PWR_POH : Nat := 0x130030
def F.PWR_POH_HOURS : Fld := ⟨Rg.PWR_POH, 0, 32⟩
def Rg.PWR_SAVECNT : Nat := 0x130034
def F.PWR_SAVECNT_COUNT : Fld := ⟨Rg.PWR_SAVECNT, 0, 32⟩
def Rg.PWR_RPBLK : Nat := 0x130038
def F.PWR_RPBLK_BLOCKS : Fld := ⟨Rg.PWR_RPBLK, 0, 13⟩
def Rg.FLT_CTL : Nat := 0x100000
def F.FLT_CTL_CLRCNT : Fld := ⟨Rg.FLT_CTL, 0, 1⟩
def Rg.FLT_STS : Nat := 0x100004
def F.FLT_STS_SEEN : Fld := ⟨Rg.FLT_STS, 0, 6⟩
def F.FLT_STS_SAFE0 : Fld := ⟨Rg.FLT_STS, 6, 1⟩
def F.FLT_STS_SAFE1 : Fld := ⟨Rg.FLT_STS, 7, 1⟩
def F.FLT_STS_SAFEDEV : Fld := ⟨Rg.FLT_STS, 8, 1⟩
def F.FLT_STS_FATAL : Fld := ⟨Rg.FLT_STS, 9, 1⟩
def F.FLT_STS_QCNT : Fld := ⟨Rg.FLT_STS, 10, 7⟩
def F.FLT_STS_UNLOCKED : Fld := ⟨Rg.FLT_STS, 17, 1⟩
def Rg.FLT_MSG_LO : Nat := 0x100008
def F.FLT_MSG_LO_MSG : Fld := ⟨Rg.FLT_MSG_LO, 0, 32⟩
def Rg.FLT_MSG_HI : Nat := 0x10000c
def F.FLT_MSG_HI_MSG : Fld := ⟨Rg.FLT_MSG_HI, 0, 32⟩
def Rg.FLT_DROP_LO : Nat := 0x100010
def F.FLT_DROP_LO_COUNT : Fld := ⟨Rg.FLT_DROP_LO, 0, 32⟩
def Rg.FLT_DROP_HI : Nat := 0x100014
def F.FLT_DROP_HI_COUNT : Fld := ⟨Rg.FLT_DROP_HI, 0, 16⟩
def Rg.FLT_UNLOCK : Nat := 0x100018
def F.FLT_UNLOCK_KEY : Fld := ⟨Rg.FLT_UNLOCK, 0, 16⟩
def Rg.FLT_FORCE : Nat := 0x10001c
def F.FLT_FORCE_SRC : Fld := ⟨Rg.FLT_FORCE, 0, 10⟩
def F.FLT_FORCE_KIND : Fld := ⟨Rg.FLT_FORCE, 10, 6⟩
def F.FLT_FORCE_GO : Fld := ⟨Rg.FLT_FORCE, 16, 1⟩
def F.FLT_FORCE_RESULT : Fld := ⟨Rg.FLT_FORCE, 17, 2⟩
def Rg.FLT_MON : Nat := 0x100020
def F.FLT_MON_UV : Fld := ⟨Rg.FLT_MON, 0, 6⟩
def F.FLT_MON_OV : Fld := ⟨Rg.FLT_MON, 8, 6⟩
def F.FLT_MON_XTAL : Fld := ⟨Rg.FLT_MON, 16, 1⟩
def F.FLT_MON_PLL : Fld := ⟨Rg.FLT_MON, 17, 1⟩
def F.FLT_MON_FALLBACK : Fld := ⟨Rg.FLT_MON, 18, 1⟩
def Rg.FLT_FATAL : Nat := 0x100024
def F.FLT_FATAL_SRC : Fld := ⟨Rg.FLT_FATAL, 0, 10⟩
def F.FLT_FATAL_KIND : Fld := ⟨Rg.FLT_FATAL, 10, 6⟩
def F.FLT_FATAL_VALID : Fld := ⟨Rg.FLT_FATAL, 16, 1⟩
def Rg.EVR_SWSET : Nat := 0x150004
def F.EVR_SWSET_IDX : Fld := ⟨Rg.EVR_SWSET, 0, 7⟩
def F.EVR_SWSET_GO : Fld := ⟨Rg.EVR_SWSET, 31, 1⟩
def Rg.EVR_PEND (k : Nat) : Nat := 0x150100 + 0x4 * (k % 20)
def F.EVR_PEND_LATCH (k : Nat) : Fld := ⟨Rg.EVR_PEND k, 0, 32⟩
def Rg.EVR_ROUTE (s : Nat) : Nat := 0x151000 + 0x4 * (s % 640)
def F.EVR_ROUTE_PRIO (s : Nat) : Fld := ⟨Rg.EVR_ROUTE s, 0, 4⟩
def F.EVR_ROUTE_HARTS (s : Nat) : Fld := ⟨Rg.EVR_ROUTE s, 4, 4⟩
def F.EVR_ROUTE_M0LINE (s : Nat) : Fld := ⟨Rg.EVR_ROUTE s, 8, 4⟩
def F.EVR_ROUTE_M0EN (s : Nat) : Fld := ⟨Rg.EVR_ROUTE s, 12, 1⟩
def F.EVR_ROUTE_M1LINE (s : Nat) : Fld := ⟨Rg.EVR_ROUTE s, 13, 4⟩
def F.EVR_ROUTE_M1EN (s : Nat) : Fld := ⟨Rg.EVR_ROUTE s, 17, 1⟩
def Rg.BOK_CTL : Nat := 0x110000
def F.BOK_CTL_CLR : Fld := ⟨Rg.BOK_CTL, 0, 1⟩
def F.BOK_CTL_CLRCNT : Fld := ⟨Rg.BOK_CTL, 1, 1⟩
def Rg.BOK_STS : Nat := 0x110004
def F.BOK_STS_BUSY : Fld := ⟨Rg.BOK_STS, 0, 1⟩
def F.BOK_STS_PFULL : Fld := ⟨Rg.BOK_STS, 1, 1⟩
def F.BOK_STS_TBLFULL : Fld := ⟨Rg.BOK_STS, 2, 1⟩
def F.BOK_STS_QCNT : Fld := ⟨Rg.BOK_STS, 3, 7⟩
def Rg.BOK_HEAD_LO : Nat := 0x110008
def F.BOK_HEAD_LO_SEQ : Fld := ⟨Rg.BOK_HEAD_LO, 0, 32⟩
def Rg.BOK_HEAD_HI : Nat := 0x11000c
def F.BOK_HEAD_HI_EPOCH : Fld := ⟨Rg.BOK_HEAD_HI, 0, 16⟩
def Rg.BOK_RATE : Nat := 0x110010
def F.BOK_RATE_BURST : Fld := ⟨Rg.BOK_RATE, 0, 4⟩
def F.BOK_RATE_PER : Fld := ⟨Rg.BOK_RATE, 4, 8⟩
def Rg.BOK_FWINFO_LO : Nat := 0x110018
def F.BOK_FWINFO_LO_INFO : Fld := ⟨Rg.BOK_FWINFO_LO, 0, 32⟩
def Rg.BOK_FWINFO_HI : Nat := 0x11001c
def F.BOK_FWINFO_HI_INFO : Fld := ⟨Rg.BOK_FWINFO_HI, 0, 32⟩
def Rg.BOK_FWREC : Nat := 0x110020
def F.BOK_FWREC_CODE : Fld := ⟨Rg.BOK_FWREC, 0, 16⟩
def F.BOK_FWREC_GO : Fld := ⟨Rg.BOK_FWREC, 31, 1⟩
def Rg.BOK_DROP_LO : Nat := 0x110028
def F.BOK_DROP_LO_COUNT : Fld := ⟨Rg.BOK_DROP_LO, 0, 32⟩
def Rg.BOK_DROP_HI : Nat := 0x11002c
def F.BOK_DROP_HI_COUNT : Fld := ⟨Rg.BOK_DROP_HI, 0, 16⟩
def Rg.BOK_SUPP_LO : Nat := 0x110030
def F.BOK_SUPP_LO_COUNT : Fld := ⟨Rg.BOK_SUPP_LO, 0, 32⟩
def Rg.BOK_SUPP_HI : Nat := 0x110034
def F.BOK_SUPP_HI_COUNT : Fld := ⟨Rg.BOK_SUPP_HI, 0, 16⟩
def Rg.SEC_STS : Nat := 0x120000
def F.SEC_STS_DBGOPEN : Fld := ⟨Rg.SEC_STS, 0, 1⟩
def F.SEC_STS_ADMIN : Fld := ⟨Rg.SEC_STS, 1, 1⟩
def F.SEC_STS_NS1 : Fld := ⟨Rg.SEC_STS, 2, 2⟩
def F.SEC_STS_NS2 : Fld := ⟨Rg.SEC_STS, 4, 2⟩
def F.SEC_STS_SANITIZING : Fld := ⟨Rg.SEC_STS, 6, 1⟩
def F.SEC_STS_AUTHF : Fld := ⟨Rg.SEC_STS, 7, 3⟩
def Rg.SEC_BOOTSTS : Nat := 0x120004
def F.SEC_BOOTSTS_CODE : Fld := ⟨Rg.SEC_BOOTSTS, 0, 8⟩
def F.SEC_BOOTSTS_STEP : Fld := ⟨Rg.SEC_BOOTSTS, 8, 4⟩
def F.SEC_BOOTSTS_SLOT : Fld := ⟨Rg.SEC_BOOTSTS, 12, 2⟩
def F.SEC_BOOTSTS_FALLBACK : Fld := ⟨Rg.SEC_BOOTSTS, 14, 1⟩
def Rg.SEC_SVN : Nat := 0x120008
def F.SEC_SVN_SVNMIN : Fld := ⟨Rg.SEC_SVN, 0, 8⟩
def F.SEC_SVN_IMGSVN : Fld := ⟨Rg.SEC_SVN, 8, 8⟩
def Rg.SEC_TAMPER : Nat := 0x12000c
def F.SEC_TAMPER_DBGCNT : Fld := ⟨Rg.SEC_TAMPER, 0, 16⟩
def F.SEC_TAMPER_LATCH : Fld := ⟨Rg.SEC_TAMPER, 16, 1⟩
def Rg.BRL_CTL : Nat := 0x140000
def F.BRL_CTL_EN : Fld := ⟨Rg.BRL_CTL, 0, 1⟩
def F.BRL_CTL_FENCE : Fld := ⟨Rg.BRL_CTL, 1, 1⟩
def F.BRL_CTL_HANDBACK : Fld := ⟨Rg.BRL_CTL, 2, 1⟩
def F.BRL_CTL_CLRCNT : Fld := ⟨Rg.BRL_CTL, 3, 1⟩
def Rg.BRL_STS : Nat := 0x140004
def F.BRL_STS_LINK : Fld := ⟨Rg.BRL_STS, 0, 1⟩
def F.BRL_STS_PAIRED : Fld := ⟨Rg.BRL_STS, 1, 1⟩
def F.BRL_STS_MIRSYNC : Fld := ⟨Rg.BRL_STS, 2, 1⟩
def F.BRL_STS_HBLOSS : Fld := ⟨Rg.BRL_STS, 3, 1⟩
def F.BRL_STS_PSILENT : Fld := ⟨Rg.BRL_STS, 4, 1⟩
def F.BRL_STS_SENIOR : Fld := ⟨Rg.BRL_STS, 5, 1⟩
def F.BRL_STS_FENCED : Fld := ⟨Rg.BRL_STS, 6, 1⟩
def F.BRL_STS_CARRY : Fld := ⟨Rg.BRL_STS, 7, 1⟩
def F.BRL_STS_HBACK : Fld := ⟨Rg.BRL_STS, 8, 1⟩
def F.BRL_STS_CFGERR : Fld := ⟨Rg.BRL_STS, 9, 1⟩
def F.BRL_STS_CODE : Fld := ⟨Rg.BRL_STS, 10, 2⟩
def Rg.BRL_TWINID : Nat := 0x140008
def F.BRL_TWINID_ID : Fld := ⟨Rg.BRL_TWINID, 0, 32⟩
def Rg.BRL_HB : Nat := 0x14000c
def F.BRL_HB_HBPER : Fld := ⟨Rg.BRL_HB, 0, 8⟩
def F.BRL_HB_HBMISS : Fld := ⟨Rg.BRL_HB, 8, 4⟩
def F.BRL_HB_KICKT : Fld := ⟨Rg.BRL_HB, 12, 8⟩
def Rg.BRL_HBKICK : Nat := 0x140010
def F.BRL_HBKICK_KICK : Fld := ⟨Rg.BRL_HBKICK, 0, 1⟩
def Rg.BRL_TKCFG : Nat := 0x140014
def F.BRL_TKCFG_GUARD : Fld := ⟨Rg.BRL_TKCFG, 0, 8⟩
def Rg.BRL_TKSTS : Nat := 0x140018
def F.BRL_TKSTS_LEVEL : Fld := ⟨Rg.BRL_TKSTS, 0, 3⟩
def F.BRL_TKSTS_HELD : Fld := ⟨Rg.BRL_TKSTS, 4, 3⟩
def F.BRL_TKSTS_DRIVE : Fld := ⟨Rg.BRL_TKSTS, 8, 3⟩
def Rg.BRL_STEER : Nat := 0x14001c
def F.BRL_STEER_SET : Fld := ⟨Rg.BRL_STEER, 0, 1⟩
def F.BRL_STEER_BUSY : Fld := ⟨Rg.BRL_STEER, 1, 1⟩
def F.BRL_STEER_REJ : Fld := ⟨Rg.BRL_STEER, 2, 1⟩
def Rg.BRL_DELAY : Nat := 0x140028
def F.BRL_DELAY_NS : Fld := ⟨Rg.BRL_DELAY, 0, 16⟩
def Rg.BRL_XRDYT : Nat := 0x14002c
def F.BRL_XRDYT_TIME : Fld := ⟨Rg.BRL_XRDYT, 0, 12⟩
def Rg.BRL_MIRBASE : Nat := 0x140030
def F.BRL_MIRBASE_BLK : Fld := ⟨Rg.BRL_MIRBASE, 0, 12⟩
def Rg.BRL_PSKEW (n : Nat) : Nat := 0x140020 + 0x4 * (n % 2)
def F.BRL_PSKEW_SKEW (n : Nat) : Fld := ⟨Rg.BRL_PSKEW n, 0, 25⟩
def Rg.BRL_LATE_CPL_LO : Nat := 0x140040
def F.BRL_LATE_CPL_LO_COUNT : Fld := ⟨Rg.BRL_LATE_CPL_LO, 0, 32⟩
def Rg.BRL_LATE_CPL_HI : Nat := 0x140044
def F.BRL_LATE_CPL_HI_COUNT : Fld := ⟨Rg.BRL_LATE_CPL_HI, 0, 16⟩
def Rg.BRL_CRCERR_LO : Nat := 0x140048
def F.BRL_CRCERR_LO_COUNT : Fld := ⟨Rg.BRL_CRCERR_LO, 0, 32⟩
def Rg.BRL_CRCERR_HI : Nat := 0x14004c
def F.BRL_CRCERR_HI_COUNT : Fld := ⟨Rg.BRL_CRCERR_HI, 0, 16⟩
def Rg.BRL_XRDYTO_LO : Nat := 0x140050
def F.BRL_XRDYTO_LO_COUNT : Fld := ⟨Rg.BRL_XRDYTO_LO, 0, 32⟩
def Rg.BRL_XRDYTO_HI : Nat := 0x140054
def F.BRL_XRDYTO_HI_COUNT : Fld := ⟨Rg.BRL_XRDYTO_HI, 0, 16⟩

end Sys2Proof.Machine
end

