-- ==== Sys2Proof/Machine/Ops.lean ====
section
/-! DEFINITION. The named operations over registers and memory: the sparse canonical maps, register words and fields (R3, R5 to R7), the
48-bit counters (R11), bytes and little-endian words of memory, and signed readings of fields. -/
namespace Sys2Proof.Machine

/-- Value of key `k`: the first entry's, or the default where `k` is not listed. -/
@[irreducible] def look {α : Type} (d : Nat → α) (k : Nat) : List (Nat × α) → α
  | [] => d k
  | (j, v) :: t => if j = k then v else look d k t

/-- Drop every entry of key `k`. -/
def dropKey {α : Type} (k : Nat) : List (Nat × α) → List (Nat × α)
  | [] => []
  | (j, v) :: t => if j = k then dropKey k t else (j, v) :: dropKey k t

/-- Insert by rising key. -/
def insertKey {α : Type} (k : Nat) (v : α) : List (Nat × α) → List (Nat × α)
  | [] => [(k, v)]
  | (j, w) :: t => if k < j then (k, v) :: (j, w) :: t else (j, w) :: insertKey k v t

/-- Write key `k`: the default removes the entry, so equal maps are equal lists. -/
@[irreducible] def put {α : Type} [DecidableEq α] (d : Nat → α) (k : Nat) (v : α) (l : List (Nat × α)) : List (Nat × α) :=
  if v = d k then dropKey k l else insertKey k v (dropKey k l)

/-- The canonical form: keys strictly rising and no entry at its default. -/
def canon {α : Type} [DecidableEq α] (d : Nat → α) : List (Nat × α) → Bool
  | [] => true
  | [(k, v)] => decide (v ≠ d k)
  | (k, v) :: (j, w) :: t => decide (v ≠ d k) && decide (k < j) && canon d ((j, w) :: t)

/-- What a byte of memory that nothing has written reads as (DESIGN CHOICE, assumption 3). [assumption 3 DESIGN CHOICE] -/
def memDefault (_ : Nat) : Byte := 0

/-- The canonical form of memory. -/
def Memory.wf (m : List Host.Cell) : Bool := canon memDefault m

/-- Register word at a vendor-window offset. -/
def State.rd (s : State) (o : Nat) : Word := look regReset o s.regs

/-- Set the register word at a vendor-window offset, whatever its access codes. -/
def State.wr (s : State) (o : Nat) (v : Word) : State := { s with regs := put regReset o v s.regs }

/-- Live copy of a shadowed register (R86, R175). -/
def State.liveRd (s : State) (o : Nat) : Word := look regReset o s.live

/-- Set a live copy. -/
def State.liveWr (s : State) (o : Nat) (v : Word) : State := { s with live := put regReset o v s.live }

/-- Bits `lo` to `lo + w - 1` of a word. -/
def bitsOf (x : Word) (lo w : Nat) : Nat := (x.extractLsb' lo w).toNat

/-- The word with ones in bits `lo` to `lo + w - 1`. -/
def maskOf (lo w : Nat) : Word := BitVec.ofNat 32 ((2 ^ w - 1) <<< lo)

/-- A word with bits `lo` to `lo + w - 1` replaced. -/
def setBits (x : Word) (lo w v : Nat) : Word := (x &&& ~~~ maskOf lo w) ||| (BitVec.ofNat 32 (v <<< lo) &&& maskOf lo w)

/-- Value of a field. -/
def State.fget (s : State) (f : Fld) : Nat := bitsOf (s.rd f.addr) f.lo f.w

/-- Set a field, whatever its access code. -/
def State.fset (s : State) (f : Fld) (v : Nat) : State := s.wr f.addr (setBits (s.rd f.addr) f.lo f.w v)

/-- A one-bit field as a truth value. -/
def State.flag (s : State) (f : Fld) : Bool := s.fget f == 1

/-- Set a one-bit field. -/
def State.fsetB (s : State) (f : Fld) (b : Bool) : State := s.fset f b.toNat

/-- Value of a field of the live copy. -/
def State.liveGet (s : State) (f : Fld) : Nat := bitsOf (s.liveRd f.addr) f.lo f.w

/-- A field of a written word. -/
def Fld.of (f : Fld) (v : Word) : Nat := bitsOf v f.lo f.w

/-- A one-bit field of a written word. -/
def Fld.on (f : Fld) (v : Word) : Bool := f.of v == 1

/-- Read `w` bits as a signed number. -/
def sext (w n : Nat) : Int := if n % 2 ^ w < 2 ^ (w - 1) then (n % 2 ^ w : Nat) else ((n % 2 ^ w : Nat) : Int) - (2 ^ w : Nat)

/-- The low `w` bits of a signed number. -/
def lowBits (w : Nat) (i : Int) : Nat := (i % ((2 ^ w : Nat) : Int)).toNat

/-- A field read as a signed number. -/
def State.sget (s : State) (f : Fld) : Int := sext f.w (s.fget f)

/-- Set a field to the low bits of a signed number. -/
def State.sset (s : State) (f : Fld) (i : Int) : State := s.fset f (lowBits f.w i)

/-- A value held in a low register at `o` and a high register at `o + 4`. -/
def State.wide (s : State) (o : Nat) : Nat := (s.rd o).toNat + (s.rd (o + 4)).toNat * 2 ^ 32

/-- Set a low and a high register together. -/
def State.wideSet (s : State) (o n : Nat) : State := (s.wr o (BitVec.ofNat 32 n)).wr (o + 4) (BitVec.ofNat 32 (n / 2 ^ 32))

/-- The largest count of a statistical counter (R11). -/
def countMax : Nat := 0xFFFFFFFFFFFF

/-- Add to a 48-bit counter; it saturates (R11). -/
def State.count (s : State) (o : Nat) (n : Nat := 1) : State := s.wideSet o (min countMax (s.wide o + n))

/-- Clear a counter. -/
def State.clearCount (s : State) (o : Nat) : State := s.wideSet o 0

/-- Byte of memory at a core physical address. [assumption 3 DESIGN CHOICE] -/
def State.byte (s : State) (a : Nat) : Byte := look memDefault a s.mem

/-- Store one byte. -/
def State.setByte (s : State) (a : Nat) (b : Byte) : State := { s with mem := put memDefault a b s.mem }

/-- The entries of a run of bytes from an address upwards: those that differ from what an unlisted address reads as. -/
def runCells (a : Nat) : List Byte → List Host.Cell
  | [] => []
  | b :: t => if b = memDefault a then runCells (a + 1) t else (a, b) :: runCells (a + 1) t

/-- Store bytes from an address upwards, contents only: the entries of the range are replaced. -/
def State.putBytes (s : State) (a : Nat) (l : List Byte) : State :=
  { s with mem := s.mem.filter (fun c => decide (c.1 < a)) ++ runCells a l ++ s.mem.filter (fun c => decide (a + l.length ≤ c.1)) }

/-- Whether an address lies in the Yard (Table 1.6). -/
def inYard (a : Nat) : Bool := decide (0x10000000 ≤ a) && decide (a < 0x14000000)
/-- Whether an address lies in the Vault (Table 1.6). -/
def inVault (a : Nat) : Bool := decide (0x18000000 ≤ a) && decide (a < 0x19800000)

/-- Ones among the low `n` bits. -/
def popCount : Nat → Nat → Nat
  | 0, _ => 0
  | n + 1, x => x % 2 + popCount n (x / 2)

/-- Whether the bytes `a` to `a + n - 1` meet the word numbered `w` (address ÷ 8). -/
def meetsWord (a n w : Nat) : Bool := decide (a < 8 * w + 8) && decide (8 * w < a + n)

/-- What a write to Yard or Vault words does beside their contents: a word that is written gets fresh check bits, XORed with the test mask
if MEM_TEST is armed for it (R294), and a gather-buffer entry that holds it is written first, which takes the mask, and leaves the buffer (R287). [assumption 182 DEDUCED] -/
def State.checkBits (s : State) (a n : Nat) : State :=
  let first := s.core.gather.map (fun p => p.1)
  let s := { s with ms := { s.ms with bad := s.ms.bad.filter (fun p => !meetsWord a n p.1) }
                    core := { s.core with gather := s.core.gather.filter (fun p => !meetsWord a n p.1) } }
  let w := s.fget F.MEM_TESTADDR_ADDR / 8
  if s.flag F.MEM_TEST_ARM && meetsWord a n w && decide (0 < n) && (inYard (8 * w) || inVault (8 * w)) then
    let k := if first.contains w then 0 else popCount (if inYard (8 * w) then 8 else 16) (s.fget F.MEM_TEST_CHK)
    ({ s with ms := { s.ms with bad := if k = 0 then s.ms.bad else insertKey w k (dropKey w s.ms.bad) } }).fsetB F.MEM_TEST_ARM false
  else s

/-- Store bytes from an address upwards. -/
def State.setBytes (s : State) (a : Nat) (l : List Byte) : State := (s.putBytes a l).checkBits a l.length

/-- `n` bytes from an address upwards. -/
def State.bytes (s : State) (a : Nat) : Nat → List Byte
  | 0 => []
  | n + 1 => s.byte a :: s.bytes (a + 1) n

/-- Little-endian bytes of a number (R3). -/
def leBytes : Nat → Nat → List Byte
  | 0, _ => []
  | n + 1, v => BitVec.ofNat 8 v :: leBytes n (v / 256)

/-- The number that little-endian bytes spell. -/
def ofLe : List Byte → Nat
  | [] => 0
  | b :: t => b.toNat + 256 * ofLe t

/-- Load `n` bytes, little-endian. -/
def State.load (s : State) (a n : Nat) : Nat := ofLe (s.bytes a n)

/-- Store `n` bytes, little-endian. -/
def State.store (s : State) (a n v : Nat) : State := s.setBytes a (leBytes n v)

/-- Take a free value's number: the count moves on, so that each use is a fresh argument of an opaque constant. [assumption 6 DESIGN CHOICE] -/
def State.tick (s : State) : State := { s with freeCtr := s.freeCtr + 1 }

/-- The hidden state of one SAC. -/
def State.sacOf (s : State) (a : Act) : SacSt := s.sac.get a
/-- Replace the hidden state of one SAC. -/
def State.sacSet (s : State) (a : Act) (x : SacSt) : State := { s with sac := s.sac.set a x }
/-- The hidden state of one channel. -/
def State.rwcOf (s : State) (a : Act) : RwcSt := s.rwc.get a
/-- Replace the hidden state of one channel. -/
def State.rwcSet (s : State) (a : Act) (x : RwcSt) : State := { s with rwc := s.rwc.set a x }
/-- The hidden state of one sequencer. -/
def State.msqOf (s : State) (a : Act) : MsqSt := s.msq.get a
/-- Replace the hidden state of one sequencer. -/
def State.msqSet (s : State) (a : Act) (x : MsqSt) : State := { s with msq := s.msq.set a x }

end Sys2Proof.Machine
end

