-- ==== Sys2Proof/Machine/Cipher.lean ====
section
/-! DEFINITION. AES-256-XTS, by which data is encrypted into stored form (R347): the block cipher of FIPS 197 and the tweak of IEEE 1619. -/
namespace Sys2Proof.Machine

/-- Multiplication by x in the cipher's field, of polynomial 0x11B. -/
def aesDouble (a : Byte) : Byte := if a.getLsbD 7 then (a <<< 1) ^^^ 0x1B else a <<< 1

/-- Multiplication in the cipher's field, over the low `n` bits of `b`. -/
def aesMulN (a b : Byte) : Nat → Byte
  | 0 => 0
  | n + 1 => aesMulN a b n ^^^ (if b.getLsbD n then (List.range n).foldl (fun x _ => aesDouble x) a else 0)

/-- Multiplication in the cipher's field. -/
def aesMul (a b : Byte) : Byte := aesMulN a b 8

/-- The multiplicative inverse, 0 for 0: the 254th power. -/
def aesInv (a : Byte) : Byte :=
  let a2 := aesMul a a
  let a3 := aesMul a2 a
  let a6 := aesMul a3 a3
  let a12 := aesMul a6 a6
  let a14 := aesMul a12 a2
  let a15 := aesMul a12 a3
  let a30 := aesMul a15 a15
  let a60 := aesMul a30 a30
  let a120 := aesMul a60 a60
  let a240 := aesMul a120 a120
  aesMul a240 a14

/-- The S-box. -/
def aesSub (a : Byte) : Byte :=
  let i := aesInv a
  i ^^^ i.rotateLeft 1 ^^^ i.rotateLeft 2 ^^^ i.rotateLeft 3 ^^^ i.rotateLeft 4 ^^^ 0x63

/-- The inverse of the S-box. -/
def aesUnsub (a : Byte) : Byte := aesInv (a.rotateLeft 1 ^^^ a.rotateLeft 3 ^^^ a.rotateLeft 6 ^^^ 0x05)

/-- Bytes of two lists added. -/
def xorBytes (a b : List Byte) : List Byte := List.zipWith (fun x y => x ^^^ y) a b

/-- Words of the key schedule after the key's own eight, newest first: `n` more. -/
def aesExpand : Nat → List (List Byte) → List (List Byte)
  | 0, w => w
  | n + 1, w =>
    let i := w.length
    let t := w.getD 0 []
    let t := if i % 8 = 0 then
        xorBytes ((t.drop 1 ++ t.take 1).map aesSub) [(List.range (i / 8 - 1)).foldl (fun x _ => aesDouble x) 1, 0, 0, 0]
      else if i % 8 = 4 then t.map aesSub else t
    aesExpand n (xorBytes (w.getD 7 []) t :: w)

/-- The fifteen round keys of a 32-byte key. -/
def aesKeys (key : List Byte) : List (List Byte) :=
  let w := (aesExpand 52 ((List.range 8).map (fun i => (key.drop (28 - 4 * i)).take 4))).reverse
  (List.range 15).map (fun r => ((w.drop (4 * r)).take 4).flatten)

/-- Rows of the state shifted left by `d` times their number. -/
def aesShift (d : Nat) (s : List Byte) : List Byte := (List.range 16).map (fun i => s.getD ((i + 4 * d * (i % 4)) % 16) 0)

/-- Columns of the state multiplied by the circulant of `c`. -/
def aesMix (c : List Byte) (s : List Byte) : List Byte :=
  (List.range 16).map (fun i => (List.range 4).foldl (fun x j => x ^^^ aesMul (s.getD (i / 4 * 4 + j) 0) (c.getD ((j + 4 - i % 4) % 4) 0)) 0)

/-- Encrypt one block of 16 bytes under round keys. -/
def aesEncrypt (k : List (List Byte)) (b : List Byte) : List Byte :=
  let s := (List.range 13).foldl (fun s r => xorBytes (aesMix [2, 3, 1, 1] (aesShift 1 (s.map aesSub))) (k.getD (r + 1) [])) (xorBytes b (k.getD 0 []))
  xorBytes (aesShift 1 (s.map aesSub)) (k.getD 14 [])

/-- Decrypt one block of 16 bytes under round keys. -/
def aesDecrypt (k : List (List Byte)) (b : List Byte) : List Byte :=
  let s := (List.range 13).foldl (fun s r => aesMix [14, 11, 13, 9] (xorBytes ((aesShift 3 s).map aesUnsub) (k.getD (13 - r) []))) (xorBytes b (k.getD 14 []))
  xorBytes ((aesShift 3 s).map aesUnsub) (k.getD 0 [])

/-- The next block's tweak: multiplication by x in the field of IEEE 1619. -/
def xtsNext (t : List Byte) : List Byte :=
  let n := ofLe t
  let d := 2 * n % 2 ^ 128
  leBytes 16 (if n < 2 ^ 127 then d else d ^^^ 0x87)

/-- The blocks of a data unit in turn, each between its tweak's two additions. -/
def xtsBlocks (f : List Byte → List Byte) : Nat → List Byte → List Byte → List Byte
  | 0, _, _ => []
  | n + 1, t, l => xorBytes (f (xorBytes (l.take 16) t)) t ++ xtsBlocks f n (xtsNext t) (l.drop 16)

/-- The tweak of a block (R347): its address in bits 63:0 and its NSID in bits 127:96, encrypted under the second key of the pair. -/
def xtsTweak (key : List Byte) (nsid lba : Nat) : List Byte :=
  aesEncrypt (aesKeys (key.drop 32)) (leBytes 8 lba ++ leBytes 4 0 ++ leBytes 4 nsid)

/-- A block's 4,096 bytes in stored form (R347). -/
def xtsEncrypt (key : List Byte) (nsid lba : Nat) (data : List Byte) : List Byte :=
  xtsBlocks (aesEncrypt (aesKeys (key.take 32))) (data.length / 16) (xtsTweak key nsid lba) data

/-- A block's 4,096 bytes from stored form (R347). -/
def xtsDecrypt (key : List Byte) (nsid lba : Nat) (data : List Byte) : List Byte :=
  xtsBlocks (aesDecrypt (aesKeys (key.take 32))) (data.length / 16) (xtsTweak key nsid lba) data

end Sys2Proof.Machine
end

