-- ==== Sys2Proof/Machine/Operands.lean ====
section
/-! DEFINITION. The arithmetic the chapters give exactly: angles (R29 to R31, R40), saturation and wrapping (R54, R83), rates (R391),
CRC-32C (Table 5.3), the scrambler and the LDPC parity (R108, R109), the field of surface parity (R213). -/
namespace Sys2Proof.Machine

/-- One wedge in phase units (R29). -/
def wedgeUnits : Nat := 0x10000
/-- One revolution in phase units (R29). -/
def revUnits : Nat := 0x2000000

/-- An angle at compare resolution: phase bits [3:0] zero (R31). -/
def atCompare (x : Nat) : Nat := x / 16 * 16

/-- Wedge field of an angle (Table 2.1). -/
def wedgeOf (x : Angle) : Nat := (x.toNat / wedgeUnits) % 512
/-- Phase field of an angle (Table 2.1). -/
def phaseOf (x : Angle) : Nat := x.toNat % wedgeUnits
/-- Revolution field of an angle (Table 2.1). -/
def revOf (x : Angle) : Nat := x.toNat / revUnits

/-- Difference of two full angles at compare resolution, signed (R29, R31, R40). -/
def angleDiff (a b : Angle) : Int := sext 64 (lowBits 64 ((atCompare a.toNat : Int) - (atCompare b.toNat : Int)))

/-- Difference of two near angles, a 32-bit two's-complement number (R30). -/
def nearDiff (a b : Word) : Int := sext 32 (a - b).toNat

/-- The near angle of a full angle: its low 32 bits (R30). -/
def nearOf (x : Angle) : Word := x.setWidth 32

/-- The full angle that a near angle means: within [now - 64 revolutions, now + 64 revolutions) (R30). -/
def fullOf (now : Angle) (n : Word) : Angle := now + BitVec.ofInt 64 (nearDiff n (nearOf now))

/-- Clamp to `[lo, hi]`. -/
def clampI (x lo hi : Int) : Int := if x < lo then lo else if hi < x then hi else x

/-- Clamp to the signed range of `w` bits (R83). -/
def satI (w : Nat) (x : Int) : Int := clampI x (-((2 ^ (w - 1) : Nat) : Int)) (((2 ^ (w - 1) : Nat) : Int) - 1)

/-- Integrator saturation of R54: ±(2^31 − 1). -/
def satInt (x : Int) : Int := clampI x (-2147483647) 2147483647

/-- Keep the low 40 bits and sign-extend them (R83). -/
def wrap40 (x : Int) : Int := sext 40 (lowBits 40 x)

/-- Arithmetic shift right (R34, R83): rounds towards minus infinity. -/
def asr (x : Int) (n : Nat) : Int := x / ((2 ^ n : Nat) : Int)

/-- Division truncated towards zero (R79, R94). -/
def truncDiv (x y : Int) : Int := x.tdiv y

/-- Magnitude. -/
def mag (x : Int) : Nat := x.natAbs

/-- Rate of a speed in Q15.16 RPM, in phase units per 800 MHz cycle with 28 fraction bits (R391), truncated. -/
def rateOf (speed : Int) : Nat := mag speed * revUnits * 2 ^ 12 / (60 * 800000000)

/-- The CRC-32C step of one byte, reflected polynomial 0x82F6_3B78 (Table 5.3). -/
def crcBit : Nat → Nat → Nat
  | 0, c => c
  | n + 1, c => crcBit n (if c % 2 = 1 then (c / 2) ^^^ 0x82F63B78 else c / 2)

/-- CRC-32C register after a list of bytes. -/
def crcRun : List Byte → Nat → Nat
  | [], c => c
  | b :: t, c => crcRun t (crcBit 8 (c ^^^ b.toNat))

/-- CRC-32C: initial value and final XOR 0xFFFF_FFFF (Table 5.3). -/
def crc32c (l : List Byte) : Nat := crcRun l 0xFFFFFFFF ^^^ 0xFFFFFFFF

/-- Scrambler of R108: the next bit of x^23 + x^18 + 1 and the next state. -/
def scrStep (st : Nat) : Nat × Nat :=
  let b := ((st >>> 22) ^^^ (st >>> 17)) % 2
  (b, ((st <<< 1) ||| b) % 2 ^ 23)

/-- XOR a bit list with the scrambler's sequence from a state (R108). -/
def scramble : List Bool → Nat → List Bool
  | [], _ => []
  | x :: t, st => (x != ((scrStep st).1 == 1)) :: scramble t (scrStep st).2

/-- The scrambler's state for every codeword (R108). -/
def scrInit : Nat := 0x7FFFFF

/-- Circulant shift s(r, j) of an information column (R109). -/
def ldpcShift (r j : Nat) : Nat := (37 * (j + 1) * (r + 1) + 11 * r * r) % 256

/-- Whether information column `j` has a circulant at block row `r` (R109). -/
def ldpcHas (r j : Nat) : Bool := r == j % 16 || r == (j + 5) % 16 || r == (j + 11) % 16

/-- One circulant acting on a 256-bit block: row i takes bit (i + s) mod 256. -/
def circ (b : BitVec 256) (sh : Nat) : BitVec 256 := b.rotateRight (sh % 256)

/-- Syndrome block `r` over the information blocks from column `j` on (R109). -/
def ldpcSyn (r : Nat) : Nat → List (BitVec 256) → BitVec 256
  | _, [] => 0
  | j, b :: t => (if ldpcHas r j then circ b (ldpcShift r j) else 0) ^^^ ldpcSyn r (j + 1) t

/-- Parity blocks from row `r` on: p_0 = s_0, p_k = s_k ⊕ p_(k−1) (R109). -/
def ldpcParityFrom (info : List (BitVec 256)) (prev : BitVec 256) : Nat → Nat → List (BitVec 256)
  | _, 0 => []
  | r, n + 1 => let p := ldpcSyn r 0 info ^^^ prev; p :: ldpcParityFrom info p (r + 1) n

/-- The 16 parity blocks of 129 information blocks (R109). -/
def ldpcParity (info : List (BitVec 256)) : List (BitVec 256) := ldpcParityFrom info 0 0 16

end Sys2Proof.Machine
end

