-- ==== Sys2Proof/Machine/Flags.lean ====
section
/-! DEFINITION. State and status codes, Event Router latches (R333), fault messages (R324, R325) and the offer of records to the Station
Book (R344). -/
namespace Sys2Proof.Machine

/-- Timetable states (Table 2.2). -/
def TtbS.idle : Nat := 0
def TtbS.acquire : Nat := 1
def TtbS.locked : Nat := 2
def TtbS.flywheel : Nat := 3
def TtbS.lost : Nat := 4

/-- SPC states (Table 3.2). -/
def SpcS.stopped : Nat := 0
def SpcS.catching : Nat := 1
def SpcS.brake : Nat := 2
def SpcS.align : Nat := 3
def SpcS.openloop : Nat := 4
def SpcS.run : Nat := 5
def SpcS.coast : Nat := 6
def SpcS.safebrake : Nat := 7
def SpcS.harvest : Nat := 8
def SpcS.stopping : Nat := 9
def SpcS.fault : Nat := 10

/-- SAC states (Table 4.3). -/
def SacS.parked : Nat := 0
def SacS.load : Nat := 1
def SacS.seek : Nat := 2
def SacS.settle : Nat := 3
def SacS.follow : Nat := 4
def SacS.unload : Nat := 5
def SacS.selftest : Nat := 6
def SacS.recover : Nat := 7
def SacS.bstop : Nat := 8

/-- Block numbers: the block offset of Table 1.5 shifted right by 16 (Table 15.2). -/
def Blk.hep : Nat := 1
def Blk.cqe : Nat := 2
def Blk.zne : Nat := 3
def Blk.ste : Nat := 4
def Blk.mem : Nat := 5
def Blk.ttb : Nat := 6
def Blk.spc : Nat := 7
def Blk.sac (a : Act) : Nat := a.sel 8 9
def Blk.msq (a : Act) : Nat := a.sel 10 11
def Blk.rwc (a : Act) : Nat := a.sel 12 13
def Blk.ddp : Nat := 14
def Blk.asc : Nat := 15
def Blk.flt : Nat := 16
def Blk.bok : Nat := 17
def Blk.sec : Nat := 18
def Blk.pwr : Nat := 19
def Blk.brl : Nat := 20

/-- Clock time in nanoseconds (R39); the count runs in quarter nanoseconds. -/
def State.clock (s : State) : BitVec 64 := BitVec.ofNat 64 (s.ttb.clkQ / 4)

/-- Near angle now (R30, R33). -/
def State.near (s : State) : Word := nearOf s.ttb.angle

/-- Whether the Timetable is in a state. -/
def State.ttbIn (s : State) (st : Nat) : Bool := s.fget F.TTB_STS_STATE == st
/-- Whether the spindle is in a state. -/
def State.spcIn (s : State) (st : Nat) : Bool := s.fget F.SPC_STS_STATE == st
/-- State of a SAC. -/
def State.sacState (s : State) (a : Act) : Nat := s.fget (F.SAC_STS_STATE a)
/-- Whether a SAC is in a state. -/
def State.sacIn (s : State) (a : Act) (st : Nat) : Bool := s.sacState a == st
/-- Both SACs report their heads parked (R82). -/
def State.bothParked (s : State) : Bool := s.flag (F.SAC_STS_PARKED .zero) && s.flag (F.SAC_STS_PARKED .one)
/-- The chip runs the twin configuration. -/
def State.twin (s : State) : Bool := s.flag F.GLB_CFG_TWIN
/-- GLB_LOCK is set (R8). -/
def State.locked (s : State) : Bool := s.flag F.GLB_LOCK_LOCK
/-- The actuator is under a safe-stop: its own or the device's (R327). -/
def State.safeStop (s : State) (a : Act) : Bool :=
  s.flag (a.sel F.FLT_STS_SAFE0 F.FLT_STS_SAFE1) || s.flag F.FLT_STS_SAFEDEV

/-- One bit of a wide latch vector. -/
def bit640 (n : Nat) : BitVec 640 := BitVec.ofNat 640 (1 <<< n)

/-- Sources of Table 15.7 that are not reserved. [assumption 219 DEDUCED] -/
def eventSource (n : Nat) : Bool :=
  n ≤ 64 || n == 72 || (80 ≤ n && n ≤ 92) || (94 ≤ n && n ≤ 109) || (116 ≤ n && n ≤ 123) || (136 ≤ n && n ≤ 151) || (168 ≤ n && n ≤ 175) ||
    (512 ≤ n && n ≤ 639)

/-- An event of source `n` sets every latch that its route enables (R333). [assumption 219 DEDUCED] -/
def State.raiseEvent (s : State) (n : Nat) : State :=
  if eventSource n then
    { s with evr := { s.evr with
        hart := if s.fget (F.EVR_ROUTE_HARTS n) = 0 then s.evr.hart else s.evr.hart ||| bit640 n
        msq := ⟨if s.flag (F.EVR_ROUTE_M0EN n) then s.evr.msq.p0 ||| bit640 n else s.evr.msq.p0,
                if s.flag (F.EVR_ROUTE_M1EN n) then s.evr.msq.p1 ||| bit640 n else s.evr.msq.p1⟩ } }
  else s

/-- Sequencer event `e` of Table 7.7 becomes pending. -/
def State.seqEvent (s : State) (a : Act) (e : Nat) : State :=
  s.msqSet a { s.msqOf a with evp := (s.msqOf a).evp ||| BitVec.ofNat 32 (1 <<< e) }

/-- Sequencer event `e` on both sequencers. -/
def State.seqEvents (s : State) (e : Nat) : State := (s.seqEvent .zero e).seqEvent .one e

/-- SOURCE of a message: block and unit (Table 15.2). -/
def faultSource (blk unit : Nat) : Nat := blk * 32 + unit

/-- A fault message (Table 15.2). -/
def faultMsg (src kind cls seq : Nat) (forced : Bool) (info : Nat) : BitVec 64 :=
  BitVec.ofNat 64 (src % 1024 * 2 ^ 54 + kind % 64 * 2 ^ 48 + cls % 8 * 2 ^ 45 + seq % 32 * 2 ^ 40 + forced.toNat * 2 ^ 39 + info % 2 ^ 36)

/-- A field of a message. -/
def msgField (m : BitVec 64) (lo w : Nat) : Nat := (m.toNat >>> lo) % 2 ^ w

/-- Whether a force waits for this source and kind (R331). [assumptions 8 DESIGN CHOICE, 213 DEDUCED] -/
def State.forced (s : State) (blk unit kind : Nat) : Bool := s.flt.force == some (faultSource blk unit, kind)

/-- A block reports a fault (R324): the message leaves with the source's count, which advances; a force that waited for it is taken,
and FORCED is set unless the condition was real (R331).  The Collector receives it at FAULT_MESSAGE. [assumptions 8 DESIGN CHOICE, 210 DEDUCED, 213 DEDUCED] -/
def State.raiseFault (s : State) (blk unit kind cls info : Nat) (real : Bool := true) : State :=
  let src := faultSource blk unit
  let seq := look (fun _ => 0) src s.flt.seqs
  let hit := s.forced blk unit kind
  let s := { s with flt := { s.flt with
    inflight := s.flt.inflight ++ [faultMsg src kind cls seq (hit && !real) info]
    seqs := put (fun _ => 0) src ((seq + 1) % 32) s.flt.seqs
    force := if hit then none else s.flt.force } }
  if hit then s.fset F.FLT_FORCE_RESULT 1 else s

/-- INFO of a fault that concerns a head or an actuator operation (Table 15.3). -/
def State.headInfo (s : State) (head : Nat) : Nat := head % 16 + s.near.toNat * 16

/-- Write BOK_STS.BUSY from the queue and the clear. -/
def State.bokBusy (s : State) : State :=
  (s.fsetB F.BOK_STS_BUSY (s.bok.clearing || !s.bok.queue.isEmpty)).fset F.BOK_STS_QCNT s.bok.queue.length

/-- Put a record into the queue (R343): dropped and counted when 64 wait; records of class 4 and 5 go ahead of those of lower class. -/
def State.queueRecord (s : State) (r : BokRec) : State :=
  if 64 ≤ s.bok.queue.length then s.count Rg.BOK_DROP_LO
  else
    let q := s.bok.queue
    let q := if r.high then q.takeWhile (·.high) ++ r :: q.dropWhile (·.high) else q ++ [r]
    ({ s with bok := { s.bok with queue := q } }).bokBusy

/-- Largest number of buckets (R344). -/
def bucketMax : Nat := 256

/-- Offer a record to the Station Book (R344): its code's bucket lets it through with the suppressed count, or suppresses it.  Records of
class 4 and 5 and the book's own take no token. [assumption 227 DEDUCED] -/
def State.offerRecord (s : State) (code : BitVec 16) (info : BitVec 64) (forced high own : Bool) : State :=
  let r := BokRec.mk code s.clock info 0 forced high
  if high || own then s.queueRecord r
  else
    let burst := max 1 (s.fget F.BOK_RATE_BURST)
    let bs := s.bok.buckets
    let full := fun (b : Bucket) => burst ≤ b.tokens && b.supp == 0
    match bs.find? (fun b => b.code == code) with
    | some b =>
      let rest := bs.filter (fun x => x.code != code)
      if b.tokens = 0 then
        ({ s with bok := { s.bok with buckets := rest ++ [{ b with supp := b.supp + 1 }] } }).count Rg.BOK_SUPP_LO
      else
        ({ s with bok := { s.bok with buckets := rest ++ [{ b with tokens := b.tokens - 1, supp := 0 }] } }).queueRecord
          { r with supp := min b.supp 0xFFFF }
    | none =>
      let fresh : List Bucket → State := fun rest =>
        ({ s with bok := { s.bok with buckets := rest ++ [Bucket.mk code (burst - 1) 0] } }).queueRecord r
      if bs.length < bucketMax then fresh bs
      else match bs.find? full with
        | some b => fresh (bs.filter (fun x => x.code != b.code))
        | none =>
          (((s.queueRecord r).fset F.BOK_STS_TBLFULL 1).raiseEvent 105).raiseFault Blk.bok 0 3 0 0

/-- CODE of a record: source and kind (Table 16.6). -/
def recCode (blk unit kind : Nat) : BitVec 16 := BitVec.ofNat 16 (faultSource blk unit * 64 + kind)

/-- A record that a block asks for beside its messages, under a rate-limited code (R124, R332). -/
def State.blockRecord (s : State) (blk unit kind : Nat) (info : BitVec 64) : State :=
  s.offerRecord (recCode blk unit kind) info false false false

/-- Set TTB_STS.STATE; a change raises the Timetable state-change event (R37) and sequencer event 7 (Table 7.7). -/
def State.ttbEnter (s : State) (st : Nat) : State :=
  if s.ttbIn st then s else ((s.fset F.TTB_STS_STATE st).raiseEvent 64).seqEvents 7

end Sys2Proof.Machine
end

