-- ==== Sys2Proof/Machine/Hpost.lean ====
section
/-! DEFINITION. Completions and messages to the host (R269, R270), command slots (R237), and packets to the partner chip (R363). -/
namespace Sys2Proof

/-- Blocks of a command. -/
def CmdKind.count : CmdKind → Nat
  | .read _ n => n
  | .write _ n _ => n
  | .append _ n _ => n
  | .zeroes _ n => n
  | _ => 0

/-- Kinds that write (Table 11.0). -/
def CmdKind.isWriteKind : CmdKind → Bool
  | .write .. => true
  | .append .. => true
  | .zeroes .. => true
  | .zone .. => true
  | _ => false
/-- Kinds that carry or make data. -/
def CmdKind.isData : CmdKind → Bool
  | .write .. => true
  | .append .. => true
  | .zeroes .. => true
  | _ => false
/-- First block that a command names. -/
def CmdKind.start : CmdKind → Nat
  | .read a _ => a
  | .write a _ _ => a
  | .append a _ _ => a
  | .zeroes a _ => a
  | .zone _ a _ => a
  | .report a _ => a
  | .flush => 0

end Sys2Proof

namespace Sys2Proof.Machine

/-- Update the Host Endpoint's hidden state. -/
def State.hepMap (s : State) (f : HepSt → HepSt) : State := { s with hep := f s.hep }
/-- One port. -/
def State.port (s : State) (p : Port) : PortSt := s.hep.ports.get p
/-- Change one port. -/
def State.portMap (s : State) (p : Port) (f : PortSt → PortSt) : State :=
  s.hepMap (fun h => { h with ports := h.ports.set p (f (h.ports.get p)) })
/-- Update CQE's hidden state. -/
def State.cqeMap (s : State) (f : CqeSt → CqeSt) : State := { s with cqe := f s.cqe }
/-- Update BRL's hidden state. -/
def State.brlMap (s : State) (f : BrlSt → BrlSt) : State := { s with brl := f s.brl }

/-- Packets that wait for an XRDY before they are sent whole, and those whose receiver answers ACK (Table 17.2). -/
def TxPkt.wantsXrdy : TxPkt → Bool
  | .win .. => true
  | .mdcopy .. => true
  | .fdata .. => true
  | _ => false
/-- Packets that the receiver acknowledges (Table 17.2). -/
def TxPkt.wantsAck : TxPkt → Bool
  | .win .. => true
  | .jrec .. => true
  | _ => false

/-- A frame leaves (R363): the next SEQ; the sender keeps the last 256. [assumption 248 DEDUCED] -/
def State.sendFrame (s : State) (tag : Nat) (req : Bool) (p : TxPkt) : State :=
  s.brlMap (fun b => { b with tx := (b.tx ++ [TxFrame.mk tag req p]).drop (b.tx.length + 1 - 256), txSeq := (b.txSeq + 1) % 2 ^ 32 })

/-- A packet goes out on the Branch Line (R363, R364) while its link is up, under the next TAG: first its request where it wants an XRDY; the wait for its answer is
noted. -/
def State.sendPkt (s : State) (p : TxPkt) : State :=
  if s.flag F.BRL_STS_LINK then
    let tag := s.brl.nextTag
    let s := s.brlMap (fun b => { b with nextTag := (tag + 1) % 2 ^ 32
                                         waits := if p.wantsXrdy || p.wantsAck then b.waits ++ [⟨tag, p, !p.wantsXrdy, false⟩] else b.waits })
    s.sendFrame tag p.wantsXrdy p
  else s

/-- The words of BAR0 that nothing has written: a vector's mask bit is 1 (the standard's reset, R270). [assumption 156 PRESUMED] -/
def bar0Default (o : Nat) : Word := if 0x2000 ≤ o ∧ o < 0x2810 ∧ o % 16 = 12 then 1 else 0
/-- Whether a vector is masked in the MSI-X table (R270). -/
def PortSt.vmasked (p : PortSt) (vec : Nat) : Bool := (look bar0Default (0x2000 + 16 * vec + 12) p.bar0).getLsbD 0

/-- Reset values of the stored bits of configuration registers, which the standards give (R1): Device Control, and the AER masks and severity. [assumption 150 PRESUMED] -/
def cfgReset (r : Nat) : Word :=
  if r = 0x78 then 0x2910 else if r = 0x108 then 0x400000 else if r = 0x10C then 0x462030 else if r = 0x114 then 0xE000 else 0
/-- The stored bits of a word of a port's configuration space. -/
def PortSt.cfgWord (p : PortSt) (r : Nat) : Word := look cfgReset r p.cfg
/-- Bus Master Enable: bit 2 of the Command register (R269). -/
def PortSt.bme (p : PortSt) : Bool := (p.cfgWord 0x04).getLsbD 2
/-- Function mask of MSI-X: bit 14 of Message Control (R270). -/
def PortSt.fmask (p : PortSt) : Bool := (p.cfgWord 0x50).getLsbD 30

/-- A message on a vector (R270): sent, or pending in the PBA while a block stands. -/
def PortSt.message (p : PortSt) (vec : Nat) : PortSt :=
  if p.fmask || p.vmasked vec || !p.bme then { p with pba := p.pba ||| BitVec.ofNat 129 (1 <<< vec) }
  else { p with sent := p.sent ++ [vec] }

/-- Whether coalescing applies to a queue (R270): an I/O queue whose vector has it enabled, and the threshold it must reach. [assumption 169 DEDUCED] -/
def PortSt.coalesce (p : PortSt) (c : Cq) : Option Nat :=
  let thr := bitsOf (look (fun _ => 0) 0x08 p.features) 0 8
  let cd := (look (fun _ => (0 : Word)) (0x900 + c.vector) p.features).getLsbD 16
  let time := bitsOf (look (fun _ => (0 : Word)) 0x08 p.features) 8 8
  if c.qid = 0 || cd || thr = 0 || time = 0 then none else some (thr + 1)

/-- Replace a completion queue. -/
def PortSt.cqSet (p : PortSt) (c : Cq) : PortSt := { p with cqs := p.cqs.map (fun x => if x.qid = c.qid then c else x) }

/-- The completion queue that takes a command's completion; none once its submission queue is gone. -/
def PortSt.cqOf (p : PortSt) (qid : Nat) : Option Cq :=
  match p.sqs.find? (fun q => q.qid == qid) with
  | some q => p.cqs.find? (fun c => c.qid == q.cqid)
  | none => none

/-- HEP_STS.BMEPn (R269): Bus Master Enable is clear and something waits for it. -/
def State.bmepUpdate (s : State) (p : Port) : State :=
  let x := s.port p
  s.fsetB (p.sel F.HEP_STS_BMEP0 F.HEP_STS_BMEP1) (!x.bme && (!x.fetch.isEmpty || !x.held.isEmpty))

/-- Tags of the present generation (R266): 0x100 or 0x200 onwards with 10-Bit Tag Requester Enable (bit 12 of Device Control 2), else the 128 whose bit 7 is the
generation. -/
def State.tagPool (s : State) (p : Port) : List Nat :=
  let g := s.fget (p.sel F.HEP_STS_GEN0 F.HEP_STS_GEN1)
  if ((s.port p).cfgWord 0x98).getLsbD 12 then (List.range 256).map (fun i => 0x100 * (1 + g) + i) else (List.range 128).map (fun i => 128 * g + i)

/-- The command stamp that stands for forwarding slot `n` in tags and data receipts. -/
def fwdStamp : Nat := 2 ^ 60

/-- Issue read requests while tags are free and BME is 1 (R266, R269): one request for each block, the lowest free tag first. [assumption 153 DEDUCED] -/
def State.fetchPump (s : State) (p : Port) : Nat → State
  | 0 => s
  | n + 1 =>
    let x := s.port p
    match x.fetch, (s.tagPool p).find? (fun t => !x.tags.any (fun u => u.tag == t && !u.timedOut)) with
    | st :: rest, some t =>
      if x.bme then
        (s.portMap p (fun x => { x with fetch := rest, tags := x.tags.filter (fun u => u.tag != t) ++ [⟨t, st, false, false⟩] })).fetchPump p n
      else s
    | _, _ => s

/-- A command asks for the data of `n` blocks (R266). -/
def State.fetchData (s : State) (p : Port) (stamp n : Nat) : State :=
  ((s.portMap p (fun x => { x with fetch := x.fetch ++ List.replicate n stamp })).fetchPump p n).bmepUpdate p

/-- A command's requests not yet begun are dropped; those begun keep their tags until they complete or time out (R266, R269). -/
def State.fetchDrop (s : State) (p : Port) (stamp : Nat) : State :=
  (s.portMap p (fun x => { x with fetch := x.fetch.filter (fun n => n != stamp) })).bmepUpdate p

/-- The data of a command has come: its tags are free, and waiting requests go out. [assumption 153 DEDUCED] -/
def State.fetchDone (s : State) (p : Port) (stamp : Nat) : State :=
  ((s.portMap p (fun x => { x with tags := x.tags.filter (fun u => u.stamp != stamp || u.old) })).fetchPump p 256).bmepUpdate p

/-- Post one completion entry and its message (R269, R270); without room in the queue or without BME it waits. -/
def State.postCompletion (s : State) (c : Cpl) : State :=
  let p := s.port c.hdr.port
  match p.cqOf c.hdr.qid with
  | none => s
  | some q =>
    if !p.bme || q.size ≤ q.posted - q.head + 1 then (s.portMap c.hdr.port (fun x => { x with held := x.held ++ [c] })).bmepUpdate c.hdr.port
    else
      let s := s.hepMap (fun h => { h with posted := h.posted ++ [c] })
      let q := { q with posted := q.posted + 1, coalesced := q.coalesced + 1 }
      let send := match p.coalesce q with
        | none => true
        | some n => decide (n ≤ q.coalesced)
      s.portMap c.hdr.port (fun x =>
        if send then (x.cqSet { q with coalesced := 0 }).message q.vector else x.cqSet q)

/-- Completions that waited are tried again in order (R269). -/
def State.heldPump (s : State) (p : Port) : State :=
  let l := (s.port p).held
  (l.foldl (fun s c => s.postCompletion c) (s.portMap p (fun x => { x with held := [] }))).bmepUpdate p

/-- Data of a forwarded read goes back in blocks of 4,112 bytes (R371). -/
def State.sendData (s : State) (cid : Nat) : Nat → List Byte → State
  | 0, _ => s
  | n + 1, l => if l.isEmpty then s else (s.sendPkt (.fdata cid (l.take 4112))).sendData cid n (l.drop 4112)

/-- A command completes: to its port's queue, or by FDATA and FCPL to the chip it was forwarded from (R371).  Nothing is posted once power has failed or a fault
reset runs (R250, R291).  A failure enters the controller's Error Information log, which keeps 64 (Table 12.11). -/
def State.complete (s : State) (h : CmdHdr) (status : Nat) (dw0 : Nat := 0) (data : List Byte := []) : State :=
  if s.cqe.stopped then s
  else if 65536 ≤ h.qid then (s.sendData h.cid data.length data).sendPkt (.fcpl h.cid status dw0)
  else
    let s := if status = 0 then s
      else s.portMap h.port (fun x => { x with errors := (⟨h, status, 0, []⟩ :: x.errors).take 64, errCount := x.errCount + 1 })
    s.postCompletion ⟨h, status, dw0, data⟩

/-- The ceiling step (R318) and its enforcement: PWR writes it to SPC_TARGET when that exceeds it. -/
def State.ceiling (s : State) : Nat :=
  let th := if s.flag F.ASC_STS_THENF then max 1 (min 5 (s.fget F.ASC_THR_CAPSTEP)) else 5
  min s.pwr.psCap (min th s.pwr.hctmCap)

/-- The bit of this chip's own actuator Token among the nets (Table 17.1). -/
def State.ownToken (s : State) : Nat := s.fget F.GLB_CFG_SIDE
/-- The bit of the partner's actuator Token. -/
def State.partToken (s : State) : Nat := 1 - s.fget F.GLB_CFG_SIDE
/-- Tokens held (R354); a single chip counts its own actuators' and TOKEN_S as held (R356). [assumption 242 DEDUCED] -/
def State.held (s : State) : Nat := if s.twin then s.fget F.BRL_TKSTS_HELD else 5
/-- Whether the chip holds TOKEN_S: the spindle is its own. -/
def State.holdsSpindle (s : State) : Bool := s.held.testBit 2
/-- Whether the chip holds the Token of the pair its ports serve (R355). -/
def State.portToken (s : State) : Bool := !s.twin || s.held.testBit (if s.flag F.BRL_STEER_SET then s.partToken else s.ownToken)
/-- Both pairs' heads are parked as SPC counts them (R65, R369): the partner's count as loaded unless reported parked, or held by this chip. -/
def State.allParked (s : State) : Bool :=
  s.bothParked && (!s.twin || s.brl.partParked || s.held.testBit s.partToken)

/-- SPST (R369): SPC_STS, SPC_SPEED, the target request with its ceiling, and the parked state. [assumption 253 DEDUCED] -/
def State.sendSpst (s : State) : State :=
  s.sendPkt (.spst (s.rd Rg.SPC_STS) (s.rd Rg.SPC_SPEED) s.brl.ownTarget s.ceiling s.bothParked)

/-- CQE_SLOTS and SLOTFULL (Table 11.8). -/
def State.slotCount (s : State) : State :=
  (s.fset F.CQE_SLOTS_USED s.cqe.slots.length).fsetB F.CQE_STS_SLOTFULL (decide (8192 ≤ s.cqe.slots.length))

/-- The slot of a stamp. -/
def State.slotOf (s : State) (stamp : Nat) : Option Slot := s.cqe.slots.find? (fun x => x.stamp == stamp)
/-- Change the slot of a stamp. -/
def State.slotMap (s : State) (stamp : Nat) (f : Slot → Slot) : State :=
  s.cqeMap (fun c => { c with slots := c.slots.map (fun x => if x.stamp = stamp then f x else x) })

/-- A shutdown in progress whose commands have run and whose window is on media requests its checkpoint (Table 11.3). [assumption 167 DEDUCED] -/
def State.shutTry (s : State) (p : Port) : State :=
  let busy := s.cqe.slots.any (fun x => x.cmd.hdr.port == p && decide (x.cmd.hdr.qid < 65536)) || s.cqe.buffer.any (fun b => b.early)
  if (s.port p).shst = 1 && !busy then
    { s.portMap p (fun x => { x with shst := 2 }) with ste := { s.ste with cpPend := s.ste.cpPend || s.flag F.STE_STS_RUN } }
  else s

/-- Shutdown status of a port as CSTS.SHST reads it: 0 normal, 1 in progress, 2 complete (R253). [assumption 167 DEDUCED] -/
def State.shstNow (s : State) (p : Port) : Nat :=
  match (s.port p).shst with
  | 0 => 0
  | 1 => 1
  | _ => if s.ste.cpPend || s.ste.cp.isSome then 1 else 2

/-- A command leaves its slot (R237) and the parts of its read and its unissued read requests go with it. -/
def State.freeSlot (s : State) (stamp : Nat) : State :=
  let s := (s.cqeMap (fun c => { c with slots := c.slots.filter (fun x => x.stamp != stamp), parts := c.parts.filter (fun x => x.stamp != stamp) })).slotCount
  (((s.fetchDrop .zero stamp).fetchDrop .one stamp).shutTry .zero).shutTry .one

/-- An admitted command completes and its slot is freed (R237); one that Table 11.3 has silenced only leaves its slot. -/
def State.finish (s : State) (x : Slot) (status : Nat) (dw0 : Nat := 0) (data : List Byte := []) : State :=
  if x.mute then s.freeSlot x.stamp else (s.freeSlot x.stamp).complete x.cmd.hdr status dw0 data

/-- NVMe statuses of Table 12.12 as SCT × 256 + SC. -/
def St.boundary : Nat := 0x1B8
def St.full : Nat := 0x1B9
def St.readOnly : Nat := 0x1BA
def St.offline : Nat := 0x1BB
def St.invalidWrite : Nat := 0x1BC
def St.tooManyActive : Nat := 0x1BD
def St.tooManyOpen : Nat := 0x1BE
def St.invalidState : Nat := 0x1BF
def St.transfer : Nat := 0x004
def St.aborted : Nat := 0x007
def St.unrecovered : Nat := 0x281
def St.denied : Nat := 0x286
def St.anaInaccessible : Nat := 0x302
def St.anaTransition : Nat := 0x303
/-- Statuses of the NVMe standard that the manual takes with the commands (R1): Invalid Command Opcode, Invalid Field, LBA Out of Range, Invalid
Namespace. -/
def St.opcode : Nat := 0x001
def St.field : Nat := 0x002
def St.lbaRange : Nat := 0x080
def St.namespace : Nat := 0x00B

/-- Completions of Asynchronous Event Requests: an event that waits takes the oldest request (R273). -/
def State.aerPump (s : State) (p : Port) : State :=
  match (s.port p).aers, (s.port p).events with
  | c :: cs, e :: es =>
    (s.portMap p (fun x => { x with aers := cs, events := es })).complete ⟨p, 0, c, 0, false⟩ 0 e
  | _, _ => s

/-- An asynchronous event: DW0 as the NVMe standard lays it out (type, information, log page), where bit `b` of the port's Asynchronous Event
Configuration enables it (R275). [assumption 162 PRESUMED] -/
def State.asyncEvent (s : State) (b typ info lid : Nat) : State :=
  let one := fun (s : State) (p : Port) =>
    if (look (fun _ => (0 : Word)) 0x0B (s.port p).features).getLsbD b && (s.port p).cc.getLsbD 0 then
      (s.portMap p (fun x => { x with events := x.events ++ [typ + info * 256 + lid * 65536] })).aerPump p
    else s
  one (one s .zero) .one

/-- ANA state of the own or the partner's groups on this chip's ports (Table 17.4, R281): 0 Optimized, 1 Non-Optimized, 2 Inaccessible, 3 Change. [assumption 260 DEDUCED] -/
def State.anaState (s : State) (partner : Bool) : Nat :=
  if s.flag F.BRL_STS_FENCED then 2
  else if !partner then 0
  else if s.brl.tokWait || s.flag F.BRL_STS_HBACK then 3
  else if s.flag F.BRL_STS_CARRY then 0
  else if s.flag F.BRL_STS_PAIRED && s.flag F.BRL_STS_LINK && !s.flag F.BRL_STS_PSILENT then 1
  else 2

/-- A change of a group's state raises the ANA Change notice (R281): type 2, information 3, log page 0x0C, enabled by bit 11. [assumption 261 DEDUCED] -/
def State.anaUpdate (s : State) : State :=
  let now := s.anaState false + 4 * s.anaState true
  let s' := if s.twin && now != s.hep.ana then s.asyncEvent 11 2 3 0x0C else s
  s'.hepMap (fun h => { h with ana := now, anaCount := if now = h.ana then h.anaCount else h.anaCount + 1 })

/-- The Composite Temperature in kelvin (R275): the drive temperature, or the junction temperature while DTVALID = 0.  The manual gives no rounding of
1/16 °C nor of 273.15; the model truncates and takes 273 (DESIGN CHOICE, assumption 40). [assumption 40 DESIGN CHOICE] -/
def State.composite (s : State) : Int :=
  (if s.flag F.ASC_STS_DTVALID then s.sget F.ASC_DTEMP_TEMP else s.sget F.ASC_JTEMP_TEMP) / 16 + 273

/-- Whether a Temperature Threshold is exceeded (R275, Table 12.10): the over threshold, 343 K until it is set, or the under threshold where one is set. -/
def State.tempOut (s : State) : Bool :=
  let overs := bitsOf (look (fun _ => 343) 0x04 s.hep.features) 0 16
  let under := bitsOf (look (fun _ => (0 : Word)) 0x104 s.hep.features) 0 16
  decide ((overs : Int) ≤ s.composite) || (decide (0 < under) && decide (s.composite ≤ (under : Int)))

/-- Critical-warning bits (R275). -/
def State.warnBits (s : State) : Nat :=
  let temp := s.flag F.ASC_STS_THREQ || s.tempOut
  let rel := s.rd Rg.ZNE_FAIL != 0 || s.flag F.STE_STS_JSINGLE || s.flag F.ZNE_STS_SPFULL
  let bak := !s.flag F.PWR_STS_ARMED
  temp.toNat * 2 + rel.toNat * 4 + bak.toNat * 16

/-- A SMART/Health event for each critical-warning bit that has risen (R275). -/
def State.warnUpdate (s : State) : State :=
  let now := s.warnBits
  let rose := fun (i : Nat) => (now >>> i) % 2 == 1 && (s.hep.warn >>> i) % 2 == 0
  let s' := if rose 1 then s.asyncEvent 1 1 1 2 else s
  let s' := if rose 2 then s'.asyncEvent 2 1 0 2 else s'
  let s' := if rose 4 then s'.asyncEvent 4 1 0 2 else s'
  s'.hepMap (fun h => { h with warn := now })

end Sys2Proof.Machine
end

