-- ==== Sys2Proof/Machine/Cross.lean ====
section
/-! DEFINITION. What one block's step does to others: gate force-off and the end of a transfer (R37, R95, R393), completion records (R167),
pool job ends (R142, R143), the hard stop (R160), Buffer Stop (R99), write permission (R92), the inhibits (R37) and SPC's state changes. -/
namespace Sys2Proof.Machine

/-- Word `i` of a descriptor (Table 7.11). -/
def descWord (d : List Word) (i : Nat) : Nat := (d.getD i 0).toNat
/-- Bits of a descriptor word. -/
def descBits (d : List Word) (i lo w : Nat) : Nat := bitsOf (d.getD i 0) lo w
/-- OPC (Table 7.11). -/
def descOpc (d : List Word) : Nat := descBits d 0 0 8
/-- HEAD (Table 7.11). -/
def descHead (d : List Word) : Nat := descBits d 0 8 5
/-- SUBMITTER (Table 7.11). -/
def descSub (d : List Word) : Nat := descBits d 0 27 2
/-- COUNT (Table 7.11). -/
def descCount (d : List Word) : Nat := descBits d 3 16 16
/-- DADDR (Table 7.11). -/
def descDaddr (d : List Word) : Nat := descWord d 5 + descWord d 6 * 2 ^ 32
/-- STADDR (Table 7.11). -/
def descStaddr (d : List Word) : Nat := descWord d 7 + descWord d 8 * 2 ^ 32
/-- WRITE and FORMAT_BAND are of a write kind (R163). -/
def writeKind (opc : Nat) : Bool := opc == 2 || opc == 5

/-- Apply `f` to every dispatched operation that `p` picks. -/
def State.opMap (s : State) (a : Act) (p : MsqOp → Bool) (f : MsqOp → MsqOp) : State :=
  let m := s.msqOf a
  let g := fun (o : MsqOp) => if p o then f o else o
  s.msqSet a { m with cur := m.cur.map g, ended := m.ended.map g }

/-- The operation whose transfer the channel holds (R158). -/
def MsqOp.owns (o : MsqOp) : Bool := o.loaded && !o.chdone

/-- Completion slots taken (R166): DISP reserves one, which is released when the completion is read. -/
def MsqSt.slotsUsed (m : MsqSt) : Nat := m.cpls.length + m.cur.isSome.toNat + m.ended.length

/-- Set QDEPTH and CPLN, and CPL0 to CPL3 follow from the list (Table 7.18). -/
def State.msqCounts (s : State) (a : Act) : State :=
  (s.fset (F.MSQ_STS_QDEPTH a) (s.msqOf a).queue.length).fset (F.MSQ_STS_CPLN a) (s.msqOf a).cpls.length

/-- A completion record (Table 7.12). -/
def cplRecord (status pdone nfail haltpc : Nat) (partialEnd : Bool) (tag endAng : Word) : BitVec 128 :=
  BitVec.ofNat 128 (status % 256 + pdone % 65536 * 2 ^ 8 + nfail % 65536 * 2 ^ 24 + haltpc % 16384 * 2 ^ 40 +
    partialEnd.toNat * 2 ^ 54 + tag.toNat * 2 ^ 64 + endAng.toNat * 2 ^ 96)

/-- Post a completion record to its submitter (R167): firmware's wait in the sequencer; ZNE and STE take theirs at once.  The two counters
count it. -/
def State.postCpl (s : State) (a : Act) (d : List Word) (status pdone nfail haltpc : Nat) (part : Bool) (endAng : Word) : State :=
  let m := s.msqOf a
  let r := cplRecord status pdone nfail haltpc part (d.getD 4 0) endAng
  let s := if descSub d ≤ 1 then s.msqSet a { m with hwCpls := m.hwCpls ++ [r] } else s.msqSet a { m with cpls := m.cpls ++ [r] }
  let s := s.count (Rg.MSQ_OPS_LO a)
  let s := if part then s.count (Rg.MSQ_PART_LO a) else s
  s.msqCounts a

/-- A halted sequencer completes its queued operations in turn with STATUS 0x30 and PDONE 0, as completion slots free (R160, R166). -/
def State.haltDrain (s : State) (a : Act) : Nat → State
  | 0 => s
  | n + 1 =>
    let m := s.msqOf a
    match m.queue with
    | [] => s
    | d :: rest =>
      if s.flag (F.MSQ_STS_HALT a) && (m.slotsUsed < 8 || descSub d ≤ 1) then
        ((s.msqSet a { m with queue := rest }).postCpl a d 0x30 0 0 (s.fget (F.MSQ_HALTPC_ADDR a)) false s.near).haltDrain a n
      else s

/-- CHDONE becomes true for the channel's transfer (R158): the transfer leaves the channel, sequencer event 10 becomes pending, and the
operation that loaded it keeps the outcome. -/
def State.chDone (s : State) (a : Act) : State :=
  let r := s.rwcOf a
  match r.transfer with
  | none => s
  | some t =>
    let part := t.stopped && (t.done < t.count)
    let s := s.rwcSet a { r with transfer := none, gate := none, chdone := true, partialEnd := r.partialEnd || part }
    let s := (s.fsetB (F.RWC_STS_BUSY a) false).fsetB (F.RWC_STS_IDLE a) true
    let s := if t.kind = .reread then s.msqSet a { s.msqOf a with rereadOp := none } else
      s.opMap a MsqOp.owns (fun o => { o with chdone := true, pdone := t.done, partialEnd := o.partialEnd || part })
    s.seqEvent a 10

/-- The channel hands over the status word of sector `i` of the transfer (R122): the sequencer stores it at STADDR + 8 × i (R167). -/
def State.handWord (s : State) (a : Act) (i : Nat) (word : BitVec 64) : State :=
  let result := word.toNat % 16
  let s := s.count (Rg.RWC_SECT_LO a)
  let s := if 3 ≤ result then s.count (Rg.RWC_FAIL_LO a) else s
  let m := s.msqOf a
  match (m.cur.toList ++ m.ended).find? MsqOp.owns with
  | none => s
  | some o =>
    (s.store (descStaddr o.desc + 8 * i) 8 word.toNat).opMap a MsqOp.owns
      (fun o => { o with words := o.words + 1, chfail := o.chfail || 3 ≤ result })

/-- A status word that says a sector was not completed (Table 5.5: RESULT 8 or 9). -/
def blankWord (result i : Nat) : BitVec 64 := BitVec.ofNat 64 (result + i % 256 * 2 ^ 23)

/-- Hand over words of one RESULT for `n` sectors from `i` on. -/
def State.handBlanks (s : State) (a : Act) (result i : Nat) : Nat → State
  | 0 => s
  | n + 1 => (s.handWord a i (blankWord result i)).handBlanks a result (i + 1) n

/-- End the transfer if nothing of it is left (R158, R393): no gate period open or to come, and for a read every completed sector's word
handed over; sectors of a read that ended early get RESULT 8. -/
def State.settleTransfer (s : State) (a : Act) : State :=
  let r := s.rwcOf a
  match r.transfer with
  | none => s
  | some t =>
    if r.gate.isSome then s
    else match t.kind with
      | .write => if t.periods.isEmpty then s.chDone a else s
      | .reread => if t.stopped && t.periods.isEmpty then s.chDone a else s
      | .read =>
        if t.stopped then
          if t.periods.isEmpty && decide (t.done ≤ t.nextWord) then (s.handBlanks a 8 t.nextWord (t.count - t.nextWord)).chDone a else s
        else if t.count ≤ t.nextWord then s.chDone a else s

/-- The channel starts no further sector or fragment of the transfer (R393); an open period is left as it is. -/
def State.stopTransfer (s : State) (a : Act) : State :=
  let r := s.rwcOf a
  match r.transfer with
  | none => s
  | some t => (s.rwcSet a { r with transfer := some { t with stopped := true, periods := [] } }).settleTransfer a

/-- What of an open period still runs when no further sector starts: up to the sector or fragment in progress at a phase (R393). -/
def cutFrags (ph : Nat) : List Frag → List Frag
  | [] => []
  | f :: t => if ph < f.endPh then [f] else f :: cutFrags ph t

/-- The second fragment alone of a period (R110). -/
def secondOnly : List GatePeriod → List GatePeriod
  | [] => []
  | g :: _ => [{ g with frags := g.frags.take 1 }]

/-- No further sector of the transfer starts (R158 ABORT, R112, R393): the open period closes after the sector or fragment in progress;
with `second` a split sector in progress keeps its second fragment. -/
def State.stopSoft (s : State) (a : Act) (second : Bool) : State :=
  let r := s.rwcOf a
  match r.transfer with
  | none => s
  | some t =>
    let ph := s.ttb.angle.toNat % 0x10000
    let gate := r.gate.map (fun g => { g with frags := cutFrags ph g.frags })
    let split := match gate with
      | some g => (match g.frags.getLast? with
        | some f => !f.last
        | none => false)
      | none => t.mid
    let rest := if second && split then secondOnly t.periods else []
    (s.rwcSet a { r with gate := gate, transfer := some { t with stopped := true, periods := rest } }).settleTransfer a

/-- A force-off (R37, R95, R113, Buffer Stop): an open write gate period ends at once with the pair idle, and its transfer ends early. -/
def State.forceOff (s : State) (a : Act) : State :=
  let r := s.rwcOf a
  match r.transfer, r.gate with
  | some t, some _ =>
    if t.kind = .write then
      ((s.rwcSet a { r with gate := none }).fsetB (F.RWC_STS_IDLE a) true).stopTransfer a
    else s
  | _, _ => s

/-- Whether WRPERM holds (R92). [assumption 43 DEDUCED] -/
def State.wrpermHolds (s : State) (a : Act) : Bool :=
  s.sacIn a SacS.follow && s.flag (F.SAC_STS_ONTRK a) && s.locked && !s.flag F.TTB_STS_WINH && !s.flag (F.SAC_STS_WFLT a) &&
    decide (s.fget (F.SAC_WFG_RECOV a) ≤ (s.sacOf a).goodSince) && !s.flag (F.RWC_STS_PFLT a) && (s.sacOf a).wedgeOk &&
    !(s.sacOf a).estFail && s.portToken

/-- Bring SACn_STS.WRPERM up to date (R92); a fall while a write gate is open turns it off. -/
def State.permUpdate (s : State) (a : Act) : State :=
  let p := s.wrpermHolds a
  let s := s.fsetB (F.SAC_STS_WRPERM a) p
  if p then s else s.forceOff a

/-- R92 for both actuators. -/
def State.permBoth (s : State) : State := (s.permUpdate .zero).permUpdate .one

/-- A read transfer in progress ends at the next sector boundary (R37, R112). -/
def State.readInhibit (s : State) (a : Act) : State :=
  match (s.rwcOf a).transfer with
  | some t => if t.kind = .write || !t.started then s else s.stopSoft a true
  | none => s

/-- Bring WINH and RINH up to date (R37, Table 2.2, R45): a rise of WINH forces both write gates off, a rise of RINH ends read gates at
the next sector boundary. -/
def State.inhUpdate (s : State) : State :=
  let locked := s.ttbIn TtbS.locked
  let step := s.flag F.TTB_STS_STEP
  let winh := !(locked && !step && (!s.twin || s.flag F.TTB_STS_TWINSYNC) && !s.flag F.SPC_STS_OBSLOSS)
  let rinh := !((locked || s.ttbIn TtbS.flywheel) && !step)
  let wRise := winh && !s.flag F.TTB_STS_WINH
  let rRise := rinh && !s.flag F.TTB_STS_RINH
  let s := (s.fsetB F.TTB_STS_WINH winh).fsetB F.TTB_STS_RINH rinh
  let s := if wRise then (s.forceOff .zero).forceOff .one else s
  let s := if rRise then (s.readInhibit .zero).readInhibit .one else s
  s.permBoth

/-- Speed magnitude in RPM, as an integer part and its Q15.16 value (R55, R56). -/
def State.speed (s : State) : Int := s.sget F.SPC_SPEED_RPM
/-- Integer part of the magnitude of SPC_SPEED (R55). -/
def State.rpm (s : State) : Nat := mag s.speed / 65536

/-- Set SPC_SPEED (R56). -/
def State.setSpeed (s : State) (v : Int) : State := s.sset F.SPC_SPEED_RPM v

/-- Enter an SPC state (R59): the event, INBAND cleared on leaving RUN (R63), OBSLOSS cleared in STOPPED (R57), speed 0 where R56 says 0. -/
def State.spcEnter (s : State) (st : Nat) : State :=
  if s.spcIn st then s
  else
    let s := (s.fset F.SPC_STS_STATE st).raiseEvent 72
    let s := if st = SpcS.run then s else ({ s with ttb := { s.ttb with stepSams := none } }).fsetB F.SPC_STS_INBAND false
    let s := { s with spc := { s.spc with bandRevs := 0, failRun := 0, goodRun := 0, revCycles := 0, revEvents := 0 } }
    let s := if st = SpcS.stopped then s.fsetB F.SPC_STS_OBSLOSS false else s
    let s := if st = SpcS.stopped || st = SpcS.align || st = SpcS.fault || st = SpcS.catching then s.setSpeed 0 else s
    let s := if st = SpcS.stopping then s else s.fsetB F.SPC_STS_PARKWAIT false
    let s := s.inhUpdate
    if s.twin && s.holdsSpindle then s.sendSpst else s

/-- The bridge's braking drive at the present speed (R69): pulsed at or above 1,200 RPM, all low-side switches on below it. -/
def State.brakeDrive (s : State) : State :=
  { s with spc := { s.spc with brakeHold := false, lowOff := false, bridge := if mag s.speed < 1200 * 65536 then .short else .pulsed } }

/-- The heads' parking reaches SPC (R65, R68, R71): with both actuators parked, STOPPING may go below 2,400 RPM and a braking that waits for
parking begins. [assumption 36 DEDUCED] -/
def State.spcParked (s : State) : State :=
  if s.allParked then
    let s := s.fsetB F.SPC_STS_PARKWAIT false
    if s.spc.brakeHold then s.brakeDrive else s
  else s

/-- Enter a SAC state (Table 4.3): the event and sequencer event 6, ONTRK cleared on leaving FOLLOW (R87), PARKED as R82 says, MISSV 0 where
wedges are not judged (R80), and what follows for write permission and for SPC. -/
def State.sacEnter (s : State) (a : Act) (st : Nat) : State :=
  if s.sacIn a st then s
  else
    let s := ((s.fset (F.SAC_STS_STATE a) st).raiseEvent (a.sel 80 81)).seqEvent a 6
    let s := if st = SacS.follow then s else s.fsetB (F.SAC_STS_ONTRK a) false
    let s := s.fsetB (F.SAC_STS_PARKED a) (st == SacS.parked || st == SacS.selftest)
    let s := if st = SacS.parked || st = SacS.selftest || st = SacS.bstop || st = SacS.load then s.fsetB (F.SAC_STS_MISSV a) false else s
    (s.permUpdate a).spcParked

/-- Drive the two DACs (R75, R83): codes to VCMD_n and MAD_n. -/
def State.dac (s : State) (a : Act) (vcm ma : Int) : State := (s.sset (F.SAC_DAC_VCM a) vcm).sset (F.SAC_DAC_MA a) ma

/-- DDP busy bits and queue depths (Table 6.8). [assumption 64 DEDUCED] -/
def State.ddpStatus (s : State) : State :=
  let onEng := fun (e : Nat) => s.ddp.jobs.any (fun j => j.state == .engine e)
  let busy := (onEng 0).toNat + (onEng 1).toNat * 2 + (onEng 2).toNat * 4 + (onEng 3).toNat * 8
  let queued := fun (a : Act) => (s.ddp.jobs.filter (fun j => decide (j.act = a) && (match j.state with | .engine _ => false | _ => true))).length
  ((s.fset F.DDP_STS_BUSY busy).fset F.DDP_STS_QDEPTH0 (queued .zero)).fset F.DDP_STS_QDEPTH1 (queued .one)

/-- A pool completion record (Table 6.4). -/
def jobRecord (j : Job) (outcome : Nat) : BitVec 64 :=
  BitVec.ofNat 64 (outcome % 16 + j.step % 16 * 2 ^ 4 + j.revs % 64 * 2 ^ 8 + j.git % 32 * 2 ^ 14 + j.passes % 16 * 2 ^ 19 +
    lowBits 8 j.align * 2 ^ 23 + j.act.num * 2 ^ 31 + j.unsat % 4096 * 2 ^ 32 + j.eng % 4 * 2 ^ 44 + j.index % 256 * 2 ^ 46 +
    j.tag.toNat % 1024 * 2 ^ 54)

/-- Whether an outcome counts into NFAIL (Table 7.12). -/
def outcomeFails (o : Nat) : Bool := (3 ≤ o && o ≤ 6) || o == 8

/-- A job's record reaches its sequencer (R143, R167): it is stored at the address its full index gives, the DDP completion event is
raised, and the operation counts it. -/
def State.postJob (s : State) (j : Job) (outcome : Nat) : State :=
  let s := s.store j.recAddr 8 (jobRecord j outcome).toNat
  let s := s.opMap j.act (fun o => decide (o.desc.getD 4 0 = j.tag) && 0 < o.jobsOpen)
    (fun o => { o with jobsOpen := o.jobsOpen - 1, jobsDone := o.jobsDone + 1, nfail := o.nfail + (outcomeFails outcome).toNat })
  let s := if outcome ≤ 2 then s.count Rg.DDP_RECOV_LO else if outcome ≤ 5 then s.count Rg.DDP_UNREC_LO
    else if outcome = 8 then s.count Rg.DDP_REFUSED_LO else s
  (s.raiseEvent (j.act.sel 86 87)).seqEvent j.act 3

/-- A job ends (R142, R143): it gives back its slots and engine, and its record is posted. -/
def State.endJob (s : State) (j : Job) (outcome : Nat) : State :=
  let s := { s with ddp := { s.ddp with jobs := s.ddp.jobs.filter (fun x => x.slot != j.slot) } }
  let s := match j.state with
    | .engine e => s.wr (Rg.DDP_ENG e) 0
    | _ => s
  (s.postJob j outcome).ddpStatus

/-- Jobs that `p` picks are aborted (R142): one that is queued or waits ends at once with OUTCOME 6, one on an engine at its decode's end. -/
def State.abortJobs (s : State) (p : Job → Bool) : List Job → State
  | [] => s
  | j :: t =>
    if p j then
      match j.state with
      | .engine _ =>
        let mark := fun (x : Job) => if x.slot = j.slot then { x with abort := true } else x
        ({ s with ddp := { s.ddp with jobs := s.ddp.jobs.map mark } }).abortJobs p t
      | _ => (s.endJob j 6).abortJobs p t
    else s.abortJobs p t

/-- Complete a list of dispatched operations with STATUS 0x30 (R160). -/
def State.haltOps (s : State) (a : Act) (halt : Nat) (part : Bool) : List MsqOp → State
  | [] => s
  | o :: t => (s.postCpl a o.desc 0x30 o.pdone o.nfail halt part s.near).haltOps a halt part t

/-- A hard stop of a sequencer (R160), other than by a device reset. [assumption 72 DEDUCED] -/
def State.hardStop (s : State) (a : Act) : State :=
  if s.flag (F.MSQ_STS_HALT a) then s
  else
    let pc := s.fget (F.MSQ_PC_ADDR a)
    let part := match (s.msqOf a).cur with
      | some o => o.started
      | none => false
    let s := s.msqSet a { s.msqOf a with readReq := false, writeReq := false, waiting := none, held := none }
    let s := (s.forceOff a).stopSoft a false
    let s := (((s.fsetB (F.MSQ_STS_HALT a) true).fsetB (F.MSQ_STS_RUN a) false).fsetB (F.MSQ_STS_WAITING a) false)
    let s := (s.fset (F.MSQ_HALTPC_ADDR a) pc).fsetB (F.MSQ_HALTPC_PARTIAL a) part
    let m := s.msqOf a
    let s := s.msqSet a { m with cur := none }
    let s := s.haltOps a pc part m.cur.toList
    s.haltDrain a 32

/-- Buffer Stop is invoked for an actuator (R99, R100 step 1): gate and assist forced off, BSTOP entered, the sequencer hard-stopped (R160) and
the actuator's pool jobs aborted (R142).  No effect in BSTOP, nor on a twin without the actuator's Token (R355). -/
def State.bufferStop (s : State) (a : Act) : State :=
  if s.sacIn a SacS.bstop || !s.portToken then s
  else
    let s := s.forceOff a
    let s := s.sacSet a { s.sacOf a with bstop := .invoked, unload := .idle, loadAbandon := false, seekHold := false, judging := false,
                                         feTimer := false, missRun := 0 }
    let s := (s.sacEnter a SacS.bstop).fsetB (F.SAC_STS_BSACT a) true
    let s := s.hardStop a
    s.abortJobs (fun j => decide (j.act = a)) s.ddp.jobs

/-- Buffer Stop for both actuators (R99). -/
def State.bufferStopBoth (s : State) : State := (s.bufferStop .zero).bufferStop .one

/-- The chip fences itself (R360): HBO low, one FENCE packet and idle lanes, Buffer Stop for every actuator it holds, its spindle gates low (a chip
that does not hold the spindle shows STOPPED with its link down, R369), admission stopped with every group Inaccessible, and the fault.  Only on a twin, and once. [assumption 245 DEDUCED] -/
def State.fence (s : State) : State :=
  if !s.twin || s.flag F.BRL_STS_FENCED then s
  else
    let s := (s.fsetB F.BRL_STS_FENCED true).sendPkt .fence
    let s := (s.fsetB F.BRL_STS_LINK false).brlMap (fun b => { b with hbo := false, waits := [], tokWait := false })
    let s := s.bufferStopBoth
    let s := if s.holdsSpindle then { s.spcEnter SpcS.fault with spc := { (s.spcEnter SpcS.fault).spc with bridge := .gatesLow, lowOff := false } }
      else (s.fset F.SPC_STS_STATE SpcS.stopped).fsetB F.SPC_STS_INBAND false
    let s := if s.sacIn .zero SacS.bstop || s.sacIn .one SacS.bstop then s else s.fset F.BRL_TKSTS_DRIVE 0
    ((s.raiseFault Blk.brl 0 8 4 0).raiseEvent 123).anaUpdate

end Sys2Proof.Machine
end

