-- ==== Sys2Proof/Machine/Ttb.lean ====
section
/-! DEFINITION. The Timetable: lock and flywheel (R34 to R38), rates (R391), the snapshot (R39) and TTB_CTL (chapter "The Timetable"). -/
namespace Sys2Proof.Machine

/-- Effective lock tolerance (Table 2.5: values below one compare unit are treated as one). -/
def State.ttbTol (s : State) : Int := max 0x10 (s.fget F.TTB_LOCKCFG_TOL)

/-- E of R34: the rate of the speed estimate, or its last non-zero value. -/
def State.ttbE (s : State) : Int := if rateOf s.speed = 0 then s.ttb.lastE else rateOf s.speed

/-- Whether the observer runs (R391). -/
def State.observerRuns (s : State) : Bool :=
  (s.spcIn SpcS.openloop || s.spcIn SpcS.run || s.spcIn SpcS.stopping || s.spcIn SpcS.harvest) && !s.flag F.SPC_STS_OBSLOSS

/-- Set the rate outside LOCKED; while the angle is being slewed back TTB_INC runs at the lower rate limit of R34 instead (R35), and it reads 0 while
the angle holds (R391). [assumption 23 DEDUCED] -/
def State.setInc (s : State) (v : Int) : State :=
  ({ s with ttb := { s.ttb with rate := lowBits 32 v } }).fset F.TTB_INC_INC (lowBits 32 (if s.ttb.slew = 0 ∨ v = 0 then v else s.ttbE - asr s.ttbE 3))

/-- End a slew: TTB_INC takes the rate again (R35). [assumption 23 DEDUCED] -/
def State.slewEnd (s : State) : State :=
  if s.ttb.slew = 0 then s else ({ s with ttb := { s.ttb with slew := 0 } }).fset F.TTB_INC_INC s.ttb.rate

/-- The Timetable takes its rate from SPC outside LOCKED (R391): called whenever SPC's estimate or state changes. -/
def State.ttbRate (s : State) : State :=
  let r := rateOf s.speed
  let s := if r = 0 then s else { s with ttb := { s.ttb with lastE := r } }
  if s.ttbIn TtbS.acquire then s.setInc (if s.observerRuns then r else 0)
  else if s.ttbIn TtbS.lost && s.observerRuns then s.setInc r
  else s

/-- The angle steps forward (R32): JUMP is set and armed slots whose target is passed become late. [assumption 20 DEDUCED] -/
def State.stepForward (s : State) (d : Nat) : State :=
  if d = 0 then s
  else
    let x := s.ttb.angle + BitVec.ofNat 64 d
    let mark := fun (p : Nat × SlotLatch) => if 0 < angleDiff x p.2.target then (p.1, { p.2 with late := true }) else p
    ({ s with ttb := { s.ttb with angle := x, slots := s.ttb.slots.map mark } }).fsetB F.TTB_STS_JUMP true

/-- At a revolution index a chip that waits to adopt its partner's revolution field steps forward by the difference found at pairing (R47); `was` is the angle before. -/
def State.revIndex (s : State) (was : Angle) : State :=
  match s.ttb.adopt with
  | some d => if revOf was = revOf s.ttb.angle then s else ({ s with ttb := { s.ttb with adopt := none } }).stepForward (d.toNat * revUnits)
  | none => s

/-- Time passes up to an angle at which an event comes about; the angle never decreases (R32) and does not advance in IDLE. [assumption 4 DESIGN CHOICE] -/
def State.angleTo (s : State) (x : Angle) : State :=
  if s.ttbIn TtbS.idle || (x - s.ttb.angle).toInt ≤ 0 then s else ({ s with ttb := { s.ttb with angle := x, frac := 0 } }).revIndex s.ttb.angle

/-- Lock error e (R34): the mark's own angle minus the angle at detection, the revolution chosen for the smallest magnitude. -/
def lockError (stamp : Angle) (index : Nat) (skew : Int) : Int :=
  sext 25 (lowBits 25 ((index * wedgeUnits : Nat) + skew - (stamp.toNat : Int)))

/-- Record an accepted SAM: TTB_PHERR, and the marks of the wedge, of R34's missed run and of R36's limit. -/
def State.samAccept (s : State) (e : Int) : State :=
  ({ s with ttb := { s.ttb with acceptedInWedge := true, missRun := 0, flyStart := s.ttb.angle } }).sset F.TTB_PHERR_ERR
    (clampI e (-32767) 32767)

/-- The loop law of R34. -/
def State.loopCorrect (s : State) (e : Int) : State :=
  let est := s.ttbE
  let lo := est - asr est 3
  let hi := est + asr est 3
  let p := asr (e * s.ttb.base) 16
  let b := clampI (s.ttb.base + asr p (s.fget F.TTB_LOCKCFG_ISH)) lo hi
  ({ s with ttb := { s.ttb with base := b.toNat } }).fset F.TTB_INC_INC (lowBits 32 (clampI (b + p) lo hi))

/-- A SAM in ACQUIRE or FLYWHEEL (R35). [assumption 23 DEDUCED] -/
def State.samAcquire (s : State) (e : Int) (parityOk : Bool) : State :=
  if parityOk then
    let s := (s.samAccept e).slewEnd
    let inTol := decide (-s.ttbTol < e) && decide (e ≤ s.ttbTol)
    let s := { s with ttb := { s.ttb with lockRun := if inTol then s.ttb.lockRun + 1 else 0 } }
    if 0 ≤ e then s.stepForward e.toNat
    else if -4096 ≤ e then
      let s := { s with ttb := { s.ttb with slew := mag e * 2 ^ 28, rate := s.fget F.TTB_INC_INC } }
      s.setInc s.ttb.rate
    else s.stepForward (revUnits - mag e)
  else { s with ttb := { s.ttb with lockRun := 0 } }

/-- SAM_DETECTED (R34, R35, R36, R38): a mark of the source actuator, with the Timetable angle at which it was detected. [assumption 21 DEDUCED] -/
def samDetectedOp (a : Act) (stamp : Angle) (index : Fin 512) (parityOk : Bool) (s : State) : State :=
  if s.ttbIn TtbS.idle || s.fget F.TTB_CTL_SRC != a.num then s
  else
    let skew := if s.flag F.BRL_STEER_SET then s.fget (F.BRL_PSKEW_SKEW a.num) else 0
    let stamp := BitVec.ofNat 64 (atCompare (stamp + BitVec.ofNat 64 skew).toNat)
    let s := (s.angleTo stamp).fset F.TTB_STS_SRCACT a.num
    let e := lockError stamp index.val s.ttb.markSkew
    let s := if s.ttbIn TtbS.lost && parityOk then
      (({ s with ttb := { s.ttb with lockRun := 0 } }).ttbEnter TtbS.acquire).ttbRate.inhUpdate else s
    if s.ttbIn TtbS.locked then
      if parityOk && decide (-(4 * s.ttbTol) < e) && decide (e ≤ 4 * s.ttbTol) then
        let s := (s.samAccept e).loopCorrect e
        { s with ttb := { s.ttb with stepSams := s.ttb.stepSams.map (· + 1) } }
      else s
    else if s.ttbIn TtbS.lost then s
    else s.samAcquire e parityOk

/-- SAM_DETECTED. -/
def execSamDetected (a : Act) (stamp : Angle) (index : Fin 512) (parityOk : Bool) (s : State) : Host.Outcome State Fault Refusal :=
  .next (samDetectedOp a stamp index parityOk s)

/-- SAM_MISSED (R34, R35, R45): the angle passes the close of a wedge's acceptance window with no SAM accepted in it; with one accepted
the next wedge's window begins and nothing else happens. -/
def samMissedOp (s : State) : State :=
  if s.ttbIn TtbS.idle then s
  else if s.ttb.acceptedInWedge then { s with ttb := { s.ttb with acceptedInWedge := false } }
  else
    let s := { s with ttb := { s.ttb with lockRun := 0 } }
    if s.ttbIn TtbS.locked then
      let s := { s with ttb := { s.ttb with missRun := s.ttb.missRun + 1, stepSams := s.ttb.stepSams.map (fun _ => 0) } }
      (s.count Rg.TTB_MISS_LO).fset F.TTB_INC_INC s.ttb.base
    else s

/-- SAM_MISSED. -/
def execSamMissed (s : State) : Host.Outcome State Fault Refusal := .next (samMissedOp s)

/-- TIMETABLE_LOCK (Table 2.2, R34, R35): enough consecutive SAMs within the tolerance. [assumptions 24 DEDUCED, 25 DESIGN CHOICE] -/
def timetableLockOp (s : State) : State :=
  let need := if s.ttbIn TtbS.flywheel then 8 else max 1 (s.fget F.TTB_LOCKCFG_LOCKN)
  if (s.ttbIn TtbS.acquire || s.ttbIn TtbS.flywheel) && decide (need ≤ s.ttb.lockRun) then
    let s := s.slewEnd
    let s := { s with ttb := { s.ttb with base := s.fget F.TTB_INC_INC, missRun := 0, lockRun := 0 } }
    (s.ttbEnter TtbS.locked).inhUpdate
  else s

/-- TIMETABLE_LOCK. -/
def execTimetableLock (s : State) : Host.Outcome State Fault Refusal := .next (timetableLockOp s)

/-- The automatic source switch of R38, tried on entry to FLYWHEEL and at each wedge the other actuator's SAC judges. [assumption 22 DEDUCED] -/
def State.autoSwitch (s : State) : State :=
  let cur : Act := if s.fget F.TTB_CTL_SRC = 0 then .zero else .one
  let o := cur.other
  let st := s.sacState o
  let servo := (st = SacS.load && (s.sacOf o).judging) || st = SacS.seek || st = SacS.settle || st = SacS.follow || st = SacS.recover
  if s.ttbIn TtbS.flywheel && s.flag F.TTB_CTL_AUTOSRC && servo && ((s.sacOf o).sams.1 || (s.sacOf o).sams.2) then
    let k : Int := s.fget F.TTB_SKEW_SKEW
    (({ s with ttb := { s.ttb with markSkew := o.sel (-k) k } }).fset F.TTB_STS_SRCACT o.num).fset F.TTB_CTL_SRC o.num
  else s

/-- FLYWHEEL_ENTRY (R34, R37, Table 15.6): MISSN consecutive missed SAMs in LOCKED. [assumption 25 DESIGN CHOICE] -/
def flywheelEntryOp (s : State) : State :=
  let real := decide (max 1 (s.fget F.TTB_LOCKCFG_MISSN) ≤ s.ttb.missRun)
  if s.ttbIn TtbS.locked && (real || s.forced Blk.ttb 0 1) then
    let s := { s with ttb := { s.ttb with flyStart := s.ttb.angle, lockRun := 0, slew := 0 } }
    ((s.ttbEnter TtbS.flywheel).inhUpdate.raiseFault Blk.ttb 0 1 1 0 real).autoSwitch
  else s

/-- FLYWHEEL_ENTRY. -/
def execFlywheelEntry (s : State) : Host.Outcome State Fault Refusal := .next (flywheelEntryOp s)

/-- LOST_ENTRY (R36, Table 15.6): 512 wedges in FLYWHEEL since entry or the last accepted SAM. [assumption 25 DESIGN CHOICE] -/
def lostEntryOp (s : State) : State :=
  if s.ttbIn TtbS.flywheel then
    let s := if s.forced Blk.ttb 0 2 then s else s.angleTo (s.ttb.flyStart + BitVec.ofNat 64 (512 * wedgeUnits))
    let s := s.slewEnd
    let s := { s with ttb := { s.ttb with lockRun := 0 } }
    ((s.ttbEnter TtbS.lost).inhUpdate.raiseFault Blk.ttb 0 2 3 0 (!s.forced Blk.ttb 0 2)).ttbRate
  else s

/-- LOST_ENTRY. -/
def execLostEntry (s : State) : Host.Outcome State Fault Refusal := .next (lostEntryOp s)

/-- STEP_END (R45): 64 consecutive SAMs accepted in LOCKED since INBAND rose. [assumption 25 DESIGN CHOICE] -/
def stepEndOp (s : State) : State :=
  if s.flag F.TTB_STS_STEP && s.ttbIn TtbS.locked && decide (64 ≤ s.ttb.stepSams.getD 0) then
    (({ s with ttb := { s.ttb with stepSams := none } }).fsetB F.TTB_STS_STEP false).inhUpdate
  else s

/-- STEP_END. -/
def execStepEnd (s : State) : Host.Outcome State Fault Refusal := .next (stepEndOp s)

/-- A speed step begins (R45, R64, Table 7.7 event 11). -/
def State.ttbStepStart (s : State) : State :=
  (({ s with ttb := { s.ttb with stepSams := none } }).fsetB F.TTB_STS_STEP true).inhUpdate.seqEvents 11

/-- A write of TTB_CTL (Table 2.5, R38). [assumption 22 DEDUCED] -/
def State.ttbCtlWrite (s : State) (v : Word) : State :=
  let src := F.TTB_CTL_SRC.of v
  let s := s.fsetB F.TTB_CTL_AUTOSRC (F.TTB_CTL_AUTOSRC.on v)
  let s := if src ≤ 1 && src != s.fget F.TTB_CTL_SRC then
      ({ s with ttb := { s.ttb with markSkew := 0 } }).fset F.TTB_CTL_SRC src else s
  let s := s.fsetB F.TTB_CTL_EN (F.TTB_CTL_EN.on v)
  if F.TTB_CTL_EN.on v then
    if s.ttbIn TtbS.idle then
      ((({ s with ttb := { s.ttb with lockRun := 0, missRun := 0, slew := 0, acceptedInWedge := false } }).ttbEnter TtbS.acquire).inhUpdate).ttbRate
    else s
  else
    (({ s with ttb := { s.ttb with lockRun := 0, missRun := 0, slew := 0, acceptedInWedge := false } }).ttbEnter TtbS.idle).inhUpdate.fset
      F.TTB_INC_INC 0

/-- TIMETABLE_ENABLE (R33, Table 2.2): a write of TTB_CTL with EN = 1. -/
def execTimetableEnable (v : Word) (s : State) : Host.Outcome State Fault Refusal := .next (s.ttbCtlWrite (setBits v 0 1 1))
/-- TIMETABLE_DISABLE (Table 2.2): a write of TTB_CTL with EN = 0. -/
def execTimetableDisable (v : Word) (s : State) : Host.Outcome State Fault Refusal := .next (s.ttbCtlWrite (setBits v 0 1 0))
/-- ANGLE_SOURCE_SELECT (R38): a write of TTB_CTL. -/
def execAngleSourceSelect (v : Word) (s : State) : Host.Outcome State Fault Refusal := .next (s.ttbCtlWrite v)

/-- A write of TTB_SNAP (R39): the capture and the counter clear. -/
def State.ttbSnapWrite (s : State) (v : Word) : State :=
  let s := if F.TTB_SNAP_CAP.on v then
      (s.wideSet Rg.TTB_SNAPANG_LO s.ttb.angle.toNat).wideSet Rg.TTB_SNAPCLK_LO s.clock.toNat else s
  if F.TTB_SNAP_CLRMISS.on v then s.clearCount Rg.TTB_MISS_LO else s

/-- SNAPSHOT_CAPTURE (R39): a write of TTB_SNAP with CAP = 1. -/
def execSnapshotCapture (v : Word) (s : State) : Host.Outcome State Fault Refusal := .next (s.ttbSnapWrite (setBits v 0 1 1))
/-- MISS_COUNTER_CLEAR (R11, R48): a write of TTB_SNAP with CLRMISS = 1. -/
def execMissCounterClear (v : Word) (s : State) : Host.Outcome State Fault Refusal := .next (s.ttbSnapWrite (setBits v 1 1 1))

/-- TWINSYNC_SET (R46): 16 consecutive sync packets in the valid-frame window. [assumption 25 DESIGN CHOICE] -/
def twinsyncSetOp (s : State) : State :=
  if s.twin && decide (16 ≤ s.ttb.syncRun) then (s.fsetB F.TTB_STS_TWINSYNC true).inhUpdate else s

/-- TWINSYNC_SET. -/
def execTwinsyncSet (s : State) : Host.Outcome State Fault Refusal := .next (twinsyncSetOp s)

/-- TWINSYNC_CLEAR (R46, Table 15.6): 8 consecutive missing or invalid sync packets. -/
def twinsyncClearOp (s : State) : State :=
  if s.flag F.TTB_STS_TWINSYNC && !s.flag F.BRL_STS_SENIOR then
    let s := { s with ttb := { s.ttb with syncRun := 0, syncMiss := 0 } }
    ((s.fsetB F.TTB_STS_TWINSYNC false).inhUpdate).raiseFault Blk.ttb 0 3 2 0 (!s.forced Blk.ttb 0 3)
  else s

/-- TWINSYNC_CLEAR. -/
def execTwinsyncClear (s : State) : Host.Outcome State Fault Refusal := .next (twinsyncClearOp s)

/-- One cycle of the 800 MHz clock (R33, R39): the angle advances by TTB_INC with its fraction kept, clock time by 1.25 ns, and a slew
that has made up its amount ends (R35). [assumptions 1 DESIGN CHOICE, 23 DEDUCED] -/
def State.cycle (s : State) : State :=
  let inc := s.fget F.TTB_INC_INC
  let total := s.ttb.frac + inc
  let lose := (s.ttbE - (inc : Int)).toNat
  let left := s.ttb.slew - lose
  let done := decide (0 < s.ttb.slew) && left == 0
  let was := s.ttb.angle
  let s := { s with ttb := { s.ttb with angle := s.ttb.angle + BitVec.ofNat 64 (total / 2 ^ 28), frac := total % 2 ^ 28,
                                        clkQ := s.ttb.clkQ + 5, slew := if s.ttb.slew = 0 then 0 else left } }
  let s := s.revIndex was
  if done then s.fset F.TTB_INC_INC s.ttb.rate else s

end Sys2Proof.Machine
end

