-- ==== Sys2Proof/Machine/Spc.lean ====
section
/-! DEFINITION. Spindle Control: loops, starting and catching, speed steps, observer loss, braking and harvest (chapter "Spindle Control"). -/
namespace Sys2Proof.Machine

/-- Pole pairs in force (Table 3.7: 2 to 8, other values treated as 4). -/
def State.polep (s : State) : Nat :=
  let p := s.fget F.SPC_MOTOR_POLEP
  if 2 ≤ p ∧ p ≤ 8 then p else 4
/-- PWM period in 800 MHz cycles (R53). -/
def State.pwmPeriod (s : State) : Nat := min 40000 (max 8000 (s.fget F.SPC_PWM_PERIOD))
/-- Failing periods that lose the observer (R57): LOSSN × PERIOD is at most 1 ms. -/
def State.lossN (s : State) : Nat := min (max 1 (s.fget F.SPC_OBS_LOSSN)) (800000 / s.pwmPeriod)
/-- Speed of a step in RPM (Table 3.7). -/
def stepRpm (k : Nat) : Nat := 1200 * (k + 1)
/-- The target in RPM. -/
def State.targetRpm (s : State) : Nat := stepRpm (s.fget F.SPC_TARGET_SEL)

/-- Whether a SAC judges its wedges (R80): LOAD from its first valid wedge. -/
def State.judged (s : State) (a : Act) : Bool :=
  let st := s.sacState a
  s.flag (F.SAC_CTL_EN a) && (st == SacS.seek || st == SacS.settle || st == SacS.follow || st == SacS.unload || st == SacS.recover ||
    (st == SacS.load && (s.sacOf a).judging))

/-- Copy the shadow bank registers to the live copy (R86). -/
def State.bankCopy (s : State) (a : Act) : Nat → State
  | 0 => s.sacSet a { s.sacOf a with applyPend := false }
  | n + 1 => (s.liveWr (winSac a + 0x100 + 4 * n) (s.rd (winSac a + 0x100 + 4 * n))).bankCopy a n

/-- The bank in use changes (R85): during a step when the speed has passed the midpoint, outside a step to the target in band. -/
def State.bankChange (s : State) (a : Act) : State :=
  let b := s.fget (F.SAC_STS_BANK a)
  let k := s.fget F.SPC_TARGET_SEL
  if s.flag F.SPC_STS_STEP then
    let mid := (stepRpm b + stepRpm k) * 32768
    let passed := if b < k then decide (mid ≤ mag s.speed) else decide (mag s.speed ≤ mid)
    if b ≠ k ∧ passed then s.fset (F.SAC_STS_BANK a) k else s
  else if s.flag F.SPC_STS_INBAND then s.fset (F.SAC_STS_BANK a) k else s

/-- A wedge boundary (R86): the copy that waits, then a bank change. -/
def State.bankBoundary (s : State) (a : Act) : State :=
  (if (s.sacOf a).applyPend then s.bankCopy a 40 else s).bankChange a

/-- A bank change while wedges are not judged takes effect at once (R86). -/
def State.bankIdle (s : State) (a : Act) : State := if s.judged a then s else s.bankChange a

/-- Both actuators. -/
def State.bankIdleBoth (s : State) : State := (s.bankIdle .zero).bankIdle .one

/-- Update SPC's own part of State. -/
def State.spcMap (s : State) (f : SpcSt → SpcSt) : State := { s with spc := f s.spc }
/-- Set what the bridge does. -/
def State.bridgeSet (s : State) (b : Bridge) : State := s.spcMap (fun x => { x with bridge := b, lowOff := false })

/-- Whether a speed lies within ±0.02 % of the target (R63). -/
def State.speedNear (s : State) : Bool :=
  let t : Int := s.targetRpm * 65536
  decide (mag (s.speed - t) * 5000 ≤ t.toNat)

/-- A speed step begins (R64): the reference ramps from the measured speed and the Timetable is told. -/
def State.stepStart (s : State) : State :=
  (((s.spcMap (fun x => { x with rampRef := s.speed * 100000000 })).fsetB F.SPC_STS_STEP true)).ttbStepStart

/-- A new target takes effect (R64): in RUN it starts a step, or redirects the one in progress. -/
def State.targetSet (s : State) (k : Nat) : State :=
  if k = s.fget F.SPC_TARGET_SEL then s
  else
    let s := s.fset F.SPC_TARGET_SEL k
    let s := s.spcMap (fun x => { x with bandRevs := 0 })
    if s.spcIn SpcS.run then
      if s.flag F.SPC_STS_STEP then { s with ttb := { s.ttb with stepSams := none } } else s.stepStart
    else s

/-- The spindle's target on the holder of TOKEN_S (R369): the higher of the two requests, limited by the lower of the two ceilings. -/
def State.sharedTarget (s : State) : Nat := max 1 (min (max s.brl.ownTarget (s.brl.partTarget.getD 0)) (min s.ceiling s.brl.partCeil))

/-- Recompute the ceiling; a target above it is replaced (R318). -/
def State.ceilingUpdate (s : State) : State :=
  let s := s.fset F.PWR_RGSTS_CEIL s.ceiling
  if s.twin then
    let s := s.brlMap (fun b => { b with ownTarget := min b.ownTarget s.ceiling })
    if s.holdsSpindle then s.targetSet s.sharedTarget else (s.fset F.SPC_TARGET_SEL s.brl.ownTarget).sendSpst
  else if s.ceiling < s.fget F.SPC_TARGET_SEL then s.targetSet s.ceiling else s

/-- A step is asked for, by firmware, the Governor or a power state (R318, R319, R369): a twin's request goes to the holder of TOKEN_S. [assumption 207 DEDUCED] -/
def State.targetAsk (s : State) (k : Nat) : State :=
  if s.twin then
    let s := s.brlMap (fun b => { b with ownTarget := min k s.ceiling })
    if s.holdsSpindle then s.targetSet s.sharedTarget else (s.fset F.SPC_TARGET_SEL (min k s.ceiling)).sendSpst
  else s.targetSet (min k s.ceiling)

/-- A write of SPC_TARGET (Table 3.7, R64, R318). -/
def State.targetWrite (s : State) (v : Word) : State :=
  let k := F.SPC_TARGET_SEL.of v
  if 1 ≤ k ∧ k ≤ 5 then s.targetAsk k else s

/-- SPEED_TARGET_WRITE (R64, R318). -/
def execSpeedTargetWrite (v : Word) (s : State) : Host.Outcome State Fault Refusal := .next (s.targetWrite v)

/-- Enter RUN (R61, R64, R67, R310): a step begins when the measured speed lies outside ±0.02 % of the target. -/
def State.enterRun (s : State) : State :=
  let s := ((s.spcEnter SpcS.run).bridgeSet .foc).spcMap (fun x => { x with rampRef := (s.targetRpm : Int) * 65536 * 100000000 })
  let s := { s with pwr := { s.pwr with measDue := true } }
  (if s.speedNear then s else s.stepStart).ttbRate

/-- Enter BRAKE (R69, R71): after a harvest command the bridge is held until both actuators are parked. -/
def State.enterBrake (s : State) (e : BrakeExit) : State :=
  let s := (s.spcEnter SpcS.brake).spcMap (fun x => { x with brakeExit := e })
  let s := if s.spc.harvested && !s.allParked then
      (s.bridgeSet .hiZ).spcMap (fun x => { x with brakeHold := true }) else s.brakeDrive
  s.ttbRate

/-- Enter STOPPED with the bridge high-impedance. -/
def State.enterStopped (s : State) : State :=
  (((s.spcEnter SpcS.stopped).bridgeSet .hiZ).spcMap (fun x => { x with brakeHold := false })).ttbRate

/-- Enter ALIGN (R61), or STOPPED once a harvest command has been received (R71). -/
def State.enterAlign (s : State) : State :=
  if s.spc.harvested then s.enterStopped
  else ((s.spcEnter SpcS.align).bridgeSet .vector).spcMap (fun x => { x with brakeHold := false })

/-- The safe-stop path of R68: fault, SAFEBRAKE with the bridge high-impedance, Buffer Stop for both actuators. [assumptions 36 DEDUCED, 38 DEDUCED] -/
def State.safeBrake (s : State) (kind : Nat) (real : Bool) : State :=
  let s := s.raiseFault Blk.spc 0 kind 4 0 real
  let s := ((s.spcEnter SpcS.safebrake).bridgeSet .hiZ).spcMap (fun x => { x with brakeHold := true })
  (s.fsetB F.SPC_STS_STEP false).bufferStopBoth.spcParked.ttbRate

/-- Phase-advance entry by interpolation (R55): the ADV field unsigned, the ID field signed. -/
def State.padv (s : State) (signed : Bool) : Int :=
  let i := s.rpm / 256
  let e := fun (k : Nat) => if signed then s.sget (F.SPC_PADV_ID k) else (s.fget (F.SPC_PADV_ADV k) : Int)
  if 31 ≤ i then e 31 else e i + asr ((e (i + 1) - e i) * ((s.rpm % 256 : Nat) : Int)) 8

/-- The current loops of one PWM period (R54). [assumptions 31 DESIGN CHOICE, 32 DEDUCED] -/
def currentLoops (x : SpcSt) (kp ki idRef adv : Int) (m : PwmIn) : SpcSt :=
  let ed := idRef - m.id
  let eq := x.iqRef - m.iq
  let intd := if x.vlimited then x.intd else satInt (x.intd + ki * ed)
  let intq := if x.vlimited then x.intq else satInt (x.intq + ki * eq)
  let vd := satI 16 (asr (kp * ed + intd) 12)
  let vq := satI 16 (asr (kp * eq + intq) 12)
  let overs := decide (32768 * 32768 < vd * vd + vq * vq)
  let v := if overs then Config.circleLimit vd vq else (vd, vq)
  { x with intd := intd, intq := intq, idRef := idRef, vd := v.1, vq := v.2, vlimited := overs, theta := lowBits 16 ((m.angle : Int) + adv) }

/-- PWM_PERIOD (R53 to R55, R57, R69): one PWM period's samples. [assumption 39 DESIGN CHOICE] -/
def pwmPeriodOp (m : PwmIn) (s : State) : State :=
  let start : Int := min 32767 (s.fget F.SPC_START_ISTART * 128)
  let s := if s.spc.bridge = .vector then s.spcMap (fun x => { x with iqRef := start }) else s
  let s := if s.spc.bridge = .foc ∨ s.spc.bridge = .rectifier ∨ s.spc.bridge = .vector then
      s.spcMap (fun x => currentLoops x (s.fget F.SPC_ILOOP_KP) (s.fget F.SPC_ILOOP_KI) (s.padv true) (s.padv false) m) else s
  let judged := s.spcIn SpcS.run || s.spcIn SpcS.stopping || (s.spcIn SpcS.harvest && !s.flag F.SPC_STS_OBSLOSS)
  s.spcMap (fun x => { x with
    failRun := if judged && m.failing then x.failRun + 1 else 0
    lowOff := decide (x.bridge = .pulsed) && m.overCurrent
    pwmCount := (x.pwmCount + 1) % 8 })

/-- PWM_PERIOD. -/
def execPwmPeriod (m : PwmIn) (s : State) : Host.Outcome State Fault Refusal := .next (pwmPeriodOp m s)

/-- Ramp the speed reference linearly for one speed-loop period (R64, R65): RPM/s × 8 PWM periods. -/
def rampStep (cur goal : Int) (up down : Nat) : Int :=
  if cur < goal then min goal (cur + up) else max goal (cur - down)

/-- The speed loop of one period (R53, R54, R64, R65, R67). [assumptions 31 DESIGN CHOICE, 32 DEDUCED, 39 DESIGN CHOICE] -/
def State.speedLoop (s : State) : State :=
  let per := s.pwmPeriod
  let unit : Int := 65536 * 100000000
  let goal : Int := if s.spcIn SpcS.stopping then
      (if s.allParked then 0 else min s.spc.rampRef (2400 * unit)) else s.targetRpm * unit
  let ref := rampStep s.spc.rampRef goal (max 1 (s.fget F.SPC_RAMP_ACCEL) * per * 65536) (max 1 (s.fget F.SPC_RAMP_DECEL) * per * 65536)
  let err := Config.speedError (ref / 100000000) s.speed
  let ints := if s.spc.slimited then s.spc.ints else satInt (s.spc.ints + (s.fget F.SPC_SLOOP_KI : Int) * err)
  let raw := asr ((s.fget F.SPC_SLOOP_KP : Int) * err + ints) 12
  let out := satI 16 raw
  let total := s.fget F.SPC_LIMIT_ISLEW * 800000
  let now := if s.spc.slewClk = 0 ∨ total ≤ s.spc.slewClk then 0 else s.spc.slewClk + 8 * per
  let iq := if s.spc.slewClk = 0 ∨ total = 0 then out else out * min s.spc.slewClk total / total
  let s := s.spcMap (fun x => { x with rampRef := ref, ints := ints, iqRef := iq, slewClk := now, slimited := raw != out })
  s.fsetB F.SPC_STS_PARKWAIT (s.spcIn SpcS.stopping && !s.allParked && decide (ref ≤ 2400 * unit))

/-- Below 1,200 RPM braking is full short braking, and STOPPING goes to BRAKE (R65, R69). -/
def State.brakeThreshold (s : State) : State :=
  if mag s.speed < 1200 * 65536 then
    if s.spcIn SpcS.stopping then s.enterBrake .standstill
    else if s.spc.bridge = .pulsed then s.bridgeSet .short else s
  else s

/-- In HARVEST below MINRPM, HARV_EN falls and BRAKE is entered (R71). -/
def State.harvestEnd (s : State) : State :=
  if s.spcIn SpcS.harvest && decide (mag s.speed < s.fget F.SPC_HARV_MINRPM * 65536) then
    (s.fsetB F.SPC_STS_HARV false).enterBrake .standstill else s

/-- SPEED_LOOP_PERIOD (R53, R54, R56, R391): the speed loop and the observer's estimate. [assumption 37 DESIGN CHOICE] -/
def speedLoopPeriodOp (est : Int) (s : State) : State :=
  let s := if s.observerRuns then s.setSpeed est else s
  let s := if s.spcIn SpcS.run || s.spcIn SpcS.stopping then s.speedLoop
    else if s.spcIn SpcS.harvest then (s.spcMap (fun x => { x with iqRef := Config.harvestIq s.freeCtr })).tick
    else s
  s.ttbRate.brakeThreshold.harvestEnd.bankIdleBoth

/-- SPEED_LOOP_PERIOD. -/
def execSpeedLoopPeriod (est : Int) (s : State) : Host.Outcome State Fault Refusal := .next (speedLoopPeriodOp est s)

/-- OBSERVER_LOSS (R57, R66, R68, R71). [assumption 35 DEDUCED] -/
def observerLossOp (s : State) : State :=
  if decide (s.lossN ≤ s.spc.failRun) && (s.spcIn SpcS.run || s.spcIn SpcS.stopping || s.spcIn SpcS.harvest) then
    let s := ((s.fsetB F.SPC_STS_OBSLOSS true).count Rg.SPC_LOSSCNT_LO).bridgeSet .hiZ
    if s.spcIn SpcS.run then ((s.fsetB F.SPC_STS_STEP false).spcEnter SpcS.coast).inhUpdate.ttbRate
    else if s.spcIn SpcS.stopping then (s.safeBrake 4 true).inhUpdate
    else (s.spcMap (fun x => { x with failRun := 0 })).inhUpdate.ttbRate
  else s

/-- OBSERVER_LOSS. -/
def execObserverLoss (s : State) : Host.Outcome State Fault Refusal := .next (observerLossOp s)

/-- The flywheel's rate from the last revolution of commutation events (R391). -/
def State.flywheelRate (s : State) : State :=
  let n := s.spc.intervals.foldl (· + ·) 0
  if s.ttbIn TtbS.flywheel && s.spc.intervals.length == 6 * s.polep && decide (0 < n) then
    let e := s.ttbE
    s.setInc (clampI ((revUnits * 2 ^ 28 / n : Nat) : Int) (e - asr e 3) (e + asr e 3))
  else s

/-- A revolution's speed against the target (R63): `n` cycles of 800 MHz for one revolution at `t` RPM, within 1 part in `d`. -/
def revWithin (n t d : Nat) : Bool := mag ((48000000000 : Int) - (t * n : Nat)) * d ≤ t * n

/-- The in-band criterion at each revolution timed in RUN (R63). -/
def State.revolution (s : State) (interval : Nat) : State :=
  let ev := s.spc.revEvents + 1
  let cy := s.spc.revCycles + interval
  if ev < 6 * s.polep then s.spcMap (fun x => { x with revEvents := ev, revCycles := cy })
  else
    let near := revWithin cy s.targetRpm 5000
    let far := !revWithin cy s.targetRpm 2000 || mag ((48000000000 : Int) - (s.targetRpm * cy : Nat)) * 2000 == s.targetRpm * cy
    let s := s.spcMap (fun x => { x with revEvents := 0, revCycles := 0, bandRevs := if near then x.bandRevs + 1 else 0 })
    if far then ({ s with ttb := { s.ttb with stepSams := none } }).fsetB F.SPC_STS_INBAND false else s

/-- Overspeed limit in RPM (R58). [assumption 30 DESIGN CHOICE] -/
def State.overLimit (s : State) : Nat := min 7920 (max 5000 s.spc.ovspd)

/-- Overspeed (R58, R68). -/
def State.overspeed (s : State) (real : Bool) : State :=
  let s := s.fsetB F.SPC_STS_OVSPD true
  if s.spcIn SpcS.fault then (s.raiseFault Blk.spc 0 5 4 0 real).bufferStopBoth
  else if s.spcIn SpcS.safebrake then s.raiseFault Blk.spc 0 5 4 0 real
  else s.safeBrake 5 real

/-- COMMUTATION_EVENT (R56, R58, R61 to R63, R67, R391): a zero crossing with the interval it completes, in 800 MHz cycles and in
nanoseconds of the detector's own oscillator, and whether it shows a phase error below 10 electrical degrees. -/
def commutationEventOp (interval ring : Nat) (good : Bool) (s : State) : State :=
  let rev := 6 * s.polep
  let s := s.spcMap (fun x => { x with
    startEvents := if s.spcIn SpcS.openloop then x.startEvents + 1 else x.startEvents
    goodRun := if s.spcIn SpcS.openloop || s.spcIn SpcS.coast then (if good then x.goodRun + 1 else 0) else 0
    intervals := (interval :: x.intervals).take rev })
  let n := s.spc.intervals.foldl (· + ·) 0
  let byEvents := s.spcIn SpcS.coast || (s.spcIn SpcS.harvest && s.flag F.SPC_STS_OBSLOSS) || s.spc.brakeHold
  let s := if byEvents && s.spc.intervals.length == rev && decide (0 < n) then
      let v : Int := ((48000000000 * 65536 / n : Nat) : Int)
      s.setSpeed (if s.speed < 0 then -v else v) else s
  let s := if s.spcIn SpcS.run then s.revolution interval else s
  let s := s.flywheelRate.ttbRate
  let real := decide (ring * s.overLimit * rev < 60000000000)
  if real || s.forced Blk.spc 0 5 then s.overspeed real else s.harvestEnd

/-- COMMUTATION_EVENT. -/
def execCommutationEvent (interval ring : Nat) (good : Bool) (s : State) : Host.Outcome State Fault Refusal :=
  .next (commutationEventOp interval ring good s)

/-- BRIDGE_FAULT (R52, R73): SP_FLT# falls. [assumption 38 DEDUCED] -/
def bridgeFaultOp (s : State) : State :=
  let s := (s.spcMap (fun x => { x with faultPin := x.faultPin || !s.forced Blk.spc 0 6, brakeHold := false })).fsetB F.SPC_STS_BRIDGEF true
  let s := ((s.spcEnter SpcS.fault).bridgeSet .gatesLow).fsetB F.SPC_STS_STEP false
  (s.raiseFault Blk.spc 0 6 4 0 (!s.forced Blk.spc 0 6)).ttbRate

/-- BRIDGE_FAULT. -/
def execBridgeFault (s : State) : Host.Outcome State Fault Refusal := .next (bridgeFaultOp s)

/-- Start the motor from STOPPED (R60, Table 3.2). [assumption 33 DESIGN CHOICE] -/
def State.spinUp (s : State) (catching : Bool) : State :=
  let s := s.spcMap (fun x => { x with retryDue := false })
  if catching then ((s.spcEnter SpcS.catching).bridgeSet .hiZ).fset F.SPC_STS_CATCHDIR 3
  else (s.fset F.SPC_STS_CATCHDIR 3).enterAlign

/-- A write of SPC_CTL (R60, R65, R71, R392, Table 3.2). [assumption 34 DEDUCED] -/
def State.spcCtlWrite (s : State) (v : Word) : State :=
  let run := F.SPC_CTL_RUN.on v
  let s := (s.fsetB F.SPC_CTL_RUN run).fsetB F.SPC_CTL_CATCH (F.SPC_CTL_CATCH.on v)
  let s := if F.SPC_CTL_CLRLOSS.on v then s.clearCount Rg.SPC_LOSSCNT_LO else s
  if run then
    if s.spcIn SpcS.stopped && !s.flag F.FLT_STS_SAFEDEV && !s.spc.harvested && s.holdsSpindle then s.spinUp (F.SPC_CTL_CATCH.on v) else s
  else
    let s := s.spcMap (fun x => { x with retryDue := false })
    if s.spcIn SpcS.run then
      ((s.spcMap (fun x => { x with rampRef := s.speed * 100000000 })).fsetB F.SPC_STS_STEP false).spcEnter SpcS.stopping
    else if s.spcIn SpcS.catching || s.spcIn SpcS.align || s.spcIn SpcS.openloop then s.enterBrake .standstill
    else s

/-- SPINDLE_RUN: a write of SPC_CTL with RUN = 1. -/
def execSpindleRun (v : Word) (s : State) : Host.Outcome State Fault Refusal := .next (s.spcCtlWrite (setBits v 0 1 1))
/-- SPINDLE_STOP (R65): a write of SPC_CTL with RUN = 0. -/
def execSpindleStop (v : Word) (s : State) : Host.Outcome State Fault Refusal := .next (s.spcCtlWrite (setBits v 0 1 0))
/-- LOSS_COUNTER_CLEAR (R74): a write of SPC_CTL with CLRLOSS = 1. -/
def execLossCounterClear (v : Word) (s : State) : Host.Outcome State Fault Refusal := .next (s.spcCtlWrite (setBits v 2 1 1))

/-- Enter HARVEST (R71). -/
def State.enterHarvest (s : State) (b : Bridge) : State :=
  ((((s.fsetB F.SPC_STS_HARV true).fsetB F.SPC_STS_STEP false).spcEnter SpcS.harvest).bridgeSet b).ttbRate

/-- Harvest is permitted at the present speed (R71). -/
def State.harvestOk (s : State) : Bool :=
  s.flag F.SPC_HARV_EN && decide (s.fget F.SPC_HARV_MINRPM * 65536 ≤ mag s.speed)

/-- CATCH_MEASUREMENT_END (R56, R60, Table 3.3, R71): the direction and speed magnitude (2^-16 RPM) that the 20 ms gave. [assumption 33 DESIGN CHOICE] -/
def catchMeasurementEndOp (dir : RotorDir) (speed : Nat) (s : State) : State :=
  if s.spcIn SpcS.catching then
    let code := match dir with
      | .standstill => 0
      | .forwards => 1
      | .backwards => 2
    let v : Int := match dir with
      | .standstill => 0
      | .forwards => speed
      | .backwards => -(speed : Int)
    let s := (s.fset F.SPC_STS_CATCHDIR code).setSpeed v
    match dir with
    | .standstill => s.enterAlign
    | .forwards =>
      if 300 * 65536 ≤ speed then
        if s.spc.harvested then (if s.harvestOk then s.enterHarvest .rectifier else s.enterBrake .standstill) else s.enterRun
      else s.enterBrake .standstill
    | .backwards =>
      if 60 * 65536 ≤ speed ∨ s.spc.harvested then s.enterBrake .below60 else s.enterAlign
  else s

/-- CATCH_MEASUREMENT_END. -/
def execCatchMeasurementEnd (dir : RotorDir) (speed : Nat) (s : State) : Host.Outcome State Fault Refusal :=
  .next (catchMeasurementEndOp dir speed s)

/-- ALIGN_END (R61, R62): SPC_START.ALIGNT has passed. -/
def alignEndOp (s : State) : State :=
  if s.spcIn SpcS.align then
    ((s.spcEnter SpcS.openloop).spcMap (fun x => { x with startEvents := 0, goodRun := 0 })).ttbRate else s

/-- ALIGN_END. -/
def execAlignEnd (s : State) : Host.Outcome State Fault Refusal := .next (alignEndOp s)

/-- OPENLOOP_HANDOFF (R61, R64): at or above HANDOFF with 12 good commutation events. -/
def openloopHandoffOp (s : State) : State :=
  if s.spcIn SpcS.openloop && decide (s.fget F.SPC_START_HANDOFF * 10 * 65536 ≤ mag s.speed) && decide (12 ≤ s.spc.goodRun) then
    (s.spcMap (fun x => { x with ints := x.iqRef * 4096, locks := 0 })).enterRun
  else s

/-- OPENLOOP_HANDOFF. -/
def execOpenloopHandoff (s : State) : Host.Outcome State Fault Refusal := .next (openloopHandoffOp s)

/-- LOCKED_ROTOR_EXPIRY (R62, R73): 1.5 s in OPENLOOP without a commutation event. -/
def lockedRotorExpiryOp (s : State) : State :=
  if s.spcIn SpcS.openloop && s.spc.startEvents == 0 then
    let s := (s.fsetB F.SPC_STS_LOCKROT true).enterStopped
    let n := s.spc.locks + 1
    if s.fget F.SPC_START_RETRY < n then
      (s.spcMap (fun x => { x with locks := n, retryDue := false })).raiseFault Blk.spc 0 3 4 0
    else (s.spcMap (fun x => { x with locks := n, retryDue := true })).raiseFault Blk.spc 0 2 3 0
  else s

/-- LOCKED_ROTOR_EXPIRY. -/
def execLockedRotorExpiry (s : State) : Host.Outcome State Fault Refusal := .next (lockedRotorExpiryOp s)

/-- LOCKED_ROTOR_RETRY (R62): 2 s after a locked rotor SPC starts again from CATCH. -/
def lockedRotorRetryOp (s : State) : State :=
  if s.spcIn SpcS.stopped && s.spc.retryDue && s.flag F.SPC_CTL_RUN && !s.flag F.FLT_STS_SAFEDEV && !s.spc.harvested && s.holdsSpindle then s.spinUp true
  else s

/-- LOCKED_ROTOR_RETRY. -/
def execLockedRotorRetry (s : State) : Host.Outcome State Fault Refusal := .next (lockedRotorRetryOp s)

/-- INBAND_RISE (R63, R64, R45): 4 consecutive in-band revolutions in RUN; a step in progress ends. -/
def inbandRiseOp (s : State) : State :=
  if s.spcIn SpcS.run && decide (4 ≤ s.spc.bandRevs) && (!s.flag F.SPC_STS_INBAND || s.flag F.SPC_STS_STEP) then
    let s := (s.fsetB F.SPC_STS_INBAND true)
    let s := { s with ttb := { s.ttb with stepSams := if s.flag F.TTB_STS_STEP then some 0 else none } }
    let s := if s.flag F.SPC_STS_STEP then ({ s with pwr := { s.pwr with measDue := true } }).fsetB F.SPC_STS_STEP false else s
    s.bankIdleBoth
  else s

/-- INBAND_RISE. -/
def execInbandRise (s : State) : Host.Outcome State Fault Refusal := .next (inbandRiseOp s)

/-- REACQUISITION (R67, R64, R73): 12 consecutive good commutation events in COAST. -/
def reacquisitionOp (s : State) : State :=
  if s.spcIn SpcS.coast && decide (12 ≤ s.spc.goodRun) then
    let s := (s.fsetB F.SPC_STS_OBSLOSS false).raiseFault Blk.spc 0 1 1 0
    let s := s.spcMap (fun x => { x with ints := 0, iqRef := 0, slewClk := 1 })
    if s.flag F.SPC_CTL_RUN then s.enterRun.inhUpdate
    else (((s.spcMap (fun x => { x with rampRef := s.speed * 100000000 })).spcEnter SpcS.stopping).bridgeSet .foc).inhUpdate.ttbRate
  else s

/-- REACQUISITION. -/
def execReacquisition (s : State) : Host.Outcome State Fault Refusal := .next (reacquisitionOp s)

/-- REACQUISITION_TIMEOUT (R67, R68): the attempt ends without it. -/
def reacquisitionTimeoutOp (s : State) : State :=
  if s.spcIn SpcS.coast && decide (s.spc.goodRun < 12) then s.safeBrake 4 (!s.forced Blk.spc 0 4) else s

/-- REACQUISITION_TIMEOUT. -/
def execReacquisitionTimeout (s : State) : Host.Outcome State Fault Refusal := .next (reacquisitionTimeoutOp s)

/-- BRAKE_HOLD_TIMEOUT (R68, R71): 300 ms of waiting for the heads to park. -/
def execBrakeHoldTimeout (s : State) : Host.Outcome State Fault Refusal := .next (if s.spc.brakeHold then s.brakeDrive else s)

/-- STANDSTILL_GAP (R56, R69, R70): a high-impedance gap's back-EMF amplitude in mV and speed. [assumption 34 DEDUCED] -/
def standstillGapOp (emf : Nat) (speed : Int) (s : State) : State :=
  if (s.spcIn SpcS.brake || s.spcIn SpcS.safebrake) && !s.spc.brakeHold then
    let s := (s.setSpeed speed).brakeThreshold
    let still := decide (emf < s.fget F.SPC_CATCH_MINEMF)
    let slow := decide (s.spc.brakeExit = .below60) && decide (mag speed < 60 * 65536)
    if s.spcIn SpcS.safebrake then (if still then s.enterStopped else s.ttbRate)
    else if still || slow then (if s.flag F.SPC_CTL_RUN then s.enterAlign else s.enterStopped)
    else s.ttbRate
  else s

/-- STANDSTILL_GAP. -/
def execStandstillGap (emf : Nat) (speed : Int) (s : State) : Host.Outcome State Fault Refusal := .next (standstillGapOp emf speed s)

/-- π² × 10^37, truncated. [assumption 37 DESIGN CHOICE] -/
def piSquared : Nat := 98696044010893586188344909998761511353

/-- KE of R72 in µJ, truncated. -/
def State.kinetic (s : State) : Nat :=
  let min := s.fget F.SPC_HARV_MINRPM * 65536
  let v := mag s.speed
  if v < min then 0
  else s.fget F.SPC_HARV_EFF * s.fget F.SPC_MOTOR_INERTIA * (v * v - min * min) * piSquared / (128 * 2 * 10 * 900 * 2 ^ 32 * 10 ^ 37)

/-- KE in µJ as SPC_KE takes it: the manual does not say how the formula is rounded, so the last unit is free. [assumption 37 DESIGN CHOICE] -/
def State.kineticUj (s : State) : Nat := if s.kinetic = 0 then 0 else s.kinetic + (Config.roundUp s.freeCtr).toNat

/-- The harvest command (R71). -/
def State.harvestCommand (s : State) : State :=
  let s := s.spcMap (fun x => { x with harvested := true, retryDue := false })
  if s.spcIn SpcS.run || s.spcIn SpcS.stopping then
    if s.harvestOk then s.enterHarvest .rectifier else (s.fsetB F.SPC_STS_STEP false).enterBrake .standstill
  else if s.spcIn SpcS.coast then (if s.harvestOk then s.enterHarvest .hiZ else s.enterBrake .standstill)
  else if s.spcIn SpcS.openloop || s.spcIn SpcS.align then s.enterBrake .standstill
  else s

end Sys2Proof.Machine
end

