-- ==== Sys2Proof/Machine/Sac.lean ====
section
/-! DEFINITION. Servo and Actuator Control, with Buffer Stop: wedges and position (R76 to R80), commands (R81), the control engine (R83 to
R86), seeks (R87), supervision (R88 to R91), write permission and write faults (R92 to R95), load and unload (R96 to R98) and the
Buffer Stop sequence (R99, R100). -/
namespace Sys2Proof.Machine

/-- Update one SAC's hidden state. -/
def State.sacMap (s : State) (a : Act) (f : SacSt → SacSt) : State := s.sacSet a (f (s.sacOf a))

/-- The bank in use (R85). -/
def State.bank (s : State) (a : Act) : Nat := s.fget (F.SAC_STS_BANK a)
/-- A signed coefficient of the bank in use, from the live copy (R83, R86). -/
def State.coefS (s : State) (a : Act) (f : Act → Nat → Fld) : Int := let x := f a (s.bank a); sext x.w (s.liveGet x)
/-- An unsigned coefficient of the bank in use. -/
def State.coefU (s : State) (a : Act) (f : Act → Nat → Fld) : Nat := s.liveGet (f a (s.bank a))

/-- The integrator acc (R84). -/
def State.acc (s : State) (a : Act) : Int := sext 40 (s.wide (Rg.SAC_INT_LO a))
/-- Set the integrator acc. -/
def State.accSet (s : State) (a : Act) (v : Int) : State := s.wideSet (Rg.SAC_INT_LO a) (lowBits 40 v)
/-- The measured position p (R79). -/
def State.pos (s : State) (a : Act) : Int := sext 40 (s.wide (Rg.SAC_POS_LO a))

/-- The seek target in 2^-16 track (R83, R87). -/
def State.sacTarget (s : State) (a : Act) : Int := s.fget (F.SAC_TGT_TRACK a) * 65536 + s.sget (F.SAC_OFFS_OFFS a)
/-- +1 towards the ramp for a positive code, −1 for a negative one (Table 4.9, RETDIR). -/
def State.rampSign (s : State) (a : Act) : Int := if s.flag (F.SAC_BSP1_RETDIR a) then -1 else 1
/-- The VCMD_n code of a current field: units of 16 codes, at most 32,767 (R102). -/
def currentCode (units : Nat) : Int := min 32767 (units * 16)

/-- INFO of a SAC fault (Table 15.3). -/
def State.sacInfo (s : State) (a : Act) : Nat := s.headInfo (s.sacOf a).head

/-- The SAC's MISSMAX in force (R80). -/
def State.missMax (s : State) (a : Act) : Nat := max 1 (s.fget (F.SAC_SCFG_MISSMAX a))

/-- Whether a wedge is valid (R78). -/
def State.wedgeValid (s : State) (a : Act) (m : WedgeIn) : Bool :=
  m.sam && m.parityOk && (!s.ttbIn TtbS.locked || m.index == wedgeOf s.ttb.angle) &&
    decide (s.fget (F.SAC_SCFG_AMPMIN a) ≤ mag m.n + mag m.q) && decide (0 < mag m.n + mag m.q)

/-- The candidate nearest the prediction (R79): j = −1, 0, +1, a tie going to j = 0. -/
def nearest (c pred : Int) : Int :=
  let d := fun (x : Int) => mag (wrap40 (x - pred))
  let best := if d (c - 65536) < d c then c - 65536 else c
  if d (c + 65536) < d best then c + 65536 else best

/-- Position of a wedge (R79, R80), from the history of the wedges before it. -/
def State.wedgePos (s : State) (a : Act) (m : WedgeIn) (valid : Bool) : Int :=
  let h := (s.sacOf a).hist
  if valid then
    let pes := truncDiv (m.n * 32768) ((mag m.n + mag m.q : Nat) : Int)
    let c := (m.track : Int) * 65536 + pes - (if s.flag (F.SAC_SCFG_RROEN a) then m.rro * 4 else 0)
    match h with
    | (p1, true) :: (p2, true) :: _ => wrap40 (nearest c (2 * p1 - p2))
    | _ => wrap40 c
  else match h with
    | (p1, _) :: (p2, _) :: _ => wrap40 (2 * p1 - p2)
    | (p1, _) :: _ => p1
    | [] => s.pos a

/-- The control engine of R83: `r` the reference, `p` the position, `ar` the seek's acceleration.  It drives the DACs and leaves e in the
SAC's `e1`. -/
def State.engine (s : State) (a : Act) (r p ar : Int) : State :=
  let x := s.sacOf a
  let e := satI 32 (wrap40 (r - p))
  let d := e - x.e1
  let um := satI 14 (asr (s.coefS a F.SAC_BANK_C2_KMP * e + s.coefS a F.SAC_BANK_C2_KMD * d) 14)
  let ym := asr (um * s.coefU a F.SAC_BANK_C3_GM) 10
  let ev := satI 32 (e + ym)
  let dv := ev - x.ev1
  let acc := wrap40 (s.acc a + clampI ev (-0x320000) 0x320000)
  let uff := asr (ar * s.coefS a F.SAC_BANK_C1_KFF) 8
  let uv := satI 16 (asr (s.coefS a F.SAC_BANK_C0_KP * ev + s.coefS a F.SAC_BANK_C0_KD * dv + asr (s.coefS a F.SAC_BANK_C1_KI * acc) 16) 14 + uff)
  ((s.accSet a acc).sacSet a { x with e1 := e, ev1 := ev }).dac a uv um

/-- One advance of the seek reference (R87): state, and whether it has arrived. -/
def seekAdvance (x : SacSt) (tgt amax rampw vmax : Int) : SacSt × Bool :=
  let dist := wrap40 (tgt - x.rr)
  let braking := decide ((mag dist : Int) ≤ x.vr * x.vr / (2 * amax) + mag x.vr)
  let jr := if braking then x.jr else min (x.jr + amax / rampw) amax
  let ar0 := if braking then (if 0 < x.vr then -amax else if x.vr < 0 then amax else 0) else (if 0 < dist then jr else -jr)
  let ar := if !braking && decide (vmax < mag (x.vr + ar0)) then (if 0 < dist then vmax else -vmax) - x.vr else ar0
  let vr := x.vr + ar
  let rr := wrap40 (x.rr + vr)
  if decide ((mag (wrap40 (tgt - rr)) : Int) ≤ amax) && decide ((mag vr : Int) ≤ amax) then
    ({ x with rr := tgt, vr := 0, ar := 0, jr := jr }, true)
  else ({ x with rr := rr, vr := vr, ar := ar, jr := jr }, false)

/-- Advance the seek reference of an actuator towards a target with the bank in use (R87). -/
def State.seekStep (s : State) (a : Act) (tgt : Int) : State × Bool :=
  let r := seekAdvance (s.sacOf a) tgt (max 1 (s.coefU a F.SAC_BANK_C4_AMAX)) (max 1 (s.coefU a F.SAC_BANK_C4_RAMPW)) (s.coefU a F.SAC_BANK_C5_VMAX)
  (s.sacSet a r.1, r.2)

/-- A seek reference starts from the measured state (R87). -/
def seekStart (x : SacSt) (p : Int) : SacSt :=
  let vr := match x.hist with
    | (p0, true) :: (p1, true) :: _ => wrap40 (p0 - p1)
    | _ => 0
  { x with rr := p, vr := vr, ar := 0, jr := 0, settleRun := 0, seekHold := false }

/-- Enter SEEK towards SACn_TGT (R84, R87): acc is cleared at the first entry after LOAD. -/
def State.goSeek (s : State) (a : Act) : State :=
  let s := if (s.sacOf a).seekSinceLoad then s else s.accSet a 0
  let s := s.sacMap a (fun x => { seekStart x (s.pos a) with seekSinceLoad := true, feTimer := x.feTimer })
  s.sacEnter a SacS.seek

/-- The push of an unload begins (R97). -/
def State.unloadPush (s : State) (a : Act) : State :=
  (s.sacMap a (fun x => { x with unload := .push })).dac a (s.rampSign a * currentCode (s.fget (F.SAC_LOAD_UNLI a))) 0

/-- UNLOAD begins (R97): with the present wedge valid a seek to RAMPTRK first, otherwise the push. -/
def State.startUnload (s : State) (a : Act) : State :=
  let ok := s.judged a && (match (s.sacOf a).hist with
    | (_, v) :: _ => v
    | [] => false)
  let s := s.sacMap a (fun x => { x with loadAbandon := false, feTimer := false, missRun := 0 })
  let s := s.sacEnter a SacS.unload
  if ok then s.sacMap a (fun x => { seekStart x (s.pos a) with unload := .seek }) else s.unloadPush a

/-- A write is in progress (R95): from the START of a write transfer until CHDONE. -/
def State.writeInProgress (s : State) (a : Act) : Bool :=
  match (s.rwcOf a).transfer with
  | some t => decide (t.kind = .write) && t.started
  | none => false

/-- Whether the present wedge's data region holds a gate period of the transfer that is open or still to come (R95). -/
def State.gateInWedge (s : State) (a : Act) : Bool :=
  match (s.rwcOf a).transfer with
  | some t => (s.rwcOf a).gate.isSome || t.periods.any (fun g => (t.swedge + g.wedge) % 512 == wedgeOf s.ttb.angle)
  | none => false

/-- A write fault (R95, R101). -/
def State.writeFault (s : State) (a : Act) (real : Bool) : State :=
  let s := (s.fsetB (F.SAC_STS_WFLT a) true).count (Rg.SAC_WFCNT_LO a)
  let s := s.sacMap a (fun x => { x with goodSince := 0 })
  let s := (s.raiseEvent (a.sel 82 83)).seqEvent a 5
  let s := s.opMap a MsqOp.owns (fun o => { o with wflt := true })
  let s := s.raiseFault (Blk.sac a) 0 1 1 (s.sacInfo a) real
  ((s.forceOff a).stopTransfer a).permUpdate a

/-- Following-error supervision of one wedge (R88). -/
def State.followCheck (s : State) (a : Act) (st : Nat) (valid : Bool) : State :=
  if st = SacS.seek ∨ st = SacS.settle ∨ st = SacS.follow then
    let lim := min 0x8000 (if st = SacS.seek then s.fget (F.SAC_SUP_FESK a) else s.fget (F.SAC_SUP_FELIM a)) * 64
    let out := !valid || decide (lim < mag (s.sacOf a).e1)
    s.sacMap a (fun x => { x with feTimer := out })
  else s.sacMap a (fun x => { x with feTimer := false })

/-- Write permission of the wedge's data region (R93) and the write fault of a failed check (R95). [assumption 43 DEDUCED] -/
def State.wedgeWriteCheck (s : State) (a : Act) (valid : Bool) : State :=
  let ok := valid && decide (mag (s.sacOf a).e1 ≤ s.fget (F.SAC_WFG_WRLIM a) * 16)
  let recov := s.fget (F.SAC_WFG_RECOV a)
  let s := s.sacMap a (fun x => { x with
    wedgeOk := ok
    estFail := false
    goodSince := if ok then min 15 (x.goodSince + 1) else if recov ≤ x.goodSince then x.goodSince else 0 })
  let forced := s.forced (Blk.sac a) 0 1
  if (!ok || forced) && s.writeInProgress a && s.gateInWedge a then s.writeFault a (!ok) else s.permUpdate a

/-- Settling and ONTRK (R87) after the engine ran on the target. [assumption 41 DEDUCED] -/
def State.settleCheck (s : State) (a : Act) (valid : Bool) : State :=
  let ok := decide (mag (s.sacOf a).e1 ≤ s.coefU a F.SAC_BANK_C6_SETTOL)
  let need := max 1 (s.coefU a F.SAC_BANK_C6_SETTLEN)
  if s.sacIn a SacS.follow then
    let n := if ok && valid then (s.sacOf a).settleRun + 1 else 0
    let s := s.sacMap a (fun x => { x with settleRun := n })
    if !ok then s.fsetB (F.SAC_STS_ONTRK a) false else if need ≤ n then s.fsetB (F.SAC_STS_ONTRK a) true else s
  else s.sacMap a (fun x => { x with settleRun := if ok then x.settleRun + 1 else 0 })

/-- What the state's motion does at a wedge (R83, R87, R96 to R98). [assumption 42 DESIGN CHOICE] -/
def State.wedgeMotion (s : State) (a : Act) (st : Nat) (valid : Bool) (p : Int) (rs : Option Int) : State :=
  let x := s.sacOf a
  if x.loadAbandon then s.startUnload a
  else if st = SacS.load then s.sacMap a (fun x => { x with loadValid := if valid then x.loadValid + 1 else 0 })
  else if st = SacS.seek then
    if x.seekHold then
      let s := s.engine a p p 0
      if valid && x.head == x.headNext then s.sacMap a (fun x => { x with rr := p, vr := 0, ar := 0, jr := 0, seekHold := false }) else s
    else
      let r := s.seekStep a (s.sacTarget a)
      let s := r.1.engine a (r.1.sacOf a).rr p (r.1.sacOf a).ar
      if r.2 then (s.sacMap a (fun x => { x with settleRun := 0 })).sacEnter a SacS.settle else s
  else if st = SacS.settle ∨ st = SacS.follow then (s.engine a (s.sacTarget a) p 0).settleCheck a valid
  else if st = SacS.unload then
    match x.unload with
    | .seek =>
      if s.missMax a ≤ x.missRun then s.sacMap a (fun x => { x with unload := .pushNext })
      else
        let r := s.seekStep a ((s.fget (F.SAC_RAMP_RAMPTRK a) : Int) * 65536)
        let s := r.1.engine a (r.1.sacOf a).rr p (r.1.sacOf a).ar
        if r.2 then s.unloadPush a else s
    | .pushNext => s.unloadPush a
    | _ => s
  else if st = SacS.recover then
    let fail := match rs with
      | some v => decide (s.fget (F.SAC_PLAU_PLTOL a) * 64 < mag v)
      | none => false
    let s := s.dac a (satI 16 (asr (s.coefS a F.SAC_BANK_C1_KI * s.acc a) 30)) 0
    s.sacMap a (fun x => { x with recWedges := x.recWedges + 1
                                  recGood := if !valid || fail then 0 else if rs.isSome then x.recGood + 1 else x.recGood })
  else s

/-- The records of SERVO_CAL (Table 7.9): while it is the current operation, from the first wedge on track, one for each wedge of W9[3:0] + 1
revolutions (assumption 66). [assumption 66 DESIGN CHOICE] -/
def State.servoCalRecord (s : State) (a : Act) (valid : Bool) (p : Int) (stamp : BitVec 32) : State :=
  let m := s.msqOf a
  match m.cur with
  | none => s
  | some o =>
    if descOpc o.desc = 4 ∧ (0 < o.calRecs ∨ s.flag (F.SAC_STS_ONTRK a) = true) ∧ o.calRecs < 512 * (descBits o.desc 9 0 4 + 1) then
      let w := if valid then stamp.toNat / 16 * 16 else 0
      (s.msqSet a { m with cur := some { o with calRecs := o.calRecs + 1 } }).store (descStaddr o.desc + 8 * o.calRecs) 8
        (lowBits 32 p + w * 2 ^ 32)
    else s

/-- WEDGE_DEMODULATED (R76 to R80, R83 to R90, R93): the result of one wedge at phase 0x0C80. [assumptions 42 DESIGN CHOICE, 46 DESIGN CHOICE, 47 DEDUCED] -/
def wedgeDemodulatedOp (a : Act) (m : WedgeIn) (s : State) : State :=
  let st := s.sacState a
  if st = SacS.parked ∨ st = SacS.selftest ∨ st = SacS.bstop ∨ !s.flag (F.SAC_CTL_EN a) then s
  else
    let s := if phaseOf s.ttb.angle < 0x0C80 then s.angleTo (s.ttb.angle + BitVec.ofNat 64 (0x0C80 - phaseOf s.ttb.angle)) else s
    let valid := s.wedgeValid a m
    let s := s.sacMap a (fun x => { x with sams := (m.sam, x.sams.1), judging := x.judging || valid || st != SacS.load })
    let judged := s.judged a
    let s := if judged then s.bankBoundary a else s
    let p := s.wedgePos a m valid
    let rs : Option Int := match valid, (s.sacOf a).hist with
      | true, (p1, true) :: (p2, true) :: _ =>
        some (wrap40 (p - 2 * p1 + p2) - asr ((s.coefU a F.SAC_BANK_C3_KAM : Int) * s.sget (F.SAC_DAC_VCM a)) 12)
      | _, _ => none
    let s := s.wideSet (Rg.SAC_POS_LO a) (lowBits 40 p)
    let s := if judged then
        let s := s.sacMap a (fun x => { x with hist := ((p, valid) :: x.hist).take 3, missRun := if valid then 0 else x.missRun + 1 })
        let s := s.fsetB (F.SAC_STS_MISSV a) (!valid)
        if valid then s else s.count (Rg.SAC_MISS_LO a)
      else s
    let overs := match rs with
      | some v => decide (s.fget (F.SAC_PLAU_PLTOL a) * 64 < mag v)
      | none => false
    let s := if st = SacS.load ∨ st = SacS.recover then s.sacMap a (fun x => { x with plausFails := if overs then x.plausFails + 1 else 0 }) else s
    let s := s.wedgeMotion a st valid p rs
    let s := if (s.sacOf a).head = (s.sacOf a).headNext then s
      else s.sacMap a (fun x => { x with head := x.headNext, hist := [] })
    let s := ((s.followCheck a st valid).wedgeWriteCheck a valid).servoCalRecord a valid p m.stamp
    if judged && s.fget F.TTB_CTL_SRC != a.num then s.autoSwitch else s

/-- WEDGE_DEMODULATED. -/
def execWedgeDemodulated (a : Act) (m : WedgeIn) (s : State) : Host.Outcome State Fault Refusal := .next (wedgeDemodulatedOp a m s)

/-- RECOVER_ENTRY (R80, R98, R101): MISSMAX consecutive missed wedges in SEEK, SETTLE or FOLLOW. [assumption 46 DESIGN CHOICE] -/
def recoverEntryOp (a : Act) (s : State) : State :=
  let st := s.sacState a
  let real := decide (s.missMax a ≤ (s.sacOf a).missRun)
  if (st = SacS.seek ∨ st = SacS.settle ∨ st = SacS.follow) ∧ (real || s.forced (Blk.sac a) 0 2) then
    let s := s.raiseFault (Blk.sac a) 0 2 1 (s.sacInfo a) real
    let s := s.sacMap a (fun x => { x with recGood := 0, recWedges := 0, plausFails := 0, missRun := 0, feTimer := false, seekHold := false })
    (s.sacEnter a SacS.recover).dac a (satI 16 (asr (s.coefS a F.SAC_BANK_C1_KI * s.acc a) 30)) 0
  else s

/-- RECOVER_ENTRY. -/
def execRecoverEntry (a : Act) (s : State) : Host.Outcome State Fault Refusal := .next (recoverEntryOp a s)

/-- SETTLE_COMPLETE (R87, R92): SETTLEN consecutive wedges within SETTOL. -/
def settleCompleteOp (a : Act) (s : State) : State :=
  if s.sacIn a SacS.settle && decide (max 1 (s.coefU a F.SAC_BANK_C6_SETTLEN) ≤ (s.sacOf a).settleRun) then
    ((s.sacEnter a SacS.follow).fsetB (F.SAC_STS_ONTRK a) true).permUpdate a
  else s

/-- SETTLE_COMPLETE. -/
def execSettleComplete (a : Act) (s : State) : Host.Outcome State Fault Refusal := .next (settleCompleteOp a s)

/-- Whether a command is permitted in the present state (R81, Table 4.4). -/
def State.sacPermits (s : State) (a : Act) (op head : Nat) : Bool :=
  let st := s.sacState a
  s.flag (F.SAC_CTL_EN a) && s.portToken && !s.flag F.BRL_STEER_BUSY &&
    (match op with
     | 1 => (st == SacS.settle || st == SacS.follow || st == SacS.seek) && decide (head < 12)
     | 2 => st == SacS.parked && s.spcIn SpcS.run && s.flag F.SPC_STS_INBAND &&
         !(s.twin && s.flag F.BRL_STS_PSILENT && !s.flag F.BRL_STS_SENIOR && !s.flag F.BRL_STS_CARRY)
     | 3 => st == SacS.load || st == SacS.seek || st == SacS.settle || st == SacS.follow || st == SacS.recover
     | 4 => st == SacS.parked
     | 5 => st == SacS.selftest
     | _ => false)

/-- A command (R81, Table 4.4); `sacPermits` tells whether it is taken. -/
def State.sacCommand (s : State) (a : Act) (op head : Nat) : State :=
  if s.sacPermits a op head then
    match op with
    | 1 =>
      if head = (s.sacOf a).head then (s.sacMap a (fun x => { x with headNext := head })).goSeek a
      else (s.goSeek a).sacMap a (fun x => { x with headNext := head, seekHold := true })
    | 2 =>
      let s := s.sacMap a (fun x => { x with hist := [], judging := false, loadValid := 0, missRun := 0, plausFails := 0,
                                             seekSinceLoad := false, loadAbandon := false, e1 := 0, ev1 := 0 })
      ((s.bankIdle a).sacEnter a SacS.load).dac a (-(s.rampSign a) * currentCode (s.fget (F.SAC_LOAD_LOADI a))) 0
    | 3 => if s.sacIn a SacS.load then s.sacMap a (fun x => { x with loadAbandon := true }) else s.startUnload a
    | 4 => (s.sacEnter a SacS.selftest).dac a (s.sget (F.SAC_TSTI_CODE a)) 0
    | _ => (s.sacEnter a SacS.parked).dac a 0 0
  else s.fsetB (F.SAC_STS_REJ a) true

/-- A write of SACn_CMD (Table 4.4). -/
def State.sacCmdWrite (s : State) (a : Act) (v : Word) : State :=
  s.sacCommand a ((F.SAC_CMD_OP a).of v) ((F.SAC_CMD_HEAD a).of v)

/-- SAC_SEEK (R81, R87): a write of SACn_CMD with OP = 1. -/
def execSacSeek (a : Act) (v : Word) (s : State) : Host.Outcome State Fault Refusal := .next (s.sacCmdWrite a (setBits v 0 4 1))
/-- SAC_LOAD (R81, R96): OP = 2. -/
def execSacLoad (a : Act) (v : Word) (s : State) : Host.Outcome State Fault Refusal := .next (s.sacCmdWrite a (setBits v 0 4 2))
/-- SAC_UNLOAD (R81, R97): OP = 3. -/
def execSacUnload (a : Act) (v : Word) (s : State) : Host.Outcome State Fault Refusal := .next (s.sacCmdWrite a (setBits v 0 4 3))
/-- SAC_SELFTEST (R81): OP = 4. -/
def execSacSelftest (a : Act) (v : Word) (s : State) : Host.Outcome State Fault Refusal := .next (s.sacCmdWrite a (setBits v 0 4 4))
/-- SAC_ENDTEST (R81, R82): OP = 5. -/
def execSacEndtest (a : Act) (v : Word) (s : State) : Host.Outcome State Fault Refusal := .next (s.sacCmdWrite a (setBits v 0 4 5))

/-- A write of SACn_CTL (Table 4.9): a write of EN = 0 is discarded unless PARKED. -/
def State.sacCtlWrite (s : State) (a : Act) (v : Word) : State :=
  let en := (F.SAC_CTL_EN a).on v
  let s := if en || s.sacIn a SacS.parked then s.fsetB (F.SAC_CTL_EN a) en else s
  let s := if (F.SAC_CTL_CLRINT a).on v then s.accSet a 0 else s
  if (F.SAC_CTL_CLRCNT a).on v then (s.clearCount (Rg.SAC_MISS_LO a)).clearCount (Rg.SAC_WFCNT_LO a) else s

/-- SAC_ENABLE (R75, R102): a write of SACn_CTL with EN = 1. -/
def execSacEnable (a : Act) (v : Word) (s : State) : Host.Outcome State Fault Refusal := .next (s.sacCtlWrite a (setBits v 0 1 1))
/-- SAC_DISABLE (R102): a write of SACn_CTL with EN = 0. -/
def execSacDisable (a : Act) (v : Word) (s : State) : Host.Outcome State Fault Refusal := .next (s.sacCtlWrite a (setBits v 0 1 0))
/-- INTEGRATOR_CLEAR (R84): CLRINT = 1. -/
def execIntegratorClear (a : Act) (v : Word) (s : State) : Host.Outcome State Fault Refusal := .next (s.sacCtlWrite a (setBits v 1 1 1))
/-- SAC_COUNTER_CLEAR (R11, R102): CLRCNT = 1. -/
def execSacCounterClear (a : Act) (v : Word) (s : State) : Host.Outcome State Fault Refusal := .next (s.sacCtlWrite a (setBits v 2 1 1))

/-- A write of SACn_CCTL (R86): the copy is made at the next wedge boundary, or at once while wedges are not judged. -/
def State.sacCctlWrite (s : State) (a : Act) (v : Word) : State :=
  if (F.SAC_CCTL_APPLY a).on v then
    if s.judged a then s.sacMap a (fun x => { x with applyPend := true }) else s.bankCopy a 40
  else s

/-- BANK_APPLY_REQUEST (R86): APPLY = 1. -/
def execBankApplyRequest (a : Act) (v : Word) (s : State) : Host.Outcome State Fault Refusal := .next (s.sacCctlWrite a (setBits v 0 1 1))

/-- FOLLOWING_ERROR_EXPIRY (R88, R99, R101). -/
def followingErrorExpiryOp (a : Act) (s : State) : State :=
  let real := (s.sacOf a).feTimer
  if real || s.forced (Blk.sac a) 0 4 then
    let s := (s.fsetB (F.SAC_STS_RUNAWAY a) true).raiseFault (Blk.sac a) 0 4 4 (s.sacInfo a) real
    s.bufferStop a
  else s

/-- FOLLOWING_ERROR_EXPIRY. -/
def execFollowingErrorExpiry (a : Act) (s : State) : Host.Outcome State Fault Refusal := .next (followingErrorExpiryOp a s)

/-- CURRENT_PLAUSIBILITY_TICK (R89): the sense code of one 20 µs tick. [assumption 49 DEDUCED] -/
def currentPlausibilityTickOp (a : Act) (vcms : Int) (s : State) : State :=
  let s := s.sset (F.SAC_IMEAS_CODE a) vcms
  if s.sacIn a SacS.bstop then s
  else
    let diff := (s.fget (F.SAC_PLAU_IGAIN a) : Int) * vcms - s.sget (F.SAC_DAC_VCM a) * 4096
    let fail := decide (s.fget (F.SAC_PLAU_IPTOL a) * 128 * 4096 < mag diff)
    s.sacMap a (fun x => { x with ipFails := if fail then x.ipFails + 1 else 0 })

/-- CURRENT_PLAUSIBILITY_TICK. -/
def execCurrentPlausibilityTick (a : Act) (vcms : Int) (s : State) : Host.Outcome State Fault Refusal :=
  .next (currentPlausibilityTickOp a vcms s)

/-- IMPLAUSIBLE (R89, R90, R91, R101). -/
def implausibleOp (a : Act) (s : State) : State :=
  let real := !s.sacIn a SacS.bstop && (decide (8 ≤ (s.sacOf a).ipFails) || decide (4 ≤ (s.sacOf a).plausFails))
  if real || s.forced (Blk.sac a) 0 5 then
    let s := (s.fsetB (F.SAC_STS_IMPLAUS a) true).raiseFault (Blk.sac a) 0 5 4 (s.sacInfo a) real
    (s.sacMap a (fun x => { x with ipFails := 0, plausFails := 0 })).bufferStop a
  else s

/-- IMPLAUSIBLE. -/
def execImplausible (a : Act) (s : State) : Host.Outcome State Fault Refusal := .next (implausibleOp a s)

/-- ESTIMATE_INTERVAL_CLOSE (R94, R95, R121): the summed envelopes of one judged interval. [assumptions 44 DESIGN CHOICE, 45 DEDUCED] -/
def estimateIntervalCloseOp (a : Act) (aA aB : Nat) (s : State) : State :=
  let x := min 0xFFFFF aA
  let y := min 0xFFFFF aB
  let open_ := s.writeInProgress a && (s.rwcOf a).gate.isSome
  if s.flag (F.SAC_WFG_OTEN a) && open_ then
    if s.fget (F.SAC_SCFG_OTAMIN a) * 16 ≤ x + y ∧ 0 < x + y then
      let h := (s.sacOf a).head
      let q := truncDiv (((y : Int) - x) * 65536) ((x + y : Nat) : Int)
      let est := asr (q * (s.fget (F.SAC_OTCAL_GAIN a h) : Int)) 12 + s.sget (F.SAC_OTCAL_BIAS a h)
      let s := (s.sset (F.SAC_OTEST_EST a) (clampI est (-32767) 32767)).fsetB (F.SAC_OTEST_VALID a) true
      let fail := decide (s.fget (F.SAC_WFG_OTLIM a) * 16 < mag est)
      if fail || s.forced (Blk.sac a) 0 1 then
        (s.sacMap a (fun x => { x with estFail := true })).writeFault a fail
      else s
    else s.fsetB (F.SAC_OTEST_VALID a) false
  else s

/-- ESTIMATE_INTERVAL_CLOSE. -/
def execEstimateIntervalClose (a : Act) (aA aB : Nat) (s : State) : Host.Outcome State Fault Refusal :=
  .next (estimateIntervalCloseOp a aA aB s)

/-- LOAD_SERVO_FOUND (R84, R96): 4 consecutive valid wedges in LOAD. -/
def loadServoFoundOp (a : Act) (s : State) : State :=
  if s.sacIn a SacS.load && decide (4 ≤ (s.sacOf a).loadValid) then
    let s := (s.accSet a 0).sacMap a (fun x => { x with e1 := 0, ev1 := 0 })
    (s.engine a (s.pos a) (s.pos a) 0).goSeek a
  else s

/-- LOAD_SERVO_FOUND. -/
def execLoadServoFound (a : Act) (s : State) : Host.Outcome State Fault Refusal := .next (loadServoFoundOp a s)

/-- LOAD_TIMEOUT (R96, R101): LOADT expires before the fourth valid wedge. -/
def loadTimeoutOp (a : Act) (s : State) : State :=
  if s.sacIn a SacS.load && decide ((s.sacOf a).loadValid < 4) then
    (s.raiseFault (Blk.sac a) 0 3 3 (s.sacInfo a) (!s.forced (Blk.sac a) 0 3)).startUnload a
  else s

/-- LOAD_TIMEOUT. -/
def execLoadTimeout (a : Act) (s : State) : Host.Outcome State Fault Refusal := .next (loadTimeoutOp a s)

/-- UNLOAD_PUSH_END (R97): UNLT ends and HOLDI begins. -/
def unloadPushEndOp (a : Act) (s : State) : State :=
  if s.sacIn a SacS.unload && decide ((s.sacOf a).unload = .push) then
    (s.sacMap a (fun x => { x with unload := .hold })).dac a (s.rampSign a * currentCode (s.fget (F.SAC_BSP3_HOLDI a))) 0
  else s

/-- UNLOAD_PUSH_END. -/
def execUnloadPushEnd (a : Act) (s : State) : Host.Outcome State Fault Refusal := .next (unloadPushEndOp a s)

/-- UNLOAD_HOLD_END (R65, R82, R97): PARKED with both DACs at 0. -/
def unloadHoldEndOp (a : Act) (s : State) : State :=
  if s.sacIn a SacS.unload && decide ((s.sacOf a).unload = .hold) then
    ((s.sacMap a (fun x => { x with unload := .idle, judging := false, hist := [] })).dac a 0 0).sacEnter a SacS.parked
  else s

/-- UNLOAD_HOLD_END. -/
def execUnloadHoldEnd (a : Act) (s : State) : Host.Outcome State Fault Refusal := .next (unloadHoldEndOp a s)

/-- RECOVER_SEEK (R98): 4 good wedges in RECOVER. -/
def recoverSeekOp (a : Act) (s : State) : State :=
  if s.sacIn a SacS.recover && decide (4 ≤ (s.sacOf a).recGood) then s.goSeek a else s

/-- RECOVER_SEEK. -/
def execRecoverSeek (a : Act) (s : State) : Host.Outcome State Fault Refusal := .next (recoverSeekOp a s)

/-- RECOVER_TIMEOUT (R98, R101): 512 wedges in RECOVER without the seek. -/
def recoverTimeoutOp (a : Act) (s : State) : State :=
  let real := decide (512 ≤ (s.sacOf a).recWedges) && decide ((s.sacOf a).recGood < 4)
  if s.sacIn a SacS.recover && (real || s.forced (Blk.sac a) 0 3) then
    (s.raiseFault (Blk.sac a) 0 3 3 (s.sacInfo a) real).startUnload a
  else s

/-- RECOVER_TIMEOUT. -/
def execRecoverTimeout (a : Act) (s : State) : Host.Outcome State Fault Refusal := .next (recoverTimeoutOp a s)

/-- One step of the Buffer Stop sequence (Table 4.6): from a phase to the next, driving a current towards the ramp. -/
def State.bstopStep (s : State) (a : Act) (was now : BstopPhase) (units : Nat) : State :=
  if s.sacIn a SacS.bstop && decide ((s.sacOf a).bstop = was) then
    (s.sacMap a (fun x => { x with bstop := now })).dac a (s.rampSign a * currentCode units) 0
  else s

/-- BUFFER_STOP_RETRACT (R100 step 2): the engine is disconnected, RETI towards the ramp. -/
def execBufferStopRetract (a : Act) (s : State) : Host.Outcome State Fault Refusal :=
  .next (s.bstopStep a .invoked .retract (s.fget (F.SAC_BSP1_RETI a)))
/-- BUFFER_STOP_SECOND_PHASE (R100 step 3): RETI2. -/
def execBufferStopSecondPhase (a : Act) (s : State) : Host.Outcome State Fault Refusal :=
  .next (s.bstopStep a .retract .second (s.fget (F.SAC_BSP2_RETI2 a)))
/-- BUFFER_STOP_HOLD (R100 step 4): HOLDI. -/
def execBufferStopHold (a : Act) (s : State) : Host.Outcome State Fault Refusal :=
  .next (s.bstopStep a .second .hold (s.fget (F.SAC_BSP3_HOLDI a)))

/-- BUFFER_STOP_END (R82, R100 step 5, R24): DACs at 0, parked reported; a device reset that arrived meanwhile is left PARKED. -/
def bufferStopEndOp (a : Act) (s : State) : State :=
  if s.sacIn a SacS.bstop && decide ((s.sacOf a).bstop = .hold) then
    let due := (s.sacOf a).resetDue
    let s := ((s.sacMap a (fun x => { x with bstop := .ended, resetDue := false })).dac a 0 0).fsetB (F.SAC_STS_BSACT a) false
    let s := s.fsetB (F.SAC_STS_PARKED a) true
    let s := if s.flag F.BRL_STS_FENCED && !s.flag (F.SAC_STS_BSACT .zero) && !s.flag (F.SAC_STS_BSACT .one) then s.fset F.BRL_TKSTS_DRIVE 0 else s
    if due then (s.sacMap a (fun x => { x with bstop := .idle })).sacEnter a SacS.parked else s.spcParked
  else s

/-- BUFFER_STOP_END. -/
def execBufferStopEnd (a : Act) (s : State) : Host.Outcome State Fault Refusal := .next (bufferStopEndOp a s)

end Sys2Proof.Machine
end

