-- ==== Sys2Proof/Machine/Ddp.lean ====
section
/-! DEFINITION. The Deep Decode Pool: jobs (R130 to R133), the ladder (R134 to R138), passes and averages (R139, R140), sweeps (R141), ends
(R142, R143) and the sharing of the engines (R144). -/
namespace Sys2Proof.Machine

/-- Update the pool's hidden state. -/
def State.ddpMap (s : State) (f : DdpSt → DdpSt) : State := { s with ddp := f s.ddp }
/-- Update the job in a raw slot. -/
def State.jobMap (s : State) (slot : Nat) (f : Job → Job) : State :=
  s.ddpMap (fun d => { d with jobs := d.jobs.map (fun j => if j.slot = slot then f j else j) })
/-- The job in a raw slot. -/
def State.jobAt (s : State) (slot : Nat) : Option Job := s.ddp.jobs.find? (fun j => j.slot == slot)

/-- Core address of a sample slot (R132). -/
def slotAddr (n : Nat) : Nat := 0x10800000 + n * 0x20000

/-- A bit range of a ladder step word (Table 6.3). -/
def stepField (w : Word) (lo n : Nat) : Nat := bitsOf w lo n
/-- The job's present step word; past the last step an end step. -/
def Job.word (j : Job) : Word := j.ladder.getD j.step 0
/-- ACT of the present step. -/
def Job.actOf (j : Job) : Nat := stepField j.word 0 3
/-- Passes N of an averaging step (R138). -/
def Job.passMax (j : Job) : Nat := max 2 (stepField j.word 20 4)
/-- MODE of the job's configuration (Table 6.8). -/
def Job.mode (j : Job) : Nat := bitsOf j.cfg 0 2
/-- REVMAX of the job's configuration. -/
def Job.revMax (j : Job) : Nat := bitsOf j.cfg 2 6

/-- Outcome of a ladder that ended without a good decode (R142). [assumption 63 DEDUCED] -/
def Job.endOutcome (j : Job) : Nat := if j.crcBad then 5 else if j.short then 4 else 3

/-- Where a job goes from its present step on. -/
inductive Landing where
  | finish (j : Job)
  | decode (j : Job)
  | pass (j : Job)
  | wantPair (j : Job)

/-- The step at which a job lands, skipping steps at no cost (R135, R138, Table 6.2). [assumption 63 DEDUCED] -/
def landJob : Nat → Job → Landing
  | 0, j => .finish j
  | n + 1, j =>
    if 16 ≤ j.step then .finish { j with step := 15 }
    else
      let act := j.actOf
      let next := { j with step := j.step + 1, repeated := false }
      let ladder := j.mode % 2 == 1
      let avg := j.mode / 2 == 1
      let broke := decide (j.revMax ≤ j.revs)
      if act = 0 then .finish j
      else if act = 1 ∨ act = 2 ∨ act = 3 then (if ladder then .decode j else landJob n next)
      else if act = 4 then
        if !ladder || j.norev then landJob n next
        else if broke then landJob n { next with short := true }
        else .pass j
      else if act = 5 then
        if !avg || j.norev then landJob n next
        else if broke then landJob n { next with short := true }
        else .wantPair j
      else landJob n next

/-- Accumulator pairs not held by a job (R133). -/
def State.freePair (s : State) : Option Nat := [0, 1, 2, 3].find? (fun p => !(s.ddp.jobs.any (fun j => j.pair == some p)))

/-- 16-bit sums of an accumulator (R140): signed samples added in, little-endian; `first` starts the average. -/
def State.accumulate (s : State) (addr : Nat) (first : Bool) : List Byte → State
  | [] => s
  | b :: t =>
    let old := if first then 0 else s.load addr 2
    (s.store addr 2 (lowBits 16 (sext 16 old + sext 8 b.toNat))).accumulate (addr + 2) first t

/-- Send the sequencer a re-read request (R137, Table 7.15, Table 7.7 event 2) and wait for its pass. -/
def State.askPass (s : State) (j : Job) : State :=
  let w := j.word
  let pset := if stepField w 13 1 = 1 then stepField w 14 6 else j.pset
  let req := BitVec.ofNat 32 (stepField w 24 8 + pset % 64 * 2 ^ 8 + j.slot % 128 * 2 ^ 14 + 2 ^ 31)
  let s := s.jobMap j.slot (fun _ => { j with state := .waitPass, passIn := false })
  let s := s.ddpMap (fun d => { d with rereads := d.rereads.set j.act (d.rereads.get j.act ++ [req]) })
  (s.seqEvent j.act 2).ddpStatus

/-- Put a job where it landed; one that decodes becomes ready for an engine.  An averaging step takes a pair unless the job holds one,
starts an average of its own, and the raw samples count as pass 1 under R138 (assumptions 60, 61). [assumption 60 DEDUCED] -/
def State.placeJob (s : State) (l : Landing) : State :=
  match l with
  | .finish j => s.endJob j j.endOutcome
  | .decode j => (s.jobMap j.slot (fun _ => { j with state := .ready })).ddpStatus
  | .pass j => s.askPass j
  | .wantPair j =>
    match (match j.pair with | some p => some p | none => s.freePair) with
    | none => (s.jobMap j.slot (fun _ => { j with state := .waitPair })).ddpStatus
    | some p =>
      let j := { j with pair := some p, passes := 0 }
      let w := j.word
      if stepField w 13 1 = 0 ∧ stepField w 24 8 = 0 ∧ !j.moved then
        let s := s.accumulate (slotAddr (120 + 2 * p)) true (s.bytes (slotAddr j.slot) 37336)
        let s := s.accumulate (slotAddr (121 + 2 * p)) true (s.bytes (slotAddr j.slot + 0x10000) 37336)
        s.askPass { j with passes := 1 }
      else s.askPass j

/-- Engines an actuator holds. -/
def State.enginesOf (s : State) (a : Act) : Nat :=
  (s.ddp.jobs.filter (fun j => decide (j.act = a) && (match j.state with | .engine _ => true | _ => false))).length

/-- The job an actuator's queue would give to an engine (R144): a pass that has arrived, then host-class, then internal jobs. -/
def State.pick (s : State) (a : Act) : Option Job :=
  let ready := s.ddp.jobs.filter (fun j => decide (j.act = a) && decide (j.state = .ready))
  if s.enginesOf a ≤ s.fget (F.DDP_CFG_MAXENG a.num) then
    match ready.find? (·.passIn) with
    | some j => some j
    | none => match ready.find? (·.host) with
      | some j => some j
      | none => ready.head?
  else none

/-- The queue whose turn it is (R144): weighted round robin between eligible queues. -/
def State.turnPick (s : State) : Option (State × Job) :=
  let t := s.ddp.turn
  let left := if s.ddp.grants = 0 then max 1 (s.fget (F.DDP_CFG_WEIGHT t.num)) else s.ddp.grants
  let o := t.other
  match s.pick t with
  | some j => some (s.ddpMap (fun d => if left = 1 then { d with turn := o, grants := 0 } else { d with grants := left - 1 }), j)
  | none => match s.pick o with
    | some j =>
      let l := max 1 (s.fget (F.DDP_CFG_WEIGHT o.num))
      some (s.ddpMap (fun d => if l = 1 then { d with turn := t, grants := 0 } else { d with turn := o, grants := l - 1 }), j)
    | none => none

/-- Status word of an engine that holds a job (Table 6.8). -/
def engWord (j : Job) : Word :=
  BitVec.ofNat 32 (1 + j.act.num * 2 + j.step % 16 * 4 + j.revs % 64 * 2 ^ 6 + j.slot % 128 * 2 ^ 12)

/-- A job starts step 0 with its actuator's configuration and ladder as they stand (R146). -/
def State.startJob (s : State) (j : Job) : Job :=
  if j.started then j
  else { j with started := true, cfg := s.rd (Rg.DDP_CFG j.act.num),
                ladder := (List.range 16).map (fun k => s.rd (Rg.DDP_LAD j.act.num k)) }

/-- Free engines take jobs, lower-numbered first (R144). -/
def State.grantEngines (s : State) : Nat → State
  | 0 => s
  | n + 1 =>
    match [0, 1, 2, 3].find? (fun e => !(s.ddp.jobs.any (fun j => decide (j.state = .engine e)))) with
    | none => s
    | some e =>
      match s.turnPick with
      | none => s
      | some (s, j) =>
        let fresh := !j.started
        let j := s.startJob j
        let land := if fresh then (if j.mode = 0 then Landing.finish j else landJob 17 j) else Landing.decode j
        match land with
        | .decode j =>
          let j := { j with state := .engine e, eng := e, passIn := false }
          ((s.jobMap j.slot (fun _ => j)).wr (Rg.DDP_ENG e) (engWord j)).ddpStatus.grantEngines n
        | other => (s.placeJob other).grantEngines n

/-- Let every engine that can take a job take one. -/
def State.grants (s : State) : State := s.grantEngines 64

/-- A failed sector reaches the pool (R130 to R132, R146). [assumptions 64 DEDUCED, 76 DEDUCED] -/
def State.createJob (s : State) (a : Act) (o : MsqOp) (i : Nat) (sync : JobSync) (smpA smpB : List Byte) : State :=
  let d := o.desc
  let used := fun (k : Nat) => s.ddp.jobs.any (fun j => j.slot == k)
  let free := ((List.range 120).find? (fun k => !used k)).getD 127
  let j : Job := { act := a, index := i, tag := d.getD 4 0, host := decide (descSub d = 0), norev := decide (descBits d 0 13 2 = 1),
                   slot := free, pset := descBits d 0 21 6, addr := if descOpc d = 3 then none else some (descDaddr d + 4128 * i),
                   recAddr := descStaddr d + 8 * (descCount d + i), step := 0, cfg := 0, ladder := [], started := false, revs := 0,
                   passes := 0, align := sync.first, align2 := sync.second, aligned := sync.predicted, moved := false, sync := sync,
                   pair := none,
                   created := s.ttb.angle, short := false, repeated := false, abort := false, aged := false, passIn := false,
                   crcBad := false, git := 0, unsat := 0, eng := 0, state := .ready }
  let s := s.opMap a MsqOp.owns (fun o => { o with jobsOpen := o.jobsOpen + 1 })
  if !s.flag F.DDP_CTL_EN then s.postJob j 6
  else if 32 ≤ s.fget (a.sel F.DDP_STS_QDEPTH0 F.DDP_STS_QDEPTH1) || s.forced Blk.ddp a.num 1 then
    let real := decide (32 ≤ s.fget (a.sel F.DDP_STS_QDEPTH0 F.DDP_STS_QDEPTH1))
    ((s.fsetB (a.sel F.DDP_STS_QFULL0 F.DDP_STS_QFULL1) true).raiseFault Blk.ddp a.num 1 0 (s.headInfo (descHead d)) real).postJob j 8
  else
    let s := (s.setBytes (slotAddr free) smpA).setBytes (slotAddr free + 0x10000) smpB
    ((s.ddpMap (fun x => { x with jobs := x.jobs ++ [j] })).count Rg.DDP_JOBS_LO).ddpStatus.grants

/-- Alignments a sweep tries for a fragment, in order (R141): its stored candidates not tried on the fly, then 0, −1, +1 and so on to ±ARG,
without those already tried. -/
def sweepList (j : Job) (cands tried : List Int) : List Int :=
  let arg := if stepField j.word 20 4 ≤ 4 then 5 else stepField j.word 20 4
  let hyps := (0 : Int) :: ((List.range arg).map (fun k => [-((k + 1 : Nat) : Int), ((k + 1 : Nat) : Int)])).flatten
  cands ++ hyps.filter (fun h => !tried.contains h)

/-- A good decode (R134). -/
def attemptGood (t : AttemptOut) : Bool := t.syndromeZero && t.crcOk

/-- The attempt that left the fewest unsatisfied checks, the first of equals (R141). -/
def fewest : List (Int × AttemptOut) → Option (Int × AttemptOut)
  | [] => none
  | p :: t => match fewest t with
    | some q => if q.2.unsat < p.2.unsat then some q else some p
    | none => some p

/-- The job moves on to its next step (R133: a pair is held from the first averaging pass until the job ends). -/
def Job.onward (j : Job) : Landing := landJob 17 { j with step := j.step + 1, repeated := false }

/-- The attempts of a decode with their alignments: a sweep tries the first fragment's, and then, with that one settled, those of a split
sector's second fragment (R141); any other step decodes once at the job's alignment. -/
def poolTries (j : Job) (l : List AttemptOut) : List (Int × AttemptOut) × List (Int × AttemptOut) :=
  if j.actOf = 2 then
    let first := sweepList j j.sync.cands j.sync.tried
    (first.zip l, if j.sync.split then (sweepList j j.sync.cands2 j.sync.tried2).zip (l.drop first.length) else [])
  else ((l.take 1).map (fun t => (j.align, t)), [])

/-- The good attempt of a list, or else the one that came closest (R141). -/
def settled (l : List (Int × AttemptOut)) : Option (Int × AttemptOut) :=
  match l.find? (fun p => attemptGood p.2) with
  | some p => some p
  | none => fewest l

/-- The job with what its decode's final attempt gave (Table 6.4, R142) and, after a sweep, with the alignment it settled on (R141). -/
def Job.decoded (j : Job) (l : List AttemptOut) : Job :=
  let t := poolTries j l
  let used := t.1 ++ t.2
  let last := match used.find? (fun p => attemptGood p.2) with
    | some p => some p.2
    | none => used.getLast?.map (fun (p : Int × AttemptOut) => p.2)
  let j1 := { j with git := (last.map (fun (t : AttemptOut) => t.git)).getD 0, unsat := (last.map (fun (t : AttemptOut) => t.unsat)).getD 0,
                     crcBad := (last.map (fun (t : AttemptOut) => t.syndromeZero && !t.crcOk)).getD false }
  if j.actOf = 2 then
    { j1 with align := ((settled t.1).map (fun (p : Int × AttemptOut) => p.1)).getD j.align
              align2 := ((settled t.2).map (fun (p : Int × AttemptOut) => p.1)).getD j.align2
              aligned := true, moved := true }
  else j1

/-- Whether a decode is good (R134): one of its attempts is. -/
def Job.decodesGood (j : Job) (l : List AttemptOut) : Bool :=
  let t := poolTries j l
  (t.1 ++ t.2).any (fun p => attemptGood p.2)

/-- OUTCOME of a recovered job (Table 6.4). [assumption 62 DEDUCED] -/
def Job.goodOutcome (j : Job) : Nat := if j.actOf = 5 then 1 else if j.aligned then 2 else 0

/-- The recovered bytes go where the operation put the sector's on-the-fly data (R134); a VERIFY put them nowhere (Table 7.9). -/
def State.putRecovered (s : State) (j : Job) (data : List Byte) : State :=
  match j.addr with
  | some x => s.setBytes x (data.take 4128)
  | none => s

/-- POOL_DECODE_COMPLETE (R134, R138, R141, R142): an engine finishes the decodes of a step. -/
def poolDecodeCompleteOp (e : Fin 4) (m : PoolDecode) (s : State) : State :=
  match s.ddp.jobs.find? (fun j => decide (j.state = .engine e.val)) with
  | none => s
  | some j0 =>
    let j := j0.decoded m.attempts
    let s := s.wr (Rg.DDP_ENG e.val) 0
    let done : State :=
      if j0.decodesGood m.attempts then (s.putRecovered j m.data).endJob j j.goodOutcome
      else if j.abort then s.endJob j 6
      else if j.aged then s.endJob j 4
      else if j.actOf = 5 && decide (j.passes < j.passMax) then
        if j.revs < j.revMax then s.askPass j else s.placeJob { j with short := true }.onward
      else s.placeJob j.onward
    done.grants

/-- POOL_DECODE_COMPLETE. -/
def execPoolDecodeComplete (e : Fin 4) (m : PoolDecode) (s : State) : Host.Outcome State Fault Refusal :=
  .next (poolDecodeCompleteOp e m s)

/-- A re-read pass arrives (R137 to R140): it uses a revolution; ACT 4 decodes it, ACT 5 accumulates it unless it is rejected. [assumption 61 DEDUCED] -/
def State.passArrives (s : State) (slot : Nat) (m : PassIn) : State :=
  match s.jobAt slot with
  | none => s
  | some j =>
    if j.state ≠ .waitPass then s
    else
      let s := s.count Rg.DDP_REVS_LO
      let usable := m.result != 8
      let j := { j with revs := j.revs + 1 }
      let ready := fun (s : State) (j : Job) => (s.jobMap slot (fun _ => { j with state := .ready, passIn := true })).ddpStatus
      let budget := decide (j.revs < j.revMax)
      let done : State :=
        if !usable && !j.repeated && budget then s.askPass { j with repeated := true }
        else if j.actOf = 4 then
          if !usable then s.placeJob j.onward
          else ready s (match m.markOff with
            | some o => { j with align := o, aligned := false, moved := j.moved || decide (o ≠ j.align), repeated := false }
            | none => { j with repeated := false })
        else
          let rejected := !usable || m.ta || (m.ampOff && decide (0 < j.passes))
          let p := j.pair.getD 0
          let s := if rejected then s
            else (s.accumulate (slotAddr (120 + 2 * p)) (j.passes == 0) m.smpA).accumulate (slotAddr (121 + 2 * p)) (j.passes == 0) m.smpB
          let j := if rejected then { j with repeated := false }
            else { j with passes := j.passes + 1, repeated := false }
          if !rejected && decide (2 ≤ j.passes) then ready s j
          else if budget then s.askPass j
          else if 0 < j.passes then ready s { j with short := true }
          else s.placeJob { j with short := true }.onward
      done.grants

/-- ACCUMULATOR_GRANT (R133): a pair is free for the job that has waited longest. -/
def accumulatorGrantOp (s : State) : State :=
  match s.ddp.jobs.find? (fun j => decide (j.state = .waitPair)) with
  | some j => if s.freePair.isSome then s.placeJob (.wantPair j) else s
  | none => s

/-- ACCUMULATOR_GRANT. -/
def execAccumulatorGrant (s : State) : Host.Outcome State Fault Refusal := .next (accumulatorGrantOp s)

/-- AGEMAX of a job (Table 6.8): its actuator's configuration as it stood when the job started, or stands before it starts (R146). -/
def State.jobAge (s : State) (j : Job) : Nat := max 1 (bitsOf (s.startJob j).cfg 8 6)

/-- JOB_AGE_LIMIT (R142): AGEMAX revolutions since the job's creation. [assumption 64 DEDUCED] -/
def jobAgeLimitOp (slot : Nat) (s : State) : State :=
  match s.jobAt slot with
  | none => s
  | some j =>
    let s := s.angleTo (j.created + BitVec.ofNat 64 (s.jobAge j * revUnits))
    match j.state with
    | .engine _ => s.jobMap slot (fun j => { j with aged := true })
    | _ => (s.endJob j 4).grants

/-- JOB_AGE_LIMIT. -/
def execJobAgeLimit (slot : Nat) (s : State) : Host.Outcome State Fault Refusal := .next (jobAgeLimitOp slot s)

/-- A write of DDP_CTL (Table 6.8, R142): EN = 0 aborts every job; CLRCNT clears the five counters. -/
def State.ddpCtlWrite (s : State) (v : Word) : State :=
  let en := F.DDP_CTL_EN.on v
  let s := s.fsetB F.DDP_CTL_EN en
  let s := if F.DDP_CTL_CLRCNT.on v then
      ((((s.clearCount Rg.DDP_JOBS_LO).clearCount Rg.DDP_RECOV_LO).clearCount Rg.DDP_UNREC_LO).clearCount Rg.DDP_REVS_LO).clearCount
        Rg.DDP_REFUSED_LO else s
  if en then s else s.abortJobs (fun _ => true) s.ddp.jobs

/-- POOL_ENABLE (R146): a write of DDP_CTL with EN = 1. -/
def execPoolEnable (v : Word) (s : State) : Host.Outcome State Fault Refusal := .next (s.ddpCtlWrite (setBits v 0 1 1))
/-- POOL_DISABLE (R142, R143): EN = 0. -/
def execPoolDisable (v : Word) (s : State) : Host.Outcome State Fault Refusal := .next (s.ddpCtlWrite (setBits v 0 1 0))
/-- POOL_COUNTER_CLEAR (R145, R146): CLRCNT = 1. -/
def execPoolCounterClear (v : Word) (s : State) : Host.Outcome State Fault Refusal := .next (s.ddpCtlWrite (setBits v 1 1 1))

end Sys2Proof.Machine
end

