-- ==== Sys2Proof/Machine/Rwc.lean ====
section
/-! DEFINITION. Read/Write Channels: cells and layout (R103, R104, R110, R111), transfers and gates (R112 to R114, R393), sync and sector
status (R115 to R122), the preamplifier's serial port (R123 to R125, R127) and its faults (R128); with the write hold and the trim that
ASC applies at gates (R177, R179). -/
namespace Sys2Proof.Machine

/-- Update a channel's hidden state. -/
def State.rwcMap (s : State) (a : Act) (f : RwcSt → RwcSt) : State := s.rwcSet a (f (s.rwcOf a))
/-- Update the telemetry state of an actuator. -/
def State.telMap (s : State) (a : Act) (f : TelSt → TelSt) : State :=
  { s with asc := { s.asc with tel := s.asc.tel.set a (f (s.asc.tel.get a)) } }

/-- Phase at which a cell begins (R103). -/
def cellPhase (dbits k : Nat) : Nat := 0xE00 + k * 59904 / dbits
/-- A compare-unit boundary at or after a phase (R113). -/
def ceilUnit (p : Nat) : Nat := (p + 15) / 16 * 16

/-- The placing procedure of R110 from wedge offset `w` and cell `c` on. -/
def placeSectors : Nat → Nat → Nat → Nat → List Place
  | 0, _, _, _ => []
  | n + 1, d, w, c =>
    if 512 ≤ w then []
    else if 37264 ≤ d - c then ⟨w, c, 0⟩ :: placeSectors n d w (c + 37264)
    else if 2176 ≤ d - c ∧ d - c < 37248 ∧ w + 1 < 512 then
      ⟨w, c, d - c - 128⟩ :: placeSectors n d (w + 1) (72 + (37120 - (d - c - 128)) + 16)
    else placeSectors n d (w + 1) 0

/-- Every sector of a track (R110). -/
def layout (dbits : Nat) : List Place := placeSectors 2048 dbits 0 0

/-- The fragments of a sector: wedge offset, first cell, the cell after the last, and whether the sector is complete with it (R106, R111). [assumption 50 DEDUCED] -/
def fragments (dbits : Nat) (p : Place) : List (Nat × Nat × Nat × Bool) :=
  if p.first = 0 then [(p.wedge, p.cell, p.cell + 37264, true)]
  else [(p.wedge, p.cell, dbits, false), (p.wedge + 1, 0, 72 + (37120 - p.first) + 16, true)]

/-- Phase at which a gate period that starts with a cell opens (R112, R113). -/
def openPhase (write : Bool) (dbits c : Nat) : Nat :=
  if write then (if c = 0 then 0xD00 else ceilUnit (cellPhase dbits c)) else atCompare (cellPhase dbits c)
/-- Phase at which a gate period that ends before a cell closes (R112, R113). -/
def closePhase (write : Bool) (dbits e : Nat) : Nat :=
  if write then ceilUnit (cellPhase dbits e) else atCompare (cellPhase dbits (e - 1)) + 16

/-- Gate periods of a run of fragments: one for each field span that holds some of it. [assumption 50 DEDUCED] -/
def gatePeriods (write : Bool) (dbits : Nat) : List (Nat × Nat × Nat × Bool) → List GatePeriod
  | [] => []
  | (w, c, e, l) :: t =>
    match gatePeriods write dbits t with
    | g :: gs =>
      if g.wedge = w then { g with openPh := openPhase write dbits c, frags := ⟨closePhase write dbits e, l⟩ :: g.frags } :: gs
      else ⟨w, openPhase write dbits c, [⟨closePhase write dbits e, l⟩]⟩ :: g :: gs
    | [] => [⟨w, openPhase write dbits c, [⟨closePhase write dbits e, l⟩]⟩]

/-- DBITS of a format. -/
def State.dbits (s : State) (a : Act) (f : Nat) : Nat := s.fget (F.RWC_FMT_DBITS a f)

/-- A format error (R104). -/
def State.formatBad (s : State) (a : Act) (fmt first count : Nat) : Bool :=
  let d := s.dbits a fmt
  d < 37264 || 89264 < d || count == 0 || (layout d).length < first + count

/-- A LOAD that is refused makes CHDONE and PARTIAL true at once (R158, R393). -/
def State.loadRefused (s : State) (a : Act) (op : Bool) : State :=
  let s := s.rwcMap a (fun r => { r with transfer := none, gate := none, chdone := true, partialEnd := true })
  let s := if op then s.opMap a MsqOp.owns (fun o => { o with chdone := true, partialEnd := true, pdone := 0 })
    else s.msqSet a { s.msqOf a with rereadOp := none }
  s.seqEvent a 10

/-- Load a transfer (R104, R129, R158): `kind` and the descriptor's operands. [assumptions 52 DEDUCED, 57 DESIGN CHOICE] -/
def State.rwcLoad (s : State) (a : Act) (kind : TransferKind) (fmt pset swedge first count daddr : Nat) : State :=
  let mine := decide (kind ≠ .reread)
  let again := ((s.msqOf a).cur.map (·.loaded)).getD false
  if ((s.rwcOf a).transfer.map (·.started)).getD false then s
  else
    let s := s.opMap a MsqOp.owns (fun o => { o with loaded := false })
    let m := s.msqOf a
    let fresh := fun (o : MsqOp) => { o with loaded := true, chdone := false, pdone := 0, partialEnd := false }
    let s := if mine then s.msqSet a { m with cur := m.cur.map fresh } else s
    if !s.flag (F.RWC_CTL_EN a) then s.loadRefused a mine
    else if s.formatBad a fmt first count || s.forced (Blk.rwc a) 0 4 then
      let real := s.formatBad a fmt first count
      let s := (s.fsetB (F.RWC_STS_FMTERR a) true).raiseFault (Blk.rwc a) 0 4 3 (s.sacInfo a) real
      let s := if kind = .read then s.handBlanks a 9 0 count
        else if kind = .reread then (s.count (Rg.RWC_SECT_LO a)).count (Rg.RWC_FAIL_LO a) else s
      s.loadRefused a mine
    else
      let d := s.dbits a fmt
      let ps := ((layout d).drop first).take count
      let frs := (ps.map (fragments d)).flatten
      let t : Transfer := { kind := kind, fmt := fmt, swedge := swedge, first := first, count := count, daddr := daddr,
                            periods := gatePeriods (decide (kind = .write)) d frs, started := false, stopped := false, nextWord := 0,
                            done := 0, extras := [], mid := false, places := ps, marks := [] }
      s.rwcMap a (fun r => { r with transfer := some t, gate := none, chdone := false, partialEnd := false,
                                    lastMark := if mine && !again then none else r.lastMark,
                                    pset := (List.range 32).map (fun j => s.rd (Rg.RWC_PSET_W0 a (pset % 64) + 4 * j)) })

/-- START (R158, R393, R95): ignored with nothing loaded; an active preamplifier fault is a write fault of a write. -/
def State.rwcStart (s : State) (a : Act) : State :=
  match (s.rwcOf a).transfer with
  | none => s
  | some t =>
    if t.started then s
    else
      let s := (s.rwcMap a (fun r => { r with transfer := some { t with started := true } })).fsetB (F.RWC_STS_BUSY a) true
      let s := s.opMap a MsqOp.owns (fun o => { o with started := true })
      if decide (t.kind = .write) && s.flag (F.RWC_STS_PFLT a) then s.writeFault a true else s

/-- ABORT (R158): before START the transfer ends at once; with nothing loaded or running no effect. -/
def State.rwcAbort (s : State) (a : Act) : State :=
  match (s.rwcOf a).transfer with
  | none => s
  | some t => if t.started then s.stopSoft a true else s.stopTransfer a

/-- Whether ASC holds writes on an actuator (R179). -/
def State.ascHold (s : State) (a : Act) : Bool :=
  (match (s.asc.tel.get a).armed with
   | some (h, _) => (s.fget (a.sel F.ASC_HDIS_HEAD0 F.ASC_HDIS_HEAD1) >>> h) % 2 == 1
   | none => false) || !s.flag F.ASC_STS_TWIN || s.flag F.ASC_STS_CRIT

/-- Bring ASC_STS.HOLDn up to date (R179); a hold ends a write transfer as R393 says. [assumption 82 DEDUCED] -/
def State.holdUpdate (s : State) (a : Act) : State :=
  let h := s.ascHold a
  let s := s.fsetB (a.sel F.ASC_STS_HOLD0 F.ASC_STS_HOLD1) h
  if h && s.writeInProgress a then s.stopSoft a false else s

/-- R179 for both actuators. -/
def State.holdBoth (s : State) : State := (s.holdUpdate .zero).holdUpdate .one

/-- The trim update of R177 at the end of a gate period, and the telemetry state at rest. [assumption 88 DEDUCED] -/
def State.trimUpdate (s : State) (a : Act) : State :=
  let t := s.asc.tel.get a
  let s := match t.armed with
    | some (h, some used) =>
      if 16 ≤ t.n then
        let n := a.num
        let m : Int := t.sum / t.n
        let x := asr (used * (s.fget (F.ASC_TEL_SCALE n) : Int)) 12
        let lim : Int := 16 * s.fget (F.ASC_TEL_TRIMLIM n)
        s.sset (F.ASC_SP_W7_TRIM n h) (clampI (s.sget (F.ASC_SP_W7_TRIM n h) + asr ((x - m) * (s.fget (F.ASC_TEL_LOOPG n) : Int)) 8) (-lim) lim)
      else s
    | _ => s
  s.telMap a (fun t => { t with overs := 0, missing := 0, frames := 0, sum := 0, n := 0 })

/-- Time passes to the next occurrence of a wedge and phase (R32). -/
def State.angleToPos (s : State) (wedge phase : Nat) : State :=
  let pos := wedge % 512 * wedgeUnits + phase
  let d := (pos + revUnits - s.ttb.angle.toNat % revUnits) % revUnits
  s.angleTo (s.ttb.angle + BitVec.ofNat 64 d)

/-- Whether a gate period may open (R22, R92, R112, R127, R179, R327, R329, R393). -/
def State.gateAllowed (s : State) (a : Act) (t : Transfer) : Bool :=
  let m := s.msqOf a
  if t.kind = .write then
    m.writeReq && s.wrpermHolds a && !s.ascHold a && !s.safeStop a && s.flag (F.RWC_CTL_EN a) && !s.flag F.FLT_MON_FALLBACK
  else m.readReq && (!s.flag F.TTB_STS_RINH || t.mid) && !s.flag (F.RWC_STS_PFLT a) && s.flag (F.RWC_CTL_EN a)

/-- The bytes that the channel writes for a sector: bytes 0 to 4,123 as fetched and the CRC-32C of them (R107). [assumption 59 DESIGN CHOICE] -/
def State.writeBytes (s : State) (addr : Nat) : List Byte :=
  let b := s.bytes addr 4124
  b ++ leBytes 4 (crc32c b)

/-- The bits of bytes, most significant first (R107). -/
def bitsMsb (l : List Byte) : List Bool := (l.map (fun b => [b.getLsbD 7, b.getLsbD 6, b.getLsbD 5, b.getLsbD 4, b.getLsbD 3, b.getLsbD 2,
  b.getLsbD 1, b.getLsbD 0])).flatten

/-- Cut bits into blocks of 256, bit i of a block at index i (R109). -/
def blocks256 : Nat → List Bool → List (BitVec 256)
  | 0, _ => []
  | n + 1, l => BitVec.ofNat 256 ((l.take 256).foldr (fun b x => x * 2 + b.toNat) 0) :: blocks256 n (l.drop 256)

/-- The codeword of a sector's information bytes (R107 to R109): scrambled information bits and parity. [assumption 59 DESIGN CHOICE] -/
def codeword (info : List Byte) : List Bool :=
  let bits := scramble (bitsMsb info) scrInit
  let par := ldpcParity (blocks256 129 bits)
  bits ++ (par.map (fun p => (List.range 256).map (fun i => p.getLsbD i))).flatten

/-- GATE_PERIOD_OPEN (R112, R113, R114, R393): `ready` sectors that begin in the period have all their bytes in the write FIFO. [assumption 51 DESIGN CHOICE] -/
def gatePeriodOpenOp (a : Act) (ready : Nat) (s : State) : State :=
  let r := s.rwcOf a
  match r.transfer with
  | none => s
  | some t =>
    match t.periods with
    | [] => s
    | g :: rest =>
      if !t.started || r.gate.isSome then s
      else
        let s := s.angleToPos (t.swedge + g.wedge) g.openPh
        if !s.gateAllowed a t then s.stopTransfer a
        else if t.kind = .write then
          let begins := g.frags.length - t.mid.toNat
          let forced := s.forced (Blk.rwc a) 0 2
          let ready := if forced then 0 else min ready begins
          let short := decide (ready < begins)
          let real := decide (ready < begins) && !forced
          let s := if short then (s.fsetB (F.RWC_STS_UNDERRUN a) true).raiseFault (Blk.rwc a) 0 2 1 (s.sacInfo a) real else s
          let frags := g.frags.take (t.mid.toNat + ready)
          let split := match frags.getLast? with
            | some f => !f.last
            | none => false
          let next := if short then (if split then secondOnly rest else []) else rest
          let t := { t with stopped := t.stopped || short, periods := next }
          let s := s.rwcMap a (fun r => { r with transfer := some t })
          if frags.isEmpty then s.settleTransfer a
          else
            let s := s.rwcMap a (fun r => { r with gate := some { g with frags := frags }, wdata := s.writeBytes (t.daddr + 4128 * (t.done + frags.length - 1)) })
            (s.fsetB (F.RWC_STS_IDLE a) false).telMap a (fun x => { x with overs := 0, missing := 0, frames := 0, sum := 0, n := 0 })
        else s.rwcMap a (fun r => { r with gate := some g, transfer := some { t with periods := rest } })

/-- GATE_PERIOD_OPEN. -/
def execGatePeriodOpen (a : Act) (ready : Nat) (s : State) : Host.Outcome State Fault Refusal := .next (gatePeriodOpenOp a ready s)

/-- GATE_PERIOD_CLOSE (R112, R113, R158, R177): the period ends after its last cell. -/
def gatePeriodCloseOp (a : Act) (s : State) : State :=
  let r := s.rwcOf a
  match r.transfer, r.gate with
  | some t, some g =>
    let last := (g.frags.getLast?).getD ⟨0, true⟩
    let s := s.angleToPos (t.swedge + g.wedge) last.endPh
    let t := { t with done := t.done + (g.frags.filter (·.last)).length, mid := !last.last }
    let s := s.rwcMap a (fun r => { r with gate := none, transfer := some t })
    let s := if t.kind = .write then (s.fsetB (F.RWC_STS_IDLE a) true).trimUpdate a else s
    s.settleTransfer a
  | _, _ => s

/-- GATE_PERIOD_CLOSE. -/
def execGatePeriodClose (a : Act) (s : State) : Host.Outcome State Fault Refusal := .next (gatePeriodCloseOp a s)

/-- Whether a mark is a candidate (R14, R115): at most SMTOL wrong bits, its stamp in the window about cell `e`. -/
def syncCandidate (d e tol : Nat) (c : SyncCand) : Bool :=
  let k : Int := e + c.off
  c.errs ≤ tol && decide (0 ≤ k) &&
    decide (atCompare (cellPhase d (e - 48)) ≤ atCompare (cellPhase d k.toNat)) &&
    decide (atCompare (cellPhase d k.toNat) < atCompare (cellPhase d (e + 48)) + 16)

/-- The better of two candidates: the larger metric, of equals the earlier cell (R115). -/
def betterCand (x y : SyncCand) : SyncCand :=
  if x.metric < y.metric ∨ (x.metric = y.metric ∧ y.off < x.off) then y else x

/-- Best candidate of a list. -/
def bestCand : List SyncCand → Option SyncCand
  | [] => none
  | c :: t => match bestCand t with
    | none => some c
    | some b => some (betterCand c b)

/-- The candidates that the channel keeps: the best, and the best at least 4 cells from it (R115). -/
def keptCands (l : List SyncCand) : List SyncCand :=
  match bestCand l with
  | none => []
  | some b => b :: (bestCand (l.filter (fun c => decide (4 ≤ mag (c.off - b.off))))).toList

/-- SYNC_WINDOW_CLOSE (R115, R117, R122): the search window of the next sector's sync mark, or of the resync mark of a split sector whose
second fragment is being read. [assumption 55 DEDUCED] -/
def syncWindowCloseOp (a : Act) (cands : List SyncCand) (s : State) : State :=
  let r := s.rwcOf a
  match r.transfer, r.gate with
  | some t, some g =>
    if t.kind = .write then s
    else
      let d := s.dbits a t.fmt
      let tol := min 4 (s.fget (F.RWC_DCFG_SMTOL a))
      let k := t.nextWord + t.marks.length
      let last := t.marks.getLast?
      let keep := fun (e : Nat) => keptCands (cands.filter (syncCandidate d e tol))
      let note := fun (s : State) (l : List SyncCand) (m : List (List SyncCand × Option (List SyncCand))) =>
        let s := s.rwcMap a (fun r => { r with transfer := some { t with marks := m } })
        if l.isEmpty then s.count (Rg.RWC_SMISS_LO a) else s
      match last with
      | some (c, none) =>
        if t.mid && k == t.done + 1 then
          let l := keep 71
          note s l (t.marks.dropLast ++ [(c, some l)])
        else if k < t.done + g.frags.length then
          let l := keep ((t.places.getD k ⟨0, 0, 0⟩).cell + 127)
          note s l (t.marks ++ [(l, none)])
        else s
      | _ =>
        if k < t.done + g.frags.length && !(t.mid && k == t.done) then
          let l := keep ((t.places.getD k ⟨0, 0, 0⟩).cell + 127)
          note s l (t.marks ++ [(l, none)])
        else s
  | _, _ => s

/-- SYNC_WINDOW_CLOSE. -/
def execSyncWindowClose (a : Act) (cands : List SyncCand) (s : State) : Host.Outcome State Fault Refusal :=
  .next (syncWindowCloseOp a cands s)

/-- One attempt of R116: whether it is extra, the RESULT it gives if good, its hypothesis, the offset of the mark used, its alignment
relative to the expected cell, and whether the second fragment is aligned by prediction. -/
structure Attempt where
  extra : Bool
  res : Nat
  hyp : Int
  off : Int
  pos : Int
  rsp : Bool

/-- Hypotheses 0, −1, +1, −2, +2, … (R116). -/
def hypotheses (n : Nat) : List Int :=
  ((0 : Int) :: ((List.range 4).map (fun k => [-((k + 1 : Nat) : Int), ((k + 1 : Nat) : Int)])).flatten).take n

/-- The attempts for a sector in their order (R116, R117). [assumption 53 DEDUCED] -/
def attemptPlan (split apsen second : Bool) (tries : Nat) (lastOff : Int) (cs : List SyncCand) (rs : List SyncCand) : List Attempt :=
  let rOk := !split || !rs.isEmpty
  match cs with
  | b :: more =>
    if rOk then
      ⟨false, 0, 0, b.off, b.off, false⟩ ::
        (if second then (more.take 1).map (fun c => ⟨true, 1, 0, c.off, c.off, false⟩) ++
            (if split then ((rs.drop 1).take 1).map (fun _ => ⟨true, 1, 0, b.off, b.off, false⟩) else []) else [])
    else
      ⟨false, 0, 0, b.off, b.off, true⟩ ::
        ((if second then (more.take 1).map (fun c => ⟨true, 1, 0, c.off, c.off, true⟩) else []) ++
          (if apsen then ((hypotheses tries).drop 1).map (fun h => ⟨true, 0, h, b.off, b.off, true⟩) else []))
  | [] => if apsen then (hypotheses tries).map (fun h => ⟨true, 2, h, 0, lastOff + h, !rOk⟩) else []

/-- What the attempts come to. -/
structure Verdict where
  result : Nat
  used : Option (Attempt × AttemptOut)
  made : List Attempt

/-- RESULT of a sector whose attempts fail (Table 5.5). [assumption 54 DEDUCED] -/
def failCode (split : Bool) (cs rs : List SyncCand) : Nat := if cs.isEmpty then 4 else if split && rs.isEmpty then 6 else 3

/-- RESULT when no attempt is left (R118): 5 if the last one ended with a zero syndrome. [assumption 54 DEDUCED] -/
def exhausted (fail : Nat) (last : Option (Attempt × AttemptOut)) : Nat :=
  match last with
  | some (_, o) => if o.syndromeZero then 5 else fail
  | none => fail

/-- Run the attempts (R116, R118): the first good one ends the sector; extra ones need `allowed`. [assumption 54 DEDUCED] -/
def runAttempts (fail : Nat) (allowed : Bool) (last : Option (Attempt × AttemptOut)) (made : List Attempt) :
    List Attempt → List AttemptOut → Verdict
  | [], _ => ⟨exhausted fail last, last, made⟩
  | p :: ps, outs =>
    if p.extra && !allowed then ⟨7, last, made⟩
    else match outs with
      | [] => ⟨exhausted fail last, last, made⟩
      | o :: os =>
        if o.syndromeZero && o.crcOk then ⟨p.res, some (p, o), made ++ [p]⟩
        else runAttempts fail allowed (some (p, o)) (made ++ [p]) ps os

/-- The sector status word of Table 5.5. -/
def statusWord (v : Verdict) (frag ta : Bool) (i : Nat) : BitVec 64 :=
  let p := v.used.map (fun (u : Attempt × AttemptOut) => u.1)
  let o := v.used.map (fun (u : Attempt × AttemptOut) => u.2)
  BitVec.ofNat 64 (v.result % 16 + (o.map (fun (x : AttemptOut) => x.git)).getD 0 % 8 * 2 ^ 4 +
    lowBits 4 ((p.map (fun (x : Attempt) => x.hyp)).getD 0) * 2 ^ 8 + lowBits 8 ((p.map (fun (x : Attempt) => x.off)).getD 0) * 2 ^ 12 +
    frag.toNat * 2 ^ 20 + ta.toNat * 2 ^ 21 + ((p.map (fun (x : Attempt) => x.rsp)).getD false).toNat * 2 ^ 22 + i % 256 * 2 ^ 23 +
    (o.map (fun (x : AttemptOut) => x.unsat)).getD 0 % 4096 * 2 ^ 32 +
    min 65535 ((o.map (fun (x : AttemptOut) => x.flips)).getD 0) * 2 ^ 44)

/-- What the pool is told of a sector's marks (R131): for each fragment the candidates not tried, the hypotheses tried (R116, R117) and the
alignment to begin with. [assumption 61 DEDUCED] -/
def jobSync (split : Bool) (lastOff : Int) (cs rs : List SyncCand) (made : List Attempt) : JobSync :=
  let off := fun (l : List SyncCand) => l.map (fun (c : SyncCand) => c.off)
  let first := (off cs).headD lastOff
  { split := split
    cands := (off cs).filter (fun c => !(made.any (fun p => p.off == c)))
    tried := if cs.isEmpty then made.map (·.pos) else []
    first := first
    cands2 := (off rs).drop (if cs.isEmpty then min 1 made.length else made.countP (fun p => p.off == first))
    tried2 := if split && rs.isEmpty then (made.filter (·.rsp)).map (fun p => first + p.hyp) else []
    second := (off rs).headD first
    predicted := cs.isEmpty || (split && rs.isEmpty) }

/-- SECTOR_DECODED (R116 to R120, R122, R130, R131): a sector's attempts finish; its word is handed over, good data stored, and a failed
sector of recovery class FULL or NOREV becomes a pool job. [assumptions 57 DESIGN CHOICE, 59 DESIGN CHOICE, 76 DEDUCED] -/
def sectorDecodedOp (a : Act) (m : DecodeIn) (s : State) : State :=
  let r := s.rwcOf a
  match r.transfer with
  | none => s
  | some t =>
    let i := t.nextWord
    let reach := t.done + ((r.gate.map (fun (g : GatePeriod) => (g.frags.filter (·.last)).length)).getD 0)
    if t.kind ≠ .read ∨ reach ≤ i then s
    else
      let split := (t.places.getD i ⟨0, 0, 0⟩).first != 0
      let mk := t.marks.headD ([], none)
      let rs := mk.2.getD []
      let op := ((s.msqOf a).cur.toList ++ (s.msqOf a).ended).find? MsqOp.owns
      let track := (op.map (fun (o : MsqOp) => descBits o.desc 1 0 24)).getD 0
      let lastOff := match r.lastMark with
        | some (tr, o) => if tr = track then o else 0
        | none => 0
      let plan := attemptPlan split (s.flag (F.RWC_DCFG_APSEN a)) (s.flag (F.RWC_DCFG_SECOND a)) (min 9 (s.fget (F.RWC_DCFG_SYNCTRY a)))
        lastOff mk.1 rs
      let allowed := decide ((t.extras.filter id).length < 3)
      let v := runAttempts (failCode split mk.1 rs) allowed none [] plan m.attempts
      let ta := s.flag (F.RWC_DCFG_TAEN a) && decide (8 ≤ m.satRun)
      let t := { t with nextWord := i + 1, marks := t.marks.drop 1, extras := (v.made.any (·.extra) :: t.extras).take 7 }
      let s := s.rwcMap a (fun r => { r with transfer := some t, samples := ((i, m.smpA, m.smpB) :: r.samples).take 4,
                                             lastMark := match mk.1.head? with
                                               | some c => some (track, c.off)
                                               | none => r.lastMark })
      let s := s.handWord a i (statusWord v split ta i)
      let s := match op with
        | none => s
        | some o =>
          let s := if v.result ≤ 2 && descOpc o.desc != 3 then s.setBytes (t.daddr + 4128 * i) (m.data.take 4128) else s
          let cls := descBits o.desc 0 13 2
          if 3 ≤ v.result && v.result ≤ 7 && (cls == 1 || cls == 2) then
            s.createJob a o i (jobSync split lastOff mk.1 rs v.made) m.smpA m.smpB
          else s
      s.settleTransfer a

/-- SECTOR_DECODED. -/
def execSectorDecoded (a : Act) (m : DecodeIn) (s : State) : Host.Outcome State Fault Refusal := .next (sectorDecodedOp a m s)

/-- REREAD_PASS (R122, R137, R159): the pass of a re-read arrives; its word is handed over, its samples go to the pool and its transfer
ends.  A pass that was not completed has RESULT 8. -/
def rereadPassOp (slot : Nat) (m : PassIn) (s : State) : State :=
  match s.jobAt slot with
  | none => s
  | some j =>
    let a := j.act
    let held := match (s.rwcOf a).transfer with
      | some t => decide (t.kind = .reread) && t.daddr == slot && t.done == 1 && (s.rwcOf a).gate.isNone
      | none => false
    if j.state = .waitPass ∧ (held || m.result == 8) then
      let s := s.count (Rg.RWC_SECT_LO a)
      let s := if 3 ≤ m.result then s.count (Rg.RWC_FAIL_LO a) else s
      let s := s.passArrives slot m
      if held then s.chDone a else s
    else s

/-- REREAD_PASS. -/
def execRereadPass (slot : Nat) (m : PassIn) (s : State) : Host.Outcome State Fault Refusal := .next (rereadPassOp slot m s)

/-- Whether a frame was issued by ASC. -/
def SerFrame.ofAsc (f : SerFrame) : Bool := decide (f.src = .asc)

/-- Bring PSBUSY and APBUSYn up to date (R125, R174). -/
def State.portStatus (s : State) (a : Act) : State :=
  let r := s.rwcOf a
  let s := s.fsetB (F.RWC_STS_PSBUSY a) (r.frame.isSome || !r.seqWait.isEmpty || r.fwWait.isSome)
  s.fsetB (a.sel F.ASC_STS_APBUSY0 F.ASC_STS_APBUSY1) ((r.frame.toList ++ r.seqWait).any SerFrame.ofAsc)

/-- The sequencer requests a frame (R125). -/
def State.seqFrame (s : State) (a : Act) (f : SerFrame) : State :=
  (s.rwcMap a (fun r => { r with seqWait := r.seqWait ++ [f] })).portStatus a

/-- A write of RWCn_PSCMD (R125): with GO = 1 while PSBUSY = 1 it is discarded. -/
def State.pscmdWrite (s : State) (a : Act) (v : Word) : State :=
  if (F.RWC_PSCMD_GO a).on v && !s.flag (F.RWC_STS_PSBUSY a) then
    let f := SerFrame.mk .firmware ((F.RWC_PSCMD_RD a).on v) (BitVec.ofNat 16 ((F.RWC_PSCMD_ADDR a).of v))
      (BitVec.ofNat 16 (s.fget (F.RWC_PSDATA_DATA a)))
    (s.rwcMap a (fun r => { r with fwWait := some f })).portStatus a
  else s

/-- SERIAL_FRAME_COMMAND (R125): a write of RWCn_PSCMD with GO = 1. -/
def execSerialFrameCommand (a : Act) (v : Word) (s : State) : Host.Outcome State Fault Refusal := .next (s.pscmdWrite a (setBits v 31 1 1))

/-- SERIAL_FRAME_START (R123, R125): PSEN_n rises for the next waiting frame, the sequencer's before firmware's. -/
def serialFrameStartOp (a : Act) (s : State) : State :=
  let r := s.rwcOf a
  if r.frame.isSome then s
  else match r.seqWait with
    | f :: t => (s.rwcMap a (fun r => { r with frame := some f, seqWait := t, trailer := false })).portStatus a
    | [] => match r.fwWait with
      | some f => (s.rwcMap a (fun r => { r with frame := some f, fwWait := none, trailer := false })).portStatus a
      | none => s

/-- SERIAL_FRAME_START. -/
def execSerialFrameStart (a : Act) (s : State) : Host.Outcome State Fault Refusal := .next (serialFrameStartOp a s)

/-- The frame in progress ends (PSEN_n falls). -/
def State.frameEnd (s : State) (a : Act) : State :=
  (s.rwcMap a (fun r => { r with frame := none, trailer := false })).portStatus a

/-- A frame completes (R123): its report depends on who issued it. -/
def State.frameDone (s : State) (a : Act) (f : SerFrame) (data : BitVec 16) : State :=
  let s := s.frameEnd a
  match f.src with
  | .firmware => (if f.rd then s.fset (F.RWC_PSDATA_DATA a) data.toNat else s).raiseEvent (a.sel 84 85)
  | .pre => (s.msqSet a { s.msqOf a with psto := false, preData := if f.rd then data else (s.msqOf a).preData }).seqEvent a 8
  | .asc => s

/-- SERIAL_TIMEOUT (R124, R128): WAIT clocks pass without a start bit in a read frame; 17 further clocks follow. [assumption 56 DEDUCED] -/
def serialTimeoutOp (a : Act) (s : State) : State :=
  match (s.rwcOf a).frame with
  | some f =>
    if f.rd && !(s.rwcOf a).trailer then
      let s := s.rwcMap a (fun r => { r with trailer := true })
      (s.fsetB (F.RWC_STS_PSTO a) true).raiseFault (Blk.rwc a) 0 3 3 (s.sacInfo a) (!s.forced (Blk.rwc a) 0 3)
    else s
  | none => s

/-- SERIAL_TIMEOUT. -/
def execSerialTimeout (a : Act) (s : State) : Host.Outcome State Fault Refusal := .next (serialTimeoutOp a s)

/-- LATE_PREAMP_REPLY (R124, R332): a start bit within the 17 further clocks. -/
def latePreampReplyOp (a : Act) (s : State) : State :=
  if (s.rwcOf a).trailer then
    (s.count (Rg.RWC_LATE_CPL_LO a)).raiseFault (Blk.rwc a) 0 1 0 (s.sacInfo a) (!s.forced (Blk.rwc a) 0 1)
  else s

/-- LATE_PREAMP_REPLY. -/
def execLatePreampReply (a : Act) (s : State) : Host.Outcome State Fault Refusal := .next (latePreampReplyOp a s)

/-- PREAMP_FAULT (R95, R127): PFLT_n# falls. -/
def preampFaultOp (a : Act) (s : State) : State :=
  if s.flag (F.RWC_STS_PFLT a) then s
  else
    let s := (s.fsetB (F.RWC_STS_PFLT a) true).raiseFault (Blk.rwc a) 0 5 3 (s.sacInfo a) (!s.forced (Blk.rwc a) 0 5)
    if s.writeInProgress a then s.writeFault a true else s.permUpdate a

/-- PREAMP_FAULT. -/
def execPreampFault (a : Act) (s : State) : Host.Outcome State Fault Refusal := .next (preampFaultOp a s)

/-- PREAMP_FAULT_CLEAR (R92, R127): PFLT_n# rises. -/
def execPreampFaultClear (a : Act) (s : State) : Host.Outcome State Fault Refusal :=
  .next ((s.fsetB (F.RWC_STS_PFLT a) false).permUpdate a)

/-- A write of RWCn_CTL (Table 5.9): EN = 0 idles the pair and ends a transfer; CLRCNT clears the four counters. [assumption 58 DEDUCED] -/
def State.rwcCtlWrite (s : State) (a : Act) (v : Word) : State :=
  let en := (F.RWC_CTL_EN a).on v
  let s := s.fsetB (F.RWC_CTL_EN a) en
  let s := if (F.RWC_CTL_CLRCNT a).on v then
      (((s.clearCount (Rg.RWC_SECT_LO a)).clearCount (Rg.RWC_FAIL_LO a)).clearCount (Rg.RWC_SMISS_LO a)).clearCount (Rg.RWC_LATE_CPL_LO a)
    else s
  if en then s else (((s.forceOff a).rwcMap a (fun r => { r with gate := none })).fsetB (F.RWC_STS_IDLE a) true).stopTransfer a

/-- CHANNEL_ENABLE (R129): EN = 1. -/
def execChannelEnable (a : Act) (v : Word) (s : State) : Host.Outcome State Fault Refusal := .next (s.rwcCtlWrite a (setBits v 0 1 1))
/-- CHANNEL_COUNTER_CLEAR (R11, R129): CLRCNT = 1. -/
def execChannelCounterClear (a : Act) (v : Word) (s : State) : Host.Outcome State Fault Refusal := .next (s.rwcCtlWrite a (setBits v 1 1 1))

end Sys2Proof.Machine
end

