-- ==== Sys2Proof/Machine/Asc.lean ====
section
/-! DEFINITION. Energy Assist, Calibration and Thermal Management: set-points (R172 to R175), telemetry and over-power (R176 to R179),
temperatures (R180 to R183), calibration (R184 to R187) and ageing (R188). -/
namespace Sys2Proof.Machine

/-- Drive temperature minus TREF, in 1/16 °C; 0 while it is not valid (R173). -/
def State.deltaT (s : State) : Int :=
  if s.flag F.ASC_STS_DTVALID then s.sget F.ASC_DTEMP_TEMP - s.sget F.ASC_RECAL_TREF * 16 else 0

/-- Live word `j` of a head's set-points (R172). -/
def State.spLive (s : State) (a : Act) (h j : Nat) : Word := s.liveRd (Rg.ASC_SP_W0 a.num h + 4 * j)

/-- Effective codes rh, wh and as of a head (R173). -/
def State.spCodes (s : State) (a : Act) (h : Nat) : Int × Int × Int :=
  let b := s.spLive a h (s.bank a - 1)
  let c := s.spLive a h 5
  let k := s.spLive a h 6
  let dt := s.deltaT
  let t := fun (lo : Nat) => asr (sext 8 (bitsOf c lo 8) * dt) 8
  let amax : Int := bitsOf k 0 12
  let hmax : Int := bitsOf k 12 10
  (clampI ((bitsOf b 22 10 : Int) + t 16) 0 hmax, clampI ((bitsOf b 12 10 : Int) + t 8) 0 hmax,
   clampI ((bitsOf b 0 12 : Int) + t 0 + s.sget (F.ASC_SP_W7_TRIM a.num h)) 0 amax)

/-- Whether a head is write-disabled (R178). -/
def State.headDisabled (s : State) (a : Act) (h : Nat) : Bool := (s.fget (a.sel F.ASC_HDIS_HEAD0 F.ASC_HDIS_HEAD1) >>> h) % 2 == 1

/-- ASC issues a set-point frame (R174). -/
def State.ascFrame (s : State) (a : Act) (adr : Nat) (v : Int) : State :=
  s.seqFrame a ⟨.asc, false, BitVec.ofNat 16 adr, BitVec.ofInt 16 v⟩

/-- An ASC action of the sequencer (R174, R179, Table 7.6). [assumption 80 DEDUCED] -/
def State.ascAction (s : State) (a : Act) (h act : Nat) : State :=
  let htr := s.fget (F.ASC_PADDR_HTRADDR a.num)
  let ast := s.fget (F.ASC_PADDR_ASTADDR a.num)
  let c := s.spCodes a h
  let s := if act = 3 then (s.ascFrame a htr 0).ascFrame a ast 0
    else if 12 ≤ h then s
    else if act = 1 then s.ascFrame a htr c.1
    else if s.headDisabled a h then s.ascFrame a htr c.2.1
    else (s.ascFrame a htr c.2.1).ascFrame a ast c.2.2
  let armed : Option (Nat × Option Int) :=
    if act = 2 ∧ h < 12 then some (h, if s.headDisabled a h then none else some c.2.2) else none
  (s.telMap a (fun t => { t with armed := armed })).holdUpdate a

/-- Whether the drive temperature lies in the window that its state asks for (R181). -/
def State.windowTest (s : State) : Bool :=
  let t := s.sget F.ASC_DTEMP_TEMP
  let lo := s.sget F.ASC_TW_TWLO * 8
  let hi := s.sget F.ASC_TW_TWHI * 8
  let hy : Int := (s.fget F.ASC_TW_HYST : Int) * 8
  s.flag F.ASC_STS_DTVALID &&
    (if s.flag F.ASC_STS_TWIN then decide (lo ≤ t) && decide (t < hi) else decide (lo + hy ≤ t) && decide (t < hi - hy))

/-- Evaluate the write window (R181): a change to OUT raises the event and the notice, and holds follow. -/
def State.windowEval (s : State) : State :=
  let was := s.flag F.ASC_STS_TWIN
  let now := s.windowTest
  let forced := s.forced Blk.asc 2 2
  if was && (!now || forced) then
    (((s.fsetB F.ASC_STS_TWIN false).raiseEvent 91).raiseFault Blk.asc 2 2 0 0 (!now)).holdBoth
  else (s.fsetB F.ASC_STS_TWIN now).holdBoth

/-- WINDOW_EVALUATION (R181): every 100 ms of clock time. -/
def execWindowEvaluation (s : State) : Host.Outcome State Fault Refusal := .next (if s.flag F.ASC_CTL_EN then s.windowEval else s)

/-- Action 4 (R181, Table 7.6): TWOK is the state after the evaluation. -/
def State.ascTchk (s : State) (a : Act) : State :=
  let s := s.windowEval
  s.msqSet a { s.msqOf a with twok := s.flag F.ASC_STS_TWIN }

/-- The live result set's CRC (R186). -/
def State.calCrc (s : State) : State :=
  s.wr Rg.ASC_CALRES3 (BitVec.ofNat 32 (crc32c (leBytes 4 (s.rd Rg.ASC_CALRES0).toNat ++ leBytes 4 (s.rd Rg.ASC_CALRES1).toNat ++
    leBytes 4 (s.rd Rg.ASC_CALRES2).toNat)))

/-- A result becomes live (R185, R186). -/
def State.calLive (s : State) (gain : Nat) (off : Int) : State :=
  ((s.fset F.ASC_CALRES0_GAIN gain).sset F.ASC_CALRES0_OFFSET off).calCrc

/-- Copy the shadow words W0 to W6 of heads from `h` on to the live words (R175). -/
def State.spCopy (s : State) (a : Act) : Nat → State
  | 0 => s
  | h + 1 =>
    let base := Rg.ASC_SP_W0 a.num h
    ((((((((s.liveWr base (s.rd base)).liveWr (base + 4) (s.rd (base + 4))).liveWr (base + 8) (s.rd (base + 8))).liveWr (base + 12)
      (s.rd (base + 12))).liveWr (base + 16) (s.rd (base + 16))).liveWr (base + 20) (s.rd (base + 20))).liveWr (base + 24)
      (s.rd (base + 24)))).spCopy a h

/-- The rising edge of the ASC apply strobe (R175, R185). -/
def State.ascStrobe (s : State) : State :=
  let s := if s.flag F.ASC_CCTL_APPLY0 then (s.spCopy .zero 12).fsetB F.ASC_CCTL_APPLY0 false else s
  let s := if s.flag F.ASC_CCTL_APPLY1 then (s.spCopy .one 12).fsetB F.ASC_CCTL_APPLY1 false else s
  match s.asc.calPend with
  | some (g, o) => ((({ s with asc := { s.asc with calPend := none } }).calLive g o).fsetB F.ASC_CALSTS_PEND false)
  | none => s

/-- A write of ASC_CCTL (R175): W1S bits. -/
def State.ascCctlWrite (s : State) (v : Word) : State :=
  let s := if F.ASC_CCTL_APPLY0.on v then s.fsetB F.ASC_CCTL_APPLY0 true else s
  if F.ASC_CCTL_APPLY1.on v then s.fsetB F.ASC_CCTL_APPLY1 true else s

/-- SETPOINT_APPLY_ARM (R175). -/
def execSetpointApplyArm (v : Word) (s : State) : Host.Outcome State Fault Refusal := .next (s.ascCctlWrite v)

/-- Over-power or telemetry loss (R178, R179, R189). -/
def State.overPower (s : State) (a : Act) (real : Bool) : State :=
  let h := (((s.asc.tel.get a).armed.map (fun (p : Nat × Option Int) => p.1)).getD (s.sacOf a).head) % 16
  let s := s.forceOff a
  let f := a.sel F.ASC_HDIS_HEAD0 F.ASC_HDIS_HEAD1
  let s := (s.fsetB (a.sel F.ASC_STS_OVP0 F.ASC_STS_OVP1) true).fset f (s.fget f ||| 1 <<< h)
  let s := s.telMap a (fun t => { t with overs := 0, missing := 0 })
  ((s.count Rg.ASC_OVPCNT_LO).raiseFault Blk.asc a.num 6 3 (s.headInfo h) real).holdUpdate a

/-- The pair of an actuator is out of idle. -/
def State.pairOn (s : State) (a : Act) : Bool := !s.flag (F.RWC_STS_IDLE a)

/-- Even parity over the low `n` bits. -/
def evenParity : Nat → Nat → Bool
  | 0, _ => true
  | n + 1, x => (x % 2 == 0) == evenParity n (x / 2)

/-- TELEMETRY_FRAME (R176, R178): 20 bits, the first received in bit 19. [assumptions 81 DEDUCED, 83 DEDUCED, 88 DEDUCED] -/
def telemetryFrameOp (a : Act) (bits : BitVec 20) (s : State) : State :=
  if !s.flag F.ASC_CTL_EN then s
  else
    let x := bits.toNat
    let typ := x / 2 ^ 16 % 8
    let val := x / 2 ^ 4 % 4096
    let sq := x / 2 % 8
    let form := x / 2 ^ 19 == 0 && evenParity 19 x
    let t := s.asc.tel.get a
    let valid := form && t.seq == some ((sq + 7) % 8)
    let seq : Option Nat := if valid || (form && t.seq.isNone) then some sq else none
    let s := s.telMap a (fun t => { t with seq := seq })
    if s.pairOn a then
      let h := (t.armed.map (fun (p : Nat × Option Int) => p.1)).getD (s.sacOf a).head
      let lim := 4 * bitsOf (s.spLive a h 6) 22 10
      let hit := valid && typ == 0
      let forced := s.forced Blk.asc a.num 6
      let overs := if hit && (decide (lim < val)) then t.overs + 1 else 0
      let missing := if hit then 0 else t.missing + 1
      let frames := if hit then t.frames + 1 else t.frames
      let cnt := hit && decide (2 < frames)
      let s := s.telMap a (fun t => { t with overs := overs, missing := missing, frames := frames, n := if cnt then t.n + 1 else t.n,
                                             sum := if cnt then t.sum + val else t.sum })
      let opn := min 4 (max 1 (s.fget (F.ASC_TEL_OPN a.num)))
      let real := decide (opn ≤ overs) || decide (4 ≤ missing)
      if real || forced then s.overPower a real else s
    else s

/-- TELEMETRY_FRAME. -/
def execTelemetryFrame (a : Act) (bits : BitVec 20) (s : State) : Host.Outcome State Fault Refusal := .next (telemetryFrameOp a bits s)

/-- TELEMETRY_LOSS (R178): 4 consecutive frame periods without a valid TYPE 0 frame while the pair is out of idle. -/
def telemetryLossOp (a : Act) (s : State) : State :=
  if s.flag F.ASC_CTL_EN && s.pairOn a then s.overPower a true else s

/-- TELEMETRY_LOSS. -/
def execTelemetryLoss (a : Act) (s : State) : Host.Outcome State Fault Refusal := .next (telemetryLossOp a s)

/-- One sensor channel of a scan (R180). -/
def State.scanOne (s : State) (ch : Nat) (r : Option Int) : State :=
  let bad := match r with
    | some t => decide (t < -800) || decide (2400 ≤ t)
    | none => true
  let s := match r with
    | some t => s.sset (F.ASC_TSEN_TEMP ch) (satI 16 t)
    | none => s
  let was := s.flag (F.ASC_TSEN_FLT ch)
  let forced := s.forced Blk.asc 2 3
  let s := s.fsetB (F.ASC_TSEN_FLT ch) (bad || forced)
  if (bad && !was) || forced then s.raiseFault Blk.asc 2 3 2 0 bad else s

/-- The readings of a scan, from channel `ch` on. -/
def State.scanAll (s : State) (ch : Nat) : List (Option Int) → State
  | [] => s
  | r :: t => if 14 ≤ ch then s else (s.scanOne ch r).scanAll (ch + 1) t

/-- The largest reading of the channels that are free of fault among those listed; of equals the lowest channel (R180). -/
def State.hottest (s : State) : List Nat → Option (Nat × Int)
  | [] => none
  | c :: t =>
    if s.flag (F.ASC_TSEN_FLT c) then s.hottest t
    else match s.hottest t with
      | some (d, v) => if s.sget (F.ASC_TSEN_TEMP c) < v then some (d, v) else some (c, s.sget (F.ASC_TSEN_TEMP c))
      | none => some (c, s.sget (F.ASC_TSEN_TEMP c))

/-- Throttle request and its end (R182). -/
def State.throttleCheck (s : State) (j : Int) : State :=
  let thr : Int := min 120 (s.fget F.ASC_THR_THROT)
  let hys : Int := s.fget F.ASC_THR_THHYS
  let real := decide (thr * 16 ≤ j)
  if (real || s.forced Blk.asc 2 1) && !s.flag F.ASC_STS_THREQ then
    ({ s with asc := { s.asc with grace := true } }).fsetB F.ASC_STS_THREQ true |>.raiseEvent 90 |>.raiseFault Blk.asc 2 1 0 0 real
  else if j < (thr - hys) * 16 then
    ((({ s with asc := { s.asc with grace := false } }).fsetB F.ASC_STS_THREQ false).fsetB F.ASC_STS_THENF false).ceilingUpdate
  else s

/-- Unload an actuator if its state permits it (R183). -/
def State.unloadIfMay (s : State) (a : Act) : State := if s.sacPermits a 3 0 then s.sacCommand a 3 0 else s

/-- Critical temperature (R183). -/
def State.criticalCheck (s : State) (j : Int) : State :=
  let real := decide ((min 120 (s.fget F.ASC_THR_CRIT) : Nat) * 16 ≤ j)
  if (real || s.forced Blk.asc 2 7) && !s.flag F.ASC_STS_CRIT then
    let s := ((s.fsetB F.ASC_STS_CRIT true).raiseFault Blk.asc 2 7 4 0 real).holdBoth
    let s := (s.unloadIfMay .zero).unloadIfMay .one
    s.spcCtlWrite (setBits (s.rd Rg.SPC_CTL) 0 1 0)
  else s

/-- Start a calibration run (R184): ignored, with CODE 1, while one is in progress. -/
def State.calStart (s : State) : State :=
  if s.flag F.ASC_CALSTS_BUSY then s.fset F.ASC_CALSTS_CODE 1
  else (s.fsetB F.ASC_CALSTS_BUSY true).fset F.ASC_CALSTS_TRIES 0

/-- The recalibration trigger (R187). -/
def State.recalCheck (s : State) : State :=
  if s.flag F.ASC_RECAL_AUTO && s.flag F.ASC_STS_DTVALID then
    let dt := s.sget F.ASC_DTEMP_TEMP
    let due := match s.asc.recTemp with
      | none => true
      | some r => decide (max 1 (s.fget F.ASC_RECAL_DELTA) * 16 ≤ mag (dt - r))
    if due then ((s.fsetB F.ASC_STS_RECALDUE true).raiseEvent 92).calStart else s
  else s

/-- Host Controlled Thermal Management (R277): a cap begins at its threshold and is lifted 2 K below it; 0 disables a threshold. [assumption 163 DEDUCED] -/
def State.hctmUpdate (s : State) : State :=
  let t := s.composite
  let next := fun (thr : Nat) (was : Bool) => decide (0 < thr) && (decide ((thr : Int) ≤ t) || (was && !decide (t ≤ (thr : Int) - 2)))
  let c1 := next s.hep.tmt1 s.hep.cap1
  let c2 := next s.hep.tmt2 s.hep.cap2
  let s := s.hepMap (fun h => { h with cap1 := c1, cap2 := c2 })
  ({ s with pwr := { s.pwr with hctmCap := if c2 then 1 else if c1 then 3 else 5 } }).ceilingUpdate

/-- TEMPERATURE_SCAN (R180, R182, R183, R187): 14 readings in 1/16 °C, none for an open or shorted diode. [assumptions 83 DEDUCED, 87 DEDUCED] -/
def temperatureScanOp (readings : List (Option Int)) (s : State) : State :=
  if !s.flag F.ASC_CTL_EN || s.flag F.ASC_CALSTS_BUSY then s
  else
    let s := s.scanAll 0 readings
    let jt := s.hottest (List.range 12)
    let s := match jt with
      | some (c, v) => (s.sset F.ASC_JTEMP_TEMP v).fset F.ASC_JTEMP_SRC c
      | none => s
    let mask := s.fget F.ASC_DTMASK_MASK
    let s := match s.hottest ((List.range 14).filter (fun c => (mask >>> c) % 2 == 1)) with
      | some (c, v) => ((s.sset F.ASC_DTEMP_TEMP v).fset F.ASC_DTEMP_SRC c).fsetB F.ASC_STS_DTVALID true
      | none => s.fsetB F.ASC_STS_DTVALID false
    let s := match jt with
      | some (_, v) => (s.throttleCheck v).criticalCheck v
      | none => s
    s.recalCheck.hctmUpdate.warnUpdate

/-- TEMPERATURE_SCAN. -/
def execTemperatureScan (readings : List (Option Int)) (s : State) : Host.Outcome State Fault Refusal :=
  .next (temperatureScanOp readings s)

/-- THROTTLE_GRACE_EXPIRY (R182): THREQ still set when the grace timer expires. -/
def throttleGraceExpiryOp (s : State) : State :=
  if s.asc.grace && s.flag F.ASC_STS_THREQ then
    ((({ s with asc := { s.asc with grace := false } }).fsetB F.ASC_STS_THENF true).raiseFault Blk.asc 2 5 2 0
      (!s.forced Blk.asc 2 5)).ceilingUpdate
  else s

/-- THROTTLE_GRACE_EXPIRY. -/
def execThrottleGraceExpiry (s : State) : Host.Outcome State Fault Refusal := .next (throttleGraceExpiryOp s)

/-- A write of ASC_CALCTL (R184, R186). [assumption 86 DEDUCED] -/
def State.calCtlWrite (s : State) (v : Word) : State :=
  let s := ((s.fset F.ASC_CALCTL_IMMED (F.ASC_CALCTL_IMMED.of v)).fset F.ASC_CALCTL_AGREE (F.ASC_CALCTL_AGREE.of v)).fset F.ASC_CALCTL_AVG
    (F.ASC_CALCTL_AVG.of v)
  let s := if F.ASC_CALCTL_RESTORE.on v then
      let b := s.asc.calBuf
      if s.locked then s.fset F.ASC_CALSTS_CODE 5
      else if crc32c ((b.take 3).map (fun w => leBytes 4 w.toNat)).flatten = (b.getD 3 0).toNat then
        let s := (((s.wr Rg.ASC_CALRES0 (b.getD 0 0)).wr Rg.ASC_CALRES1 (b.getD 1 0)).fset F.ASC_CALRES2_TEMP (bitsOf (b.getD 2 0) 0 16)).wr
          Rg.ASC_CALRES3 (b.getD 3 0)
        let s := { s with asc := { s.asc with recTemp := some (s.sget F.ASC_CALRES2_TEMP) } }
        ((s.fset F.ASC_CALSTS_SRC 2).fset F.ASC_CALSTS_CODE 0).wideSet Rg.ASC_CALTIME_LO 0
      else s.fset F.ASC_CALSTS_CODE 4
    else s
  if F.ASC_CALCTL_GO.on v then s.calStart else s

/-- CALIBRATION_START (R184): GO = 1. -/
def execCalibrationStart (v : Word) (s : State) : Host.Outcome State Fault Refusal := .next (s.calCtlWrite (setBits v 0 1 1))
/-- CALIBRATION_RESTORE (R186): RESTORE = 1. -/
def execCalibrationRestore (v : Word) (s : State) : Host.Outcome State Fault Refusal := .next (s.calCtlWrite (setBits v 1 1 1))

/-- A write of ASC_CALBUFi (R186). -/
def State.calBufWrite (s : State) (i : Nat) (v : Word) : State :=
  if s.locked then s else { s with asc := { s.asc with calBuf := s.asc.calBuf.set i v } }

/-- Division rounded to the nearest; `up` is what is done with an exact half. -/
def roundDiv (up : Bool) (x y : Nat) : Nat := if 2 * (x % y) < y ∨ (2 * (x % y) = y ∧ !up) then x / y else x / y + 1

/-- How a run's tries come out (R184). -/
inductive CalResult where
  | outOfRange (tries : Nat)
  | disagree (tries : Nat)
  | good (tries gain : Nat) (zeroSum : Nat)

/-- The tries of a run (R184): `n` samples to a half. [assumption 85 DESIGN CHOICE] -/
def calTries (up : Bool) (free n agree : Nat) (k : Nat) : List CalTry → CalResult
  | [] => .disagree k
  | t :: rest =>
    let refs := t.ref1 + t.ref2
    if refs < 12971 * (2 * n) ∨ 14336 * (2 * n) ≤ refs then .outOfRange (k + 1)
    else
      let g := fun (r z : Nat) => if r ≤ z then Config.unstated free else roundDiv up (1365333 * 16384 * n) (100 * (r - z))
      let g1 := g t.ref1 t.zero1
      let g2 := g t.ref2 t.zero2
      if mag ((g1 : Int) - g2) ≤ agree then .good (k + 1) (roundDiv up (g1 + g2) 2) (t.zero1 + t.zero2)
      else if 3 ≤ k + 1 then .disagree (k + 1)
      else calTries up free n agree (k + 1) rest

/-- CALIBRATION_END (R184, R185, R189). [assumptions 84 DEDUCED, 85 DESIGN CHOICE] -/
def calibrationEndOp (tries : List CalTry) (s : State) : State :=
  if !s.flag F.ASC_CALSTS_BUSY then s
  else
    let n := 2 ^ min 12 (max 1 (s.fget F.ASC_CALCTL_AVG))
    let up := Config.roundUp s.freeCtr
    let res := calTries up s.freeCtr n (s.fget F.ASC_CALCTL_AGREE) 0 tries
    let s := s.tick.fsetB F.ASC_CALSTS_BUSY false
    let failed := fun (s : State) (code k : Nat) =>
      ((s.fset F.ASC_CALSTS_CODE code).fset F.ASC_CALSTS_TRIES k).raiseFault Blk.asc 2 4 2 0
    match res with
    | .outOfRange k => failed s 3 k
    | .disagree k => failed s 2 k
    | .good k gain zs =>
      if s.forced Blk.asc 2 4 then ((s.fset F.ASC_CALSTS_CODE 3).fset F.ASC_CALSTS_TRIES k).raiseFault Blk.asc 2 4 2 0 false
      else
      let dt := s.sget F.ASC_DTEMP_TEMP
      let off : Int := zs / (2 * n) + (if zs % (2 * n) = 0 then 0 else up.toNat)
      let s := ((s.fset F.ASC_CALSTS_CODE 0).fset F.ASC_CALSTS_TRIES k).fset F.ASC_CALSTS_SRC 1
      let s := s.wr Rg.ASC_CALRES1 (BitVec.ofNat 32 (min 0xFFFFFFFF ((s.rd Rg.ASC_CALRES1).toNat + 1)))
      let s := (s.sset F.ASC_CALRES2_TEMP dt).wideSet Rg.ASC_CALTIME_LO s.clock.toNat
      let s := { s with asc := { s.asc with recTemp := some dt } }
      if s.flag F.ASC_CALCTL_IMMED then (({ s with asc := { s.asc with calPend := none } }).fsetB F.ASC_CALSTS_PEND false).calLive gain off
      else (({ s with asc := { s.asc with calPend := some (gain, off) } }).fsetB F.ASC_CALSTS_PEND true).calCrc

/-- CALIBRATION_END. -/
def execCalibrationEnd (tries : List CalTry) (s : State) : Host.Outcome State Fault Refusal := .next (calibrationEndOp tries s)

/-- The ageing monitors from `k` on (R188). -/
def State.ageAll (s : State) (k : Nat) : List Int → State
  | [] => s
  | d :: t => if 8 ≤ k then s else (s.fset (F.ASC_AGE_DEGR k) (min 65535 d.toNat)).ageAll (k + 1) t

/-- AGEING_MEASUREMENT (R188): the loss of each pair in 0.01 % units. -/
def ageingMeasurementOp (degr : List Int) (s : State) : State :=
  if s.flag F.ASC_CTL_EN then
    let s := s.ageAll 0 degr
    let worst := (List.range 8).foldl (fun m k => max m (s.fget (F.ASC_AGE_DEGR k))) 0
    s.fset F.ASC_AGESUM_USED (min 255 (100 * worst / max 1 (s.fget F.ASC_AGESUM_LIMIT)))
  else s

/-- AGEING_MEASUREMENT. -/
def execAgeingMeasurement (degr : List Int) (s : State) : Host.Outcome State Fault Refusal := .next (ageingMeasurementOp degr s)

/-- A write of ASC_CTL (Table 8.4): the kinds are locked by GLB_LOCK. -/
def State.ascCtlWrite (s : State) (v : Word) : State :=
  let s := s.fset F.ASC_CTL_EN (F.ASC_CTL_EN.of v)
  let s := if s.locked then s else (s.fset F.ASC_CTL_KIND0 (F.ASC_CTL_KIND0.of v)).fset F.ASC_CTL_KIND1 (F.ASC_CTL_KIND1.of v)
  if F.ASC_CTL_CLRCNT.on v then s.clearCount Rg.ASC_OVPCNT_LO else s

/-- ASC_ENABLE (R190): EN = 1. -/
def execAscEnable (v : Word) (s : State) : Host.Outcome State Fault Refusal := .next (s.ascCtlWrite (setBits v 0 1 1))
/-- ASC_COUNTER_CLEAR (R11, R190): CLRCNT = 1. -/
def execAscCounterClear (v : Word) (s : State) : Host.Outcome State Fault Refusal := .next (s.ascCtlWrite (setBits v 3 1 1))

end Sys2Proof.Machine
end

