-- ==== Sys2Proof/Machine/Msq.lean ====
section
/-! DEFINITION. Media Sequencers: the microword (R147 to R149), next address (R150), registers, operations and flags (R151), conditions
(R152), waits (R153 to R155), yield points and events (R156, R157), actions (R158, R159), machine checks (R160, R161), the control store and
patches (R162 to R165), and operations (R166 to R169). -/
namespace Sys2Proof.Machine

/-- Update a sequencer's hidden state. -/
def State.msqMap (s : State) (a : Act) (f : MsqSt → MsqSt) : State := s.msqSet a (f (s.msqOf a))

/-- The fields of a 128-bit word (Table 7.1). -/
def microOf (b : BitVec 144) : Microword where
  na := b.extractLsb' 0 14
  seq := b.extractLsb' 14 3
  cond := b.extractLsb' 17 6
  cinv := b.getLsbD 23
  y := b.getLsbD 24
  wait := b.extractLsb' 25 3
  warg := b.extractLsb' 28 6
  alu := b.extractLsb' 34 4
  ra := b.extractLsb' 38 4
  rb := b.extractLsb' 42 4
  dst := b.extractLsb' 46 4
  bimm := b.getLsbD 50
  flg := b.getLsbD 51
  gate := b.extractLsb' 52 2
  chan := b.extractLsb' 54 3
  servo := b.extractLsb' 57 2
  pre := b.extractLsb' 59 2
  asc := b.extractLsb' 61 3
  rpt := b.extractLsb' 64 2
  code := b.extractLsb' 66 8
  evt := b.getLsbD 74
  rsv := b.extractLsb' 75 21
  imm := b.extractLsb' 96 32

/-- Number of ones among the low `n` bits. -/
def onesIn : Nat → Nat → Nat
  | 0, _ => 0
  | n + 1, x => x % 2 + onesIn n (x / 2)

/-- Bytes of a word with bad parity, one bit for each (R147): byte i and bit 128 + i together hold an odd number of ones. -/
def badParity (b : BitVec 144) : Nat :=
  (List.range 16).foldl (fun m i =>
    m + (if ((onesIn 8 ((b.toNat >>> (8 * i)) % 256) + (b.getLsbD (128 + i)).toNat) % 2 = 1) then 0 else 1 <<< i)) 0

/-- The overlay entry that serves a ROM address: the lowest-numbered valid match (R162). -/
def State.overlay (s : State) (a : Act) (pc : Nat) : Option Nat :=
  (List.range 64).find? (fun k => s.flag (F.MSQ_OVL_VALID a k) && s.fget (F.MSQ_OVL_ROMBLK a k) == pc / 16)

/-- The patch RAM word that serves an address, none where ROM serves it (R162, Table 7.8). -/
def State.patchWord (s : State) (a : Act) (pc : Nat) : Option (BitVec 144) :=
  let ram := fun (n : Nat) => look (fun _ => (0 : BitVec 144)) n (s.msqOf a).patch
  if 0x3000 ≤ pc then some (ram pc)
  else match s.overlay a pc with
    | some k => some (ram (0x3000 + s.fget (F.MSQ_OVL_PBLK a k) * 16 + pc % 16))
    | none => none

/-- Whether a word holds a reserved value in a field of Tables 7.2 to 7.6 or a bit of [95:75] (R148). -/
def reservedWord (w : Microword) : Bool :=
  w.seq == 7 || decide (28 ≤ w.cond.toNat) || decide (4 ≤ w.wait.toNat) || (w.wait == 1 && decide (16 ≤ w.warg.toNat)) ||
    (w.wait == 2 && decide (28 ≤ w.warg.toNat)) || decide (13 ≤ w.alu.toNat) || decide (5 ≤ w.chan.toNat) || w.servo == 3 ||
    decide (5 ≤ w.asc.toNat) || decide (2 ≤ w.rpt.toNat) || w.rsv != 0

/-- The pending bits of MSQn_EVP (Table 7.7, R334): bits 0 to 11 and the routed lines. -/
def State.evpBits (s : State) (a : Act) : BitVec 32 :=
  let l := s.evr.msq.get a
  let line := fun (n : Nat) => if a.num = 0 then (s.flag (F.EVR_ROUTE_M0EN n), s.fget (F.EVR_ROUTE_M0LINE n))
    else (s.flag (F.EVR_ROUTE_M1EN n), s.fget (F.EVR_ROUTE_M1LINE n))
  let hi := if l = 0 then 0 else (List.range 640).foldl (fun (m : BitVec 32) n =>
    if l.getLsbD n && (line n).1 then m ||| BitVec.ofNat 32 (1 <<< (16 + (line n).2)) else m) 0
  (s.msqOf a).evp ||| hi

/-- The enabled event that would be taken: the lowest pending one (R157). -/
def State.eventNext (s : State) (a : Act) : Option Nat :=
  let p := s.evpBits a &&& s.rd (Rg.MSQ_EVM a)
  if s.flag (F.MSQ_STS_EVEN a) then (List.range 32).find? (fun e => p.getLsbD e) else none

/-- A machine check (R161): MSQn_MCK records the cause, the hard stop and Buffer Stop follow, and a safe-stop fault is raised. -/
def State.machineCheck (s : State) (a : Act) (cause pbytes : Nat) (real : Bool := true) : State :=
  let s := (s.fset (F.MSQ_MCK_CAUSE a) cause).fset (F.MSQ_MCK_PBYTES a) pbytes
  let s := (s.hardStop a).raiseFault (Blk.msq a) 0 2 4 (s.headInfo (descHead (s.msqOf a).work)) real
  s.bufferStop a

/-- CAUSE codes (Table 7.18). -/
def mckCode : MckCause → Nat
  | .parity => 1
  | .reserved => 2
  | .stack => 3
  | .watchdog => 4

/-- MACHINE_CHECK (R148, R150, R156, R161). -/
def machineCheckOp (a : Act) (cause : MckCause) (pbytes : BitVec 16) (s : State) : State :=
  if s.flag (F.MSQ_STS_RUN a) then
    s.machineCheck a (mckCode cause) (if cause = .parity then pbytes.toNat else 0) (!s.forced (Blk.msq a) 0 2)
  else s

/-- MACHINE_CHECK. -/
def execMachineCheck (a : Act) (cause : MckCause) (pbytes : BitVec 16) (s : State) : Host.Outcome State Fault Refusal :=
  .next (machineCheckOp a cause pbytes s)

/-- A register; G0 reads 0 (R151). -/
def MsqSt.reg (m : MsqSt) (i : BitVec 4) : Word := if i = 0 then 0 else m.g.getD i.toNat 0

/-- The current operation's flag, false without one. -/
def MsqSt.curBit (m : MsqSt) (f : MsqOp → Bool) : Bool := (m.cur.map f).getD false

/-- The condition `c` of Table 7.4 as it stands. -/
def State.condition (s : State) (a : Act) (c : Nat) : Bool :=
  let m := s.msqOf a
  match c with
  | 0 => true
  | 1 => m.z
  | 2 => m.n
  | 3 => m.c
  | 4 => s.flag (F.SAC_STS_ONTRK a)
  | 5 => s.wrpermHolds a
  | 6 => m.srej
  | 7 => (s.rwcOf a).chdone
  | 8 => m.curBit (·.chfail)
  | 9 => m.curBit (·.wflt)
  | 10 => (s.rwcOf a).partialEnd
  | 11 => s.flag (F.RWC_STS_PSBUSY a)
  | 12 => m.psto
  | 13 => m.wto
  | 14 => m.late
  | 15 => m.far
  | 16 => m.twok
  | 17 => !(s.ddp.rereads.get a).isEmpty
  | 18 => m.curBit (fun o => decide (0 < o.jobsOpen))
  | 19 => (s.evpBits a &&& s.rd (Rg.MSQ_EVM a)) != 0
  | 20 => m.curBit (fun o => writeKind (descOpc o.desc))
  | 21 => s.locked
  | 22 => s.flag F.TTB_STS_STEP
  | 23 => s.flag F.TTB_STS_RINH
  | 24 => s.flag F.TTB_STS_WINH
  | 25 => !m.queue.isEmpty && decide (m.slotsUsed < 8)
  | 26 => m.curBit (·.cancel)
  | 27 => s.flag (F.MSQ_STS_STRB a)
  | _ => false

/-- Find the operation that a job belongs to (R159): by its tag among the operations whose jobs are open. -/
def State.jobOp (s : State) (j : Job) : Option MsqOp :=
  let m := s.msqOf j.act
  (m.cur.toList ++ m.ended).find? (fun o => decide (o.desc.getD 4 0 = j.tag) && 0 < o.jobsOpen)

/-- Special source of LDS (Table 7.3): the value and the state after the read. [assumption 69 DESIGN CHOICE] -/
def State.ldsRead (s : State) (a : Act) (n : Nat) : Word × State :=
  let m := s.msqOf a
  match n with
  | 0 => (s.near, s)
  | 1 => (s.rd Rg.TTB_INC, s)
  | 2 => (m.preData.setWidth 32, s)
  | 3 =>
    match s.ddp.rereads.get a with
    | [] => (0, s)
    | r :: t =>
      let s := s.ddpMap (fun d => { d with rereads := d.rereads.set a t })
      let op := (s.jobAt (bitsOf r 14 7)).bind s.jobOp
      (r, s.msqSet a { m with rereadReq := r, rereadOp := op })
  | 4 => (s.rd (Rg.SAC_POS_LO a), s)
  | 5 => (s.rd (Rg.SAC_STS a), s)
  | 6 => (BitVec.ofNat 32 ((m.cur.map (fun (o : MsqOp) => o.words)).getD 0), s)
  | _ => (BitVec.ofNat 32 (Config.unstated s.freeCtr), s.tick)

/-- The result of an ALU operation, none where it has none, its carry or borrow, and the state after a special read (R151, Table 7.3). -/
def State.aluResult (s : State) (a : Act) (op : Nat) (x y : Word) : Option Word × Bool × State :=
  match op with
  | 1 => (some y, false, s)
  | 2 => (some (x + y), decide (2 ^ 32 ≤ x.toNat + y.toNat), s)
  | 3 => (some (x - y), decide (x.toNat < y.toNat), s)
  | 4 => (some (x &&& y), false, s)
  | 5 => (some (x ||| y), false, s)
  | 6 => (some (x ^^^ y), false, s)
  | 7 => (some (x <<< (y.toNat % 32)), false, s)
  | 8 => (some (x >>> (y.toNat % 32)), false, s)
  | 9 => (some (x - y), decide (x.toNat < y.toNat), s)
  | 10 => let r := s.ldsRead a (y.toNat % 16); (some r.1, false, r.2)
  | 11 => (some ((s.msqOf a).work.getD (y.toNat % 16) 0), false, s)
  | _ => (none, false, s)

/-- The ALU field of a word (R151): register, flags and the working copy. [assumption 70 DEDUCED] -/
def State.aluStep (s : State) (a : Act) (w : Microword) : State :=
  let m := s.msqOf a
  let x := m.reg w.ra
  let y := if w.bimm then w.imm else m.reg w.rb
  let op := w.alu.toNat
  let r := s.aluResult a op x y
  let s := r.2.2
  let s := match r.1 with
    | some v =>
      let s := if op = 9 ∨ w.dst = 0 then s else s.msqMap a (fun m => { m with g := m.g.set w.dst.toNat v })
      if w.flg then s.msqMap a (fun m => { m with z := v == 0, n := v.getLsbD 31, c := r.2.1 }) else s
    | none => if w.flg then s.msqMap a (fun m => { m with c := false }) else s
  if op = 12 then s.msqMap a (fun m => { m with work := m.work.set (y.toNat % 16) x }) else s

/-- The GATE field (R158, R22): the requests; an open period whose request has gone closes early (R393). -/
def State.gateStep (s : State) (a : Act) (g : Nat) : State :=
  let s := match g with
    | 1 => s.msqMap a (fun m => { m with readReq := true, writeReq := false })
    | 2 => if s.locked then s.msqMap a (fun m => { m with readReq := false, writeReq := true }) else s
    | 3 => s.msqMap a (fun m => { m with readReq := false, writeReq := false })
    | _ => s
  match (s.rwcOf a).transfer, (s.rwcOf a).gate with
  | some t, some _ =>
    if t.kind = .write then (if (s.msqOf a).writeReq then s else s.stopSoft a false)
    else if (s.msqOf a).readReq then s else s.stopSoft a false
  | _, _ => s

/-- CHAN = 4 (R158, R159): a single-sector re-read of the request last taken. -/
def State.loadReread (s : State) (a : Act) (m : MsqSt) : State :=
  let slot := bitsOf m.rereadReq 14 7
  match m.rereadOp, s.jobAt slot with
  | some o, some j =>
    s.rwcLoad a .reread (descBits o.desc 0 15 6) (bitsOf m.rereadReq 8 6) (descBits o.desc 2 16 9) (descBits o.desc 3 0 16 + j.index) 1 slot
  | _, _ => s

/-- The CHAN field (R158); `m` is the sequencer as it stood at the start of the cycle (R149). -/
def State.chanStep (s : State) (a : Act) (m : MsqSt) (c : Nat) : State :=
  let d := m.work
  match c with
  | 1 => s.rwcLoad a (if writeKind (descOpc d) then .write else .read) (descBits d 0 15 6) (descBits d 0 21 6) (descBits d 2 16 9)
      (descBits d 3 0 16) (descCount d) (descDaddr d)
  | 2 => s.rwcStart a
  | 3 => s.rwcAbort a
  | 4 => s.loadReread a m
  | _ => s

/-- The descriptor that SERVO = 1 and PRE = 1 use (R159). -/
def MsqSt.motionDesc (m : MsqSt) : List Word := (m.rereadOp.map (fun (o : MsqOp) => o.desc)).getD m.work

/-- The SERVO field (R158, R81). -/
def State.servoStep (s : State) (a : Act) (d : List Word) (v : Nat) (x : Word) : State :=
  match v with
  | 1 =>
    let s := (s.fset (F.SAC_TGT_TRACK a) (descBits d 1 0 24)).fset (F.SAC_OFFS_OFFS a) ((descBits d 2 0 16 + x.toNat) % 65536)
    let rej := !s.sacPermits a 1 (descHead d)
    (s.sacCommand a 1 (descHead d)).msqMap a (fun m => { m with srej := rej })
  | 2 =>
    let rej := !s.sacPermits a 3 0
    (s.sacCommand a 3 0).msqMap a (fun m => { m with srej := rej })
  | _ => s

/-- The PRE field (R125, R158). -/
def State.preStep (s : State) (a : Act) (d : List Word) (p : Nat) (y imm : Word) : State :=
  match p with
  | 1 =>
    let sh := min 12 (s.fget (F.RWC_PMAP_HSHIFT a))
    s.seqFrame a ⟨.pre, false, BitVec.ofNat 16 (s.fget (F.RWC_PMAP_HADDR a)), BitVec.ofNat 16 (descHead d <<< sh)⟩
  | 2 => s.seqFrame a ⟨.pre, false, imm.extractLsb' 16 16, y.setWidth 16⟩
  | 3 => s.seqFrame a ⟨.pre, true, imm.extractLsb' 16 16, 0⟩
  | _ => s

/-- Whether an ended operation can be posted (R167): the transfer it loaded is done and its pool jobs have ended. -/
def MsqOp.ready (o : MsqOp) : Bool := o.code.isSome && (!o.loaded || o.chdone) && o.jobsOpen == 0

/-- STATUS of an ended operation (R167, Table 7.12). -/
def MsqOp.status (o : MsqOp) : Nat :=
  let c := o.code.getD 0
  if c = 0 then (if 0 < o.nfail then 2 else if 0 < o.jobsDone then 1 else 0) else c

/-- Post the ended operations that are ready, in the order they ended, firmware's as slots are free (R166, R167). [assumptions 71 DEDUCED, 72 DEDUCED] -/
def State.postReady (s : State) (a : Act) : Nat → State
  | 0 => s
  | n + 1 =>
    let m := s.msqOf a
    let can := fun (o : MsqOp) => o.ready && (descSub o.desc ≤ 1 || decide (m.cpls.length < 8))
    match m.ended.find? can with
    | none => s
    | some o =>
      let st := o.status
      let part := st == 0x10 || st == 0x11 || st == 0x23
      let s := s.msqSet a { m with ended := (m.ended.takeWhile (fun x => !can x)) ++ ((m.ended.dropWhile (fun x => !can x)).drop 1) }
      (s.postCpl a o.desc st o.pdone o.nfail 0 part o.endAng).postReady a n

/-- An operation as DISP takes it, or as hardware completes it without the queue. -/
def newOp (d : List Word) (code : Option Nat) (near : Word) : MsqOp :=
  { desc := d, started := false, loaded := false, words := 0, chfail := false, wflt := false, cancel := false, calRecs := 0, jobsOpen := 0, jobsDone := 0,
    nfail := 0, pdone := 0, partialEnd := false, chdone := false, code := code, endAng := near }

/-- RPT = END (R167): with no current operation nothing is completed. -/
def State.endStep (s : State) (a : Act) (code : Nat) : State :=
  let m := s.msqOf a
  match m.cur with
  | none => s
  | some o =>
    (s.msqSet a { m with cur := none, ended := m.ended ++ [{ o with code := some code, endAng := s.near }] }).postReady a 16

/-- SEQ of a word (R150): the next address and what the stack and DISP become; `ok` is whether the condition of BR holds. [assumption 74 DEDUCED] -/
def State.seqStep (s : State) (a : Act) (w : Microword) (ok : Bool) : State :=
  let m := s.msqOf a
  let pc := s.fget (F.MSQ_PC_ADDR a)
  let na := w.na.toNat
  let go := fun (s : State) (n : Nat) => s.fset (F.MSQ_PC_ADDR a) n
  match w.seq.toNat with
  | 0 => go s (pc + 1)
  | 1 => go s na
  | 2 => go s (if ok then na else pc + 1)
  | 3 => go (s.msqSet a { m with stack := (pc + 1) % 2 ^ 14 :: m.stack }) na
  | 4 => go (s.msqSet a { m with stack := m.stack.tail }) (m.stack.headD 0)
  | 5 =>
    match m.queue with
    | d :: rest =>
      if m.slotsUsed < 8 then
        let s := s.msqSet a { m with cur := some (newOp d none 0), queue := rest, work := d }
        let s := s.rwcMap a (fun r => { r with chdone := false, partialEnd := false, lastMark := none })
        go (s.msqCounts a) (s.fget (F.MSQ_DISP_TARGET a (descOpc d)))
      else go s na
    | [] => go s na
  | 6 => go ((s.msqSet a { m with stack := m.stack.tail }).fsetB (F.MSQ_STS_EVEN a) true) (m.stack.headD 0)
  | _ => s

/-- Take a pending event at a yield point (R157), pushing the present address.  Of the events 0 to 11 only event 2 has a source that may still
assert, a request left in the FIFO (assumption 67). [assumption 67 DEDUCED] -/
def State.takeEvent (s : State) (a : Act) : State :=
  match s.eventNext a with
  | none => s
  | some e =>
    let m := s.msqOf a
    if 8 ≤ m.stack.length then s.machineCheck a 3 0
    else
      let s := s.msqSet a { m with stack := s.fget (F.MSQ_PC_ADDR a) :: m.stack, sinceYield := 0,
                                   evp := if e = 2 ∧ !(s.ddp.rereads.get a).isEmpty then m.evp
                                     else m.evp &&& ~~~ BitVec.ofNat 32 (1 <<< e) }
      let mine := fun (n : Nat) => if a.num = 0 then s.flag (F.EVR_ROUTE_M0EN n) && s.fget (F.EVR_ROUTE_M0LINE n) + 16 == e
        else s.flag (F.EVR_ROUTE_M1EN n) && s.fget (F.EVR_ROUTE_M1LINE n) + 16 == e
      let clear := (List.range 640).foldl (fun (l : BitVec 640) n => if l.getLsbD n && mine n then l &&& ~~~ bit640 n else l)
      let s := if e < 16 then s else { s with evr := { s.evr with msq := s.evr.msq.set a (clear (s.evr.msq.get a)) } }
      (s.fsetB (F.MSQ_STS_EVEN a) false).fset (F.MSQ_PC_ADDR a) (s.fget (F.MSQ_DISP_TARGET a (224 + e)))

/-- Whether the stop that EN = 0 asked for comes at a yield point (Table 7.18): no operation is current. [assumption 73 DEDUCED] -/
def State.stopsHere (s : State) (a : Act) : Bool := (s.msqOf a).stopAsked && (s.msqOf a).cur.isNone

/-- The sequencer stops (Table 7.18). -/
def State.seqStop (s : State) (a : Act) : State :=
  ((s.msqMap a (fun m => { m with stopAsked := false, waiting := none })).fsetB (F.MSQ_STS_RUN a) false).fsetB (F.MSQ_STS_WAITING a) false

/-- A yield point has run (R156, R157, Table 7.18): the stop that EN = 0 asked for, or a pending event. -/
def State.yieldPoint (s : State) (a : Act) : State :=
  let s := s.msqMap a (fun m => { m with sinceYield := 0 })
  if s.stopsHere a then s.seqStop a else s.takeEvent a

/-- Whether a word's PRE frame must hold for the port (R155). -/
def State.preHolds (s : State) (a : Act) (w : Microword) : Bool := w.pre != 0 && s.flag (F.RWC_STS_PSBUSY a)

/-- The fields of a word take effect (R149, R153, R158); the word's wait, if any, has ended. [assumption 68 DEDUCED] -/
def State.runFields (s : State) (a : Act) (w : Microword) : State :=
  let m := s.msqOf a
  let full := w.seq == 3 && decide (8 ≤ m.stack.length)
  let bare := (w.seq == 4 || w.seq == 6) && m.stack.isEmpty
  if full || bare then s.machineCheck a 3 0
  else if s.preHolds a w then (s.msqMap a (fun m => { m with held := some w, waiting := none })).fsetB (F.MSQ_STS_WAITING a) false
  else
    let ok := s.condition a w.cond.toNat != w.cinv
    let x := m.reg w.ra
    let y := m.reg w.rb
    let s := s.msqMap a (fun m => { m with held := none, waiting := none })
    let s := (s.fsetB (F.MSQ_STS_WAITING a) false).aluStep a w
    let s := s.gateStep a w.gate.toNat
    let s := s.chanStep a m w.chan.toNat
    let s := s.servoStep a m.motionDesc w.servo.toNat x
    let s := s.preStep a m.motionDesc w.pre.toNat y w.imm
    let s := match w.asc.toNat with
      | 0 => s
      | 4 => s.ascTchk a
      | n => s.ascAction a (descHead m.work) n
    let s := if w.rpt = 1 then s.endStep a w.code.toNat else s
    let s := if w.evt then s.raiseEvent (a.sel 88 89) else s
    let s := s.seqStep a w ok
    if w.y || w.wait != 0 then s.yieldPoint a else s.msqMap a (fun m => { m with sinceYield := m.sinceYield + 1 })

/-- D of an ANGLE wait (R154), at compare resolution. -/
def State.waitDiff (s : State) (a : Act) (w : Microword) : Int :=
  let t := ((s.msqOf a).reg (w.warg.setWidth 4)).toNat
  nearDiff (BitVec.ofNat 32 (atCompare t)) (BitVec.ofNat 32 (atCompare s.near.toNat))

/-- Whether what a word waits for has come about (Table 7.5). -/
def State.waitMet (s : State) (a : Act) (w : Microword) : Bool :=
  if w.wait = 1 then decide (s.waitDiff a w ≤ 0)
  else if w.wait = 2 then s.condition a w.warg.toNat
  else s.flag (F.MSQ_STS_STRB a)

/-- A wait ends (R153): its outcome is set and the word's fields take effect. -/
def State.waitEnd (s : State) (a : Act) (w : Microword) (wto late far : Bool) : State :=
  let s := s.msqMap a (fun m => { m with wto := wto, late := if w.wait = 1 then late else m.late, far := if w.wait = 1 then far else m.far })
  let s := if w.wait = 3 && !wto then s.fsetB (F.MSQ_STS_STRB a) false else s
  let s := if far then (s.fsetB (F.MSQ_STS_FAR a) true).fsetB F.TTB_STS_FAR true else s
  s.runFields a w

/-- The first cycle of a word's wait (R153, R154): it ends at once, is abandoned for an event (R157), or goes on. [assumption 77 DEDUCED] -/
def State.waitStart (s : State) (a : Act) (w : Microword) : State :=
  let d := s.waitDiff a w
  if w.wait = 1 ∧ (0x80000000 ≤ d ∨ d < -0x80000000) then s.waitEnd a w false false true
  else if w.wait = 1 ∧ d < 0 then s.waitEnd a w false true false
  else if s.waitMet a w then s.waitEnd a w false false false
  else
    let s := s.msqMap a (fun m => { m with sinceYield := 0 })
    if s.stopsHere a then s.seqStop a
    else match s.eventNext a with
    | some _ => s.takeEvent a
    | none => (s.msqMap a (fun m => { m with waiting := some (w, s.ttb.angle) })).fsetB (F.MSQ_STS_WAITING a) true

/-- A cycle of a sequencer whose word waits: an event abandons the wait, and the awaited thing ends it. [assumption 77 DEDUCED] -/
def State.waitCycle (s : State) (a : Act) (w : Microword) : State :=
  if s.waitMet a w then s.waitEnd a w false false false
  else if s.stopsHere a then s.seqStop a
  else match s.eventNext a with
    | some _ => ((s.msqMap a (fun m => { m with waiting := none })).fsetB (F.MSQ_STS_WAITING a) false).takeEvent a
    | none => s

/-- Run a word that has been fetched (R148, R150, R156). -/
def State.runFetched (s : State) (a : Act) (w : Microword) : State :=
  if reservedWord w then s.machineCheck a 2 0
  else if !w.y && w.wait == 0 && decide (64 ≤ (s.msqOf a).sinceYield) then s.machineCheck a 4 0
  else if w.wait = 0 then s.runFields a w
  else s.waitStart a w

/-- One cycle of a sequencer (R149): a held or waiting word goes on; otherwise the word at the present address runs.  `w` is the word that
ROM holds there; a word of patch RAM serves instead where R162 says so. [assumption 65 DESIGN CHOICE] -/
def State.seqCycle (s : State) (a : Act) (w : Microword) : State :=
  let m := s.msqOf a
  if !s.flag (F.MSQ_STS_RUN a) then s
  else match m.held with
    | some h => s.runFields a h
    | none => match m.waiting with
      | some (h, _) => s.waitCycle a h
      | none => match s.patchWord a (s.fget (F.MSQ_PC_ADDR a)) with
        | some b => if badParity b = 0 then s.runFetched a (microOf b) else s.machineCheck a 1 (badParity b)
        | none => s.runFetched a w

/-- SEQ = CONT (R150). -/
def execCont (a : Act) (w : Microword) (s : State) : Host.Outcome State Fault Refusal := .next (s.seqCycle a { w with seq := 0 })
/-- SEQ = JUMP (R150). -/
def execJump (a : Act) (w : Microword) (s : State) : Host.Outcome State Fault Refusal := .next (s.seqCycle a { w with seq := 1 })
/-- SEQ = BR (R150). -/
def execBr (a : Act) (w : Microword) (s : State) : Host.Outcome State Fault Refusal := .next (s.seqCycle a { w with seq := 2 })
/-- SEQ = CALL (R150). -/
def execCall (a : Act) (w : Microword) (s : State) : Host.Outcome State Fault Refusal := .next (s.seqCycle a { w with seq := 3 })
/-- SEQ = RET (R150). -/
def execRet (a : Act) (w : Microword) (s : State) : Host.Outcome State Fault Refusal := .next (s.seqCycle a { w with seq := 4 })
/-- SEQ = DISP (R150, R163, R166). -/
def execDisp (a : Act) (w : Microword) (s : State) : Host.Outcome State Fault Refusal := .next (s.seqCycle a { w with seq := 5 })
/-- SEQ = ERET (R150, R157). -/
def execEret (a : Act) (w : Microword) (s : State) : Host.Outcome State Fault Refusal := .next (s.seqCycle a { w with seq := 6 })
/-- ALU = NOP (R151). -/
def execNop (a : Act) (w : Microword) (s : State) : Host.Outcome State Fault Refusal := .next (s.seqCycle a { w with alu := 0 })
/-- ALU = MOV. -/
def execMov (a : Act) (w : Microword) (s : State) : Host.Outcome State Fault Refusal := .next (s.seqCycle a { w with alu := 1 })
/-- ALU = ADD. -/
def execAdd (a : Act) (w : Microword) (s : State) : Host.Outcome State Fault Refusal := .next (s.seqCycle a { w with alu := 2 })
/-- ALU = SUB. -/
def execSub (a : Act) (w : Microword) (s : State) : Host.Outcome State Fault Refusal := .next (s.seqCycle a { w with alu := 3 })
/-- ALU = AND. -/
def execAnd (a : Act) (w : Microword) (s : State) : Host.Outcome State Fault Refusal := .next (s.seqCycle a { w with alu := 4 })
/-- ALU = OR. -/
def execOr (a : Act) (w : Microword) (s : State) : Host.Outcome State Fault Refusal := .next (s.seqCycle a { w with alu := 5 })
/-- ALU = XOR. -/
def execXor (a : Act) (w : Microword) (s : State) : Host.Outcome State Fault Refusal := .next (s.seqCycle a { w with alu := 6 })
/-- ALU = SHL. -/
def execShl (a : Act) (w : Microword) (s : State) : Host.Outcome State Fault Refusal := .next (s.seqCycle a { w with alu := 7 })
/-- ALU = SHR. -/
def execShr (a : Act) (w : Microword) (s : State) : Host.Outcome State Fault Refusal := .next (s.seqCycle a { w with alu := 8 })
/-- ALU = CMP. -/
def execCmp (a : Act) (w : Microword) (s : State) : Host.Outcome State Fault Refusal := .next (s.seqCycle a { w with alu := 9 })
/-- ALU = LDS (Table 7.3). -/
def execLds (a : Act) (w : Microword) (s : State) : Host.Outcome State Fault Refusal := .next (s.seqCycle a { w with alu := 10 })
/-- ALU = LDD (Table 7.3). -/
def execLdd (a : Act) (w : Microword) (s : State) : Host.Outcome State Fault Refusal := .next (s.seqCycle a { w with alu := 11 })
/-- ALU = STD (Table 7.3). -/
def execStd (a : Act) (w : Microword) (s : State) : Host.Outcome State Fault Refusal := .next (s.seqCycle a { w with alu := 12 })
/-- WAIT = ANGLE (R153, R154). -/
def execAngleWait (a : Act) (w : Microword) (s : State) : Host.Outcome State Fault Refusal := .next (s.seqCycle a { w with wait := 1 })
/-- WAIT = COND (R153). -/
def execCondWait (a : Act) (w : Microword) (s : State) : Host.Outcome State Fault Refusal := .next (s.seqCycle a { w with wait := 2 })
/-- WAIT = STROBE (R153, R154). -/
def execStrobeWait (a : Act) (w : Microword) (s : State) : Host.Outcome State Fault Refusal := .next (s.seqCycle a { w with wait := 3 })
/-- Y = 1: a yield point (R156, R157). -/
def execYield (a : Act) (w : Microword) (s : State) : Host.Outcome State Fault Refusal := .next (s.seqCycle a { w with y := true })
/-- GATE = 1 (R158). -/
def execGateRead (a : Act) (w : Microword) (s : State) : Host.Outcome State Fault Refusal := .next (s.seqCycle a { w with gate := 1 })
/-- GATE = 2 (R158, R22). -/
def execGateWrite (a : Act) (w : Microword) (s : State) : Host.Outcome State Fault Refusal := .next (s.seqCycle a { w with gate := 2 })
/-- GATE = 3 (R158). -/
def execGateClear (a : Act) (w : Microword) (s : State) : Host.Outcome State Fault Refusal := .next (s.seqCycle a { w with gate := 3 })
/-- CHAN = LOAD (R158, R104). -/
def execChanLoad (a : Act) (w : Microword) (s : State) : Host.Outcome State Fault Refusal := .next (s.seqCycle a { w with chan := 1 })
/-- CHAN = START (R158). -/
def execChanStart (a : Act) (w : Microword) (s : State) : Host.Outcome State Fault Refusal := .next (s.seqCycle a { w with chan := 2 })
/-- CHAN = ABORT (R158). -/
def execChanAbort (a : Act) (w : Microword) (s : State) : Host.Outcome State Fault Refusal := .next (s.seqCycle a { w with chan := 3 })
/-- CHAN = LOADR (R158, R159). -/
def execChanLoadr (a : Act) (w : Microword) (s : State) : Host.Outcome State Fault Refusal := .next (s.seqCycle a { w with chan := 4 })
/-- SERVO = SEEK (R158, R81). -/
def execServoSeek (a : Act) (w : Microword) (s : State) : Host.Outcome State Fault Refusal := .next (s.seqCycle a { w with servo := 1 })
/-- SERVO = UNLOAD (R158). -/
def execServoUnload (a : Act) (w : Microword) (s : State) : Host.Outcome State Fault Refusal := .next (s.seqCycle a { w with servo := 2 })
/-- PRE = 1, head select (R125, R158). -/
def execPreHeadSelect (a : Act) (w : Microword) (s : State) : Host.Outcome State Fault Refusal := .next (s.seqCycle a { w with pre := 1 })
/-- PRE = 2, write frame (R158). -/
def execPreWriteFrame (a : Act) (w : Microword) (s : State) : Host.Outcome State Fault Refusal := .next (s.seqCycle a { w with pre := 2 })
/-- PRE = 3, read frame (R158). -/
def execPreReadFrame (a : Act) (w : Microword) (s : State) : Host.Outcome State Fault Refusal := .next (s.seqCycle a { w with pre := 3 })
/-- ASC = 1 (R174). -/
def execAscReadHeat (a : Act) (w : Microword) (s : State) : Host.Outcome State Fault Refusal := .next (s.seqCycle a { w with asc := 1 })
/-- ASC = 2 (R174). -/
def execAscWriteHeat (a : Act) (w : Microword) (s : State) : Host.Outcome State Fault Refusal := .next (s.seqCycle a { w with asc := 2 })
/-- ASC = 3 (R174). -/
def execAscIdle (a : Act) (w : Microword) (s : State) : Host.Outcome State Fault Refusal := .next (s.seqCycle a { w with asc := 3 })
/-- ASC = 4 (R181). -/
def execTchk (a : Act) (w : Microword) (s : State) : Host.Outcome State Fault Refusal := .next (s.seqCycle a { w with asc := 4 })
/-- RPT = END (R167). -/
def execEndOp (a : Act) (w : Microword) (s : State) : Host.Outcome State Fault Refusal := .next (s.seqCycle a { w with rpt := 1 })
/-- EVT = 1 (Table 7.1). -/
def execMicrocodeEvent (a : Act) (w : Microword) (s : State) : Host.Outcome State Fault Refusal := .next (s.seqCycle a { w with evt := true })

/-- WAIT_END (R153): the awaited thing happens; for an ANGLE wait time has passed to its target. -/
def waitEndOp (a : Act) (s : State) : State :=
  match (s.msqOf a).waiting with
  | some (w, _) =>
    let s := if w.wait = 1 then s.angleTo (fullOf s.ttb.angle (BitVec.ofNat 32 (atCompare ((s.msqOf a).reg (w.warg.setWidth 4)).toNat))) else s
    s.waitCycle a w
  | none => s

/-- WAIT_END. -/
def execWaitEnd (a : Act) (s : State) : Host.Outcome State Fault Refusal := .next (waitEndOp a s)

/-- WAIT_LIMIT_EXPIRY (R153): kinds 2 and 3; in IDLE no limit expires; an arrival in the same cycle wins. -/
def waitLimitExpiryOp (a : Act) (s : State) : State :=
  match (s.msqOf a).waiting with
  | some (w, start) =>
    if (w.wait = 2 ∨ w.wait = 3) ∧ !s.ttbIn TtbS.idle then
      let s := s.angleTo (start + BitVec.ofNat 64 (max 1 (s.fget (F.MSQ_WLIM_WEDGES a)) * wedgeUnits))
      s.waitEnd a w (!s.waitMet a w) false false
    else s
  | none => s

/-- WAIT_LIMIT_EXPIRY. -/
def execWaitLimitExpiry (a : Act) (s : State) : Host.Outcome State Fault Refusal := .next (waitLimitExpiryOp a s)

/-- A held word runs when the frame in progress ends (R155). -/
def State.releaseHold (s : State) (a : Act) : State :=
  match (s.msqOf a).held with
  | some h => s.runFields a h
  | none => s

/-- SERIAL_FRAME_DONE (R123, R125, R155): `data` is what a read frame returned. -/
def serialFrameDoneOp (a : Act) (data : BitVec 16) (s : State) : State :=
  match (s.rwcOf a).frame with
  | some f => if (s.rwcOf a).trailer then s else (s.frameDone a f data).releaseHold a
  | none => s

/-- SERIAL_FRAME_DONE. -/
def execSerialFrameDone (a : Act) (data : BitVec 16) (s : State) : Host.Outcome State Fault Refusal := .next (serialFrameDoneOp a data s)

/-- SERIAL_TRAILER_END (R123, R124): the 17 further clocks end and PSEN_n falls. [assumption 56 DEDUCED] -/
def serialTrailerEndOp (a : Act) (s : State) : State :=
  match (s.rwcOf a).frame with
  | some f =>
    if (s.rwcOf a).trailer then
      let s := s.frameEnd a
      let s := if f.src = .pre then (s.msqMap a (fun m => { m with psto := true })).seqEvent a 9 else s
      s.releaseHold a
    else s
  | none => s

/-- SERIAL_TRAILER_END. -/
def execSerialTrailerEnd (a : Act) (s : State) : Host.Outcome State Fault Refusal := .next (serialTrailerEndOp a s)

/-- The strobe of a slot or window reaches a sequencer (R154, Table 7.7). -/
def State.seqStrobe (s : State) (a : Act) : State := (s.fsetB (F.MSQ_STS_STRB a) true).seqEvent a 4

/-- Enter a descriptor into the queue, or complete it at once where R166 refuses it. -/
def State.enqueue (s : State) (a : Act) (d : List Word) : State :=
  let refuse := fun (c : Nat) => (s.msqMap a (fun m => { m with ended := m.ended ++ [newOp d (some c) s.near] })).postReady a 16
  if 0xE0 ≤ descOpc d then refuse 0x20
  else if writeKind (descOpc d) && !s.locked then refuse 0x21
  else
    let s := s.msqMap a (fun m => { m with queue := m.queue ++ [d] })
    ((s.seqEvent a 0).msqCounts a).haltDrain a 32

/-- A write of MSQn_OPSUB (R166). [assumption 71 DEDUCED] -/
def State.opsubWrite (s : State) (a : Act) (v : Word) : State :=
  if (F.MSQ_OPSUB_GO a).on v then
    if 32 ≤ (s.msqOf a).queue.length then s.fsetB (F.MSQ_STS_QREJ a) true
    else s.enqueue a ((List.range 16).map (fun i => s.rd (Rg.MSQ_OPD a i)))
  else s

/-- OPERATION_SUBMIT (R166): GO = 1. -/
def execOperationSubmit (a : Act) (v : Word) (s : State) : Host.Outcome State Fault Refusal := .next (s.opsubWrite a (setBits v 0 1 1))

/-- HARDWARE_SUBMIT (R166): the first waiting submission of STE or ZNE enters once there is room. -/
def hardwareSubmitOp (a : Act) (s : State) : State :=
  match (s.msqOf a).hwWait with
  | [] => s
  | d :: t => if (s.msqOf a).queue.length < 32 then (s.msqMap a (fun m => { m with hwWait := t })).enqueue a d else s

/-- HARDWARE_SUBMIT. -/
def execHardwareSubmit (a : Act) (s : State) : Host.Outcome State Fault Refusal := .next (hardwareSubmitOp a s)

/-- OPERATION_CANCEL (R142, R169). [assumption 78 DEDUCED] -/
def operationCancelOp (a : Act) (submitter : Nat) (tag : Word) (s : State) : State :=
  let m := s.msqOf a
  let mine := fun (d : List Word) => descSub d == submitter && d.getD 4 0 == tag
  match m.queue.find? mine with
  | some d =>
    let q := m.queue.takeWhile (fun x => !mine x) ++ (m.queue.dropWhile (fun x => !mine x)).drop 1
    ((s.msqSet a { m with queue := q, ended := m.ended ++ [newOp d (some 0x23) s.near] }).postReady a 16).msqCounts a
  | none => match m.cur with
    | some o =>
      if mine o.desc then
        let s := (s.msqSet a { m with cur := some { o with cancel := true } }).seqEvent a 1
        s.abortJobs (fun j => decide (j.act = a) && j.tag == tag) s.ddp.jobs
      else s
    | none => s

/-- OPERATION_CANCEL. -/
def execOperationCancel (a : Act) (submitter : Nat) (tag : Word) (s : State) : Host.Outcome State Fault Refusal :=
  .next (operationCancelOp a submitter tag s)

/-- A write of MSQn_CPLPOP (R166): the oldest firmware completion is released and its slot freed. -/
def State.cplpopWrite (s : State) (a : Act) (v : Word) : State :=
  if (F.MSQ_CPLPOP_POP a).on v then
    (((s.msqMap a (fun m => { m with cpls := m.cpls.tail })).msqCounts a).postReady a 16).haltDrain a 32
  else s

/-- COMPLETION_POP (R166): POP = 1. -/
def execCompletionPop (a : Act) (v : Word) (s : State) : Host.Outcome State Fault Refusal := .next (s.cplpopWrite a (setBits v 0 1 1))

/-- A write of MSQn_CTL (Table 7.18): EN = 1 starts a sequencer that is neither running nor halted. [assumption 73 DEDUCED] -/
def State.msqCtlWrite (s : State) (a : Act) (v : Word) : State :=
  let en := (F.MSQ_CTL_EN a).on v
  let s := s.fsetB (F.MSQ_CTL_EN a) en
  let s := if (F.MSQ_CTL_CLRCNT a).on v then (s.clearCount (Rg.MSQ_OPS_LO a)).clearCount (Rg.MSQ_PART_LO a) else s
  if en then
    if s.flag (F.MSQ_STS_RUN a) then s.msqMap a (fun m => { m with stopAsked := false })
    else if s.flag (F.MSQ_STS_HALT a) then s
    else
      let s := s.msqMap a (fun m => { m with stack := [], g := List.replicate 16 0, sinceYield := 0, waiting := none, held := none,
                                             stopAsked := false })
      ((s.fset (F.MSQ_PC_ADDR a) 0).fsetB (F.MSQ_STS_EVEN a) false).fsetB (F.MSQ_STS_RUN a) true
  else if s.flag (F.MSQ_STS_RUN a) then
    let s := s.msqMap a (fun m => { m with stopAsked := true })
    if (s.msqOf a).waiting.isSome && s.stopsHere a then s.seqStop a else s
  else s

/-- SEQUENCER_ENABLE (R171): EN = 1. -/
def execSequencerEnable (a : Act) (v : Word) (s : State) : Host.Outcome State Fault Refusal := .next (s.msqCtlWrite a (setBits v 0 1 1))
/-- SEQUENCER_STOP (R171): EN = 0. -/
def execSequencerStop (a : Act) (v : Word) (s : State) : Host.Outcome State Fault Refusal := .next (s.msqCtlWrite a (setBits v 0 1 0))
/-- SEQUENCER_COUNTER_CLEAR (R11, R171): CLRCNT = 1. -/
def execSequencerCounterClear (a : Act) (v : Word) (s : State) : Host.Outcome State Fault Refusal := .next (s.msqCtlWrite a (setBits v 1 1 1))

/-- A patch load ends (R165, R170): with a CODE other than 0 it is refused and raises the fault. -/
def State.patchEnd (s : State) (a : Act) (code : Nat) (real : Bool := true) : State :=
  let s := ((s.fsetB (F.MSQ_PSTS_BUSY a) false).fsetB (F.MSQ_PSTS_DONE a) true).fset (F.MSQ_PSTS_CODE a) code
  if code = 0 then s else s.raiseFault (Blk.msq a) 0 1 3 (s.headInfo 0) real

/-- A write of MSQn_PLDCTL (R165). -/
def State.pldctlWrite (s : State) (a : Act) (v : Word) : State :=
  if (F.MSQ_PLDCTL_GO a).on v && !s.flag (F.MSQ_PSTS_BUSY a) then
    if s.locked then s.patchEnd a 1
    else if s.flag (F.MSQ_CTL_EN a) then s.patchEnd a 2
    else s.fsetB (F.MSQ_PSTS_BUSY a) true
  else s

/-- PATCH_LOAD (R165): GO = 1. -/
def execPatchLoad (a : Act) (v : Word) (s : State) : Host.Outcome State Fault Refusal := .next (s.pldctlWrite a (setBits v 0 1 1))

/-- A section of a patch's plaintext (R164). -/
structure PatchSection where
  typ : Nat
  count : Nat
  start : Nat
  body : List Byte

/-- Bytes of one entry of a section type (R164). -/
def entrySize (t : Nat) : Nat := if t = 1 then 18 else if t = 2 ∨ t = 3 then 4 else 0

/-- The sections of a plaintext (R164); none for a section of another type or one that is cut short. [assumption 75 DEDUCED] -/
def patchSections : Nat → List Byte → Option (List PatchSection)
  | _, [] => some []
  | 0, _ => none
  | n + 1, l =>
    if l.length < 8 then none
    else
      let t := ofLe (l.take 1)
      let c := ofLe ((l.drop 2).take 2)
      let st := ofLe ((l.drop 4).take 4)
      let rest := l.drop 8
      let size := c * entrySize t
      if entrySize t = 0 ∨ rest.length < size then none
      else (patchSections n (rest.drop size)).map (fun x => ⟨t, c, st, rest.take size⟩ :: x)

/-- Whether a section lies in range (R165 code 7). [assumption 75 DEDUCED] -/
def PatchSection.inRange (p : PatchSection) : Bool :=
  if p.typ = 1 then decide (0x3000 ≤ p.start) && decide (p.start + p.count ≤ 0x4000)
  else if p.typ = 2 then decide (p.start + p.count ≤ 64)
  else decide (p.count ≤ 256)

/-- Entry `i` of a section as a number. -/
def PatchSection.entry (p : PatchSection) (i : Nat) : Nat := ofLe ((p.body.drop (i * entrySize p.typ)).take (entrySize p.typ))

/-- Write the entries of a section from `i` on, `n` of them (R164). -/
def State.patchWrite (s : State) (a : Act) (p : PatchSection) (i : Nat) : Nat → State
  | 0 => s
  | n + 1 =>
    let e := p.entry i
    let s :=
      if p.typ = 1 then s.msqMap a (fun m => { m with patch := put (fun _ => (0 : BitVec 144)) (p.start + i) (BitVec.ofNat 144 e) m.patch })
      else if p.typ = 2 then s.wr (Rg.MSQ_OVL a (p.start + i)) (BitVec.ofNat 32 e &&& 0x00FF3FF1)
      else s.fset (F.MSQ_DISP_TARGET a (e % 256)) (e / 2 ^ 16 % 2 ^ 14)
    s.patchWrite a p (i + 1) n

/-- Write the sections in image order (R165). -/
def State.patchWriteAll (s : State) (a : Act) : List PatchSection → State
  | [] => s
  | p :: t => (s.patchWrite a p 0 p.count).patchWriteAll a t

/-- Whether a patch image's header is right for a sequencer (Table 7.10, R165 code 5). -/
def State.patchHeader (s : State) (a : Act) (at_ : Nat) : Bool :=
  let tg := s.load (at_ + 6) 2
  let len := s.load (at_ + 0xC) 4
  s.load at_ 4 == 0x5051534D && s.load (at_ + 4) 2 == 1 && decide (tg < 4) && (tg >>> a.num) % 2 == 1 && len % 2 == 0 &&
    decide (len ≤ 131072) && s.load (at_ + 0x1C) 4 == 0 && s.load (at_ + 0x30) 16 == 0

/-- PATCH_LOAD_COMPLETE (R164, R165): the verdicts of the signature and of the tag, and the decrypted plaintext. [assumption 75 DEDUCED] -/
def patchLoadCompleteOp (a : Act) (sigOk tagOk : Bool) (plain : List Byte) (s : State) : State :=
  if !s.flag (F.MSQ_PSTS_BUSY a) then s
  else
    let img := s.fget (F.MSQ_PLD_ADDR a)
    if !sigOk || s.forced (Blk.msq a) 0 1 then s.patchEnd a 3 (!sigOk)
    else if !tagOk || !s.sec.patchKey then s.patchEnd a 4
    else
      let secs := patchSections 16384 plain
      if !s.patchHeader a img || secs.isNone then s.patchEnd a 5
      else if s.load (img + 8) 2 ≠ bitsOf (s.rd Rg.GLB_ID) 8 8 then s.patchEnd a 6
      else
        let l := secs.getD []
        if !(l.all PatchSection.inRange) then s.patchEnd a 7
        else if l.any (fun p => p.typ == 1 && (List.range p.count).any (fun i => badParity (BitVec.ofNat 144 (p.entry i)) != 0)) then
          s.patchEnd a 8
        else ((s.patchWriteAll a l).fset (F.MSQ_PSTS_PREV a) (s.load (img + 0xA) 2)).patchEnd a 0

/-- PATCH_LOAD_COMPLETE. -/
def execPatchLoadComplete (a : Act) (sigOk tagOk : Bool) (plain : List Byte) (s : State) : Host.Outcome State Fault Refusal :=
  .next (patchLoadCompleteOp a sigOk tagOk plain s)

end Sys2Proof.Machine
end

