-- ==== Sys2Proof/Machine/Slots.lean ====
section
/-! DEFINITION. Slots and windows of the Timetable (R40 to R44). -/
namespace Sys2Proof.Machine

/-- The latch of an armed slot. -/
def State.slotAt (s : State) (n : Nat) : Option SlotLatch := (s.ttb.slots.find? (fun (p : Nat × SlotLatch) => p.1 == n)).map (fun p => p.2)
/-- Set or remove the latch of a slot; the list stays sorted by slot. -/
def State.slotSet (s : State) (n : Nat) (l : Option SlotLatch) : State :=
  let rest := dropKey n s.ttb.slots
  let s := { s with ttb := { s.ttb with slots := match l with
    | some x => insertKey n x rest
    | none => rest } }
  s.fsetB (F.TTB_SLOT_CTL_ARM n) l.isSome

/-- Target registers of a slot. -/
def State.slotTarget (s : State) (n : Nat) : Angle := BitVec.ofNat 64 (s.wide (Rg.TTB_SLOT_TGT_LO n))
/-- D of R40. -/
def State.slotDiff (s : State) (x : Angle) : Int := angleDiff x s.ttb.angle
/-- Whether D lies within the horizon (R40). -/
def inHorizon (d : Int) : Bool := decide (-0x80000000 ≤ d) && decide (d < 0x80000000)

/-- A slot whose window mode governs it or its neighbour: an even slot with MODE = 1 (R43). -/
def State.isWindow (s : State) (n : Nat) : Bool := n % 2 == 0 && s.flag (F.TTB_SLOT_CTL_MODE n)

/-- The rejection of an arming (R40, R43). -/
def State.slotReject (s : State) (n : Nat) : State := (s.fsetB (F.TTB_SLOT_CTL_FAR n) true).fsetB F.TTB_STS_FAR true

/-- A write of TTB_SLOTn_CTL (R40, R42, R43). -/
def State.slotCtlWrite (s : State) (n : Nat) (v : Word) : State :=
  let mode := (F.TTB_SLOT_CTL_MODE n).on v
  let hw := (F.TTB_SLOT_CTL_HW n).of v
  let store := fun (s : State) => (s.fsetB (F.TTB_SLOT_CTL_MODE n) mode).fset (F.TTB_SLOT_CTL_HW n) hw
  if n % 2 = 1 ∧ s.isWindow (n - 1) then store s
  else if (F.TTB_SLOT_CTL_ARM n).on v then
    let win := mode && n % 2 == 0
    let t := s.slotTarget n
    let c := if win then s.slotTarget (n + 1) else 0
    let d := s.slotDiff t
    let span := angleDiff c t
    if !inHorizon d || (win && !(decide (0 < span) && decide (span < 0x80000000))) then s.slotReject n
    else
      let s := if win then s.slotSet (n + 1) none else s
      let s := ((store s).fsetB (F.TTB_SLOT_CTL_LATE n) false).fsetB (F.TTB_SLOT_CTL_FAR n) false
      (s.slotSet n (some ⟨t, c, win, hw, decide (d < 0), false⟩)).fsetB (F.TTB_SLOT_CTL_INSIDE n) false
  else ((store s).slotSet n none).fsetB (F.TTB_SLOT_CTL_INSIDE n) false

/-- SLOT_ARM (R40): a write of TTB_SLOTn_CTL with ARM = 1. -/
def execSlotArm (n : Fin 64) (v : Word) (s : State) : Host.Outcome State Fault Refusal := .next (s.slotCtlWrite n.val (setBits v 0 1 1))
/-- SLOT_DISARM (R42): ARM = 0. -/
def execSlotDisarm (n : Fin 64) (v : Word) (s : State) : Host.Outcome State Fault Refusal := .next (s.slotCtlWrite n.val (setBits v 0 1 0))

/-- The FIRED bit and the Event Router source of a slot (R41). [assumption 27 DESIGN CHOICE] -/
def State.slotFired (s : State) (n : Nat) : State :=
  let f : Fld := ⟨if n < 32 then Rg.TTB_FIRED_LO else Rg.TTB_FIRED_HI, n % 32, 1⟩
  (s.fsetB f true).raiseEvent n

/-- The rising edge of the strobe that HW selects (R41, R44). -/
def State.strobe (s : State) (hw : Nat) : State :=
  if hw = 1 then s.ascStrobe else if hw = 2 then s.seqStrobe .zero else if hw = 3 then s.seqStrobe .one else s

/-- How far a periodic target advances: the smallest multiple of `per` that places it after the present angle (R41). [assumption 26 DESIGN CHOICE] -/
def State.advance (s : State) (t : Angle) (per : Nat) : Angle :=
  let behind := (angleDiff s.ttb.angle t).toNat
  BitVec.ofNat 64 ((behind / per + 1) * per)

/-- After a fire: disarm, or advance by the period (R41, R44). [assumption 26 DESIGN CHOICE] -/
def State.slotNext (s : State) (n : Nat) (l : SlotLatch) : State :=
  let per := s.fget (F.TTB_SLOT_PER_PER n) * 16
  if per = 0 then s.slotSet n none
  else
    let d := s.advance l.target per
    s.slotSet n (some { l with target := l.target + d, close := l.close + d, late := false, opened := false })

/-- SLOT_FIRE (R40, R41): the near angle is at or after a single slot's target. [assumption 27 DESIGN CHOICE] -/
def slotFireOp (n : Fin 64) (s : State) : State :=
  match s.slotAt n.val with
  | none => s
  | some l =>
    let s1 := s.angleTo l.target
    if l.window || decide (s1.slotDiff l.target > 0) then s
    else (((s1.fsetB (F.TTB_SLOT_CTL_LATE n.val) l.late).slotFired n.val).strobe l.hw).slotNext n.val l

/-- SLOT_FIRE. -/
def execSlotFire (n : Fin 64) (s : State) : Host.Outcome State Fault Refusal := .next (slotFireOp n s)

/-- WINDOW_OPEN (R44): the first cycle at or after open; a window that had passed whole opens and closes without being inside. [assumption 27 DESIGN CHOICE] -/
def windowOpenOp (n : Fin 64) (s : State) : State :=
  match s.slotAt n.val with
  | none => s
  | some l =>
    let s1 := s.angleTo l.target
    if !l.window || l.opened || decide (s1.slotDiff l.target > 0) then s
    else
      let s := (s1.fsetB (F.TTB_SLOT_CTL_LATE n.val) l.late).slotFired n.val
      if l.late && decide (s.slotDiff l.close ≤ 0) then (s.slotFired (n.val + 1)).slotNext n.val l
      else ((s.slotSet n.val (some { l with opened := true })).fsetB (F.TTB_SLOT_CTL_INSIDE n.val) true).strobe l.hw

/-- WINDOW_OPEN. -/
def execWindowOpen (n : Fin 64) (s : State) : Host.Outcome State Fault Refusal := .next (windowOpenOp n s)

/-- WINDOW_CLOSE (R44): the first cycle at or after close. [assumption 27 DESIGN CHOICE] -/
def windowCloseOp (n : Fin 64) (s : State) : State :=
  match s.slotAt n.val with
  | none => s
  | some l =>
    let s1 := s.angleTo l.close
    if !l.opened || decide (s1.slotDiff l.close > 0) then s
    else ((s1.fsetB (F.TTB_SLOT_CTL_INSIDE n.val) false).slotFired (n.val + 1)).slotNext n.val l

/-- WINDOW_CLOSE. -/
def execWindowClose (n : Fin 64) (s : State) : Host.Outcome State Fault Refusal := .next (windowCloseOp n s)

end Sys2Proof.Machine
end

