-- ==== Sys2Proof/Machine/Bok.lean ====
section
/-! DEFINITION. The Station Book (R341 to R346, R351): records in the Vault, the queue's writing, buckets, clearing and firmware records. -/
namespace Sys2Proof.Machine

/-- Update the Station Book's hidden state. -/
def State.bokMap (s : State) (f : BokSt → BokSt) : State := { s with bok := f s.bok }
/-- Update the Vault's hidden state. -/
def State.vaultMap (s : State) (f : VaultSt → VaultSt) : State := { s with vault := f s.vault }

/-- The 32 bytes of a record (Table 16.6); its last 64-bit word carries the CRC (R341). -/
def recordBytes (r : BokRec) (n : Nat) : List Byte :=
  let b := leBytes 4 n ++ leBytes 2 (n / 2 ^ 32) ++ leBytes 2 r.code.toNat ++ leBytes 8 r.time.toNat ++ leBytes 8 r.info.toNat ++
    leBytes 2 (min r.supp 0xFFFF) ++ leBytes 1 r.forced.toNat ++ leBytes 1 0
  b ++ leBytes 4 (crc32c b)

/-- Where record `n` goes (R342). -/
def recordAddr (n : Nat) : Nat := if n < 1024 then 0x19400000 + 32 * n else 0x19408000 + 32 * ((n - 1024) % 8192)

/-- BOK_HEAD and BOK_STS.PFULL from the next record number (R342). -/
def State.bokHead (s : State) : State :=
  ((s.wr Rg.BOK_HEAD_LO (BitVec.ofNat 32 s.vault.bokNext)).fset F.BOK_HEAD_HI_EPOCH (s.vault.bokNext / 2 ^ 32)).fsetB F.BOK_STS_PFULL
    (decide (1024 ≤ s.vault.bokNext))

/-- Write one record as the next number (R342). -/
def State.writeRecord (s : State) (r : BokRec) : State :=
  let n := s.vault.bokNext
  ((s.setBytes (recordAddr n) (recordBytes r n)).vaultMap (fun v => { v with bokNext := (n + 1) % 2 ^ 48 })).bokHead

/-- The second of clock time. -/
def State.second (s : State) : Nat := s.clock.toNat / 1000000000

/-- RECORD_WRITE (R341 to R343): the record at the head of the queue is written, at most 512 in each second of clock time. [assumption 226 DEDUCED] -/
def recordWriteOp (s : State) : State :=
  let s := if s.bok.second = s.second then s else s.bokMap (fun b => { b with second := s.second, written := 0 })
  match s.bok.queue with
  | [] => s
  | r :: rest =>
    if s.bok.clearing || 512 ≤ s.bok.written then s
    else ((s.bokMap (fun b => { b with queue := rest, written := b.written + 1 })).writeRecord r).bokBusy

/-- RECORD_WRITE. -/
def execRecordWrite (s : State) : Host.Outcome State Fault Refusal := .next (recordWriteOp s)

/-- BUCKET_REFILL (R344): a bucket below full gains a token. [assumption 227 DEDUCED] -/
def bucketRefillOp (code : BitVec 16) (s : State) : State :=
  let burst := max 1 (s.fget F.BOK_RATE_BURST)
  s.bokMap (fun b => { b with buckets := b.buckets.map (fun x =>
    if x.code = code then { x with tokens := if x.tokens < burst then x.tokens + 1 else x.tokens } else x) })

/-- BUCKET_REFILL. -/
def execBucketRefill (code : BitVec 16) (s : State) : Host.Outcome State Fault Refusal := .next (bucketRefillOp code s)

/-- A write of BOK_CTL (R346, Table 16.12). -/
def State.bokCtlWrite (s : State) (v : Word) : State :=
  let s := if F.BOK_CTL_CLRCNT.on v then (s.clearCount Rg.BOK_DROP_LO).clearCount Rg.BOK_SUPP_LO else s
  if F.BOK_CTL_CLR.on v && s.flag F.SEC_STS_ADMIN then (s.bokMap (fun b => { b with clearing := true })).bokBusy else s

/-- STATION_BOOK_CLEAR (R346): a write of BOK_CTL with CLR = 1. -/
def execStationBookClear (v : Word) (s : State) : Host.Outcome State Fault Refusal := .next (s.bokCtlWrite (setBits v 0 1 1))
/-- BOK_COUNTER_CLEAR (R11): CLRCNT = 1. -/
def execBokCounterClear (v : Word) (s : State) : Host.Outcome State Fault Refusal := .next (s.bokCtlWrite (setBits v 1 1 1))

/-- Every circulating slot overwritten with zero (R346). -/
def State.clearCirculating (s : State) : State :=
  { s with mem := s.mem.filter (fun (c : Host.Cell) => decide (c.1 < 0x19408000) || decide (0x19448000 ≤ c.1)) }

/-- STATION_BOOK_CLEAR_END (R346, R351): the circulating area is empty and the clear record is the next number. [assumption 228 DEDUCED] -/
def stationBookClearEndOp (s : State) : State :=
  if s.bok.clearing then
    let s := s.clearCirculating
    let s := s.writeRecord ⟨recCode Blk.bok 0 2, s.clock, 0, 0, false, false⟩
    let s := (s.bokMap (fun b => { b with clearing := false })).bokBusy
    (s.raiseFault Blk.bok 0 2 0 0).raiseEvent 104
  else s

/-- STATION_BOOK_CLEAR_END. -/
def execStationBookClearEnd (s : State) : Host.Outcome State Fault Refusal := .next (stationBookClearEndOp s)

/-- A write of BOK_FWREC (R343, R344, R351): source BOK, units 1 to 31. -/
def State.fwrecWrite (s : State) (v : Word) : State :=
  let code := F.BOK_FWREC_CODE.of v
  let src := code / 64
  if F.BOK_FWREC_GO.on v && src / 32 == Blk.bok && decide (1 ≤ src % 32) then
    s.offerRecord (BitVec.ofNat 16 code) (BitVec.ofNat 64 (s.wide Rg.BOK_FWINFO_LO)) false false false
  else s

/-- FIRMWARE_RECORD: a write of BOK_FWREC with GO = 1. -/
def execFirmwareRecord (v : Word) (s : State) : Host.Outcome State Fault Refusal := .next (s.fwrecWrite (setBits v 31 1 1))

/-- The record of a loss, an uncorrectable error or a fatal message, written by the always-on write path (R291, R314, R328): from the queue,
or from the message still on its way, which then offers no second one. [assumption 226 DEDUCED] -/
def State.recordNow (s : State) (code : BitVec 16) : State :=
  match s.bok.queue.find? (fun (r : BokRec) => r.code == code) with
  | some r =>
    ((s.bokMap (fun b => { b with queue := b.queue.erase r })).writeRecord r).bokBusy
  | none =>
    match s.flt.inflight.find? (fun (m : BitVec 64) => m.extractLsb' 48 16 == code) with
    | some m =>
      (s.bokMap (fun b => { b with direct := b.direct ++ [m] })).writeRecord ⟨code, s.clock, m, 0, m.getLsbD 39, true⟩
    | none => s

end Sys2Proof.Machine
end

