-- ==== Sys2Proof/Machine/Flt.lean ====
section
/-! DEFINITION. The Fault Collector and its classes (R324 to R328), the monitors (R329), forced faults (R330, R331) and the Event Router's
sources (R333, R334). -/
namespace Sys2Proof.Machine

/-- Update the Fault Collector's hidden state. -/
def State.fltMap (s : State) (f : FltSt → FltSt) : State := { s with flt := f s.flt }

/-- Every core stops and CQE admits nothing and posts no completion (R291 step 1, R312). -/
def State.stopAll (s : State) : State :=
  { s with core := { s.core with stopped := true }, cqe := { s.cqe with stopped := true } }

/-- The save of the protected window begins (R313) unless one runs. -/
def State.beginSave (s : State) (cause : Nat) : State :=
  if s.pwr.saving.isSome || s.pwr.held then s
  else { s with pwr := { s.pwr with saving := some cause, detected := s.clock } }

/-- Set FLT_STS.QCNT. -/
def State.fltCount (s : State) : State := s.fset F.FLT_STS_QCNT s.flt.queue.length

/-- CLASS of a message (Table 15.2). -/
def msgClass (m : BitVec 64) : Nat := msgField m 45 3
/-- SOURCE of a message. -/
def msgSource (m : BitVec 64) : Nat := msgField m 54 10
/-- KIND of a message. -/
def msgKind (m : BitVec 64) : Nat := msgField m 48 6

/-- Remove the oldest message of class 0 or 1. -/
def dropLow : List (BitVec 64) → Option (List (BitVec 64))
  | [] => none
  | m :: t => if msgClass m ≤ 1 then some t else (dropLow t).map (fun r => m :: r)

/-- What entering the queue brings (R326): the class's event, and the offer to the Station Book; a record already written (R291, R314) and BOK's
own start and clear records are not offered again. -/
def State.messageQueued (s : State) (m : BitVec 64) : State :=
  let c := msgClass m
  let s := s.fltCount.raiseEvent (98 + c)
  if s.bok.direct.contains m then s.bokMap (fun b => { b with direct := b.direct.erase m })
  else if msgSource m = faultSource Blk.bok 0 && msgKind m ≤ 2 then s
  else s.offerRecord (m.extractLsb' 48 16) m (m.getLsbD 39) (decide (4 ≤ c)) (msgSource m == faultSource Blk.bok 0)

/-- A message arrives at the queue of 64 (R326). -/
def State.enqueueMessage (s : State) (m : BitVec 64) : State :=
  let q := s.flt.queue
  if q.length < 64 then (s.fltMap (fun f => { f with queue := q ++ [m] })).messageQueued m
  else
    let s := s.count Rg.FLT_DROP_LO
    if 2 ≤ msgClass m then
      match dropLow q with
      | some r => (s.fltMap (fun f => { f with queue := r ++ [m] })).messageQueued m
      | none => s
    else s

/-- The scope of a safe-stop (R327): an actuator for SAC, MSQ and ASC or DDP units 0 and 1, else the device. -/
def safeScope (src : Nat) : Option Act :=
  let b := src / 32
  let u := src % 32
  if b = 8 || b = 10 then some .zero else if b = 9 || b = 11 then some .one
  else if (b = 15 || b = 14) && u = 0 then some .zero else if (b = 15 || b = 14) && u = 1 then some .one
  else none

/-- Class 4 (Table 15.4, R327). [assumption 216 DEDUCED] -/
def State.safeStopSet (s : State) (src : Nat) : State :=
  match safeScope src with
  | some .zero => s.fsetB F.FLT_STS_SAFE0 true
  | some .one => s.fsetB F.FLT_STS_SAFE1 true
  | none => (s.fsetB F.FLT_STS_SAFEDEV true).fence

/-- The pins of a held device (R379, Table 18.2): no Token net driven, HBO and GPIO 15 low, the PCIe and Branch Line transmitters idle. [assumption 270 DEDUCED] -/
def State.pinsHeld (s : State) : State :=
  let s := (s.fset F.BRL_TKSTS_DRIVE 0).fsetB F.BRL_STS_LINK false
  let s := (s.brlMap (fun b => { b with hbo := false, waits := [] })).wr (Rg.HEP_LINK 0) 0
  { s.wr (Rg.HEP_LINK 1) 0 with pins := { s.pins with gpio15 := false } }

/-- The fatal hold (R328 step 3): the Station Book record, the cores in reset, both links down and FLT_FATAL recorded. [assumption 214 DEDUCED] -/
def State.fatalHoldStart (s : State) : State :=
  let src := s.flt.fatalSrc
  let kind := s.flt.fatalKind
  let s := s.recordNow (BitVec.ofNat 16 (src * 64 + kind))
  let s := ((s.fset F.FLT_FATAL_SRC src).fset F.FLT_FATAL_KIND kind).fsetB F.FLT_FATAL_VALID true
  let s := { s with core := { s.core with harts := s.core.harts.map (fun (h : Hart) => { h with released := false }) } }
  s.pinsHeld.fltMap (fun f => { f with fatalHold := true })

/-- Class 5 (R328): FATAL, the spindle in FAULT with its gates low, Buffer Stop for both actuators, cores and admission stopped, and the save.
A device that a power loss holds has had its save. [assumption 214 DEDUCED] -/
def State.fatal (s : State) (src kind : Nat) : State :=
  let s := s.fsetB F.FLT_STS_FATAL true
  if s.flt.fatalSeq then s
  else
    let s := s.fltMap (fun f => { f with fatalSeq := true, fatalSrc := src, fatalKind := kind })
    let s := { s with core := { s.core with resetDue := none } }
    let s := (s.spcEnter SpcS.fault).bridgeSet .gatesLow
    let s := ((s.ttbRate.bufferStopBoth.fence).stopAll).beginSave 2
    if s.pwr.held then s.fatalHoldStart else s

/-- FAULT_MESSAGE (R324, R326 to R328): the message that left its block first reaches the Collector.  SEEN has a bit for every class queued (Table 15.9), and
a class of 2 or more sets its bit even when the queue has no room (Table 15.4). [assumptions 210 DEDUCED, 211 DEDUCED] -/
def faultMessageOp (s : State) : State :=
  match s.flt.inflight with
  | [] => s
  | m :: rest =>
    let c := msgClass m
    let entered := decide (s.flt.queue.length < 64) || decide (2 ≤ c)
    let s := (s.fltMap (fun f => { f with inflight := rest })).enqueueMessage m
    let s := if entered then s.fset F.FLT_STS_SEEN (s.fget F.FLT_STS_SEEN ||| 1 <<< c) else s
    if c = 4 then s.safeStopSet (msgSource m) else if c = 5 then s.fatal (msgSource m) (msgKind m) else s

/-- FAULT_MESSAGE. -/
def execFaultMessage (s : State) : Host.Outcome State Fault Refusal := .next (faultMessageOp s)

/-- FATAL_HOLD_END (R328): the monitors have seen VDD_CORE below its threshold for 100 ms. -/
def fatalHoldEndOp (s : State) : State :=
  if s.flt.fatalHold then s.fltMap (fun f => { f with fatalHold := false, fatalSeq := false }) else s

/-- FATAL_HOLD_END. -/
def execFatalHoldEnd (s : State) : Host.Outcome State Fault Refusal := .next (fatalHoldEndOp s)

/-- The oldest message, 0 when the queue is empty (R324). -/
def State.oldestMessage (s : State) : BitVec 64 := s.flt.queue.headD 0

/-- A read of FLT_MSG_LO removes the oldest message and holds its high half (R10, Table 15.8). -/
def State.takeMessage (s : State) : Word × State :=
  let m := s.oldestMessage
  (m.setWidth 32, ({ s with shadows := insertKey Rg.FLT_MSG_LO (m.extractLsb' 32 32) (dropKey Rg.FLT_MSG_LO s.shadows)
                            flt := { s.flt with queue := s.flt.queue.tail } }).fltCount)

/-- FAULT_MESSAGE_READ (R326): a read of FLT_MSG_LO. -/
def faultMessageReadOp (s : State) : State :=
  let r := s.takeMessage
  { r.2 with core := { r.2.core with rdata := r.1 } }

/-- FAULT_MESSAGE_READ. -/
def execFaultMessageRead (s : State) : Host.Outcome State Fault Refusal := .next (faultMessageReadOp s)

/-- Any FLT write other than the second key closes the way to the unlock (R330). -/
def State.fltTouched (s : State) : State := s.fltMap (fun f => { f with unlockArmed := false })

/-- A write of FLT_CTL (R11). -/
def State.fltCtlWrite (s : State) (v : Word) : State :=
  let s := s.fltTouched
  if F.FLT_CTL_CLRCNT.on v then s.clearCount Rg.FLT_DROP_LO else s

/-- FLT_COUNTER_CLEAR: CLRCNT = 1. -/
def execFltCounterClear (v : Word) (s : State) : Host.Outcome State Fault Refusal := .next (s.fltCtlWrite (setBits v 0 1 1))

/-- One bit of a field. -/
def State.fieldBit (s : State) (f : Fld) (i : Nat) (b : Bool) : State := s.fsetB ⟨f.addr, f.lo + i, 1⟩ b

/-- CQE_STS.EARLY: hold-up armed and LIMIT > 0 (Table 11.8). -/
def State.earlyUpdate (s : State) : State :=
  s.fsetB F.CQE_STS_EARLY (s.flag F.PWR_STS_ARMED && s.fget F.CQE_PWCFG_LIMIT != 0)

/-- A power loss (R312): in the cycle after detection ARMED falls, CQE stops, Buffer Stop is invoked, SPC receives the harvest command, the
cores stop, the save begins, and the notice is raised. [assumptions 215 DEDUCED, 218 DESIGN CHOICE] -/
def State.powerLoss (s : State) (real : Bool) : State :=
  if s.pwr.held || s.pwr.saving == some 1 || s.flt.fatalHold then s
  else
    let s := if s.flag F.PWR_STS_ARMED then ((s.fsetB F.PWR_STS_ARMED false).raiseEvent 97).raiseFault Blk.pwr 0 1 2 0 else s
    let s := s.earlyUpdate.bufferStopBoth
    let s := if s.flt.fatalSeq then s else s.harvestCommand.ttbRate
    (s.stopAll.beginSave 1).raiseFault Blk.pwr 0 3 0 0 real

/-- RAIL_OUT_OF_RANGE (R329, Table 15.5): FLT_MON changes and the message is sent; a core-rail under-voltage is a power loss (R312). [assumption 202 DEDUCED] -/
def railOutOfRangeOp (unit : Fin 6) (overs : Bool) (mv : Nat) (s : State) : State :=
  let u := unit.val
  let s := s.fieldBit (if overs then F.FLT_MON_OV else F.FLT_MON_UV) u true
  if overs then s.raiseFault Blk.flt u 2 5 (mv % 65536) (!s.forced Blk.flt u 2)
  else
    let s := s.raiseFault Blk.flt u 1 (if u = 5 then 2 else 0) (mv % 65536) (!s.forced Blk.flt u 1)
    if u = 5 then s else s.powerLoss true

/-- RAIL_OUT_OF_RANGE. -/
def execRailOutOfRange (unit : Fin 6) (overs : Bool) (mv : Nat) (s : State) : Host.Outcome State Fault Refusal :=
  .next (railOutOfRangeOp unit overs mv s)

/-- RAIL_BACK_IN_RANGE (R329): FLT_MON changes and no message is sent. -/
def railBackInRangeOp (unit : Fin 6) (s : State) : State :=
  (s.fieldBit F.FLT_MON_UV unit.val false).fieldBit F.FLT_MON_OV unit.val false

/-- RAIL_BACK_IN_RANGE. -/
def execRailBackInRange (unit : Fin 6) (s : State) : Host.Outcome State Fault Refusal := .next (railBackInRangeOp unit s)

/-- CLOCK_FAILURE (R329, Table 15.5): the core clock switches to the fallback oscillator and the class 5 message is sent. [assumption 217 DEDUCED] -/
def clockFailureOp (pll : Bool) (edges : Nat) (s : State) : State :=
  let s := (s.fsetB (if pll then F.FLT_MON_PLL else F.FLT_MON_XTAL) true).fsetB F.FLT_MON_FALLBACK true
  let u := if pll then 9 else 8
  (s.raiseFault Blk.flt u 3 5 (edges % 65536) (!s.forced Blk.flt u 3)).permBoth

/-- CLOCK_FAILURE. -/
def execClockFailure (pll : Bool) (edges : Nat) (s : State) : Host.Outcome State Fault Refusal := .next (clockFailureOp pll edges s)

/-- A write of FLT_UNLOCK (R330): 0x7E51 and then, as the very next FLT write, 0x0C3A; any other write closes the unlock.  Each opening is
recorded; the manual names no code for that record, so its code is a free value. [assumption 212 DESIGN CHOICE] -/
def State.unlockWrite (s : State) (v : Word) : State :=
  let k := F.FLT_UNLOCK_KEY.of v
  if k = 0x0C3A && s.flt.unlockArmed && (!s.locked || s.flag F.SEC_STS_DBGOPEN) then
    (((s.fltTouched.fsetB F.FLT_STS_UNLOCKED true).offerRecord (BitVec.ofNat 16 (Config.unstated s.freeCtr)) 0 false false false)).tick
  else (s.fltMap (fun f => { f with unlockArmed := k == 0x7E51 })).fsetB F.FLT_STS_UNLOCKED false

/-- TEST_UNLOCK: a write of FLT_UNLOCK. -/
def execTestUnlock (v : Word) (s : State) : Host.Outcome State Fault Refusal := .next (s.unlockWrite v)

/-- The kinds that a source has (R325; Tables 3.5, 4.7, 5.6, 7.16, 8.3, 9.5, 10.7, 11.6, 13.3, 14.5, 15.6, 16.9, 17.6). -/
def sourceKind (src kind : Nat) : Bool :=
  let b := src / 32
  let u := src % 32
  let upTo := fun (n : Nat) => decide (1 ≤ kind) && decide (kind ≤ n)
  if b = Blk.asc then (u == 2 && upTo 7 && kind != 6) || (decide (u ≤ 1) && kind == 6)
  else if b = Blk.ddp then decide (u ≤ 1) && upTo 1
  else if b = Blk.flt then (decide (u ≤ 5) && upTo 2) || ((u == 8 || u == 9) && kind == 3)
  else u == 0 && upTo (
    if b = Blk.spc then 6 else if b = 8 || b = 9 then 5 else if b = 10 || b = 11 then 2 else if b = 12 || b = 13 then 5
    else if b = Blk.zne then 4 else if b = Blk.ste then 7 else if b = Blk.cqe then 4 else if b = Blk.mem then 6
    else if b = Blk.pwr then 3 else if b = Blk.ttb then 3 else if b = Blk.hep then 2 else if b = Blk.bok then 3
    else if b = Blk.sec then 5 else if b = Blk.brl then 9 else 0)

/-- A write of FLT_FORCE (R331). [assumption 213 DEDUCED] -/
def State.forceWrite (s : State) (v : Word) : State :=
  let s := s.fltTouched
  let src := F.FLT_FORCE_SRC.of v
  let kind := F.FLT_FORCE_KIND.of v
  if !F.FLT_FORCE_GO.on v || s.flt.force.isSome then s
  else if !s.flag F.FLT_STS_UNLOCKED || !sourceKind src kind then s.fset F.FLT_FORCE_RESULT 3
  else (s.fltMap (fun f => { f with force := some (src, kind) })).fset F.FLT_FORCE_RESULT 0

/-- FORCE_FAULT: a write of FLT_FORCE with GO = 1. -/
def execForceFault (v : Word) (s : State) : Host.Outcome State Fault Refusal := .next (s.forceWrite (setBits v 16 1 1))

/-- FORCE_LAPSE (R331): 1 s passed without a check. -/
def forceLapseOp (s : State) : State :=
  if s.flt.force.isSome then (s.fltMap (fun f => { f with force := none })).fset F.FLT_FORCE_RESULT 2 else s

/-- FORCE_LAPSE. -/
def execForceLapse (s : State) : Host.Outcome State Fault Refusal := .next (forceLapseOp s)

/-- A write of EVR_SWSET (Table 15.9). -/
def State.swsetWrite (s : State) (v : Word) : State :=
  if F.EVR_SWSET_GO.on v then s.raiseEvent (512 + F.EVR_SWSET_IDX.of v) else s

/-- SOFTWARE_EVENT: a write of EVR_SWSET with GO = 1. -/
def execSoftwareEvent (v : Word) (s : State) : Host.Outcome State Fault Refusal := .next (s.swsetWrite (setBits v 31 1 1))

/-- A write of EVR_ROUTEs (R334, R335): discarded for a reserved source. -/
def State.routeWrite (s : State) (n : Nat) (v : Word) : State :=
  if eventSource n then s.wr (Rg.EVR_ROUTE n) (v &&& maskOf 0 18) else s

/-- ROUTE_WRITE: a write of EVR_ROUTEs. -/
def execRouteWrite (n : Fin 640) (v : Word) (s : State) : Host.Outcome State Fault Refusal := .next (s.routeWrite n.val v)

/-- GPIO_EDGE (Table 15.7): an edge on a GPIO input. -/
def gpioEdgeOp (n : Fin 16) (level : Bool) (s : State) : State :=
  ({ s with pins := { s.pins with gpioIn := (s.pins.gpioIn &&& ~~~ BitVec.ofNat 16 (1 <<< n.val)) ||| BitVec.ofNat 16 (level.toNat <<< n.val) } }).raiseEvent
    (136 + n.val)

/-- GPIO_EDGE. -/
def execGpioEdge (n : Fin 16) (level : Bool) (s : State) : Host.Outcome State Fault Refusal := .next (gpioEdgeOp n level s)

end Sys2Proof.Machine
end

