-- ==== Sys2Proof/Machine/Mem.lean ====
section
/-! DEFINITION. Memories: the Yard's and the Vault's codes, Darning and bank retirement (R284 to R290), the fault reset's start (R291), scrubbing (R293),
the check-bit test (R294), DDR5 reads (R295 to R297) and the Map Cache (R298 to R304). -/
namespace Sys2Proof.Machine

/-- Update MEM's hidden state. -/
def State.msMap (s : State) (f : MemSt → MemSt) : State := { s with ms := f s.ms }
/-- Update the processor cluster. -/
def State.coreMap (s : State) (f : CoreSt → CoreSt) : State := { s with core := f s.core }

/-- INFO of a fault that concerns an address (Table 15.3). -/
def addrInfo (a : Nat) : Nat := a % 2 ^ 34

/-- The fault reset begins (R291): the record of the first word, Buffer Stop for both actuators, cores and admission stopped, and the save; a
further error during it sets MULTI only. [assumption 215 DEDUCED] -/
def State.faultReset (s : State) (a src : Nat) (real : Bool := true) : State :=
  if s.ms.faultReset then s.fsetB F.MEM_UEINFO_MULTI true
  else if s.flt.fatalSeq then s
  else
    let s := (s.wideSet Rg.MEM_UEADDR_LO (a / 8 * 8)).fset F.MEM_UEINFO_SRC src
    let s := (s.msMap (fun m => { m with faultReset := true })).coreMap (fun c => { c with resetDue := none })
    ((s.bufferStopBoth.stopAll).beginSave 2).raiseFault Blk.mem 0 6 4 (addrInfo a) real

/-- Logical bank of a Yard address (R284). -/
def yardBank (a : Nat) : Nat := (a - 0x10000000) / 2 ^ 20
/-- Word of a Yard address in its bank (R284). -/
def yardWord (a : Nat) : Nat := a / 8 % 2 ^ 17

/-- The physical bank that holds a logical bank (R284, R289). -/
def State.physBank (s : State) (b : Nat) : Nat :=
  if s.fget F.MEM_BANKMAP_SPARE1 = b then 65 else if s.fget F.MEM_BANKMAP_SPARE0 = b then 64 else b

/-- Whether a Yard word is served from a Darning entry (R288). -/
def State.darned (s : State) (a : Nat) : Bool :=
  let pb := s.physBank (yardBank a)
  s.vault.darn.any (fun p => p.1 / 16 == pb && p.2 == yardWord a)

/-- The first free Darning entry of a physical bank (R288). -/
def State.freeDarn (s : State) (pb : Nat) : Option Nat :=
  (List.range 16).find? (fun e => !s.vault.darn.any (fun p => p.1 == pb * 16 + e))

/-- The effective scrub interval after halvings (R289). -/
def State.effInterval (s : State) : State :=
  let i := s.fget F.MEM_SCRCTL_INTV
  let h := s.ms.halvings
  s.fset F.MEM_SCRSTS_EFFINTV (if h = 0 then i else if i = 0 then max 1 (24 / 2 ^ (h - 1)) else max 1 (i / 2 ^ h))

/-- A spare bank that is free: neither named in MEM_BANKMAP nor being copied to (R289). -/
def State.freeSpare (s : State) : Option Nat :=
  let ok := fun (k : Nat) (f : Fld) => s.fget f == 0x7F && !s.ms.copies.any (fun p => p.2 == k)
  if ok 64 F.MEM_BANKMAP_SPARE0 then some 64 else if ok 65 F.MEM_BANKMAP_SPARE1 then some 65 else none

/-- A hard word (R285, R288, R289): darned, or its bank's copy begun, or the scrub interval halved. [assumption 183 DEDUCED] -/
def State.hardWord (s : State) (a : Nat) : State :=
  let b := yardBank a
  let pb := s.physBank b
  match s.freeDarn pb with
  | some e =>
    let s := { s with vault := { s.vault with darn := insertKey (pb * 16 + e) (yardWord a) s.vault.darn } }
    if s.flag F.MEM_SCRSTS_BUSY then s.wr Rg.MEM_SCRDARN (BitVec.ofNat 32 (min 0xFFFFFFFF ((s.rd Rg.MEM_SCRDARN).toNat + 1))) else s
  | none =>
    let s := s.raiseFault Blk.mem 0 4 2 (addrInfo a)
    if s.ms.copies.any (fun p => p.1 == b) then s
    else match s.freeSpare with
      | some k => s.msMap (fun m => { m with copies := m.copies ++ [(b, k)] })
      | none => (s.msMap (fun m => { m with halvings := m.halvings + 1 })).effInterval

/-- The word's stored check bits are right again after a write-back. -/
def State.unbad (s : State) (w : Nat) : State := s.msMap (fun m => { m with bad := dropKey w m.bad })

/-- A word of the Yard is read (R285, R291): whether it is readable, and what the code does.  A darned word is served from its entry, never from
the array (R288). [assumption 180 DESIGN CHOICE] -/
def State.yardRead (s : State) (a : Nat) (e : ArrErr) : Bool × State :=
  let w := a / 8
  let arr := if s.darned a then 0 else e.bits
  let n := arr + look (fun _ => 0) w s.ms.bad
  let real := !s.forced Blk.mem 0 6
  if n = 0 && real then (true, s)
  else if n = 1 && real then
    let s := (s.unbad w).raiseFault Blk.mem 0 3 1 (addrInfo (8 * w))
    let s := if s.flag F.MEM_SCRSTS_BUSY then s.wr Rg.MEM_SCRCE (BitVec.ofNat 32 (min 0xFFFFFFFF ((s.rd Rg.MEM_SCRCE).toNat + 1))) else s
    (true, if arr = 1 && e.hard then s.hardWord (8 * w) else s.count Rg.MEM_YCE_LO)
  else (false, s.faultReset (8 * w) 1 (decide (2 ≤ n)))

/-- A word of the Vault is read (R290, R291). [assumption 180 DESIGN CHOICE] -/
def State.vaultRead (s : State) (a : Nat) (e : ArrErr) : Bool × State :=
  let w := a / 8
  let n := e.bits + look (fun _ => 0) w s.ms.bad
  if n = 0 then (true, s)
  else if n ≤ 2 then
    let s := if n = 2 then s.unbad w else s
    let s := if s.flag F.MEM_SCRSTS_BUSY then s.wr Rg.MEM_SCRCE (BitVec.ofNat 32 (min 0xFFFFFFFF ((s.rd Rg.MEM_SCRCE).toNat + 1))) else s
    (true, (s.count Rg.MEM_VCE_LO).raiseFault Blk.mem 0 3 1 (addrInfo (8 * w)))
  else (false, s.faultReset (8 * w) 2)

/-- A word of either memory. -/
def State.arrayRead (s : State) (a : Nat) (e : ArrErr) : Bool × State :=
  if inYard a then s.yardRead a e else if inVault a then s.vaultRead a e else (true, s)

/-- MEM_BANKMAP and MEM_STS.SPARES from the retirements kept in the Vault (R288). -/
def State.bankMap (s : State) : State :=
  let n := s.vault.spare0.isSome.toNat + s.vault.spare1.isSome.toNat
  ((s.fset F.MEM_BANKMAP_SPARE0 (s.vault.spare0.getD 0x7F)).fset F.MEM_BANKMAP_SPARE1 (s.vault.spare1.getD 0x7F)).fset F.MEM_STS_SPARES n

/-- BANK_COPY_END (R289): MEM_BANKMAP names the spare and the retirement is recorded in the Vault. -/
def bankCopyEndOp (s : State) : State :=
  match s.ms.copies with
  | [] => s
  | (b, k) :: rest =>
    let s := s.msMap (fun m => { m with copies := rest })
    (s.vaultMap (fun v => if k = 64 then { v with spare0 := some b } else { v with spare1 := some b })).bankMap

/-- BANK_COPY_END. -/
def execBankCopyEnd (s : State) : Host.Outcome State Fault Refusal := .next (bankCopyEndOp s)

/-- Read the wrong words that a pass meets, until one is uncorrectable (R293). -/
def State.scrubWords (s : State) (covers : Nat → Bool) : List FoundErr → State
  | [] => s
  | f :: t =>
    if covers f.addr then
      let r := s.arrayRead f.addr f.err
      if r.1 then r.2.scrubWords covers t else r.2
    else s.scrubWords covers t

/-- Words of the Vault. -/
def vaultWords : Nat := 0x1800000 / 8

/-- A pass over `n` logical banks from `first` (none for a Vault pass) and the Vault (R293). [assumption 184 DEDUCED] -/
def State.scrubPass (s : State) (first n : Nat) (vault : Bool) (found : List FoundErr) : State :=
  let s := (((s.fsetB F.MEM_SCRSTS_BUSY true).wr Rg.MEM_SCRWORDS (BitVec.ofNat 32 (n * 2 ^ 17 + (if vault then vaultWords else 0)))).wr
    Rg.MEM_SCRCE 0).wr Rg.MEM_SCRDARN 0
  let covers := fun (a : Nat) => (inYard a && decide (first ≤ yardBank a) && decide (yardBank a < first + n)) || (inVault a && vault)
  let seeded := s.ms.bad.map (fun p => FoundErr.mk (8 * p.1) ⟨0, false⟩)
  s.scrubWords covers (found ++ seeded.filter (fun f => !found.any (fun g => g.addr / 8 == f.addr / 8)))

/-- A write of MEM_SCRCTL (R293). [assumption 17 DESIGN CHOICE] -/
def State.scrctlWrite (s : State) (v : Word) (found : List FoundErr) : State :=
  let s := (((s.fset F.MEM_SCRCTL_TGT (F.MEM_SCRCTL_TGT.of v)).fset F.MEM_SCRCTL_FIRST (F.MEM_SCRCTL_FIRST.of v)).fset F.MEM_SCRCTL_NBANKS
    (F.MEM_SCRCTL_NBANKS.of v))
  let s := if s.locked then s else (s.fset F.MEM_SCRCTL_INTV (F.MEM_SCRCTL_INTV.of v)).effInterval
  if F.MEM_SCRCTL_GO.on v && !s.flag F.MEM_SCRSTS_BUSY then
    let tgt := F.MEM_SCRCTL_TGT.of v
    let first := F.MEM_SCRCTL_FIRST.of v
    let n := min (max 1 (F.MEM_SCRCTL_NBANKS.of v)) (64 - first)
    s.scrubPass first (if tgt = 1 then 0 else n) (tgt != 0) found
  else s

/-- SCRUB_START: a write of MEM_SCRCTL with GO = 1. -/
def execScrubStart (v : Word) (found : List FoundErr) (s : State) : Host.Outcome State Fault Refusal :=
  .next (s.scrctlWrite (setBits v 0 1 1) found)

/-- SCRUB_TIMER (R293): the effective interval has passed since the end of the last pass. -/
def scrubTimerOp (found : List FoundErr) (s : State) : State :=
  if s.fget F.MEM_SCRSTS_EFFINTV = 0 || s.flag F.MEM_SCRSTS_BUSY then s else s.scrubPass 0 64 true found

/-- SCRUB_TIMER. -/
def execScrubTimer (found : List FoundErr) (s : State) : Host.Outcome State Fault Refusal := .next (scrubTimerOp found s)

/-- SCRUB_END (R293). -/
def scrubEndOp (s : State) : State :=
  if s.flag F.MEM_SCRSTS_BUSY then ((s.fsetB F.MEM_SCRSTS_BUSY false).fsetB F.MEM_SCRSTS_DONE true).raiseEvent 95 else s

/-- SCRUB_END. -/
def execScrubEnd (s : State) : Host.Outcome State Fault Refusal := .next (scrubEndOp s)

/-- A write of MEM_TEST (R294). -/
def State.memTestWrite (s : State) (v : Word) : State :=
  let s := s.fset F.MEM_TEST_CHK (F.MEM_TEST_CHK.of v)
  if F.MEM_TEST_ARM.on v then (if !s.locked || s.flag F.FLT_STS_UNLOCKED then s.fsetB F.MEM_TEST_ARM true else s)
  else s.fsetB F.MEM_TEST_ARM false

/-- CHECKBIT_TEST_ARM: a write of MEM_TEST with ARM = 1. -/
def execCheckbitTestArm (v : Word) (s : State) : Host.Outcome State Fault Refusal := .next (s.memTestWrite (setBits v 0 1 1))

/-- REFRESH_RATE_POLL (R295): MR4 read. -/
def execRefreshRatePoll (double : Bool) (s : State) : Host.Outcome State Fault Refusal := .next (s.fsetB F.MEM_DDRSTS_HOTREF double)

/-- A write of MEM_CTL (R11). -/
def State.memCtlWrite (s : State) (v : Word) : State :=
  if F.MEM_CTL_CLRCNT.on v then
    ((((((s.clearCount Rg.MEM_YCE_LO).clearCount Rg.MEM_VCE_LO).clearCount Rg.MEM_DDRCE_LO).clearCount Rg.MEM_DDRUE_LO).clearCount
      Rg.MEM_LATE_CPL_LO).clearCount Rg.MEM_MCHIT_LO).clearCount Rg.MEM_MCMISS_LO
  else s

/-- MEM_COUNTER_CLEAR: CLRCNT = 1. -/
def execMemCounterClear (v : Word) (s : State) : Host.Outcome State Fault Refusal := .next (s.memCtlWrite (setBits v 0 1 1))

/-- Set of a line (R298). -/
def lineSet (line : Nat) : Nat := line % 2048

/-- A line in the Map Cache and its way's key (R298). -/
def State.cacheFind (s : State) (line : Nat) : Option (Nat × CLine) :=
  s.ms.lines.find? (fun p => p.1 / 16 == lineSet line && p.2.tag == line / 2048)

/-- Whether the Map Cache takes allocations (R304). -/
def State.cacheOn (s : State) : Bool := !s.flag F.MEM_MCC_STS_OFF && !s.ms.disabling

/-- Locked lines of a set (R302). -/
def State.lockedIn (s : State) (set : Nat) : Nat := (s.ms.lines.filter (fun p => p.1 / 16 == set && p.2.locked)).length

/-- Put a line into a way. -/
def State.wayPut (s : State) (key : Nat) (c : CLine) : State :=
  s.msMap (fun m => { m with lines := insertKey key c (dropKey key m.lines) })

/-- The victim way of a set and the ages after R299's step. -/
def State.victim (s : State) (set : Nat) : Option (Nat × State) :=
  let mine := s.ms.lines.filter (fun p => p.1 / 16 == set)
  match (List.range 16).find? (fun w => !mine.any (fun p => p.1 % 16 == w)) with
  | some w => some (set * 16 + w, s)
  | none =>
    let free := mine.filter (fun p => !p.2.locked)
    let top := free.foldl (fun m p => max m p.2.age) 0
    let s := if top = 3 then s else s.msMap (fun m => { m with lines := m.lines.map (fun p =>
      if p.1 / 16 = set && !p.2.locked then (p.1, { p.2 with age := p.2.age + (3 - top) }) else p) })
    match (s.ms.lines.filter (fun p => p.1 / 16 == set)).find? (fun p => !p.2.locked && p.2.age == 3) with
    | some p => some (p.1, s)
    | none => none

/-- Install a line (R299). -/
def State.cacheInstall (s : State) (line age : Nat) (locked : Bool) : State :=
  match s.cacheFind line with
  | some (k, c) => s.wayPut k { c with locked := c.locked || locked }
  | none =>
    match s.victim (lineSet line) with
    | some (k, s) => s.wayPut k ⟨line / 2048, locked, age⟩
    | none => s

/-- Drop the merge buffer's entries up to that of a line: entries drain in allocation order (R301). -/
def drainTo (line : Nat) : List (Nat × Nat) → List (Nat × Nat)
  | [] => []
  | p :: t => if p.1 = line then t else drainTo line t

/-- A read waits for the drain of an entry that holds its line (R301). -/
def State.mergeFlush (s : State) (line : Nat) : State :=
  if s.ms.merge.any (fun p => p.1 == line) then s.msMap (fun m => { m with merge := drainTo line m.merge }) else s

/-- A DDR5 write's bytes in one line enter the merge buffer (R301). -/
def State.mergeLine (s : State) (line mask : Nat) : State :=
  let m := s.ms.merge
  let m := if m.any (fun p => p.1 == line) then m.map (fun p => if p.1 = line then (line, p.2 ||| mask) else p) else m ++ [(line, mask)]
  let m := if m.any (fun p => p.1 == line && p.2 == 2 ^ 128 - 1) then drainTo line m else m
  s.msMap (fun x => { x with merge := m.drop (m.length - 11) })

/-- A DDR5 write enters the merge buffer (R301); one that crosses into the next line enters its entry too. [assumption 188 DEDUCED] -/
def State.mergeWrite (s : State) (a n : Nat) : State :=
  let mask := (2 ^ n - 1) <<< (a % 128)
  let s := s.mergeLine (a / 128) (mask % 2 ^ 128)
  if mask / 2 ^ 128 = 0 then s else s.mergeLine (a / 128 + 1) (mask / 2 ^ 128)

/-- MERGE_DRAIN (R301): the oldest entry drains. -/
def execMergeDrain (s : State) : Host.Outcome State Fault Refusal := .next (s.msMap (fun m => { m with merge := m.merge.tail }))

/-- An allocating access of a block to the chunk map or the metadata area (R298, R299): the counts, ages and fill; `scan` for fills of reclaim,
mending scans, replay and Rinse. [assumption 187 DEDUCED] -/
def State.mapTouch (s : State) (a : Nat) (scan : Bool) : State :=
  if a < 0x80000000 || !s.cacheOn then s
  else
    let line := a / 128
    match s.cacheFind line with
    | some (k, c) => (s.count Rg.MEM_MCHIT_LO).wayPut k { c with age := 0 }
    | none => ((s.count Rg.MEM_MCMISS_LO).mergeFlush line).cacheInstall line (if scan then 3 else 1) false

/-- A hart's record. -/
def State.hart (s : State) (h : Fin 4) : Hart := s.core.harts.getD h.val ⟨false, 0, 0, none, 0, false, false⟩
/-- Change a hart's record. -/
def State.hartMap (s : State) (h : Fin 4) (f : Hart → Hart) : State :=
  s.coreMap (fun c => { c with harts := c.harts.modify h.val f })

/-- A load's data reaches its hart. -/
def State.deliver (s : State) (w : Waiter) : State :=
  match w.store with
  | none => s.hartMap w.hart (fun h => { h with data := BitVec.ofNat 64 (s.load w.addr w.size), trap := none })
  | some _ => s

/-- A store of a core to DDR5 takes effect (R301). -/
def State.ddrPut (s : State) (w : Waiter) : State :=
  match w.store with
  | none => s
  | some v => ((s.store w.addr w.size v.toNat).mergeWrite w.addr w.size).hartMap w.hart (fun h => { h with trap := none })

/-- A core access to DDR5 (R298, R300, R301, R304). -/
def State.ddrAccess (s : State) (w : Waiter) (e : ArrErr) : State :=
  let line := w.addr / 128
  let reg := fun (m : Miss) => m.alloc && m.line == line
  let stall := fun (s : State) => s.msMap (fun m => { m with stalled := m.stalled ++ [w] })
  if s.ms.disabling then stall s
  else if s.flag F.MEM_MCC_STS_OFF then
    if w.store.isSome then s.ddrPut w
    else (s.mergeFlush line).msMap (fun m => { m with misses := m.misses ++ [⟨line, false, 0, [w], false, false⟩] })
  else
    let miss := fun (s : State) (lock : Bool) =>
      let s := s.count Rg.MEM_MCMISS_LO
      if s.ms.misses.any reg then
        if s.ms.misses.any (fun m => reg m && decide (m.merged < 8)) then
          (s.msMap (fun x => { x with misses := x.misses.map (fun m =>
            if reg m then { m with merged := m.merged + 1, waiters := m.waiters ++ [w] } else m) })).ddrPut w
        else stall s
      else if (s.ms.misses.filter (fun m => m.alloc)).length < 32 then
        ((s.mergeFlush line).msMap (fun x => { x with misses := x.misses ++ [⟨line, true, 0, [w], lock, false⟩] })).ddrPut w
      else stall s
    match s.cacheFind line with
    | some (k, c) =>
      if e.bits ≤ 1 then
        let s := if e.bits = 1 then s.raiseFault Blk.mem 0 3 1 (addrInfo (line * 128)) else s
        (((s.count Rg.MEM_MCHIT_LO).wayPut k { c with age := 0 }).deliver w).ddrPut w
      else miss (s.msMap (fun m => { m with lines := dropKey k m.lines })) c.locked
    | none => miss s false

/-- Try the stalled accesses again in order. -/
def State.retryStalled (s : State) : State :=
  let l := s.ms.stalled
  l.foldl (fun s w => s.ddrAccess w ⟨0, false⟩) (s.msMap (fun m => { m with stalled := [] }))

/-- MAP_CACHE_FILL (R298 to R300): the fill of a miss is installed and serves the primary miss and then the merged ones. -/
def mapCacheFillOp (line : Nat) (s : State) : State :=
  match s.ms.misses.find? (fun m => m.alloc && m.line == line && m.arrived) with
  | none => s
  | some m =>
    let s := s.msMap (fun x => { x with misses := x.misses.filter (fun y => !(y.alloc && y.line == line)) })
    let s := if s.cacheOn then s.cacheInstall line 1 (m.locked && decide (s.lockedIn (lineSet line) < 8)) else s
    (m.waiters.foldl (fun s w => s.deliver w) s).retryStalled

/-- MAP_CACHE_FILL. -/
def execMapCacheFill (line : Nat) (s : State) : Host.Outcome State Fault Refusal := .next (mapCacheFillOp line s)

/-- The ZNE metadata area (R195). -/
def State.mdBase (s : State) : Nat := s.fget F.ZNE_MDBASE_BLK * 0x1000000

/-- Whether an address lies in the chunk map or the ZNE metadata area (R195, R296). -/
def State.mapArea (s : State) (a : Nat) : Bool :=
  (decide (0x80000000 ≤ a) && decide (a < 0xA4000000)) || (decide (s.mdBase ≤ a) && decide (a < s.mdBase + 0x1000000))

/-- Blocks of the write buffer, by their place in it, are stored poisoned (R245, R296); CQE_POISON counts them. -/
def State.poisonBlocks (s : State) (blocks : List Nat) : State :=
  let n := (blocks.filter (fun i => decide (i < s.cqe.buffer.length))).length
  ({ s with cqe := { s.cqe with buffer := s.cqe.buffer.mapIdx (fun i (b : WinBlk) => if blocks.contains i then { b with poison := true } else b) } }).count
    Rg.CQE_POISON_LO n

/-- A read of DDR5 that is uncorrectable or has timed out (R296, R297): loads of a core that wait for it raise the access fault. [assumptions 185 DEDUCED, 186 DEDUCED] -/
def State.ddrUncorrectable (s : State) (a : Nat) (core : Bool) (place : DdrPlace) (real : Bool) : State :=
  let line := a / 128
  let s := s.count Rg.MEM_DDRUE_LO
  let gone := if core then s.ms.misses.filter (fun m => m.line == line && !m.arrived) else []
  let s := if core then s.msMap (fun x => { x with misses := x.misses.filter (fun m => !(m.line == line && !m.arrived)) }) else s
  if s.mapArea a then s.faultReset a 3 real
  else
    let s := s.raiseFault Blk.mem 0 5 3 (addrInfo a) real
    let s := match place with
      | .buffer bs => s.poisonBlocks bs
      | .accumulator => s
      | .other => s
    (gone.foldl (fun s m => m.waiters.foldl (fun s w =>
      if w.store.isSome then s else s.hartMap w.hart (fun h => { h with trap := some 5 })) s) s).retryStalled

/-- DDR5_READ_COMPLETE (R296, R297): a read of a core, or of a block, returns. -/
def ddr5ReadCompleteOp (a : Nat) (core : Bool) (err : DdrErr) (place : DdrPlace) (s : State) : State :=
  let line := a / 128
  if core && !s.ms.misses.any (fun m => m.line == line && !m.arrived) then s
  else
    let arrive := fun (s : State) =>
      if core then
        let direct := s.ms.misses.filter (fun m => !m.alloc && m.line == line)
        let s := s.msMap (fun x => { x with misses :=
          (x.misses.filter (fun m => m.alloc || m.line != line)).map (fun m => if m.line = line then { m with arrived := true } else m) })
        direct.foldl (fun s m => m.waiters.foldl (fun s w => s.deliver w) s) s
      else s
    match err with
    | .clean => arrive s
    | .corrected => arrive ((s.count Rg.MEM_DDRCE_LO).raiseFault Blk.mem 0 3 1 (addrInfo a))
    | .uncorrectable => s.ddrUncorrectable a core place (!s.forced Blk.mem 0 5)

/-- DDR5_READ_COMPLETE. -/
def execDdr5ReadComplete (a : Nat) (core : Bool) (err : DdrErr) (place : DdrPlace) (s : State) : Host.Outcome State Fault Refusal :=
  .next (ddr5ReadCompleteOp a core err place s)

/-- DDR5_READ_TIMEOUT (R297): 4,096 cycles without data; the read is uncorrectable. -/
def ddr5ReadTimeoutOp (a : Nat) (core : Bool) (place : DdrPlace) (s : State) : State :=
  if core && !s.ms.misses.any (fun m => m.line == a / 128 && !m.arrived) then s
  else (s.msMap (fun m => { m with late := m.late ++ [a / 128] })).ddrUncorrectable a core place true

/-- DDR5_READ_TIMEOUT. -/
def execDdr5ReadTimeout (a : Nat) (core : Bool) (place : DdrPlace) (s : State) : Host.Outcome State Fault Refusal :=
  .next (ddr5ReadTimeoutOp a core place s)

/-- LATE_DDR5_DATA (R297): data after the timeout is discarded, counted and noted. -/
def lateDdr5DataOp (a : Nat) (s : State) : State :=
  if s.ms.late.contains (a / 128) then
    ((s.msMap (fun m => { m with late := m.late.erase (a / 128) })).count Rg.MEM_LATE_CPL_LO).raiseFault Blk.mem 0 1 0 (addrInfo a)
  else s

/-- LATE_DDR5_DATA. -/
def execLateDdr5Data (a : Nat) (s : State) : Host.Outcome State Fault Refusal := .next (lateDdr5DataOp a s)

/-- Lock one line (R302). -/
def State.lockLine (s : State) (line : Nat) : State :=
  match s.cacheFind line with
  | some (k, c) =>
    if c.locked then s
    else if 8 ≤ s.lockedIn (lineSet line) then s.fsetB F.MEM_MCC_STS_LOCKFAIL true
    else s.wayPut k { c with locked := true }
  | none =>
    let s := s.cacheInstall line 1 false
    match s.cacheFind line with
    | some (k, c) =>
      if 8 ≤ s.lockedIn (lineSet line) then s.fsetB F.MEM_MCC_STS_LOCKFAIL true else s.wayPut k { c with locked := true }
    | none => s

/-- Lock `n` lines from one on. -/
def State.lockLines (s : State) (line : Nat) : Nat → State
  | 0 => s
  | n + 1 => (s.lockLine line).lockLines (line + 1) n

/-- Line number of a cached line. -/
def CLine.line (c : CLine) (key : Nat) : Nat := c.tag * 2048 + key / 16

/-- A write of MEM_MCC_OP (R302, R303): discarded while BUSY or OFF. [assumption 189 DEDUCED] -/
def State.mccOpWrite (s : State) (v : Word) : State :=
  let op := F.MEM_MCC_OP_OP.of v
  if s.flag F.MEM_MCC_STS_BUSY || s.flag F.MEM_MCC_STS_OFF || op = 0 then s
  else
    let base := s.fget F.MEM_MCC_LBASE_LINE
    let n := min 16384 (max 1 (s.fget F.MEM_MCC_LLEN_LINES))
    let inr := fun (p : Nat × CLine) => decide (base ≤ p.2.line p.1) && decide (p.2.line p.1 < base + n)
    let s := (s.fsetB F.MEM_MCC_STS_BUSY true).msMap (fun m => { m with rangeOp := some (op, base, n) })
    if op = 1 then s.lockLines base n
    else if op = 2 then
      s.msMap (fun m => { m with lines := m.lines.map (fun p => if inr p then (p.1, { p.2 with locked := false }) else p) })
    else
      let lost := s.ms.lines.any (fun p => inr p && p.2.locked)
      let s := s.msMap (fun m => { m with lines := m.lines.filter (fun p => !inr p) })
      if lost || s.forced Blk.mem 0 2 then
        ((s.fsetB F.MEM_MCC_STS_LOCK_LOST true).raiseEvent 96).raiseFault Blk.mem 0 2 0 (addrInfo (base * 128)) lost
      else s

/-- CACHE_LOCK (R302): a write of MEM_MCC_OP with OP = 1. -/
def execCacheLock (v : Word) (s : State) : Host.Outcome State Fault Refusal := .next (s.mccOpWrite (setBits v 0 2 1))
/-- CACHE_UNLOCK (R302): OP = 2. -/
def execCacheUnlock (v : Word) (s : State) : Host.Outcome State Fault Refusal := .next (s.mccOpWrite (setBits v 0 2 2))
/-- CACHE_INVALIDATE (R303): OP = 3. -/
def execCacheInvalidate (v : Word) (s : State) : Host.Outcome State Fault Refusal := .next (s.mccOpWrite (setBits v 0 2 3))

/-- RANGE_OPERATION_END (R303). -/
def rangeOperationEndOp (s : State) : State :=
  if s.ms.rangeOp.isSome then
    let s := s.msMap (fun m => { m with rangeOp := none })
    s.fsetB F.MEM_MCC_STS_BUSY s.ms.disabling
  else s

/-- RANGE_OPERATION_END. -/
def execRangeOperationEnd (s : State) : Host.Outcome State Fault Refusal := .next (rangeOperationEndOp s)

/-- A write of MEM_MCC_CTL (R304). [assumption 188 DEDUCED] -/
def State.mccCtlWrite (s : State) (v : Word) : State :=
  let en := F.MEM_MCC_CTL_EN.on v
  let s := s.fsetB F.MEM_MCC_CTL_EN en
  if en then
    if s.ms.disabling then s.msMap (fun m => { m with enAsked := true }) else s.fsetB F.MEM_MCC_STS_OFF false
  else if s.ms.disabling then s.msMap (fun m => { m with enAsked := false })
  else if s.flag F.MEM_MCC_STS_OFF then s
  else (s.msMap (fun m => { m with disabling := true, enAsked := false, merge := [] })).fsetB F.MEM_MCC_STS_BUSY true

/-- MAP_CACHE_DISABLE: a write of MEM_MCC_CTL with EN = 0. -/
def execMapCacheDisable (v : Word) (s : State) : Host.Outcome State Fault Refusal := .next (s.mccCtlWrite (setBits v 0 1 0))
/-- MAP_CACHE_ENABLE: EN = 1. -/
def execMapCacheEnable (v : Word) (s : State) : Host.Outcome State Fault Refusal := .next (s.mccCtlWrite (setBits v 0 1 1))

/-- MAP_CACHE_DISABLE_END (R304): every line and lock is gone and OFF is set; an EN = 1 written meanwhile then takes effect. -/
def mapCacheDisableEndOp (s : State) : State :=
  if s.ms.disabling then
    let on := s.ms.enAsked
    let s := s.msMap (fun m => { m with disabling := false, enAsked := false, lines := [], rangeOp := none })
    ((s.fsetB F.MEM_MCC_STS_OFF (!on)).fsetB F.MEM_MCC_STS_BUSY false).retryStalled
  else s

/-- MAP_CACHE_DISABLE_END. -/
def execMapCacheDisableEnd (s : State) : Host.Outcome State Fault Refusal := .next (mapCacheDisableEndOp s)

end Sys2Proof.Machine
end

