-- ==== Sys2Proof/Machine/Pwr.lean ====
section
/-! DEFINITION. Power: the hold-up measurement and arming (R309 to R311), power loss, save and restore (R312 to R317), the Rate Governor (R319), PS4
(R320) and power-on hours (R322). -/
namespace Sys2Proof.Machine

/-- Update PWR's hidden state. -/
def State.pwrMap (s : State) (f : PwrSt → PwrSt) : State := { s with pwr := f s.pwr }

/-- Energy to count on, µJ (R309). -/
def State.etot (s : State) : Nat := s.pwr.ecap + s.fget F.SPC_KE_UJ

/-- VMIN in mV (Table 14.7). -/
def State.vmin (s : State) : Nat := max 700 (s.fget F.PWR_HREQ_VMIN) * 10

/-- The conditions of R311. -/
def State.armable (s : State) : Bool :=
  s.flag F.PWR_CTL_HEN && s.locked && !s.flag F.PWR_STS_SAVED && s.pwr.measOk &&
    decide (max 750 (s.fget F.PWR_HREQ_EREQ) * 1000 ≤ s.etot) && decide (s.vmin ≤ s.pwr.rail) && !s.pwr.railLow && !s.flag F.PWR_STS_PFAIL

/-- Bring ARMED up to date (R311): it falls when a condition fails, and rises only at an evaluation.  A fall raises the event and the fault. [assumption 201 DEDUCED] -/
def State.armUpdate (s : State) (evaluation : Bool) : State :=
  let was := s.flag F.PWR_STS_ARMED
  let now := s.armable && (was || evaluation)
  let drop := s.forced Blk.pwr 0 1
  if was && (!now || drop) then
    (((s.fsetB F.PWR_STS_ARMED false).raiseEvent 97).raiseFault Blk.pwr 0 1 2 0 (!now)).earlyUpdate.warnUpdate
  else (s.fsetB F.PWR_STS_ARMED now).earlyUpdate.warnUpdate

/-- PWR_HEN from the energies (Table 14.7). -/
def State.henUpdate (s : State) : State :=
  (s.fset F.PWR_HEN_ECAP (min 0xFFFF (s.pwr.ecap / 1000))).fset F.PWR_HEN_ETOT (min 0xFFFF (s.etot / 1000))

/-- A write of PWR_CTL.MEAS and the other causes of a measurement (R310): a request during one is merged. -/
def State.measAsk (s : State) : State := s.pwrMap (fun p => { p with measDue := true })

/-- MEASUREMENT_TIMER (R310): every 10 s. -/
def execMeasurementTimer (s : State) : Host.Outcome State Fault Refusal := .next s.measAsk

/-- MEASUREMENT_END (R309 to R311): the sense voltages before and at the end of the test discharge, in mV. [assumption 200 DEDUCED] -/
def measurementEndOp (s0 s1 : Nat) (s : State) : State :=
  if s.pwr.measDue then
    let s := s.pwrMap (fun p => { p with measDue := false })
    let div := s.fget F.PWR_HCFG_DIV
    let v0 := s0 * div / 64 % 65536
    let v1 := s1 * div / 64 % 65536
    let s := (s.fset F.PWR_HV_V0 v0).fset F.PWR_HV_V1 v1
    let r := s.fget F.PWR_HCFG_RTEST
    let t := max 1 (s.fget F.PWR_HCFG_TTEST) * 100
    let bad := decide (v0 < v1 + 20) || r == 0
    let cap := if bad then 0 else t * (v0 + v1) / 2 / (r * (v0 - v1))
    let ecap := if bad || decide (v0 ≤ 7000) then 0 else cap * (v0 * v0 - 7000 * 7000) / 2000000
    let s := s.pwrMap (fun p => { p with measOk := !bad, ecap := ecap, rail := v0, railLow := false })
    let s := if bad then (s.fsetB F.PWR_STS_MEASERR true).raiseFault Blk.pwr 0 1 2 0 else s.wr Rg.PWR_HCAP (BitVec.ofNat 32 cap)
    s.henUpdate.armUpdate true
  else s

/-- MEASUREMENT_END. -/
def execMeasurementEnd (s0 s1 : Nat) (s : State) : Host.Outcome State Fault Refusal := .next (measurementEndOp s0 s1 s)

/-- KE_UPDATE (R72, R310, R311): SPC_KE is updated and PWR evaluates with the last ecap. -/
def keUpdateOp (s : State) : State := (((s.fset F.SPC_KE_UJ (if s.holdsSpindle then min 0xFFFFFFFF s.kineticUj else 0)).tick).henUpdate).armUpdate true

/-- KE_UPDATE. -/
def execKeUpdate (s : State) : Host.Outcome State Fault Refusal := .next (keUpdateOp s)

/-- HOLD_RAIL_BELOW_VMIN (R311). -/
def holdRailBelowVminOp (mv : Nat) (s : State) : State :=
  if mv < s.vmin then (s.pwrMap (fun p => { p with railLow := true })).armUpdate false else s

/-- HOLD_RAIL_BELOW_VMIN. -/
def execHoldRailBelowVmin (mv : Nat) (s : State) : Host.Outcome State Fault Refusal := .next (holdRailBelowVminOp mv s)

/-- POWER_FAIL_FALL (R311, R312): the pin falls; a test discharge is cut and its measurement discarded. -/
def powerFailFallOp (s : State) : State :=
  ((s.fsetB F.PWR_STS_PFAIL true).pwrMap (fun p => { p with measDue := false })).armUpdate false

/-- POWER_FAIL_FALL. -/
def execPowerFailFall (s : State) : Host.Outcome State Fault Refusal := .next (powerFailFallOp s)

/-- POWER_FAIL_RISE (R314): the pin rises. -/
def execPowerFailRise (s : State) : Host.Outcome State Fault Refusal := .next (s.fsetB F.PWR_STS_PFAIL false)

/-- POWER_LOSS (R312): POWER_FAIL# has been low for FILT periods. [assumption 202 DEDUCED] -/
def powerLossOp (s : State) : State :=
  if s.flag F.PWR_STS_PFAIL || s.forced Blk.pwr 0 3 then s.powerLoss (s.flag F.PWR_STS_PFAIL) else s

/-- POWER_LOSS. -/
def execPowerLoss (s : State) : Host.Outcome State Fault Refusal := .next (powerLossOp s)

/-- A directory entry (Table 14.2). -/
def saveEntry (b : WinBlk) : List Byte :=
  leBytes 6 b.lba ++ leBytes 1 b.nsid ++ leBytes 1 (1 + 2 * b.poison.toNat) ++ leBytes 8 b.stamp ++ (b.prot ++ List.replicate 16 0).take 16

/-- Copy the blocks' data to the save area (R313). -/
def State.saveData (s : State) (i : Nat) : List WinBlk → State
  | [] => s
  | b :: t => (s.setBytes (0x18400000 + 4096 * i) (b.data.take 4096)).saveData (i + 1) t

/-- The save header (R313) over a directory. -/
def saveHeader (sequence count cause time high : Nat) (dir : List (List Byte)) : List Byte :=
  let h := leBytes 8 sequence ++ leBytes 4 count ++ leBytes 1 cause ++ leBytes 3 0 ++ leBytes 8 time ++ leBytes 8 high ++ List.replicate 28 0
  h ++ leBytes 4 (crc32c (h ++ dir.flatten))

/-- Insertion of a window block by admission stamp. -/
def insertStamp (b : WinBlk) : List WinBlk → List WinBlk
  | [] => [b]
  | c :: t => if b.stamp < c.stamp then b :: c :: t else c :: insertStamp b t

/-- Window blocks in ascending admission stamp (R313). -/
def byStamp (l : List WinBlk) : List WinBlk := l.foldl (fun acc b => insertStamp b acc) []

/-- The protected window: the blocks of writes completed early (R248). -/
def State.window (s : State) : List WinBlk := s.cqe.buffer.filter (fun b => b.early)

/-- The save of the protected window (R313); one that begins while SAVED = 1 writes nothing. [assumption 203 DEDUCED] -/
def State.saveWindow (s : State) (cause : Nat) : State :=
  if s.flag F.PWR_STS_SAVED then s
  else
    let bs := byStamp s.window
    let dir := bs.map saveEntry
    let high := bs.foldl (fun m b => max m b.stamp) 0
    let n := s.vault.saveSeq + 1
    let s := s.saveData 0 bs
    let s := if cause = 1 then s.vaultMap (fun v => { v with saveCnt := min 0xFFFFFFFF (v.saveCnt + 1) }) else s
    s.vaultMap (fun v => { v with saveSeq := n, saveDir := dir
                                  saveHeader := saveHeader n bs.length cause s.pwr.detected.toNat high dir })

/-- WINDOW_SAVE_END (R291, R313, R314, R328): the save is whole, the Station Book record is written, and the device reset begins (fault reset), or the
device is held: stopped after a power loss, or in the fatal hold with the cores in reset, both links down and FLT_FATAL recorded. [assumptions 214 DEDUCED, 215 DEDUCED] -/
def windowSaveEndOp (s : State) : State :=
  match s.pwr.saving with
  | none => s
  | some cause =>
    let s := (s.saveWindow cause).pwrMap (fun p => { p with saving := none })
    if s.flt.fatalSeq then s.fatalHoldStart
    else if s.ms.faultReset then
      (s.recordNow (recCode Blk.mem 0 6)).coreMap (fun c => { c with resetDue := some 1 })
    else ((s.recordNow (recCode Blk.pwr 0 3)).pwrMap (fun p => { p with held := true })).pinsHeld

/-- WINDOW_SAVE_END. -/
def execWindowSaveEnd (s : State) : Host.Outcome State Fault Refusal := .next (windowSaveEndOp s)

/-- POWER_RETURN (R314): POWER_FAIL# has been high for 100 ms while the device is held stopped; a device reset follows. -/
def powerReturnOp (s : State) : State :=
  if s.pwr.held && !s.flag F.PWR_STS_PFAIL && !s.flt.fatalHold then s.coreMap (fun c => { c with resetDue := some 3 }) else s

/-- POWER_RETURN. -/
def execPowerReturn (s : State) : Host.Outcome State Fault Refusal := .next (powerReturnOp s)

/-- COUNT of the header in the Vault. -/
def State.headerCount (s : State) : Nat := ofLe ((s.vault.saveHeader.drop 8).take 4)

/-- Whether the header's CRC holds over the directory (R313). -/
def State.headerGood (s : State) : Bool :=
  let h := s.vault.saveHeader
  h.length == 64 && ofLe (h.drop 60) == crc32c (h.take 60 ++ (s.vault.saveDir.take s.headerCount).flatten)

/-- A saved block from its directory entry and the save area (R315). -/
def State.savedBlock (s : State) (i : Nat) (e : List Byte) : WinBlk :=
  { lba := ofLe (e.take 6), nsid := (e.getD 6 0).toNat, stamp := ofLe ((e.drop 8).take 8), poison := (e.getD 7 0).getLsbD 1
    early := true, media := false, done := false
    data := s.bytes (0x18400000 + 4096 * i) 4096, prot := e.drop 16 }

/-- CQE_PWOCC from the window (Table 11.8); when it reaches 0 the standing save's header is rewritten with COUNT 0 and SAVED clears (R317). [assumption 205 DEDUCED] -/
def State.winUpdate (s : State) : State :=
  let n := s.window.length
  let was := s.fget F.CQE_PWOCC_BLOCKS
  let s := s.fset F.CQE_PWOCC_BLOCKS n
  if n = 0 && was != 0 && s.flag F.PWR_STS_SAVED then
    let h := s.vault.saveHeader
    let f := fun (i n : Nat) => ofLe ((h.drop i).take n)
    let h := saveHeader (f 0 8) 0 (f 12 1) (f 16 8) (f 24 8) []
    (s.vaultMap (fun v => { v with saveDir := [], saveHeader := h })).fsetB F.PWR_STS_SAVED false
  else s

/-- A write of PWR_CTL (R309 to R311, R315); a restore is refused while the partner holds the home actuator Token (R375). [assumption 204 DEDUCED] -/
def State.pwrCtlWrite (s : State) (v : Word) : State :=
  let s := if s.locked then s else (s.fsetB F.PWR_CTL_HEN (F.PWR_CTL_HEN.on v)).armUpdate false
  let s := if F.PWR_CTL_MEAS.on v then s.measAsk else s
  if F.PWR_CTL_RPGO.on v then
    if s.twin && (s.fget F.BRL_TKSTS_LEVEL).testBit s.ownToken then
      let h := s.vault.saveHeader
      let f := fun (i n : Nat) => ofLe ((h.drop i).take n)
      let h := if s.headerGood then saveHeader (f 0 8) 0 (f 12 1) (f 16 8) (f 24 8) [] else h
      ((s.vaultMap (fun v => { v with saveDir := [], saveHeader := h })).fset F.PWR_STS_RPST 3).fset F.PWR_STS_RPCODE 2
    else if s.flag F.ZNE_STS_RUN || s.locked then (s.fset F.PWR_STS_RPST 3).fset F.PWR_STS_RPCODE 2
    else if !s.core.replay then (s.fset F.PWR_STS_RPST 3).fset F.PWR_STS_RPCODE 3
    else if s.headerGood && !s.forced Blk.pwr 0 2 then (s.fset F.PWR_STS_RPST 1).fset F.PWR_STS_RPCODE 0
    else ((s.fset F.PWR_STS_RPST 2).fset F.PWR_STS_RPCODE 1).raiseFault Blk.pwr 0 2 3 0 (!s.headerGood)
  else s

/-- MEASUREMENT_REQUEST (R310): a write of PWR_CTL with MEAS = 1. -/
def execMeasurementRequest (v : Word) (s : State) : Host.Outcome State Fault Refusal := .next (s.pwrCtlWrite (setBits v 1 1 1))
/-- RESTORE_REQUEST (R315): RPGO = 1. -/
def execRestoreRequest (v : Word) (s : State) : Host.Outcome State Fault Refusal := .next (s.pwrCtlWrite (setBits v 2 1 1))

/-- RESTORE_END (R315): the saved blocks are window blocks in stamp order. -/
def restoreEndOp (s : State) : State :=
  if s.fget F.PWR_STS_RPST = 1 then
    let bs := (s.vault.saveDir.take s.headerCount).mapIdx (fun i e => s.savedBlock i e)
    let s := { s with cqe := { s.cqe with buffer := byStamp bs } }
    ((s.fset F.PWR_STS_RPST 2).fset F.PWR_RPBLK_BLOCKS bs.length).winUpdate
  else s

/-- RESTORE_END. -/
def execRestoreEnd (s : State) : Host.Outcome State Fault Refusal := .next (restoreEndOp s)

/-- GOVERNOR_PERIOD (R319): the percentage of the period in which a sequencer had an operation current or queued. [assumption 207 DEDUCED] -/
def governorPeriodOp (util : Nat) (s : State) : State :=
  if s.flag F.PWR_RG_EN then
    let s := s.fset F.PWR_RGSTS_UTIL (min 100 util)
    let up := s.fget F.PWR_RG_UPTH
    let dn := min up (s.fget F.PWR_RG_DNTH)
    let k := s.fget F.SPC_TARGET_SEL
    let low := decide (util < dn)
    let run := if low then s.pwr.dnRun + 1 else 0
    let s := s.pwrMap (fun p => { p with dnRun := run })
    if s.flag F.SPC_STS_STEP || !s.spcIn SpcS.run then s
    else if up ≤ util then (if k < s.ceiling then s.targetAsk (k + 1) else s)
    else if low && max 1 (s.fget F.PWR_RG_DWELL) ≤ run then
      let s := s.pwrMap (fun p => { p with dnRun := 0 })
      if k ≤ 1 then s else s.targetAsk (k - 1)
    else s
  else s

/-- GOVERNOR_PERIOD. -/
def execGovernorPeriod (util : Nat) (s : State) : Host.Outcome State Fault Refusal := .next (governorPeriodOp util s)

/-- POWER_ON_HOUR (R322): the count is written back to the Vault at each hour. -/
def powerOnHourOp (s : State) : State :=
  let n := min 0xFFFFFFFF (s.vault.poh + 1)
  (s.vaultMap (fun v => { v with poh := n })).wr Rg.PWR_POH (BitVec.ofNat 32 n)

/-- POWER_ON_HOUR. -/
def execPowerOnHour (s : State) : Host.Outcome State Fault Refusal := .next (powerOnHourOp s)

end Sys2Proof.Machine
end

