-- ==== Sys2Proof/Machine/Journal.lean ====
section
/-! DEFINITION. The Vault journal (R217 to R219) and what ZNE and STE share: surfaces, zone descriptors and chunk-map entries (R191, R196, R202), and tags
(Table 5.3). -/
namespace Sys2Proof.Machine

/-- Update ZNE's hidden state. -/
def State.zneMap (s : State) (f : ZneSt → ZneSt) : State := { s with zne := f s.zne }
/-- Update STE's hidden state. -/
def State.steMap (s : State) (f : SteSt → SteSt) : State := { s with ste := f s.ste }

/-- Whether mending, Rinse and reclaim rest: from the start of a power-state entry until an operational state is reached again (Table 11.4). [assumption 136 DEDUCED] -/
def State.moversRest (s : State) : Bool := s.flag F.CQE_PSTS_ENTRY || decide (3 ≤ s.fget F.CQE_PSTS_CUR)

/-- Zone numbers and surface indices of the partner set carried after a takeover (R372) are told apart from the chip's own by adding 2^19 and 24. [assumption 104 DESIGN CHOICE] -/
def zoneSetBase : Nat := 0x80000
/-- Whether a zone is of the partner set. -/
def partnerZone (z : Nat) : Bool := decide (zoneSetBase ≤ z)
/-- The surface index added for a zone's set. -/
def surfBase (z : Nat) : Nat := if partnerZone z then 24 else 0
/-- The mirror area (R368); the manual gives the order of pages, and the model puts page `n` at 1 MiB × n of it and the region table after page 596. [assumption 104 DESIGN CHOICE] -/
def State.mirBase (s : State) : Nat := s.fget F.BRL_MIRBASE_BLK * 0x1000000

/-- Surface code of a surface index (R191). -/
def surfCode (i : Nat) : Nat := i % 24 / 12 * 16 + i % 12
/-- Surface index of a code (R191). -/
def surfIndex (c : Nat) : Nat := c / 16 * 12 + c % 16
/-- Actuator of a surface index. -/
def surfAct (i : Nat) : Act := if i % 24 < 12 then .zero else .one
/-- A surface's bit of ZNE_SURF or ZNE_FAIL, read as a 32-bit word with 16 bits for each actuator. -/
def surfBit (i : Nat) : Nat := i / 12 * 16 + i % 12

/-- Word `j` of the description of region `r` of a surface: the registers, or the partner's region table in the mirror (R373). -/
def State.rgnWord (s : State) (i r j : Nat) : Word :=
  if i < 24 then s.rd (Rg.ZNE_RGN_W0 i r + 4 * j) else BitVec.ofNat 32 (s.load (s.mirBase + 597 * 0x100000 + 0x200 * (i - 24) + 0x10 * r + 4 * j) 4)
/-- KIND of a region (Table 9.6). -/
def State.rgnKind (s : State) (i r : Nat) : Nat := bitsOf (s.rgnWord i r 0) 30 2

/-- Whether a surface is enabled (R191); a partner's surface is one that its region table describes. -/
def State.surfOn (s : State) (i : Nat) : Bool :=
  if i < 24 then (s.rd Rg.ZNE_SURF).getLsbD (surfBit i) else (List.range 32).any (fun r => s.rgnKind i r != 0)
/-- Whether a surface is retired (R191). -/
def State.surfFailed (s : State) (i : Nat) : Bool :=
  if i < 24 then (s.rd Rg.ZNE_FAIL).getLsbD (surfBit i) else s.brl.failed.contains i
/-- The member list L of a zone's set (R191). -/
def State.members (s : State) (z : Nat) : List Nat :=
  ((List.range 24).map (fun i => i + surfBase z)).filter (fun i => s.surfOn i && !s.surfFailed i)

/-- C of the last complete checkpoint as R219 counts from it; 1 before the first, the first JSEQ of a blank Vault. -/
def State.cpBase (s : State) : Nat := if s.vault.cpSeq = 0 then 1 else s.vault.cpSeq

/-- CQE_STS.JSTALL (Table 11.8) and the notice of Table 11.6 when write admission begins to stall. [assumption 143 DEDUCED] -/
def State.jstallUpdate (s : State) : State :=
  let now := decide (64512 ≤ s.fget F.STE_JOCC_OCC)
  let rise := now && !s.flag F.CQE_STS_JSTALL
  let s := s.fsetB F.CQE_STS_JSTALL now
  if rise || s.forced Blk.cqe 0 1 then s.raiseFault Blk.cqe 0 1 0 0 rise else s

/-- STE_JSEQ, STE_CPSEQ, STE_JOCC and JSTALL (R219, Table 10.8). -/
def State.journalRegs (s : State) : State :=
  let occ := s.vault.jseq - s.cpBase
  let s := ((s.wideSet Rg.STE_JSEQ_LO s.vault.jseq).wideSet Rg.STE_CPSEQ_LO s.vault.cpSeq).fset F.STE_JOCC_OCC (min 65536 occ)
  (s.fsetB F.STE_STS_JSTALL (decide (64512 ≤ occ))).jstallUpdate

/-- Seconds of clock time since STE's enabling (R218). -/
def State.steSecond (s : State) : Nat := (s.clock.toNat - s.ste.since) / 1000000000

/-- Whether `n` records may be written now (R218, R219); with a partner and no link none may, unless it has been taken over (R367). -/
def State.journalRoom (s : State) (n : Nat) : Bool :=
  !(s.flag F.BRL_STS_PAIRED && !s.flag F.BRL_STS_LINK && !s.flag F.BRL_STS_CARRY) &&
  let used := if s.ste.second = s.steSecond then s.ste.written else 0
  decide (used + n ≤ 4096) && decide (s.vault.jseq - s.cpBase + n ≤ 65536)

/-- The 64 bytes of a record (Table 10.1). -/
def journalBytes (jseq typ flags key : Nat) (body : List Byte) (stamp : Nat) : List Byte :=
  let b := leBytes 8 jseq ++ leBytes 1 typ ++ leBytes 1 flags ++ leBytes 2 0 ++ leBytes 4 key ++ (body ++ List.replicate 36 0).take 36 ++ leBytes 8 stamp
  b ++ leBytes 4 (crc32c b)

/-- Write one record (R217); on a twin chip it is mirrored while MIRSYNC = 1 (R367).  JOCC reaching CPHIGH requests a checkpoint (R221). [assumption 240 DEDUCED] -/
def State.journal (s : State) (typ flags key : Nat) (body : List Byte) (stamp : Nat) : State :=
  let n := s.vault.jseq
  let b := journalBytes n typ flags key body stamp
  let sec := s.steSecond
  let used := if s.ste.second = sec then s.ste.written else 0
  let s := (s.setBytes (0x18000000 + 64 * (n % 65536)) b).vaultMap (fun v => { v with jseq := n + 1 })
  let s := (s.steMap (fun x => { x with second := sec, written := used + 1 })).journalRegs
  let s := if n + 1 - s.cpBase = max 1 (s.fget F.STE_JCFG_CPHIGH) then s.steMap (fun x => { x with cpPend := true }) else s
  if s.flag F.BRL_STS_MIRSYNC then s.sendPkt (.jrec b) else s

/-- Address of a zone descriptor (R196). -/
def State.descAddr (s : State) (z : Nat) : Nat := if partnerZone z then s.mirBase + 16 * (z - zoneSetBase) else 0x10000000 + 16 * z
/-- Word `i` of a zone descriptor (Table 9.1). -/
def State.zw (s : State) (z i : Nat) : Word := BitVec.ofNat 32 (s.load (s.descAddr z + 4 * i) 4)
/-- ZS. -/
def State.zs (s : State) (z : Nat) : Nat := bitsOf (s.zw z 0) 0 4
/-- FIN. -/
def State.zfin (s : State) (z : Nat) : Bool := (s.zw z 0).getLsbD 4
/-- WP. -/
def State.zwp (s : State) (z : Nat) : Nat := bitsOf (s.zw z 0) 8 16
/-- MPTR. -/
def State.zmptr (s : State) (z : Nat) : Nat := bitsOf (s.zw z 1) 0 16
/-- FINWP. -/
def State.zfinwp (s : State) (z : Nat) : Nat := bitsOf (s.zw z 1) 16 16
/-- ZGEN. -/
def State.zgen (s : State) (z : Nat) : Nat := bitsOf (s.zw z 2) 0 30
/-- LASTW. -/
def State.zlastw (s : State) (z : Nat) : Nat := (s.zw z 3).toNat

/-- A descriptor's fields (Table 9.1). -/
structure ZoneDesc where
  zs : Nat
  fin : Bool
  wp : Nat
  mptr : Nat
  finwp : Nat
  gen : Nat
  lastw : Nat
  deriving DecidableEq, Repr

/-- A zone's descriptor; an entry never written reads as Empty (Table 9.1 gives ZS no value 0). [assumption 97 DESIGN CHOICE] -/
def State.zdesc (s : State) (z : Nat) : ZoneDesc :=
  { zs := if s.zs z = 0 then 1 else s.zs z, fin := s.zfin z, wp := s.zwp z, mptr := s.zmptr z, finwp := s.zfinwp z, gen := s.zgen z, lastw := s.zlastw z }

/-- The 16 bytes of a descriptor (Table 9.1). [assumption 101 DEDUCED] -/
def ZoneDesc.bytes (d : ZoneDesc) : List Byte :=
  leBytes 4 (d.zs % 16 + d.fin.toNat * 16 + d.wp % 65536 * 256) ++ leBytes 4 (d.mptr % 65536 + d.finwp % 65536 * 65536) ++
    leBytes 4 (d.gen % 2 ^ 30) ++ leBytes 4 d.lastw

/-- Open (R198). -/
def ZoneDesc.isOpen (d : ZoneDesc) : Bool := d.zs == 2 || d.zs == 3
/-- Active (R198). -/
def ZoneDesc.isActive (d : ZoneDesc) : Bool := d.isOpen || d.zs == 4

/-- FLAGS of a record of a zone's set: PSET for the partner's (Table 10.1). -/
def psetFlag (z : Nat) : Nat := if partnerZone z then 8 else 0

/-- Write a descriptor after its ZONE record (R196, R217), with the open and active counts (Table 9.6). [assumption 91 DEDUCED] -/
def State.zoneSet (s : State) (z : Nat) (d : ZoneDesc) (stamp : Nat) : State :=
  let old := s.zdesc z
  let s := s.journal 2 (psetFlag z) (z % zoneSetBase) d.bytes stamp
  let s := s.setBytes (s.descAddr z) d.bytes
  let n := s.fget F.ZNE_CNT_NOPEN + d.isOpen.toNat - old.isOpen.toNat
  let a := s.fget F.ZNE_CNT_NACTIVE + d.isActive.toNat - old.isActive.toNat
  (s.fset F.ZNE_CNT_NOPEN n).fset F.ZNE_CNT_NACTIVE a

/-- Address of a chunk-map entry (R196). -/
def State.entryAddr (s : State) (z k : Nat) : Nat :=
  if partnerZone z then s.mirBase + 0x800000 + 4 * (288 * (z - zoneSetBase) + k) else 0x80000000 + 4 * (288 * z + k)
/-- A chunk-map entry (Table 9.3). -/
def State.entry (s : State) (z k : Nat) : Word := BitVec.ofNat 32 (s.load (s.entryAddr z k) 4)
/-- An entry of its fields (Table 9.3). -/
def mkEntry (state rgen surf slot : Nat) : Word := BitVec.ofNat 32 (state % 4 * 2 ^ 30 + rgen % 4 * 2 ^ 28 + surf % 32 * 2 ^ 23 + slot % 2 ^ 23)
/-- STATE of an entry. -/
def entryState (e : Word) : Nat := bitsOf e 30 2
/-- RGEN of an entry. -/
def entryRgen (e : Word) : Nat := bitsOf e 28 2
/-- Surface index of an entry. -/
def entrySurf (e : Word) : Nat := surfIndex (bitsOf e 23 5)
/-- Slot of an entry. -/
def entrySlot (e : Word) : Nat := bitsOf e 0 23

/-- Change a chunk-map entry (R196), with the Map Cache's part (R298, R299). [assumption 187 DEDUCED] -/
def State.entrySet (s : State) (z k : Nat) (e : Word) (scan : Bool) : State :=
  (s.mapTouch (s.entryAddr z k) scan).setBytes (s.entryAddr z k) (leBytes 4 e.toNat)

/-- The tag ZONE word of a chunk (Table 5.3). -/
def zoneTag (z k : Nat) : Nat := z % 2 ^ 19 + k % 512 * 2 ^ 19
/-- GEN (R202). -/
def genOf (zgen rgen : Nat) : Nat := (4 * zgen + rgen) % 2 ^ 32

/-- The next write sequence number (R230: 0xFFFF_FFFF is never issued). -/
def nextSeq (n : Nat) : Nat := if (n + 1) % 2 ^ 32 = 0xFFFFFFFF then 0 else (n + 1) % 2 ^ 32

/-- Where a DDR5 transfer buffer lies: the manual gives ZNE's, STE's and CQE's buffers no address, so it is a free value of the DDR5 read-write area. [assumption 98 DESIGN CHOICE] -/
def bufAddr (k : Nat) : Nat := 0xA4000000 + 64 * (Config.unstated k % 2 ^ 24)

/-- A hardware submission waits for its sequencer (R166). -/
def State.hwSubmit (s : State) (a : Act) (d : List Word) : State := s.msqMap a (fun m => { m with hwWait := m.hwWait ++ [d] })

/-- An operation descriptor (Table 7.11). -/
def mkDesc (opc head rclass fmt pset sub track swedge first count tag daddr staddr : Nat) : List Word :=
  let w := fun (n : Nat) => BitVec.ofNat 32 n
  [w (opc % 256 + head % 32 * 2 ^ 8 + rclass % 4 * 2 ^ 13 + fmt % 64 * 2 ^ 15 + pset % 64 * 2 ^ 21 + sub % 4 * 2 ^ 27), w (track % 2 ^ 24),
   w (swedge % 512 * 2 ^ 16), w (first % 65536 + count % 65536 * 65536), w tag, w daddr, w (daddr / 2 ^ 32), w staddr, w (staddr / 2 ^ 32),
   0, 0, 0, 0, 0, 0, 0]

end Sys2Proof.Machine
end

