-- ==== Sys2Proof/Machine/Layout.lean ====
section
/-! DEFINITION. The shingled layout (R191 to R195, R200, R201, R208): regions and their geometry, bands and slots, the Spare table, where a chunk
lies and which surface it is given, and the operations for a run of sectors. -/
namespace Sys2Proof.Machine

/-- A region as R192 counts it: its number, Table 9.6's fields, sectors per track, slots per band, the first slot and the first band of the surface. -/
structure Region where
  r : Nat
  kind : Nat
  first : Nat
  fmt : Nat
  pset : Nat
  tskew : Nat
  nb : Nat
  spt : Nat
  spb : Nat
  slot0 : Nat
  band0 : Nat
  deriving DecidableEq, Repr

/-- Slots of a region (R192). -/
def Region.slots (g : Region) : Nat := if g.kind = 1 then g.nb * g.spb else g.nb * g.spt / 256
/-- Tracks of a region (R191): a shingled band has 64 and its guard track. -/
def Region.tracks (g : Region) : Nat := if g.kind = 1 then 65 * g.nb else g.nb

/-- The used regions of a surface in ascending number, from running totals of shingled slots, bands and conventional slots (R192). -/
def State.regionsFrom (s : State) (i : Nat) (spt : Nat → Nat) : List Nat → Nat → Nat → Nat → List Region
  | [], _, _, _ => []
  | r :: t, slot, band, conv =>
    let kind := s.rgnKind i r
    if kind = 0 ∨ kind = 3 then s.regionsFrom i spt t slot band conv
    else
      let w0 := s.rgnWord i r 0
      let w1 := s.rgnWord i r 1
      let n := spt r
      let g : Region := { r := r, kind := kind, first := bitsOf w0 0 24, fmt := bitsOf w0 24 6, nb := bitsOf w1 0 16, pset := bitsOf w1 16 6,
                          tskew := bitsOf w1 22 9, spt := n, spb := if kind = 1 then 64 * n / 256 else 0,
                          slot0 := if kind = 1 then slot else conv, band0 := band }
      if kind = 1 then g :: s.regionsFrom i spt t (slot + g.slots) (band + g.nb) conv else g :: s.regionsFrom i spt t slot band (conv + g.slots)

/-- Geometry as ZNE computes it when EN is set (R192). -/
def State.computeRegions (s : State) (i : Nat) : List Region :=
  s.regionsFrom i (fun r => (layout (s.dbits (surfAct i) (bitsOf (s.rgnWord i r 0) 24 6))).length) (List.range 32) 0 0 0
/-- Geometry as the registers hold it. [assumption 104 DESIGN CHOICE] -/
def State.regions (s : State) (i : Nat) : List Region :=
  s.regionsFrom i (fun r => bitsOf (s.rgnWord i r 2) 0 11) (List.range 32) 0 0 0

/-- Shingled regions. -/
def shingled (l : List Region) : List Region := l.filter (fun g => g.kind == 1)
/-- Conventional regions. -/
def conventional (l : List Region) : List Region := l.filter (fun g => g.kind == 2)
/-- Slots of regions together. -/
def slotSum (l : List Region) : Nat := l.foldl (fun n g => n + g.slots) 0
/-- Bands of a surface. -/
def bandSum (l : List Region) : Nat := (shingled l).foldl (fun n g => n + g.nb) 0

/-- The region that holds a slot. -/
def regionOfSlot (l : List Region) (slot : Nat) : Option Region := l.find? (fun g => decide (g.slot0 ≤ slot) && decide (slot < g.slot0 + g.slots))
/-- The shingled region that holds a band of the surface. -/
def regionOfBand (l : List Region) (band : Nat) : Option Region :=
  (shingled l).find? (fun g => decide (g.band0 ≤ band) && decide (band < g.band0 + g.nb))
/-- Band of a shingled slot. -/
def bandOfSlot (l : List Region) (slot : Nat) : Option Nat :=
  (regionOfSlot (shingled l) slot).map (fun g => g.band0 + (slot - g.slot0) / g.spb)

/-- A run of sectors on one track. -/
structure Piece where
  track : Nat
  first : Nat
  count : Nat
  fmt : Nat
  pset : Nat
  swedge : Nat
  deriving DecidableEq, Repr

/-- The runs that hold `n` sectors from sector `x` of a series of tracks (R193): one, or two over a track boundary. -/
def Region.pieces (g : Region) (track0 x n : Nat) : List Piece :=
  let t := track0 + x / g.spt
  let f := x % g.spt
  let mk := fun (t f n : Nat) => Piece.mk t f n g.fmt g.pset (t * g.tskew % 512)
  if f + n ≤ g.spt then [mk t f n] else [mk t f (g.spt - f), mk (t + 1) 0 (f + n - g.spt)]

/-- The runs that hold `n` sectors from sector `from_` of a shingled slot (R193). -/
def State.slotPieces (s : State) (i slot from_ n : Nat) : List Piece :=
  match regionOfSlot (shingled (s.regions i)) slot with
  | some g =>
    let q := slot - g.slot0
    g.pieces (g.first + 65 * (q / g.spb)) (256 * (q % g.spb) + from_) n
  | none => []

/-- The runs that hold `n` sectors from sector `from_` of a conventional slot (R193). -/
def State.convPieces (s : State) (i slot from_ n : Nat) : List Piece :=
  match regionOfSlot (conventional (s.regions i)) slot with
  | some g => g.pieces g.first (256 * (slot - g.slot0) + from_) n
  | none => []

/-- Where the band table and the Spare table of a surface's set begin (R195). -/
def State.bandBase (s : State) (i : Nat) : Nat := if i < 24 then s.mdBase else s.mirBase + 584 * 0x100000
/-- Address of a band's entry: 8 bytes, indexed by surface index × 65,536 + band (R195); byte 0 holds its state. -/
def State.bandAddr (s : State) (i band : Nat) : Nat := s.bandBase i + 8 * (i % 24 * 65536 + band)
/-- State of a band: 0 FREE, 1 OPEN, 2 FULL, 3 RETIRED (R194, Table 10.2). [assumption 97 DESIGN CHOICE] -/
def State.bandState (s : State) (i band : Nat) : Nat := (s.byte (s.bandAddr i band)).toNat % 4

/-- Change a band's state after its BAND record (R196, R217). -/
def State.bandSet (s : State) (i band st : Nat) : State :=
  let old := s.bandState i band
  if old = st then s
  else
    let s := s.journal 3 (if i < 24 then 0 else 8) (surfCode i + band * 65536) (leBytes 1 old ++ leBytes 1 st) 0
    (s.mapTouch (s.bandAddr i band) false).setBytes (s.bandAddr i band) (leBytes 1 st)

/-- Entry `n` of a set's Spare table, word 0 (R208). -/
def State.spareAt (s : State) (base n : Nat) : Word := BitVec.ofNat 32 (s.load (s.bandBase base + 0xC00000 + 8 * n) 4)
/-- The Spare table's entries in use. -/
def State.spares (s : State) (i : Nat) : List Word :=
  if i < 24 then (List.range (s.fget F.ZNE_SPCNT_COUNT)).map (s.spareAt 0) else (List.range s.brl.spares).map (s.spareAt 24)
/-- Whether a slot is listed (R194). -/
def State.slotSpared (s : State) (i slot : Nat) : Bool :=
  (s.spares i).any (fun e => bitsOf e 23 5 == surfCode i && bitsOf e 0 23 == slot)

/-- Slots of a band from its slot `q` on that are not listed, at most `n`. -/
def State.usable (s : State) (i slot0 : Nat) : Nat → List Nat
  | 0 => []
  | n + 1 => if s.slotSpared i slot0 then s.usable i (slot0 + 1) n else slot0 :: s.usable i (slot0 + 1) n

/-- The slots of a band from fill position `q` on that can still be written. -/
def State.bandLeft (s : State) (i band q : Nat) : List Nat :=
  match regionOfBand (s.regions i) band with
  | some g => s.usable i (g.slot0 + (band - g.band0) * g.spb + q) (g.spb - q)
  | none => []

/-- The OPEN band of a surface (R194). -/
def State.openBandOf (s : State) (i : Nat) : Option Nat := (s.zne.openBand.find? (fun (p : Nat × Nat) => p.1 == i)).map (fun p => p.2)
/-- Fill position of a surface's OPEN band: slots of the band written or skipped. -/
def State.fillOf (s : State) (i : Nat) : Nat := look (fun _ => 0) i s.zne.fill
/-- FREE bands of a surface, in ascending number. -/
def State.freeBands (s : State) (i : Nat) : List Nat := (List.range (bandSum (s.regions i))).filter (fun b => s.bandState i b == 0)

/-- The lowest-numbered FREE band becomes OPEN where the surface has none (R194). -/
def State.openLowest (s : State) (i : Nat) : State :=
  match s.openBandOf i, s.freeBands i with
  | none, b :: _ =>
    (s.bandSet i b 1).zneMap (fun z => { z with openBand := insertKey i b z.openBand, fill := put (fun _ => 0) i 0 z.fill })
  | _, _ => s

/-- Slots of a surface that could still take a chunk. [assumption 100 DEDUCED] -/
def State.slotsLeft (s : State) (i : Nat) : Nat :=
  let open_ := match s.openBandOf i with
    | some b => (s.bandLeft i b (s.fillOf i)).length
    | none => 0
  (s.freeBands i).foldl (fun n b => n + (s.bandLeft i b 0).length) open_

/-- Slots of a surface that chunks not yet placed, and copies not yet begun, have reserved (R201). -/
def State.reserved (s : State) (i : Nat) : Nat :=
  (s.zne.places.filter (fun (p : Nat × Nat) => p.2 == i)).length + (s.zne.writes.filter (fun w => w.surf == i && w.copy && !w.sent)).length

/-- Key of a chunk. -/
def chunkKey (z k : Nat) : Nat := 288 * z + k

/-- The surface that holds a chunk or is reserved for it. -/
def State.chunkSurf (s : State) (z k : Nat) : Option Nat :=
  match s.zne.places.find? (fun (p : Nat × Nat) => p.1 == chunkKey z k) with
  | some p => some p.2
  | none =>
    let e := s.entry z k
    if entryState e = 0 then none else some (entrySurf e + surfBase z)

/-- The surface that R201 steps 1 to 3 choose for a chunk. -/
def State.chooseSurf (s : State) (z k : Nat) : Option Nat :=
  let st := k / 18
  let l := s.members z
  let n := l.length
  let rot := (16 * (z % zoneSetBase) + st) % n
  let taken := ((List.range 18).filter (fun m => decide (m ≠ k % 18))).filterMap (fun m => s.chunkSurf z (18 * st + m)) ++
    (s.zne.writes.filter (fun w => w.zone == z && w.k / 18 == st && w.k != k)).map (fun w => w.surf)
  let order := (List.range n).map (fun i => l.getD ((rot + k % 18 + i) % n) 0)
  order.find? (fun i => !taken.contains i && decide (s.reserved i < s.slotsLeft i))

/-- Reserve a chunk's surface (R201); nothing where none qualifies. [assumption 100 DEDUCED] -/
def State.place (s : State) (z k : Nat) : Option State :=
  match s.chunkSurf z k with
  | some _ => some s
  | none => (s.chooseSurf z k).map (fun i => s.zneMap (fun x => { x with places := insertKey (chunkKey z k) i x.places }))

/-- Drop a chunk's reservation. -/
def State.unplace (s : State) (z k : Nat) : State := s.zneMap (fun x => { x with places := dropKey (chunkKey z k) x.places })

/-- Whether the pair that holds a surface is steered in (R373). -/
def State.steered (s : State) (i : Nat) : Bool := s.fget F.BRL_STEER_SET == (if i < 24 then 0 else 1)

/-- Submit operations for runs of sectors (R193, R204): FIRST to last in order, data and status areas running on (R167); answers the TAGs given. -/
def State.submitPieces (s : State) (i opc rclass sub tag : Nat) (counted : Bool) (daddr staddr : Nat) : List Piece → List Nat × State
  | [] => ([], s)
  | p :: t =>
    let x := if counted then tag % 2 ^ 28 + s.zne.opCount % 16 * 2 ^ 28 else tag
    let s := if counted then s.zneMap (fun z => { z with opCount := (z.opCount + 1) % 16 }) else s
    let half := if i < 24 then 0 else 32
    let s := s.hwSubmit (surfAct i) (mkDesc opc (i % 12) rclass (half + p.fmt) (half + p.pset) sub p.track p.swedge p.first p.count x daddr staddr)
    let (l, s) := s.submitPieces i opc rclass sub tag counted (daddr + 4128 * p.count) (staddr + 16 * p.count) t
    (x :: l, s)

/-- A fresh free buffer address (the manual gives these buffers none). -/
def State.freshBuf (s : State) : Nat × State := (bufAddr s.freeCtr, s.tick)

end Sys2Proof.Machine
end

