-- ==== Sys2Proof/Machine/Member.lean ====
section
/-! DEFINITION. Parity arithmetic and accumulators (R213 to R216), Read Only transitions (R199), journal areas and their failure (R220, R222), and the
retirement of a surface (R229). -/
namespace Sys2Proof.Machine

/-- One step of `gmul` (R213): `a` doubled in the field, `b` halved, `r` summed. -/
def gmulStep : Nat → Nat → Nat → Nat → Nat
  | 0, _, _, r => r
  | n + 1, a, b, r =>
    gmulStep n (if 128 ≤ a % 256 then (2 * a) % 256 ^^^ 0x1D else (2 * a) % 256) (b / 2) (if b % 2 = 1 then r ^^^ a else r)
/-- Product in GF(2^8) with polynomial 0x11D (R213). -/
def gmul (a b : Nat) : Nat := gmulStep 8 a b 0
/-- Power of an element. -/
def gpow (a : Nat) : Nat → Nat
  | 0 => 1
  | n + 1 => gmul a (gpow a n)
/-- Inverse: the 254th power (R214). -/
def ginv (a : Nat) : Nat := gpow a 254

/-- A byte list times a constant. -/
def gmulBytes (c : Nat) (x : List Byte) : List Byte := x.map (fun b => BitVec.ofNat 8 (gmul b.toNat c))
/-- The zero contribution of a sector (R213). -/
def zeroSector : List Byte := List.replicate 4112 0

/-- P and Q of what members contribute (R213): member number and its 4,112 bytes. -/
def parityOf : List (Nat × List Byte) → List Byte × List Byte
  | [] => (zeroSector, zeroSector)
  | (m, d) :: t =>
    let (p, q) := parityOf t
    (xorBytes p d, xorBytes q (gmulBytes (gpow 2 m) d))

/-- R214: the bytes of data members `x` and (if two are lost) `y` from P′ and Q′; `p` and `q` say which parity is at hand.  P is used whenever it is
there. -/
def recoverOne (x : Nat) (havePar : Bool) (p q : List Byte) : List Byte := if havePar then p else gmulBytes (gpow 2 (255 - x)) q
/-- R214 for two lost data members, x < y. -/
def recoverTwo (x y : Nat) (p q : List Byte) : List Byte × List Byte :=
  let dx := gmulBytes (ginv (gpow 2 x ^^^ gpow 2 y)) (xorBytes q (gmulBytes (gpow 2 y) p))
  (dx, xorBytes p dx)

/-- The 4,112 parity-covered bytes of a buffered block. -/
def WinBlk.info (b : WinBlk) : List Byte :=
  (b.data ++ List.replicate 4096 0).take 4096 ++ (b.prot ++ List.replicate 16 0).take 16

/-- The accumulator of a stripe (R215). -/
def State.stripeAcc (s : State) (z st : Nat) : Option Acc := s.ste.accs.find? (fun a => a.zone == z && a.stripe == st)
/-- Replace or add an accumulator. -/
def State.stripeSet (s : State) (a : Acc) : State :=
  s.steMap (fun x => { x with accs := x.accs.filter (fun b => !(b.zone == a.zone && b.stripe == a.stripe)) ++ [a] })
/-- Release an accumulator (R215). -/
def State.stripeDrop (s : State) (z st : Nat) : State :=
  s.steMap (fun x => { x with accs := x.accs.filter (fun b => !(b.zone == z && b.stripe == st)) })
/-- A row of an accumulator; zero where nothing has been added. -/
def Acc.row (a : Acc) (i : Nat) : List Byte × List Byte := look (fun _ => (zeroSector, zeroSector)) i a.rows

/-- A block arrives at an offset of a zone (R215): its stripe's accumulators take it in; a poisoned one contributes zero bytes. -/
def State.stripeAdd (s : State) (z off : Nat) (info : List Byte) (poison : Bool) : State :=
  let st := off / 4096
  let a := (s.stripeAcc z st).getD { zone := z, stripe := st, rows := [], isSealed := false, pDone := false, qDone := false }
  let (p, q) := a.row (off % 256)
  let d := if poison then zeroSector else info
  let row := (xorBytes p d, xorBytes q (gmulBytes (gpow 2 (off / 256 % 16)) d))
  s.stripeSet { a with rows := insertKey (off % 256) row (dropKey (off % 256) a.rows) }

/-- MAXACT and MAXOPEN as they act (Table 9.6, R368). -/
def State.maxOpen (s : State) : Nat :=
  let half := if s.twin && !s.flag F.BRL_STS_CARRY then 128 else 256
  min half (max 1 (s.fget F.ZNE_LIMIT_MAXOPEN))
/-- MAXACT as it acts. -/
def State.maxAct (s : State) : Nat :=
  let half := if s.twin && !s.flag F.BRL_STS_CARRY then 128 else 256
  max s.maxOpen (min half (max 1 (s.fget F.ZNE_LIMIT_MAXACT)))

/-- A zone becomes Read Only (R199): it leaves the counts, ZNE kind 1 is raised (Table 9.5) and the zone joins the Changed Zone List (Table 12.11). -/
def State.zoneReadOnly (s : State) (z : Nat) : State :=
  let d := s.zdesc z
  if d.zs = 0xD ∨ d.zs = 0xF then s
  else
    let s := ((s.zoneSet z { d with zs := 0xD } 0).raiseFault Blk.zne 0 1 2 0).hepMap
      (fun h => { h with changedZones := h.changedZones.filter (fun x => x != z) ++ [z] })
    s.asyncEvent 27 2 0xEF 0xBF

/-- Role of a journal area: 0 spare, 1 COPY A, 2 COPY B, 3 FAILED. -/
def State.areaRole (s : State) (a : Nat) : Nat := s.vault.roles.getD a 0
/-- Set a role, in the Vault's directory and in STE_JAREAa_W2 (Table 10.8). -/
def State.areaRoleSet (s : State) (a r : Nat) : State :=
  (s.vaultMap (fun v => { v with roles := v.roles.set a r })).fset (F.STE_JAREA_W2_ROLE a) r
/-- An area is enabled. -/
def State.areaOn (s : State) (a : Nat) : Bool := s.flag (F.STE_JAREA_W1_EN a)
/-- Surface index of an area. -/
def State.areaSurf (s : State) (a : Nat) : Nat := surfIndex (s.fget (F.STE_JAREA_W1_SURF a))
/-- Roles as a CHECKPOINT record's KEY gives them, 2 bits per area (Table 10.2). -/
def State.roleKey (s : State) : Nat := s.areaRole 0 + s.areaRole 1 * 4 + s.areaRole 2 * 16 + s.areaRole 3 * 64

/-- The end of a checkpoint (R221, CHECKPOINT_END): once every write still due has completed good, the end record is written, STE_CPSEQ becomes C, ring slots
and bands are freed, the metadata copies are kept, and JSINGLE clears if two copies stand (R222). -/
def State.checkpointEnd (s : State) : State :=
  match s.ste.cp with
  | none => s
  | some c =>
    if !c.todo.isEmpty || c.good.isEmpty then s
    else
      let areas := c.good.foldl (fun n (a : Fin 4) => n + 2 ^ a.val) 0
      let s := s.journal 6 0 s.roleKey (leBytes 8 c.c ++ leBytes 1 2 ++ leBytes 1 areas) 0
      let latest := c.wrote.filter (fun w => c.good.contains w.area)
      let s := s.vaultMap (fun v => { v with
        cpSeq := c.c, cpCells := c.cells, cpSpares := c.spares, cpFail := c.fail
        dir := latest.foldl (fun d w => insertKey (w.area.val * 1024 + w.page) w.seg (dropKey (w.area.val * 1024 + w.page) d)) v.dir })
      let s := ((s.steMap (fun x => { x with cp := none, fresh := [] })).fsetB F.STE_STS_CPBUSY false).journalRegs.count Rg.STE_CPCNT_LO
      let both := (c.good.any (fun (a : Fin 4) => s.areaRole a.val == 1)) && (c.good.any (fun (a : Fin 4) => s.areaRole a.val == 2))
      let s := if both then s.fsetB F.STE_STS_JSINGLE false else s
      let s := s.brlMap (fun b => { b with setBack := false })
      let used := s.cqe.parts.map (fun p => (p.zone, p.entry))
      let keep := c.free.filter (fun b => used.any (fun (u : Nat × Word) =>
        let i := entrySurf u.2 + surfBase u.1
        decide (b / 65536 = i) && bandOfSlot (s.regions i) (entrySlot u.2) == some (b % 65536)))
      let s := (c.free.filter (fun b => !keep.contains b)).foldl (fun s b => s.bandSet (b / 65536) (b % 65536) 0) s
      s.zneMap (fun z => { z with freeSoon := z.freeSoon ++ keep })

/-- A journal area fails (R222): FAILED, JSINGLE, the fault, the spare on its actuator takes the role, and the checkpoint goes on without it. -/
def State.areaFail (s : State) (a : Fin 4) : State :=
  let r := s.areaRole a.val
  if r = 1 ∨ r = 2 then
    let s := ((s.areaRoleSet a.val 3).fsetB F.STE_STS_JSINGLE true).raiseFault Blk.ste 0 4 2 0
    let b : Fin 4 := a + 2
    let s := if s.areaRole b.val == 0 && s.areaOn b.val && !s.surfFailed (s.areaSurf b.val) then
        (s.areaRoleSet b.val r).steMap (fun x => { x with fresh := x.fresh ++ [b] })
      else s
    let s := s.steMap (fun x => { x with
      cpPend := true
      cp := x.cp.map (fun c => { c with todo := c.todo.filter (fun y => decide (y.area ≠ a)), good := c.good.filter (fun y => decide (y ≠ a)) }) })
    s.warnUpdate.checkpointEnd
  else s

/-- The lost chunks (R231): owned slots of a retired surface that awaits mending, as the chunk map still names them; by chunk key, ascending. -/
def State.lostChunks (s : State) : List Nat :=
  let l := s.zne.owners.filter (fun p =>
    let i := p.1 / 2 ^ 23
    let e := s.entry (p.2 / 288) (p.2 % 288)
    s.surfFailed i && (s.fget F.STE_MSTS_PEND).testBit (i % 24) && entryState e == 1 && entrySurf e + surfBase (p.2 / 288) == i && entrySlot e == p.1 % 2 ^ 23)
  (l.map (fun p => p.2)).foldl (fun acc k => acc.takeWhile (fun x => decide (x < k)) ++ k :: acc.dropWhile (fun x => decide (x < k))) []

/-- MEND_COMPLETE (R231): a retired surface that no entry names gets its MEMBER record with event 2 and its PEND bit clears. -/
def State.mendCheck (s : State) : State :=
  let named := fun (s : State) (i : Nat) => s.zne.owners.any (fun p => p.1 / 2 ^ 23 % 24 == i && s.surfFailed (p.1 / 2 ^ 23) &&
    (let e := s.entry (p.2 / 288) (p.2 % 288)
     entryState e == 1 && entrySurf e + surfBase (p.2 / 288) == p.1 / 2 ^ 23 && entrySlot e == p.1 % 2 ^ 23))
  let s := (List.range 24).foldl (fun s i =>
    if (s.fget F.STE_MSTS_PEND).testBit i && !named s i then
      (s.journal 5 0 (surfCode i) (leBytes 1 2) 0).fset F.STE_MSTS_PEND (s.fget F.STE_MSTS_PEND ^^^ (1 <<< i))
    else s) s
  s.fsetB F.STE_STS_MEND (s.fget F.STE_MSTS_PEND != 0)

/-- Set a surface's bit of ZNE_FAIL; of the partner's set, the model's own list. -/
def State.failSurf (s : State) (i : Nat) : State :=
  if i < 24 then s.wr Rg.ZNE_FAIL (s.rd Rg.ZNE_FAIL ||| BitVec.ofNat 32 (1 <<< surfBit i))
  else s.brlMap (fun b => { b with failed := b.failed ++ [i] })

/-- A surface is retired (R229): MEMBER record, ZNE_FAIL, STE_MSTS.PEND, the fault of Table 10.7; its journal area fails (R222) and mending begins. -/
def State.retireSurface (s : State) (i : Nat) : State :=
  if !s.surfOn i || s.surfFailed i then s
  else
    let s := s.journal 5 (if i < 24 then 0 else 8) (surfCode i) (leBytes 1 1) 0
    let s := (s.failSurf i).fset F.STE_MSTS_PEND (s.fget F.STE_MSTS_PEND ||| (1 <<< (i % 24)))
    let s := ((s.fsetB F.STE_STS_MEND true).wr Rg.STE_MCUR (BitVec.ofNat 32 (2 ^ 23))).raiseFault Blk.ste 0 3 2 0
    let s := s.steMap (fun x => { x with mendPrio := 0 })
    let s := if i < 24 then ((List.range 4).filter (fun a => s.areaOn a && s.areaSurf a == i)).foldl (fun s a => s.areaFail (Fin.ofNat 4 a)) s else s
    s.warnUpdate.mendCheck

end Sys2Proof.Machine
end

