-- ==== Sys2Proof/Machine/Zne.lean ====
section
/-! DEFINITION. Zone Engine (R195 to R212): enabling, the zone state machine, chunk writes from commit to completion, band reclaim and Spare-table additions. -/
namespace Sys2Proof.Machine

/-- The number of the namespace that holds a set's zones (R273, R370): the chip's own, or the partner's. -/
def State.zonedNsid (s : State) (partner : Bool) : Nat :=
  if s.twin then 2 + 2 * (if partner then 1 - s.fget F.GLB_CFG_SIDE else s.fget F.GLB_CFG_SIDE) else 2
/-- The number of the namespace that holds a set's conventional blocks. -/
def State.convNsid (s : State) (partner : Bool) : Nat := s.zonedNsid partner - 1

/-- The key pair in force for a namespace (R347, R348): the chip's own key slots hold the conventional and the zoned namespace's. [assumption 121 DEDUCED] -/
def State.mediaKey (s : State) (nsid : Nat) : List Byte :=
  let slot := if nsid = s.convNsid false then s.sec.slots.p0 else if nsid = s.zonedNsid false then s.sec.slots.p1 else none
  let key := slot.getD []
  if key.length = 64 then key else Config.mediaKey nsid
/-- A block's data in stored form (R347). -/
def State.storedData (s : State) (nsid lba : Nat) (data : List Byte) : List Byte := xtsEncrypt (s.mediaKey nsid) nsid lba data
/-- A block's data from stored form (R347). -/
def State.plainData (s : State) (nsid lba : Nat) (data : List Byte) : List Byte := xtsDecrypt (s.mediaKey nsid) nsid lba data
/-- Whether the guard and reference tag of a namespace's sectors are compared (R226, R347): it is formatted with protection information and its key is loaded. [assumption 121 DEDUCED] -/
def State.guarded (s : State) (nsid : Nat) : Bool :=
  let slot := if nsid = s.convNsid false then s.sec.slots.p0 else if nsid = s.zonedNsid false then s.sec.slots.p1 else some []
  look (fun _ => 0) nsid s.hep.lbaf / 16 != 0 && slot.isSome

/-- The block at an offset of a zone. -/
def State.zoneBlock (s : State) (z off : Nat) : BlockId := ⟨s.zonedNsid (partnerZone z), 65536 * (z % zoneSetBase) + off⟩

/-- Whether tracks of two regions meet. -/
def Region.meets (g h : Region) : Bool := decide (g.first < h.first + h.tracks) && decide (h.first < g.first + g.tracks)
/-- Whether two regions of a list share a track. -/
def overlapping : List Region → Bool
  | [] => false
  | g :: t => t.any (fun h => g.meets h) || overlapping t

/-- Whether a region names a format that R104 refuses, KIND 3, or (R373) a number above 31 on a twin. -/
def State.regionBad (s : State) (i r : Nat) : Bool :=
  let k := s.rgnKind i r
  let f := bitsOf (s.rgnWord i r 0) 24 6
  let d := s.dbits (surfAct i) f
  k == 3 || (k != 0 && (decide (d < 37264) || decide (89264 < d) || (s.twin && (decide (31 < f) || decide (31 < bitsOf (s.rgnWord i r 1) 16 6)))))

/-- Slots that a surface's share of the conventional copies needs (R210): copies go round the actuator's members. -/
def State.convNeed (s : State) (i : Nat) : Nat :=
  let l := (s.members 0).filter (fun j => decide (surfAct j = surfAct i))
  let m := s.fget F.ZNE_CONV_SIZE * 1024
  let n := l.length
  (m + n - 1 - l.idxOf i) / n

/-- Whether `n` bytes from an address lie in the DDR5 read-write area (Table 1.6). -/
def State.inDdrRw (s : State) (a n : Nat) : Bool := decide (0xA4000000 ≤ a) && decide (a + n ≤ 0x80000000 + s.ms.fitted)

/-- The first applicable CODE of R195, 0 for none. -/
def State.zneCode (s : State) : Nat :=
  let l := s.members 0
  let nz := s.fget F.ZNE_CFG_NZONES
  let geo := l.map s.computeRegions
  if nz = 0 ∨ 524288 < nz then 1
  else if l.length < 18 then 2
  else if l.any (fun i => (List.range 32).any (s.regionBad i)) then 3
  else if geo.any overlapping then 4
  else if geo.any (fun g => decide (2 ^ 23 < slotSum (shingled g)) || decide (65536 < bandSum g)) then 5
  else if geo.foldl (fun n g => n + slotSum (shingled g)) 0 < 288 * nz then 6
  else if decide (1024 < s.fget F.ZNE_CONV_SIZE) || l.any (fun i => decide (slotSum (conventional (s.computeRegions i)) < s.convNeed i)) then 7
  else if !s.inDdrRw s.mdBase 0x1000000 then 8
  else 0

/-- W2 and W3 of a region's registers (R192). -/
def State.regionPut (s : State) (i : Nat) (g : Region) : State :=
  ((s.fset (F.ZNE_RGN_W2_SPT i g.r) g.spt).fset (F.ZNE_RGN_W2_SPB i g.r) g.spb).fset (F.ZNE_RGN_W3_FIRSTSLOT i g.r) g.slot0

/-- The partner holds this chip's own actuator Token (R375): its net is driven high. -/
def State.homeLost (s : State) : Bool := s.twin && (s.fget F.BRL_TKSTS_LEVEL).testBit (s.fget F.GLB_CFG_SIDE)

/-- A write of ZNE_CTL (R195, R211, Table 9.6). -/
def State.zneCtlWrite (s : State) (v : Word) : State :=
  let s := if F.ZNE_CTL_CLRCNT.on v then ((s.clearCount Rg.ZNE_RELOC_LO).clearCount Rg.ZNE_RCLMCNT_LO).clearCount Rg.ZNE_ZRESET_LO else s
  if !F.ZNE_CTL_EN.on v || s.flag F.ZNE_STS_RUN || (s.homeLost) then s
  else
    let c := s.zneCode
    if c = 0 && !s.forced Blk.zne 0 4 then
      let s := (s.members 0).foldl (fun s i => (s.computeRegions i).foldl (fun s g => s.regionPut i g) s) s
      let s := s.zneMap (fun z => { z with convMembers := s.members 0 })
      ((s.fsetB F.ZNE_CTL_EN true).fsetB F.ZNE_STS_RUN true).fset F.ZNE_STS_CODE 0
    else ((s.fsetB F.ZNE_STS_CFGERR true).fset F.ZNE_STS_CODE c).raiseFault Blk.zne 0 4 3 0 (c != 0)

/-- ZONE_ENGINE_ENABLE: a write of ZNE_CTL with EN = 1. -/
def execZoneEngineEnable (v : Word) (s : State) : Host.Outcome State Fault Refusal := .next (s.zneCtlWrite (setBits v 0 1 1))
/-- ZNE_COUNTER_CLEAR (R11): CLRCNT = 1. -/
def execZneCounterClear (v : Word) (s : State) : Host.Outcome State Fault Refusal := .next (s.zneCtlWrite (setBits v 1 1 1))

/-- Zones with an entry in some range of the zone table: those of the chip's own set. -/
def State.zones (s : State) : List Nat := List.range (s.fget F.ZNE_CFG_NZONES)

/-- The Implicitly Opened zone with the oldest LASTW against a stamp, the lowest number of equals (R198). [assumption 103 DEDUCED] -/
def State.oldestImplicit (s : State) (stamp : Nat) : Option Nat :=
  let l := (s.zones ++ (if s.flag F.BRL_STS_CARRY then s.zones.map (fun z => z + zoneSetBase) else [])).filter (fun z => s.zs z == 2)
  let age := fun z => (stamp + 2 ^ 32 - s.zlastw z % 2 ^ 32) % 2 ^ 32
  l.foldl (fun b z => match b with
    | none => some z
    | some y => if age y < age z then some z else some y) none

/-- Room for a zone to become open (R198): the status that refuses it, or the state with an Implicitly Opened zone closed where that is needed. -/
def State.openRoom (s : State) (d : ZoneDesc) (stamp : Nat) : Nat × State :=
  if !d.isActive && decide (s.maxAct ≤ s.fget F.ZNE_CNT_NACTIVE) then (St.tooManyActive, s)
  else if d.isOpen || decide (s.fget F.ZNE_CNT_NOPEN < s.maxOpen) then (0, s)
  else match s.oldestImplicit stamp with
    | some y => (0, s.zoneSet y { s.zdesc y with zs := 4 } 0)
    | none => (St.tooManyOpen, s)

/-- Status of an action or write that Read Only and Offline refuse (Table 9.2). -/
def ZoneDesc.dead (d : ZoneDesc) : Nat := if d.zs = 0xD then St.readOnly else if d.zs = 0xF then St.offline else 0

/-- Reserve the surfaces of the chunks that offsets [`off`, `off + n`) touch, and of the parity chunks with member 0 (R201). -/
def State.placeAll (s : State) (z : Nat) : List Nat → Option State
  | [] => some s
  | k :: t =>
    match s.place z k with
    | none => none
    | some s =>
      let s := if k % 18 = 0 then ((s.place z (k + 16)).bind (fun s => s.place z (k + 17))) else some s
      match s with
      | none => none
      | some s => s.placeAll z t

/-- Chunk index of an offset (R200). -/
def chunkOf (off : Nat) : Nat := 18 * (off / 4096) + off / 256 % 16
/-- Offset at which a data chunk begins. -/
def chunkStart (k : Nat) : Nat := k / 18 * 4096 + k % 18 * 256
/-- Chunks that hold offsets [`off`, `off + n`). -/
def chunksOf (off n : Nat) : List Nat :=
  if n = 0 then [] else (List.range ((off + n - 1) / 256 - off / 256 + 1)).map (fun i => chunkOf ((off / 256 + i) * 256))

/-- ZNE judges a write (R197, R198, R201): its status and the state after it.  `off` is none for a Zone Append, which is placed at the write pointer. [assumptions 90 DEDUCED, 91 DEDUCED] -/
def State.zoneWrite (s : State) (z : Nat) (off : Option Nat) (n stamp : Nat) : Nat × State :=
  let d := s.zdesc z
  let o := off.getD d.wp
  if d.dead ≠ 0 then (d.dead, s)
  else if d.zs = 0xE then (St.full, s)
  else if o ≠ d.wp then (St.invalidWrite, s)
  else if 65536 < o + n then (St.boundary, s)
  else
    let (st, s1) := if d.isOpen then (0, s) else s.openRoom d stamp
    if st ≠ 0 then (st, s1)
    else match s1.placeAll z (chunksOf o n) with
      | none => (St.readOnly, s1.zoneReadOnly z)
      | some s2 =>
        let full := decide (65536 ≤ o + n)
        let d' := { d with zs := if full then 0xE else if d.isOpen then d.zs else 2, wp := if full then 0 else o + n, lastw := stamp % 2 ^ 32 }
        if d'.zs = d.zs then
          (0, s2.setBytes (s2.descAddr z) d'.bytes)
        else (0, s2.zoneSet z d' stamp)

/-- Write pointer as an offset: 65,536 in a zone filled by writes, FINWP in one made Full by Finish. -/
def ZoneDesc.end_ (d : ZoneDesc) : Nat := if d.zs = 0xE then (if d.fin then d.finwp else 65536) else d.wp

/-- A slot is no longer the chunk's: its band has one live slot less, and a FULL band without any becomes FREE at the next checkpoint (R206). -/
def State.killSlot (s : State) (i slot : Nat) : State :=
  match bandOfSlot (s.regions i) slot with
  | none => s
  | some b =>
    let key := i * 65536 + b
    let n := look (fun _ => 0) key s.zne.live - 1
    let s := s.zneMap (fun z => { z with live := put (fun _ => 0) key n z.live, owners := dropKey (i * 2 ^ 23 + slot) z.owners })
    if n = 0 && s.bandState i b == 2 then s.zneMap (fun z => { z with freeSoon := if z.freeSoon.contains key then z.freeSoon else z.freeSoon ++ [key] }) else s

/-- A slot becomes the chunk's. -/
def State.liveSlot (s : State) (i slot z k : Nat) : State :=
  match bandOfSlot (s.regions i) slot with
  | none => s
  | some b =>
    let key := i * 65536 + b
    s.zneMap (fun x => { x with live := put (fun _ => 0) key (look (fun _ => 0) key x.live + 1) x.live
                                owners := insertKey (i * 2 ^ 23 + slot) (chunkKey z k) (dropKey (i * 2 ^ 23 + slot) x.owners) })

/-- Whether a read that has not retired was resolved to a block's buffered data (R243). -/
def State.blockRead (s : State) (b : WinBlk) : Bool :=
  s.cqe.slots.any (fun x => match x.cmd.kind with
    | .read slba _ => x.cmd.hdr.nsid == b.nsid && decide (slba ≤ b.lba) && (x.blocks.getD (b.lba - slba) .unwritten == .buffer b.stamp)
    | _ => false)

/-- Blocks whose chunk is whole on media leave the buffer once no read needs them (R203, R243), and PWOCC follows (R249); blocks that leave the window are
announced to the partner (R367). -/
def State.bufferSweep (s : State) : State :=
  (s.cqeMap (fun c => { c with buffer := c.buffer.filter (fun b => !b.done || s.blockRead b) })).winUpdate

/-- WREL packets for blocks that leave the window, up to 512 in each (Table 17.2). -/
def State.sendWrel (s : State) : Nat → List BlockId → State
  | 0, _ => s
  | n + 1, l => if l.isEmpty then s else (s.sendPkt (.wrel (l.take 512))).sendWrel n (l.drop 512)

/-- Blocks that `p` picks leave the window (R249); the partner is told (R367). -/
def State.leaveWindow (s : State) (p : WinBlk → Bool) : State :=
  let gone := s.cqe.buffer.filter (fun b => b.early && p b)
  let s := s.cqeMap (fun c => { c with buffer := c.buffer.map (fun b => if p b then { b with early := false } else b) })
  let s := if s.flag F.BRL_STS_MIRSYNC && !gone.isEmpty then s.sendWrel gone.length (gone.map (fun b => ⟨b.nsid, b.lba⟩)) else s
  (s.shutTry .zero).shutTry .one

/-- Whether a slot's write has every block on media (R248): no block of it is still in the buffer only. -/
def State.onMedia (s : State) (x : Slot) : Bool :=
  x.dataIn && !s.cqe.buffer.any (fun b => b.stamp == x.stamp && !b.media)

/-- Writes whose data is on media complete (R248); those discarded by a reset only leave their slots (Table 11.3). -/
def State.mediaDone (s : State) : State :=
  let l := s.cqe.slots.filter (fun x => (match x.cmd.kind with | .write .. => true | .append .. => true | .zeroes .. => true | _ => false) &&
    x.applied && s.onMedia x)
  l.foldl (fun s x => match x.cmd.kind with
    | .append .. => s.finish x x.status x.lba
    | _ => s.finish x x.status) s

/-- Reset of a zone (R205): entries 0, slots dead, buffered data gone, ZGEN + 1, WP, MPTR and FIN clear. -/
def State.zoneClear (s : State) (z : Nat) (stamp : Nat) : State :=
  let d := s.zdesc z
  let s := s.zoneSet z { d with zs := 1, fin := false, wp := 0, mptr := 0, gen := (d.gen + 1) % 2 ^ 30 } stamp
  let s := (List.range 288).foldl (fun s k =>
    let e := s.entry z k
    if e = 0 then s
    else
      let s := if entryState e = 1 then s.killSlot (entrySurf e + surfBase z) (entrySlot e) else s
      s.entrySet z k 0 false) s
  let ns := s.zonedNsid (partnerZone z)
  let mine := fun (b : WinBlk) => b.nsid == ns && b.lba / 65536 == z % zoneSetBase
  let s := s.leaveWindow mine
  let s := s.cqeMap (fun c => { c with buffer := c.buffer.map (fun b => if mine b then { b with media := true, done := true } else b) })
  let s := s.zneMap (fun x => { x with
    places := x.places.filter (fun p => p.1 / 288 != z)
    writes := (x.writes.filter (fun w => w.zone != z || w.sent)).map (fun w => if w.zone = z then { w with dead := true } else w) })
  let s := s.steMap (fun x => { x with accs := x.accs.filter (fun a => a.zone != z), unrec := x.unrec.filter (fun u => u.zone != z) })
  (s.count Rg.ZNE_ZRESET_LO).bufferSweep.mediaDone

/-- The stripe's data chunks that hold a sector below `e` and are not yet whole on media: some block below `e` is only in the buffer or has not arrived. -/
def State.stripeWaits (s : State) (z st e : Nat) : Bool :=
  let ns := s.zonedNsid (partnerZone z)
  let lo := 65536 * (z % zoneSetBase) + 4096 * st
  let hi := min (lo + 4096) (65536 * (z % zoneSetBase) + e)
  s.cqe.buffer.any (fun b => b.nsid == ns && !b.media && decide (lo ≤ b.lba) && decide (b.lba < hi)) ||
    s.cqe.slots.any (fun x => (match x.cmd.kind with | .write .. => true | .append .. => true | .zeroes .. => true | _ => false) &&
      x.cmd.hdr.nsid == ns && x.applied && !x.dataIn && decide (x.lba < hi) && decide (lo < x.lba + x.cmd.kind.count))

/-- The rows of a parity chunk from an accumulator. -/
def Acc.parityRows (a : Acc) (q : Bool) : List (Option (List Byte)) :=
  (List.range 256).map (fun i => some (if q then (a.row i).2 else (a.row i).1))

/-- The bytes of sector `i` of a chunk write (Table 5.3; R230 for a poisoned one); the channel computes the CRC. -/
def State.sectorBytes (s : State) (w : ChunkWr) (i : Nat) : List Byte :=
  let d := s.zdesc w.zone
  let id := s.zoneBlock w.zone (chunkStart w.k + i)
  let src := match w.patch.find? (fun p => p.1 == i) with
    | some p => p.2
    | none => if w.rows.isEmpty then
      (match (s.cqe.buffer.filter (fun b => b.nsid == id.nsid && b.lba == id.lba)).getLast? with
        | some b => if b.poison then none else some b.info
        | none => some zeroSector)
    else w.rows.getD i none
  match src with
  | some info => info ++ leBytes 4 (zoneTag (w.zone % zoneSetBase) w.k) ++ leBytes 4 (genOf d.gen w.rgen) ++ leBytes 4 w.seq ++ leBytes 4 0
  | none => zeroSector ++ leBytes 4 (zoneTag (w.zone % zoneSetBase) w.k) ++ leBytes 4 (genOf d.gen w.rgen) ++ leBytes 4 0xFFFFFFFF ++ leBytes 4 0

/-- Put `n` sectors of a chunk write into a buffer. -/
def State.stage (s : State) (w : ChunkWr) (a i : Nat) : Nat → State
  | 0 => s
  | n + 1 => (s.setBytes (a + 4128 * i) (s.sectorBytes w i)).stage w a (i + 1) n

/-- The next slot of a surface's OPEN band (R194): opened where there is none. -/
def State.takeSlot (s : State) (i : Nat) : Option (Nat × State) :=
  let s := s.openLowest i
  match s.openBandOf i with
  | none => none
  | some b =>
    match regionOfBand (s.regions i) b, s.bandLeft i b (s.fillOf i) with
    | some g, slot :: _ =>
      some (slot, s.zneMap (fun z => { z with fill := put (fun _ => 0) i (slot + 1 - (g.slot0 + (b - g.band0) * g.spb)) z.fill }))
    | _, _ => none

/-- The OPEN band of a surface is FULL when its last slot has been written or skipped (R194); the next one opens. -/
def State.bandFull (s : State) (i : Nat) : State :=
  match s.openBandOf i with
  | none => s
  | some b =>
    if (s.bandLeft i b (s.fillOf i)).isEmpty then
      let key := i * 65536 + b
      let s := s.bandSet i b 2
      let s := s.zneMap (fun z => { z with openBand := dropKey i z.openBand, fill := put (fun _ => 0) i 0 z.fill
                                           freeSoon := if look (fun _ => 0) key z.live = 0 then z.freeSoon ++ [key] else z.freeSoon })
      s.openLowest i
    else s

/-- Replace a chunk write under way. -/
def State.writeSet (s : State) (w : ChunkWr) (f : ChunkWr → ChunkWr) : State :=
  s.zneMap (fun z => { z with writes := z.writes.map (fun x => if x = w then f x else x) })
/-- A chunk write ends. -/
def State.writeDrop (s : State) (w : ChunkWr) : State := s.zneMap (fun z => { z with writes := z.writes.filter (fun x => x != w) })

/-- Give a chunk write that has no slot yet another surface. -/
def State.rePlace (s : State) (w : ChunkWr) (j : Nat) : State :=
  (s.writeSet w (fun x => { x with surf := j })).zneMap (fun z => { z with places := insertKey (chunkKey w.zone w.k) j (dropKey (chunkKey w.zone w.k) z.places) })

/-- Submit the write operations of a chunk write to the slot it has been given (R193, R204). -/
def State.writeOut (s : State) (w : ChunkWr) : State :=
  let (wt, s) := s.submitPieces w.surf 2 0 0 (zoneTag (w.zone % zoneSetBase) w.k) true w.buf w.staddr (s.slotPieces w.surf w.slot 0 w.count)
  s.writeSet w (fun _ => { w with tags := wt })

/-- Put the sectors that a copy is given into its buffer (R230, R233). -/
def State.stagePatch (s : State) (w : ChunkWr) : List (Nat × Option (List Byte)) → State
  | [] => s
  | p :: t => (s.setBytes (w.buf + 4128 * p.1) (s.sectorBytes w p.1)).stagePatch w t

/-- Runs of the sectors listed in ascending order, without those of `bad`: first and number. -/
def runsOf (bad : List Nat) : List Nat → List (Nat × Nat)
  | [] => []
  | i :: t =>
    if bad.contains i then runsOf bad t
    else match runsOf bad t with
      | (f, n) :: r => if f = i + 1 then (i, n + 1) :: r else (i, 1) :: (f, n) :: r
      | [] => [(i, 1)]

/-- TAGs with the first sector and the number of sectors of each run, from sector `f` on. -/
def readSpans : List Nat → List Piece → Nat → List (Nat × Nat × Nat)
  | t :: ts, p :: ps, f => (t, f, p.count) :: readSpans ts ps (f + p.count)
  | _, _, _ => []

/-- Submit the reads of a copy where its chunk lies (R206: RCLASS FULL), into its buffer. -/
def State.submitReads (s : State) (w : ChunkWr) : List (Nat × Nat) → List (Nat × Nat × Nat) × State
  | [] => ([], s)
  | (f, n) :: r =>
    let i := entrySurf w.entry + surfBase w.zone
    let ps := s.slotPieces i (entrySlot w.entry) f n
    let (tg, s) := s.submitPieces i 1 2 0 (zoneTag (w.zone % zoneSetBase) w.k) true (w.buf + 4128 * f) (w.staddr + 16 * f) ps
    let (l, s) := s.submitReads w r
    (readSpans tg ps f ++ l, s)

/-- Begin a chunk write that has a slot: a copy first reads the chunk where it lies (R206); other chunks are staged and written. -/
def State.startWrite (s : State) (w : ChunkWr) : State :=
  let (buf, s) := s.freshBuf
  let (st, s) := s.freshBuf
  let w' := { w with buf := buf, staddr := st }
  let s := s.writeSet w (fun _ => w')
  if w.copy && w.rows.isEmpty then
    let s := s.stagePatch w' w'.patch
    let (l, s) := s.submitReads w' (runsOf (w'.patch.map (fun p => p.1)) (List.range w'.count))
    if l.isEmpty then s.writeOut w' else s.writeSet w' (fun _ => { w' with reads := l })
  else (s.stage w' buf 0 w.count).writeOut w'

/-- The tags of a copy's sectors in its buffer (R202: RGEN + 1). -/
def State.stageTags (s : State) (w : ChunkWr) : List Nat → State
  | [] => s
  | i :: t =>
    if w.patch.any (fun p => p.1 == i) then s.stageTags w t
    else (s.setBytes (w.buf + 4128 * i + 4112) (leBytes 4 (zoneTag (w.zone % zoneSetBase) w.k) ++ leBytes 4 (genOf (s.zgen w.zone) w.rgen) ++ leBytes 4 w.seq ++
      leBytes 4 0)).stageTags w t

/-- A copy whose sectors are all at hand is written (R206). -/
def State.copyRead (s : State) (w : ChunkWr) : State :=
  if w.reads.isEmpty && w.waiting.isEmpty then (s.stageTags w (List.range w.count)).writeOut w else s

/-- Submit the first chunk write that waits for a surface (R193, R194, R204): one is under way there at a time, so slots are written in order; a copy first
reads the chunk where it lies (R206).  Without a slot the chunk is placed elsewhere, or the zone becomes Read Only (R199). [assumptions 100 DEDUCED, 102 DEDUCED] -/
def State.sendFrom (s : State) : Nat → Nat → State
  | 0, _ => s
  | n + 1, i =>
  if s.zne.writes.any (fun w => w.surf == i && w.sent) || !s.steered i then s
  else match s.zne.writes.find? (fun w => w.surf == i) with
    | none => s
    | some w =>
      match s.takeSlot i with
      | none =>
        let s := s.unplace w.zone w.k
        (match s.chooseSurf w.zone w.k with
          | some j => (s.rePlace w j).sendFrom n j
          | none => (s.writeDrop w).zoneReadOnly w.zone)
      | some (slot, s) =>
        let seq := nextSeq s.vault.wseq
        let s := s.vaultMap (fun v => { v with wseq := seq })
        let w' := { w with slot := slot, seq := seq, sent := true, failed := false, refused := false }
        (s.writeSet w (fun _ => w')).startWrite w'

/-- Submit what a surface can take. -/
def State.sendNext (s : State) (i : Nat) : State := s.sendFrom 48 i

/-- Queue a chunk write; its surface is the chunk's place. -/
def State.queueWrite (s : State) (w : ChunkWr) : State :=
  (s.zneMap (fun z => { z with writes := z.writes ++ [w] })).sendNext w.surf

/-- A chunk write with nothing done yet. -/
def freshWrite (z k surf count : Nat) (e : Word) : ChunkWr :=
  { zone := z, k := k, surf := surf, slot := 0, rgen := if entryState e = 0 then 0 else (entryRgen e + 1) % 4, count := count, tags := [], failed := false,
    refused := false, attempts := 0, retry := false, copy := false, entry := e, reclaim := false, seq := 0, sent := false, dead := false, rows := [], patch := [],
    buf := 0, staddr := 0, reads := [], waiting := [], stale := [] }

/-- Blocks of a data chunk that are in the buffer and not on media. -/
def State.chunkDirty (s : State) (z k : Nat) : Bool :=
  let b0 := s.zoneBlock z (chunkStart k)
  s.cqe.buffer.any (fun b => b.nsid == b0.nsid && !b.media && decide (b0.lba ≤ b.lba) && decide (b.lba < b0.lba + 256))

/-- Whether a write to a chunk still waits for its data. -/
def State.chunkPending (s : State) (z k : Nat) : Bool :=
  let b0 := s.zoneBlock z (chunkStart k)
  s.cqe.slots.any (fun x => (match x.cmd.kind with | .write .. => true | .append .. => true | .zeroes .. => true | _ => false) &&
    x.cmd.hdr.nsid == b0.nsid && x.applied && !x.dataIn && decide (x.lba < b0.lba + 256) && decide (b0.lba < x.lba + x.cmd.kind.count))

/-- A chunk is committed (R203): its sectors below the write pointer go to a new slot; one that has a slot is relocated and counted. [assumption 99 DEDUCED] -/
def State.commitChunk (s : State) (z k : Nat) : State :=
  let d := s.zdesc z
  let count := min 256 (d.end_ - chunkStart k)
  if k % 18 < 16 && decide (k < 288) && decide (chunkStart k < d.end_) && s.chunkDirty z k && !s.chunkPending z k &&
      !s.zne.writes.any (fun w => w.zone == z && w.k == k && !w.copy) && s.flag F.ZNE_STS_RUN && s.locked then
    match s.chunkSurf z k with
    | none => s
    | some i =>
      let e := s.entry z k
      let s := if entryState e = 1 then s.count Rg.ZNE_RELOC_LO else s
      s.queueWrite (freshWrite z k i count e)
  else s

/-- CHUNK_COMMIT (R203): a chunk is full, or CQE or a Finish asks for its commit. -/
def execChunkCommit (zone k : Nat) (s : State) : Host.Outcome State Fault Refusal := .next (s.commitChunk zone k)
/-- CHUNK_IDLE_EXPIRY (R203): the chunk has taken no write for ZNE_IDLE.CHUNK. -/
def execChunkIdleExpiry (zone k : Nat) (s : State) : Host.Outcome State Fault Refusal := .next (s.commitChunk zone k)

/-- Submit the parity chunk that is due of a SEALED stripe: P, then Q (R215); of the partner set not before its accumulators are rebuilt (R372). -/
def State.parityDue (s : State) (a : Acc) : State :=
  let k := 18 * a.stripe + (if a.pDone then 17 else 16)
  if !a.isSealed || a.qDone || s.zne.writes.any (fun w => w.zone == a.zone && w.k == k) || !s.locked || (partnerZone a.zone && s.brl.firstPartner) then s
  else match s.chunkSurf a.zone k with
    | none => s
    | some i => s.queueWrite { freshWrite a.zone k i 256 (s.entry a.zone k) with rows := a.parityRows a.pDone }

/-- A stripe that is complete and whose data chunks are committed becomes SEALED (R215), and its P is submitted. -/
def State.sealTry (s : State) (z st : Nat) : State :=
  let d := s.zdesc z
  match s.stripeAcc z st with
  | none => s
  | some a =>
    let complete := decide (d.zs = 0xE) || decide (4096 * (st + 1) ≤ d.end_)
    if a.isSealed || !complete || s.stripeWaits z st d.end_ then s
    else
      let a := { a with isSealed := true }
      let s := s.stripeSet a
      if s.fget F.STE_STS_RPHASE = 0 then s.parityDue a else s

/-- MPTR after a commit (Table 9.1): the lowest block that is not on media, or the write pointer. [assumption 101 DEDUCED] -/
def State.mptrNow (s : State) (z : Nat) : Nat :=
  let d := s.zdesc z
  let ns := s.zonedNsid (partnerZone z)
  let base := 65536 * (z % zoneSetBase)
  let bufs := (s.cqe.buffer.filter (fun b => b.nsid == ns && !b.media && b.lba / 65536 == z % zoneSetBase)).map (fun b => b.lba - base)
  let waits := (s.cqe.slots.filter (fun x => (match x.cmd.kind with | .write .. => true | .append .. => true | .zeroes .. => true | _ => false) &&
    x.cmd.hdr.nsid == ns && x.applied && !x.dataIn && x.lba / 65536 == z % zoneSetBase)).map (fun x => x.lba - base)
  (bufs ++ waits).foldl min d.end_

/-- RPHASE 3 ends when no SEALED stripe is left (R223). -/
def State.replayDone (s : State) : State :=
  if s.fget F.STE_STS_RPHASE = 3 && !s.ste.accs.any (fun a => a.isSealed) then s.fset F.STE_STS_RPHASE 0 else s

/-- A chunk write has put poisoned sectors on media (R230): their blocks need no mark any more once the stripe's parity is written anew. -/
def State.settleUnrec (s : State) (w : ChunkWr) : State :=
  let gone := fun (i : Nat) => (w.rows.getD i (some [])).isNone || w.patch.any (fun p => p.1 == i && p.2.isNone)
  let mine := fun (u : Unrec) => u.zone == w.zone && u.k / 18 == w.k / 18
  let busy := s.zne.writes.any (fun x => x.zone == w.zone && x.k / 18 == w.k / 18 && decide (16 ≤ x.k % 18) && !x.patch.isEmpty)
  s.steMap (fun x => { x with
    unrec := (x.unrec.map (fun u => if u.zone = w.zone ∧ u.k = w.k ∧ gone u.sector = true then { u with written := true } else u)).filter
      (fun u => !(mine u && u.issued && u.written && !busy)) })

/-- A chunk write has completed good (R203, R207, R215, R217): the CHUNK record, the map, MPTR, the buffer, the stripe, waiting commands. -/
def State.writeGood (s : State) (w : ChunkWr) : State :=
  let s := s.writeDrop w
  let stale := w.dead || (w.copy && s.entry w.zone w.k != w.entry)
  let s := if stale then s
    else
      let old := s.entry w.zone w.k
      let new := mkEntry 1 w.rgen (surfCode w.surf) w.slot
      let data := w.k % 18 < 16
      let b0 := s.zoneBlock w.zone (chunkStart w.k)
      let here := fun (b : WinBlk) => data && !w.copy && b.nsid == b0.nsid && decide (b0.lba ≤ b.lba) && decide (b.lba < b0.lba + w.count)
      let acc := s.stripeAcc w.zone (w.k / 18)
      let parity := !data && !w.copy && acc.isSome
      let close := parity && w.k % 18 == 17
      let onm := s.cqeMap (fun c => { c with buffer := c.buffer.map (fun b => if here b then { b with media := true } else b) })
      let mp := if data && !w.copy then onm.mptrNow w.zone % 65536 else s.zmptr w.zone
      let s := s.journal 1 (psetFlag w.zone + close.toNat) (zoneTag (w.zone % zoneSetBase) w.k)
        (leBytes 4 old.toNat ++ leBytes 4 new.toNat ++ leBytes 4 w.seq ++ leBytes 2 mp) 0
      let s := s.entrySet w.zone w.k new false
      let s := s.setBytes (s.descAddr w.zone) ({ s.zdesc w.zone with mptr := mp }).bytes
      let s := if entryState old = 1 then s.killSlot (entrySurf old + surfBase w.zone) (entrySlot old) else s
      let s := (s.liveSlot w.surf w.slot w.zone w.k).unplace w.zone w.k
      let s := s.leaveWindow here
      let whole := decide (w.count = 256) || s.zfin w.zone
      let s := s.cqeMap (fun c => { c with buffer := c.buffer.map (fun b => if here b then { b with media := true, done := b.done || whole } else b) })
      let s := if w.reclaim then s.count Rg.ZNE_RCLMCNT_LO else s
      let s := if entryState old = 1 && s.surfFailed (entrySurf old + surfBase w.zone) then (s.count Rg.STE_MENDCNT_LO).mendCheck else s
      let s := match acc with
        | some a =>
          if parity then
            let a := if w.k % 18 = 16 then { a with pDone := true } else { a with qDone := true }
            if a.pDone && a.qDone then (s.stripeDrop a.zone a.stripe).replayDone else (s.stripeSet a).parityDue a
          else s.sealTry w.zone (w.k / 18)
        | none => s
      (s.settleUnrec w).bufferSweep.mediaDone
  (s.bandFull w.surf).sendNext w.surf

/-- A surface is retired (R229) and what was to be written to it goes elsewhere: chunks not yet sent are placed again from the present L, copies are given up. -/
def State.retire (s : State) (i : Nat) : State :=
  let s := s.retireSurface i
  let held := s.zne.places.filter (fun p => p.2 == i)
  let anew := fun (w : ChunkWr) =>
    if w.surf = i ∧ w.retry then { w with sent := false, retry := false, refused := false, rgen := (w.rgen + 1) % 4 } else w
  let s := s.zneMap (fun z => { z with places := z.places.filter (fun p => p.2 != i)
                                       writes := (z.writes.map anew).filter (fun w => !(w.surf == i && w.copy && !w.sent)) })
  let s := held.foldl (fun s p => (s.place (p.1 / 288) (p.1 % 288)).getD s) s
  (s.zne.writes.filter (fun w => w.surf == i && !w.sent)).foldl (fun s w => match s.chooseSurf w.zone w.k with
    | some j => (s.rePlace w ((s.zne.places.find? (fun p => p.1 == chunkKey w.zone w.k)).elim j (fun p => p.2))).sendNext j
    | none => (s.writeDrop w).zoneReadOnly w.zone) s

/-- A chunk write has failed (R204): a new slot of the same surface with RGEN + 1; one refused with STATUS 0x24 keeps its slot and waits for the timer
(assumption 92); after WRETRY failures STE is told and
decides (R229). [assumption 92 DEDUCED] -/
def State.writeBad (s : State) (w : ChunkWr) : State :=
  let again := { w with sent := false, tags := [], reads := [], waiting := [], rgen := (w.rgen + 1) % 4 }
  let limit := max 1 (s.fget F.ZNE_CFG_WRETRY)
  if w.refused && !w.failed && !w.dead then s.writeSet w (fun _ => { w with tags := [], retry := true })
  else
    let s := if w.dead then s.writeDrop w
      else if w.attempts + 1 < limit then s.writeSet w (fun _ => { again with attempts := w.attempts + 1 })
      else
        let s := s.writeSet w (fun _ => { again with attempts := 0 })
        let s := s.raiseFault Blk.zne 0 3 3 0
        if s.flag F.STE_MCFG_AUTORET then s.retire w.surf else s
    (s.bandFull w.surf).sendNext w.surf

/-- Take a completion record out of those that wait for ZNE. -/
def State.takeHwCpl (s : State) (tag : Word) : State :=
  let drop := fun (s : State) (a : Act) => s.msqMap a (fun m => { m with hwCpls := m.hwCpls.eraseP (fun r => r.extractLsb' 64 32 == tag) })
  drop (drop s .zero) .one

/-- CHUNK_WRITE_COMPLETE (R203, R204): the completion of one operation; with the chunk's last, the write is good or has failed. -/
def State.chunkComplete (s : State) (r : CompletionIn) : State :=
  match s.zne.writes.find? (fun w => w.sent && w.tags.contains r.tag.toNat) with
  | none => s
  | some w =>
    let bad := decide (2 < r.status)
    let w' := { w with tags := w.tags.erase r.tag.toNat, failed := w.failed || (bad && r.status != 0x24), refused := w.refused || r.status == 0x24 }
    let due := w'.tags.isEmpty && !w'.failed && !w'.refused
    if due && !s.journalRoom 3 then s.steMap (fun x => { x with deferred := x.deferred ++ [.chunk r] })
    else
      let s := (s.takeHwCpl r.tag).writeSet w (fun _ => w')
      if !w'.tags.isEmpty then s
      else if due then s.writeGood w' else s.writeBad w'

/-- WRITE_RETRY_TIMER (R204): every 100 ms, writes refused with STATUS 0x24 are submitted again. [assumption 92 DEDUCED] -/
def writeRetryTimerOp (s : State) : State :=
  let l := s.zne.writes.filter (fun w => w.retry)
  l.foldl (fun s w =>
    if w.dead then ((s.writeDrop w).bandFull w.surf).sendNext w.surf
    else
      let w' := { w with retry := false, refused := false }
      (s.writeSet w (fun _ => w')).writeOut w') s

/-- WRITE_RETRY_TIMER. -/
def execWriteRetryTimer (s : State) : Host.Outcome State Fault Refusal := .next (writeRetryTimerOp s)

/-- The victim of reclaim on a surface (R206): the FULL band with the fewest live slots, below its number of slots, the lowest number of equals. [assumption 94 DEDUCED] -/
def State.victimBand (s : State) (i : Nat) : Option Nat :=
  let live := fun b => look (fun _ => 0) (i * 65536 + b) s.zne.live
  let l := (List.range (bandSum (s.regions i))).filter (fun b => s.bandState i b == 2 && !s.zne.freeSoon.contains (i * 65536 + b) &&
    (match regionOfBand (s.regions i) b with | some g => decide (live b < g.spb) | none => false))
  l.foldl (fun best b => match best with
    | none => some b
    | some c => if live b < live c then some b else some c) none

/-- Live slots of a band in ascending order, as the tags read with RCLASS NOREV and the chunk map say (R206). [assumption 93 DEDUCED] -/
def State.liveSlots (s : State) (i b : Nat) : List Nat :=
  match regionOfBand (s.regions i) b with
  | none => []
  | some g => ((List.range g.spb).map (fun q => g.slot0 + (b - g.band0) * g.spb + q)).filter (fun slot =>
      match s.zne.owners.find? (fun (p : Nat × Nat) => p.1 == i * 2 ^ 23 + slot) with
      | some (_, key) =>
        let e := s.entry (key / 288) (key % 288)
        entryState e == 1 && entrySurf e + surfBase (key / 288) == i && entrySlot e == slot
      | none => false)

/-- The chunk that owns a slot. -/
def State.ownerOf (s : State) (i slot : Nat) : Option (Nat × Nat) :=
  (s.zne.owners.find? (fun (p : Nat × Nat) => p.1 == i * 2 ^ 23 + slot)).map (fun p => (p.2 / 288, p.2 % 288))

/-- Begin the copy of a chunk to a surface (R206, R207, R226): read where it lies, written to a new slot with RGEN + 1. [assumption 122 DEDUCED] -/
def State.copyChunk (s : State) (z k i : Nat) (reclaim : Bool) : State :=
  let e := s.entry z k
  if entryState e != 1 || s.surfFailed i || s.zne.writes.any (fun w => w.zone == z && w.k == k) then s
  else
    let n := if k % 18 < 16 then min 256 ((s.zdesc z).end_ - chunkStart k) else 256
    s.queueWrite { freshWrite z k i n e with copy := true, reclaim := reclaim }

/-- The next live slot of a victim is copied (R206). -/
def State.reclaimNext (s : State) (i b : Nat) (slots : List Nat) : State :=
  let s := s.zneMap (fun z => { z with reclaim := some ⟨i, b, slots.drop 1⟩ })
  match slots with
  | slot :: _ => (match s.ownerOf i slot with
    | some (z, k) => s.copyChunk z k i true
    | none => s)
  | [] => s

/-- Reclaim on a surface starts or goes on (R206): it starts below LOWFREE, and takes victims until HIGHFREE bands are FREE or will be at the next checkpoint,
or none is left.  In a power-state entry and while movers are paused it does not start (R253, Table 11.4). [assumption 94 DEDUCED] -/
def State.reclaimStep (s : State) (i : Nat) (start : Bool) : State :=
  let low := s.fget F.ZNE_RCLM_LOWFREE
  let high := max low (s.fget F.ZNE_RCLM_HIGHFREE)
  let free := (s.freeBands i).length + (s.zne.freeSoon.filter (fun k => k / 65536 == i)).length
  let stop := fun (s : State) => (s.zneMap (fun z => { z with reclaim := none })).fsetB F.ZNE_STS_RCLM false
  match s.zne.reclaim with
  | some r =>
    if r.surf ≠ i || start then s
    else if !r.slots.isEmpty then s.reclaimNext i r.band r.slots
    else if high ≤ free then stop s
    else match s.victimBand i with
      | none => stop s
      | some b => s.reclaimNext i b (s.liveSlots i b)
  | none =>
    if low ≤ free || !start || !s.locked || s.cqe.paused || s.moversRest then s
    else match s.victimBand i with
      | none => s
      | some b => (s.reclaimNext i b (s.liveSlots i b)).fsetB F.ZNE_STS_RCLM true

/-- CHUNK_WRITE_COMPLETE with what it starts: the next copy of a reclaim, or reclaim on a surface that has too few FREE bands. -/
def chunkWriteCompleteOp (rec : CompletionIn) (s : State) : State :=
  match s.zne.writes.find? (fun w => w.sent && w.tags.contains rec.tag.toNat) with
  | some w =>
    let s := s.chunkComplete rec
    let s := if w.reclaim && !s.zne.writes.any (fun x => x.reclaim && x.zone == w.zone && x.k == w.k) then s.reclaimStep w.surf false else s
    s.reclaimStep w.surf true
  | none => s

/-- CHUNK_WRITE_COMPLETE. -/
def execChunkWriteComplete (rec : CompletionIn) (s : State) : Host.Outcome State Fault Refusal := .next (chunkWriteCompleteOp rec s)

/-- RECLAIM_COPY_COMPLETE (R206, R207): the copy under way on the surface being reclaimed ends; a good one changes the map if the entry is unchanged.  A failed
one leaves its slot dead.  Reclaim then goes on.  A copy that still reads cannot end good. [assumption 95 DEDUCED] -/
def reclaimCopyCompleteOp (ok : Bool) (s : State) : State :=
  match s.zne.writes.find? (fun w => w.reclaim && w.sent) with
  | some w =>
    if ok && w.tags.isEmpty then s
    else
      let s := (w.tags ++ w.reads.map (fun x => x.1)).foldl (fun s t => s.takeHwCpl (BitVec.ofNat 32 t)) s
      let s := if ok && s.journalRoom 3 then s.writeGood w else ((s.writeDrop w).bandFull w.surf).sendNext w.surf
      s.reclaimStep w.surf false
  | none => s

/-- RECLAIM_COPY_COMPLETE. -/
def execReclaimCopyComplete (ok : Bool) (s : State) : Host.Outcome State Fault Refusal := .next (reclaimCopyCompleteOp ok s)

/-- An addition to the Spare table (R208, R209, SPARE_TABLE_FULL): its result, 0 added, 1 duplicate, 2 full. [assumption 96 DEDUCED] -/
def State.spareInsert (s : State) (e : Nat) : Nat × State :=
  let w := BitVec.ofNat 32 e
  let code := bitsOf w 23 5
  let i := surfIndex code
  let slot := bitsOf w 0 23
  let same := fun (x : Word) => bitsOf x 0 28 == bitsOf w 0 28 && bitsOf x 29 1 == bitsOf w 29 1
  let n := s.fget F.ZNE_SPCNT_COUNT
  let forced := s.forced Blk.zne 0 2
  if (s.spares i).any same then (1, s)
  else if decide (131072 ≤ n) || forced then
    let s := ((s.fsetB F.ZNE_STS_SPFULL true).raiseFault Blk.zne 0 2 2 0 (decide (131072 ≤ n))).warnUpdate
    (2, match s.ownerOf i slot with
      | some (z, k) => if entrySlot (s.entry z k) = slot && entrySurf (s.entry z k) = i && entryState (s.entry z k) = 1 then s.zoneReadOnly z else s
      | none => s)
  else
    let s := s.journal 4 0 0 (leBytes 4 e) 0
    let a := s.bandBase i + 0xC00000 + 8 * n
    let s := ((s.mapTouch a false).setBytes a (leBytes 8 e)).fset F.ZNE_SPCNT_COUNT (n + 1)
    let s := if bitsOf w 29 1 = 1 then
        (match bandOfSlot (s.regions i) slot with
          | some b =>
            let s := s.bandSet i b 3
            if s.openBandOf i = some b then (s.zneMap (fun z => { z with openBand := dropKey i z.openBand })).openLowest i else s
          | none => s)
      else s
    (0, match s.ownerOf i slot with
      | some (z, k) => if entrySlot (s.entry z k) = slot && entrySurf (s.entry z k) = i then s.copyChunk z k i false else s
      | none => s)

/-- A write of ZNE_SPADD (R208, R209, Table 9.6). -/
def State.spaddWrite (s : State) (v : Word) : State :=
  let e := F.ZNE_SPADD_ENTRY.of v
  let code := bitsOf v 23 5
  if !F.ZNE_SPADD_GO.on v || s.flag F.ZNE_SPSTS_BUSY || (v.getLsbD 28 && s.locked) then s
  else if 12 ≤ code % 16 || !s.surfOn (surfIndex code) then (s.fsetB F.ZNE_SPSTS_DONE true).fset F.ZNE_SPSTS_RESULT 3
  else if !s.journalRoom 2 then (s.fsetB F.ZNE_SPSTS_BUSY true).steMap (fun x => { x with deferred := x.deferred ++ [.spare v] })
  else
    let (r, s) := s.spareInsert e
    ((s.fsetB F.ZNE_SPSTS_BUSY false).fsetB F.ZNE_SPSTS_DONE true).fset F.ZNE_SPSTS_RESULT r

/-- SPARE_ADD: a write of ZNE_SPADD with GO = 1. -/
def execSpareAdd (v : Word) (s : State) : Host.Outcome State Fault Refusal := .next (s.spaddWrite (setBits v 31 1 1))

/-- A zone action under Table 9.2 (R197, R198, R205): its status and the state after it. -/
def State.zoneAct (s : State) (z : Nat) (a : ZoneAct) (stamp : Nat) : Nat × State :=
  let d := s.zdesc z
  let finish := { d with zs := 0xE, fin := true, finwp := d.wp, wp := 0 }
  let toFull := fun (s : State) =>
    let s := s.zoneSet z finish stamp
    (0, (List.range 16).foldl (fun s st => s.sealTry z st) s)
  match a with
  | .offlining =>
    if d.zs = 0xD then
      let s := s.zoneSet z { d with zs := 0xF } stamp
      let s := s.hepMap (fun h => { h with changedZones := h.changedZones.filter (fun x => x != z) ++ [z] })
      (0, s.asyncEvent 27 2 0xEF 0xBF)
    else (St.invalidState, s)
  | .opening =>
    if d.dead ≠ 0 then (d.dead, s)
    else if d.zs = 3 then (0, s)
    else if d.zs = 0xE then (St.invalidState, s)
    else
      let (st, s) := if d.isOpen then (0, s) else s.openRoom d stamp
      if st ≠ 0 then (st, s) else (0, s.zoneSet z { d with zs := 3 } stamp)
  | .closing =>
    if d.dead ≠ 0 then (d.dead, s)
    else if d.zs = 4 then (0, s)
    else if d.zs = 2 then (0, s.zoneSet z { d with zs := 4 } stamp)
    else if d.zs = 3 then (0, s.zoneSet z { d with zs := if d.wp = 0 then 1 else 4 } stamp)
    else (St.invalidState, s)
  | .finishing =>
    if d.dead ≠ 0 then (d.dead, s) else if d.zs = 0xE then (0, s) else toFull s
  | .resetting =>
    if d.dead ≠ 0 then (d.dead, s) else if d.zs = 1 then (0, s) else (0, s.zoneClear z stamp)

end Sys2Proof.Machine
end

