-- ==== Sys2Proof/Machine/Ste.lean ====
section
/-! DEFINITION. Stripe Engine: enabling and replay (R220, R223, R224), checkpoints (R221, R222), the journal's rate (R218), sector checks and reconstruction (R214,
R226, R227, R230), mending (R229, R231), Rinse (R232 to R234) and the conventional mirror (R228). -/
namespace Sys2Proof.Machine

/-- Segments of a journal area (R220). -/
def State.areaSpt (s : State) (a : Nat) : Nat := (layout (s.dbits (surfAct (s.areaSurf a)) (s.fget (F.STE_JAREA_W0_FMT a)))).length
/-- SEGS of an area (R220). -/
def State.areaSegs (s : State) (a : Nat) : Nat := s.fget (F.STE_JAREA_W1_NTRK a) * s.areaSpt a / 256
/-- An area as a conventional region (R220). -/
def State.areaRegion (s : State) (a : Nat) : Region :=
  { r := 0, kind := 2, first := s.fget (F.STE_JAREA_W0_FIRSTTRK a), fmt := s.fget (F.STE_JAREA_W0_FMT a), pset := s.fget (F.STE_JAREA_W1_PSET a),
    tskew := s.fget (F.STE_JAREA_W2_TSKEW a), nb := s.fget (F.STE_JAREA_W1_NTRK a), spt := s.areaSpt a, spb := 0, slot0 := 0, band0 := 0 }

/-- The first applicable CODE of R220, 0 for none. [assumption 129 DEDUCED] -/
def State.steCode (s : State) : Nat :=
  let on := (List.range 4).filter s.areaOn
  let act := fun a => surfAct (s.areaSurf a)
  let clash := fun a => (s.regions (s.areaSurf a)).any (fun g => g.meets (s.areaRegion a)) ||
    on.any (fun b => decide (b ≠ a) && s.areaSurf b == s.areaSurf a && (s.areaRegion b).meets (s.areaRegion a))
  if !s.areaOn 0 || !s.areaOn 1 then 2
  else if act 0 = act 1 then 3
  else if (s.areaOn 2 && decide (act 2 ≠ act 0)) || (s.areaOn 3 && decide (act 3 ≠ act 1)) then 4
  else if on.any (fun a => decide (s.areaSegs a < 1280)) then 5
  else if on.any clash then 6
  else if on.any (fun a => !s.surfOn (s.areaSurf a)) then 7
  else if s.twin && on.any (fun a => decide (31 < s.fget (F.STE_JAREA_W0_FMT a)) || decide (31 < s.fget (F.STE_JAREA_W1_PSET a))) then 8
  else 0

/-- A refused enabling (R220, R223). -/
def State.steRefuse (s : State) (c : Nat) (real : Bool) : State :=
  ((s.fsetB F.STE_STS_CFGERR true).fset F.STE_STS_CODE c).raiseFault Blk.ste 0 7 3 0 real

/-- A write of STE_CTL (R221, R223, Table 10.8). -/
def State.steCtlWrite (s : State) (v : Word) : State :=
  let s := if F.STE_CTL_CLRCNT.on v then
      (((((s.clearCount Rg.STE_SILENT_LO).clearCount Rg.STE_RECON_LO).clearCount Rg.STE_UNREC_LO).clearCount Rg.STE_MENDCNT_LO).clearCount
        Rg.STE_PMISM_LO).clearCount Rg.STE_CPCNT_LO
    else s
  let s := if F.STE_CTL_CPREQ.on v && s.flag F.STE_STS_RUN then s.steMap (fun x => { x with cpPend := true }) else s
  if !F.STE_CTL_EN.on v || s.flag F.STE_STS_RUN || s.homeLost then s
  else if !s.flag F.ZNE_STS_RUN then s.steRefuse 1 true
  else
    let c := s.steCode
    if c ≠ 0 ∨ s.forced Blk.ste 0 7 then s.steRefuse c (c != 0)
    else
      let s := if s.vault.roles.all (fun r => r == 0) then s.vaultMap (fun v => { v with roles := [1, 2, 0, 0] }) else s
      let s := (List.range 4).foldl (fun s a =>
        (s.areaRoleSet a (s.areaRole a)).fset (F.STE_JAREA_W2_SEGS a) (if s.areaOn a then s.areaSegs a else 0)) s
      let s := s.steMap (fun x => { x with since := s.clock.toNat, second := 0, written := 0 })
      ((((s.fsetB F.STE_CTL_EN true).fsetB F.STE_STS_RUN true).fset F.STE_STS_CODE 0).fset F.STE_STS_RPHASE 1).journalRegs

/-- STRIPE_ENGINE_ENABLE: a write of STE_CTL with EN = 1. -/
def execStripeEngineEnable (v : Word) (s : State) : Host.Outcome State Fault Refusal := .next (s.steCtlWrite (setBits v 0 1 1))
/-- STE_COUNTER_CLEAR (R11): CLRCNT = 1. -/
def execSteCounterClear (v : Word) (s : State) : Host.Outcome State Fault Refusal := .next (s.steCtlWrite (setBits v 1 1 1))
/-- CHECKPOINT_REQUEST (R221): CPREQ = 1. -/
def execCheckpointRequest (v : Word) (s : State) : Host.Outcome State Fault Refusal := .next (s.steCtlWrite (setBits v 2 1 1))

/-- CHECKPOINT_TIMER (R221): CPINT seconds since the last checkpoint began, with STE_JOCC > 0. -/
def checkpointTimerOp (s : State) : State :=
  if s.flag F.STE_STS_RUN && decide (0 < s.fget F.STE_JOCC_OCC) then s.steMap (fun x => { x with cpPend := true }) else s

/-- CHECKPOINT_TIMER. -/
def execCheckpointTimer (s : State) : Host.Outcome State Fault Refusal := .next (checkpointTimerOp s)

/-- Where a page begins in core memory (R221): zone table, chunk map, band table and Spare table. -/
def State.pageAddr (s : State) (p : Nat) : Nat :=
  if p < 8 then 0x10000000 + 0x100000 * p else if p < 584 then 0x80000000 + 0x100000 * (p - 8) else s.mdBase + 0x100000 * (p - 584)

/-- The page that holds an address, if one does. -/
def State.pageOf (s : State) (a : Nat) : Option Nat :=
  if 0x10000000 ≤ a ∧ a < 0x10800000 then some ((a - 0x10000000) / 0x100000)
  else if 0x80000000 ≤ a ∧ a < 0xA4000000 then some (8 + (a - 0x80000000) / 0x100000)
  else if s.mdBase ≤ a ∧ a < s.mdBase + 0xD00000 then some (584 + (a - s.mdBase) / 0x100000)
  else none

/-- The metadata as cells numbered by page × 1 MiB + offset, whatever ZNE_MDBASE is. -/
def State.metaCells (s : State) : List Host.Cell :=
  s.mem.filterMap (fun c => (s.pageOf c.1).map (fun p => (p * 0x100000 + (c.1 - s.pageAddr p), c.2)))

/-- Cells of a page. -/
def pageCells (l : List Host.Cell) (p : Nat) : List Host.Cell := l.filter (fun c => c.1 / 0x100000 == p)

/-- Pages whose content differs from the last checkpoint's: those whose dirty bit is set (R221). [assumption 110 DEDUCED] -/
def State.dirtyPages (s : State) : List Nat := (List.range 597).filter (fun p => pageCells s.metaCells p != pageCells s.vault.cpCells p)

/-- Whether a segment of an area holds the latest copy of a page: the directory's or, in this checkpoint, one already chosen. -/
def segHolds (dir : List (Nat × Nat)) (a seg : Nat) : Option Nat :=
  (dir.find? (fun (p : Nat × Nat) => p.1 / 1024 == a && p.2 == seg)).map (fun p => p.1 % 1024)

/-- The first segment from `seg` on, going round, that holds no latest copy. [assumption 111 DEDUCED] -/
def segFree (dir : List (Nat × Nat)) (a n : Nat) : Nat → Nat → Nat
  | 0, seg => seg
  | f + 1, seg => if (segHolds dir a (seg % n)).isSome then segFree dir a n f (seg + 1) else seg % n

/-- The segment writes that put pages on an area (R221): before a segment that holds the latest copy of a page is overwritten, that page is written again
elsewhere. [assumption 111 DEDUCED] -/
def segPlan (a : Fin 4) (n : Nat) : List Nat → List (Nat × Nat) → Nat → List SegWr × Nat
  | [], _, next => ([], next)
  | p :: t, dir, next =>
    let put := fun (d : List (Nat × Nat)) (p seg : Nat) => insertKey (a.val * 1024 + p) seg (dropKey (a.val * 1024 + p) d)
    match segHolds dir a.val next with
    | some q =>
      let other := segFree dir a.val n n (next + 1)
      let dir := put (put dir q other) p next
      let (l, e) := segPlan a n t dir ((next + 1) % n)
      (⟨a, q, other⟩ :: ⟨a, p, next⟩ :: l, e)
    | none =>
      let (l, e) := segPlan a n t (put dir p next) ((next + 1) % n)
      (⟨a, p, next⟩ :: l, e)

/-- The sectors of a page as they go to media (R221): the page's bytes, its number, the sector, C, the area, and the tag. -/
def State.pageSectors (s : State) (w : SegWr) (c : Nat) (a : Nat) : Nat → State
  | 0 => s
  | n + 1 =>
    let i := 255 - n
    let b := s.bytes (s.pageAddr w.page + 4096 * i) 4096 ++ leBytes 2 w.page ++ leBytes 1 i ++ leBytes 8 c ++ leBytes 1 w.area.val ++ leBytes 4 0 ++
      leBytes 4 (zoneTag w.seg 509) ++ leBytes 4 c ++ leBytes 4 0 ++ leBytes 4 0
    (s.setBytes (a + 4128 * i) b).pageSectors w c a n

/-- Submit a segment write (R221). [assumption 129 DEDUCED] -/
def State.segSubmit (s : State) (w : SegWr) (c : Nat) : State :=
  let (buf, s) := s.freshBuf
  let (st, s) := s.freshBuf
  let s := s.pageSectors w c buf 256
  let g := s.areaRegion w.area.val
  (s.submitPieces (s.areaSurf w.area.val) 2 0 1 (zoneTag w.seg 509) false buf st (g.pieces g.first (256 * w.seg) 256)).2

/-- CHECKPOINT_START (R221): a trigger waits, no checkpoint runs: the begin record, the dirty pages taken, and their segment writes. [assumptions 113 DEDUCED, 128 DESIGN CHOICE] -/
def checkpointStartOp (s : State) : State :=
  if !s.flag F.STE_STS_RUN || !s.ste.cpPend || s.ste.cp.isSome || s.fget F.STE_STS_RPHASE = 1 || !s.locked then s
  else
    let c := s.vault.jseq
    let s := s.journal 6 0 s.roleKey (leBytes 8 c ++ leBytes 1 1 ++ leBytes 1 0) 0
    let dirty := s.dirtyPages
    let areas : List (Fin 4) := ([0, 1, 2, 3] : List (Fin 4)).filter (fun a => s.areaRole a.val == 1 || s.areaRole a.val == 2)
    let plan := areas.map (fun a =>
      (a, segPlan a (max 1 (s.fget (F.STE_JAREA_W2_SEGS a.val))) (if s.ste.fresh.contains a then List.range 597 else dirty) s.vault.dir
        (s.vault.segNext.getD a.val 0)))
    let writes := (plan.map (fun p => p.2.1)).flatten
    let s := s.vaultMap (fun v => { v with segNext := plan.foldl (fun l p => l.set p.1.val p.2.2) v.segNext })
    let s := writes.foldl (fun s w => s.segSubmit w c) s
    let cp : Checkpoint := ⟨c, s.zne.freeSoon, s.metaCells, writes, areas, writes, s.fget F.ZNE_SPCNT_COUNT, (s.rd Rg.ZNE_FAIL).toNat⟩
    let s := (s.steMap (fun x => { x with cp := some cp, cpPend := false })).zneMap (fun z => { z with freeSoon := [] })
    (s.fsetB F.STE_STS_CPBUSY true).checkpointEnd

/-- CHECKPOINT_START. -/
def execCheckpointStart (s : State) : Host.Outcome State Fault Refusal := .next (checkpointStartOp s)

/-- CHECKPOINT_WRITE_COMPLETE (R221, R222): the oldest segment write under way of an area completes; after WRETRY failures in a row the area fails. -/
def checkpointWriteCompleteOp (area : Fin 4) (ok : Bool) (s : State) : State :=
  match s.ste.cp with
  | none => s
  | some c =>
    match c.todo.find? (fun w => w.area == area) with
    | none => s
    | some w =>
      let fails := look (fun _ => 0) area.val s.ste.fails
      let setFails := fun (n : Nat) (s : State) => s.steMap (fun x => { x with fails := put (fun _ => 0) area.val n x.fails })
      if ok then (setFails 0 (s.steMap (fun x => { x with cp := some { c with todo := c.todo.erase w } }))).checkpointEnd
      else if fails + 1 < max 1 (s.fget F.ZNE_CFG_WRETRY) then (setFails (fails + 1) s).segSubmit w c.c
      else (setFails 0 s).areaFail area

/-- CHECKPOINT_WRITE_COMPLETE. -/
def execCheckpointWriteComplete (area : Fin 4) (ok : Bool) (s : State) : Host.Outcome State Fault Refusal :=
  .next (checkpointWriteCompleteOp area ok s)

/-- The bytes of a record in its slot of the ring (R217). -/
def State.ringRecord (s : State) (n : Nat) : List Byte := s.bytes (0x18000000 + 64 * (n % 65536)) 64
/-- Whether slot `n` holds record `n` (R223): its CRC holds and its JSEQ is `n`. -/
def State.ringGood (s : State) (n : Nat) : Bool :=
  let b := s.ringRecord n
  ofLe (b.drop 60) == crc32c (b.take 60) && ofLe (b.take 8) == n

/-- Store metadata bytes without a record or a cache access, as replay does. -/
def State.metaPut (s : State) (a n v : Nat) : State := s.setBytes a (leBytes n v)

/-- Set a field to the value that a record holds (R223). [assumption 117 DEDUCED] -/
def State.applyRecord (s : State) (b : List Byte) : State :=
  let f := fun (i n : Nat) => ofLe ((b.drop i).take n)
  let typ := f 8 1
  let partner := (f 9 1).testBit 3
  let key := f 12 4
  let base := if partner then zoneSetBase else 0
  let sb := if partner then 24 else 0
  if typ = 1 then
    let z := key % 2 ^ 19 + base
    let k := key / 2 ^ 19 % 512
    let d := s.zdesc z
    (s.metaPut (s.entryAddr z k) 4 (f 20 4)).setBytes (s.descAddr z) { d with mptr := f 28 2 }.bytes
  else if typ = 2 then
    let z := key % 2 ^ 19 + base
    let s := if s.zgen z = f 24 4 then s else (List.range 288).foldl (fun s k => s.metaPut (s.entryAddr z k) 4 0) s
    s.setBytes (s.descAddr z) ((b.drop 16).take 16)
  else if typ = 3 then s.metaPut (s.bandAddr (surfIndex (key % 32) + sb) (key / 65536)) 1 (f 17 1)
  else if typ = 4 then
    if partner then (s.metaPut (s.bandBase 24 + 0xC00000 + 8 * s.brl.spares) 8 (f 16 4)).brlMap (fun x => { x with spares := x.spares + 1 })
    else
      let n := s.fget F.ZNE_SPCNT_COUNT
      (s.metaPut (s.bandBase 0 + 0xC00000 + 8 * n) 8 (f 16 4)).fset F.ZNE_SPCNT_COUNT (n + 1)
  else if typ = 5 then
    let i := surfIndex (key % 32) + sb
    if f 16 1 = 1 then (s.failSurf i).fset F.STE_MSTS_PEND (s.fget F.STE_MSTS_PEND ||| (1 <<< (i % 24)))
    else s.fset F.STE_MSTS_PEND (s.fget F.STE_MSTS_PEND &&& (2 ^ 24 - 1 - 1 <<< (i % 24)))
  else if typ = 6 && !partner then
    (List.range 4).foldl (fun s a => s.areaRoleSet a (key / 4 ^ a % 4)) s
  else s

/-- Apply the ring's records in JSEQ order (R223): to the first that fails; answers the next JSEQ and the conventional chunks with PEND and no DONE. -/
def State.applyRing (s : State) : Nat → Nat → List Nat → State × Nat × List Nat
  | 0, n, c => (s, n, c)
  | fuel + 1, n, c =>
    if s.ringGood n then
      let b := s.ringRecord n
      let key := ofLe ((b.drop 12).take 4)
      let m := key % 2 ^ 19 + (key / 2 ^ 19 % 512 - 510) * 2 ^ 19
      let fl := ofLe ((b.drop 9).take 1)
      let c := if ofLe ((b.drop 8).take 1) = 7 then (if fl.testBit 2 then c.filter (fun x => x != m) else if fl.testBit 1 then c.filter (fun x => x != m) ++ [m] else c)
        else c
      (s.applyRecord b).applyRing fuel (n + 1) c
    else (s, n, c)

/-- Chunks that the chunk map names, from its cells: chunk keys. -/
def State.mappedKeys (s : State) : List Nat :=
  let l := (s.mem.filter (fun c => decide (0x80000000 ≤ c.1) && decide (c.1 < 0xA4000000))).map (fun c => (c.1 - 0x80000000) / 4)
  (l.foldl (fun acc k => if acc.head? = some k then acc else k :: acc) []).reverse

/-- Live slots and owners from the chunk map, OPEN bands and their fill positions, and the counts of open and active zones, after a replay. [assumption 115 DEDUCED] -/
def State.rebuildZne (s : State) : State :=
  let s := s.zneMap (fun z => { z with live := [], owners := [], openBand := [], fill := [], freeSoon := [], places := [] })
  let s := s.mappedKeys.foldl (fun s key =>
    let e := s.entry (key / 288) (key % 288)
    if entryState e = 1 then s.liveSlot (entrySurf e) (entrySlot e) (key / 288) (key % 288) else s) s
  let s := (s.members 0).foldl (fun s i =>
    match (List.range (bandSum (s.regions i))).find? (fun b => s.bandState i b == 1) with
    | some b =>
      let used := match regionOfBand (s.regions i) b with
        | some g => ((s.zne.owners.filter (fun p => p.1 / 2 ^ 23 == i && decide (g.slot0 + (b - g.band0) * g.spb ≤ p.1 % 2 ^ 23) &&
            decide (p.1 % 2 ^ 23 < g.slot0 + (b - g.band0 + 1) * g.spb))).map (fun p => p.1 % 2 ^ 23 + 1 - (g.slot0 + (b - g.band0) * g.spb))).foldl max 0
        | none => 0
      s.zneMap (fun z => { z with openBand := insertKey i b z.openBand, fill := put (fun _ => 0) i used z.fill })
    | none => s) s
  let dead := (s.members 0).foldl (fun l i => l ++ ((List.range (bandSum (s.regions i))).filter (fun b =>
    s.bandState i b == 2 && look (fun _ => 0) (i * 65536 + b) s.zne.live == 0)).map (fun b => i * 65536 + b)) []
  let s := s.zneMap (fun z => { z with freeSoon := dead })
  let zs := s.zones
  (s.fset F.ZNE_CNT_NOPEN (zs.filter (fun z => (s.zdesc z).isOpen)).length).fset F.ZNE_CNT_NACTIVE (zs.filter (fun z => (s.zdesc z).isActive)).length

/-- The DONE records of the chip's own conventional chunks in the ring: chunk, first sector, count, stamp (Table 10.1). -/
def State.ringDone (s : State) : Nat → Nat → List (Nat × Nat × Nat × Nat)
  | 0, _ => []
  | fuel + 1, n =>
    if s.ringGood n then
      let b := s.ringRecord n
      let f := fun (i n : Nat) => ofLe ((b.drop i).take n)
      let key := f 12 4
      let rest := s.ringDone fuel (n + 1)
      if f 8 1 = 7 ∧ (f 9 1).testBit 2 ∧ !(f 9 1).testBit 3 then
        (key % 2 ^ 19 + (key / 2 ^ 19 % 512 - 510) * 2 ^ 19, f 16 2, f 18 2, f 52 8) :: rest
      else rest
    else []

/-- Restored blocks that need no write leave the window (R316): a zone's below MPTR (all of a full zone's, whose MPTR has gone round), and those that a DONE record
with a stamp at or above theirs covers. [assumption 206 DEDUCED] -/
def State.restoredLeave (s : State) : State :=
  let done := s.ringDone 65536 s.cpBase
  let zoned := s.zonedNsid false
  let conv := s.convNsid false
  let below := fun (b : WinBlk) =>
    let d := s.zdesc (b.lba / 65536)
    decide (b.lba % 65536 < d.mptr) || (d.zs == 0xE && !d.fin && d.mptr == 0)
  let covered := fun (b : WinBlk) => done.any (fun r => r.1 == b.lba / 256 && decide (r.2.1 ≤ b.lba % 256) && decide (b.lba % 256 < r.2.1 + r.2.2.1) &&
    decide (b.stamp ≤ r.2.2.2))
  (s.cqeMap (fun c => { c with buffer := c.buffer.filter (fun b => !(b.early && ((b.nsid == zoned && below b) || (b.nsid == conv && covered b)))) })).winUpdate

/-- Write pointers after a restart: the end of a zone's data on media or in the window (R372 says so of a takeover). [assumption 116 DEDUCED] -/
def State.restoreWp (s : State) (z : Nat) : State :=
  let d := s.zdesc z
  if !d.isActive then s
  else
    let ns := s.zonedNsid (partnerZone z)
    let ends := (s.cqe.buffer.filter (fun b => b.nsid == ns && b.lba / 65536 == z % zoneSetBase)).map (fun b => b.lba % 65536 + 1)
    let e := ends.foldl max d.mptr
    s.setBytes (s.descAddr z) (if 65536 ≤ e then { d with zs := 0xE, wp := 0 } else { d with wp := e }).bytes

/-- Whether a stripe is CLOSED: both parity chunks are mapped (R215). -/
def State.stripeClosed (s : State) (z st : Nat) : Bool := entryState (s.entry z (18 * st + 16)) == 1 && entryState (s.entry z (18 * st + 17)) == 1

/-- Rebuild the accumulators of OPEN and SEALED stripes (R223) from the committed chunks as read and from the buffer, and put the sectors of chunks that can
still fill back into the buffer (R203). -/
def State.rebuildAccs (s : State) (reads : List SectorRead) : State :=
  let use := reads.filter (fun r => !s.stripeClosed r.zone (r.k / 18))
  let s := use.foldl (fun s r => s.stripeAdd r.zone (chunkStart r.k + r.i) r.info false) s
  let s := use.foldl (fun s r =>
    let d := s.zdesc r.zone
    let id := s.zoneBlock r.zone (chunkStart r.k + r.i)
    if d.isActive && decide (d.wp < chunkStart r.k + 256) then
      s.cqeMap (fun c => { c with buffer := c.buffer ++ [{ nsid := id.nsid, lba := id.lba, stamp := 0, poison := false, early := false, media := true, done := false,
                                                           data := r.info.take 4096, prot := r.info.drop 4096 }] })
    else s) s
  let s := (s.cqe.buffer.filter (fun b => b.early && b.nsid == s.zonedNsid false)).foldl
    (fun s b => s.stripeAdd (b.lba / 65536) (b.lba % 65536) b.info b.poison) s
  s.ste.accs.foldl (fun s a =>
    let s := s.stripeSet { a with pDone := entryState (s.entry a.zone (18 * a.stripe + 16)) == 1 }
    s.sealTry a.zone a.stripe) s

/-- Surfaces that hold the copies of a conventional chunk, and its slot there (R210). -/
def State.convPlace (s : State) (partner : Bool) (m copy : Nat) : Option (Nat × Nat) :=
  let l0 := if partner then s.members zoneSetBase else s.zne.convMembers
  let l := l0.filter (fun i => decide (surfAct i = (if copy = 0 then (Two.zero : Act) else (Two.one : Act))))
  if l.isEmpty then none else some (l.getD (m % l.length) 0, m / l.length)

/-- TAG ZONE word of a conventional chunk (R228). -/
def convTag (m : Nat) : Nat := m % 2 ^ 19 + (510 + m / 2 ^ 19) * 2 ^ 19

/-- Submit an operation over sectors of a copy of a conventional chunk; nothing on a retired surface (R228). -/
def State.convSubmit (s : State) (partner : Bool) (m copy opc rclass first n buf st : Nat) : State :=
  match s.convPlace partner m copy with
  | some (i, slot) =>
    if s.surfFailed i then s else (s.submitPieces i opc rclass 1 (convTag m) false buf st (s.convPieces i slot first n)).2
  | none => s

/-- Copy one conventional copy over the other (R228). -/
def State.convCopy (s : State) (partner : Bool) (m from_ : Nat) : State :=
  let (buf, s) := s.freshBuf
  let (st, s) := s.freshBuf
  (s.convSubmit partner m from_ 1 2 0 256 buf st).convSubmit partner m (1 - from_) 2 0 0 256 buf st

/-- After a restart (R231): retired surfaces that entries still name await mending again, from the priority pass on. [assumption 119 DEDUCED] -/
def State.mendResume (s : State) : State :=
  let named := (List.range 24).filter (fun i => s.surfFailed i && s.zne.owners.any (fun p => p.1 / 2 ^ 23 == i))
  let s := s.fset F.STE_MSTS_PEND (named.foldl (fun n i => n ||| (1 <<< i)) (s.fget F.STE_MSTS_PEND))
  if s.fget F.STE_MSTS_PEND = 0 then s
  else ((s.fsetB F.STE_STS_MEND true).wr Rg.STE_MCUR (BitVec.ofNat 32 (2 ^ 23))).steMap (fun x => { x with mendPrio := 0, mendNorm := 0 })

/-- REPLAY_LOAD_END (R223, R316): pages loaded, records applied, restored blocks that are on media dropped, accumulators rebuilt, PEND records settled; then the tag scan, parity pending, or done. [assumptions 112 DEDUCED, 114 DEDUCED] -/
def replayLoadEndOp (lostPages ringUe : Bool) (reads : List SectorRead) (conv : List CopyGood) (s : State) : State :=
  if s.fget F.STE_STS_RPHASE ≠ 1 then s
  else
    let s := if s.vault.cpSeq = 0 then s
      else
        let s := { s with mem := s.mem.filter (fun c => (s.pageOf c.1).isNone) }
        let s := s.vault.cpCells.foldl (fun s c => s.setByte (s.pageAddr (c.1 / 0x100000) + c.1 % 0x100000) c.2) s
        let s := s.fset F.ZNE_SPCNT_COUNT s.vault.cpSpares
        s.wr Rg.ZNE_FAIL (s.rd Rg.ZNE_FAIL ||| BitVec.ofNat 32 s.vault.cpFail)
    let (s, n, pend) := s.applyRing 65536 s.cpBase []
    let s := (s.vaultMap (fun v => { v with jseq := n })).journalRegs.restoredLeave
    let s := s.zones.foldl (fun s z => s.restoreWp z) s
    let s := s.rebuildZne.mendResume.steMap (fun x => { x with accs := [], lost := lostPages })
    let s := s.rebuildAccs reads
    let held := fun (s : State) (m : Nat) => s.cqe.buffer.any (fun b => b.early && b.nsid == s.convNsid false && b.lba / 256 == m)
    let s := pend.foldl (fun s m => if held s m then s
      else match conv.find? (fun c => c.chunk == m) with
        | some c => s.convCopy false m (c.copy % 2)
        | none => s) s
    let scan := lostPages || ringUe
    s.fset F.STE_STS_RPHASE (if scan then 2 else if s.ste.accs.any (fun a => a.isSealed) then 3 else 0)

/-- REPLAY_LOAD_END. -/
def execReplayLoadEnd (lostPages ringUe : Bool) (reads : List SectorRead) (conv : List CopyGood) (s : State) : Host.Outcome State Fault Refusal :=
  .next (replayLoadEndOp lostPages ringUe reads conv s)

/-- The tag of the list that becomes a chunk's entry (R224): the highest SEQ among those whose GEN is at least the present entry's. -/
def State.bestTag (s : State) (tags : List TagSeen) (z k : Nat) : Option TagSeen :=
  let now := genOf (s.zgen z) (entryRgen (s.entry z k))
  (tags.filter (fun t => t.zone == z && t.k == k && decide (now ≤ t.gen))).foldl (fun b t => match b with
    | none => some t
    | some u => if u.seq < t.seq then some t else some u) none

/-- TAG_SCAN_END (R224): entries from the tags, zones named or active become Read Only, the degraded fault. [assumptions 114 DEDUCED, 118 DEDUCED] -/
def tagScanEndOp (tags : List TagSeen) (s : State) : State :=
  if s.fget F.STE_STS_RPHASE ≠ 2 then s
  else
    let keys := (tags.map (fun t => chunkKey t.zone t.k)).eraseDups
    let s := keys.foldl (fun s key =>
      let z := key / 288
      let k := key % 288
      match s.bestTag tags z k with
      | none => s
      | some t =>
        let new := mkEntry 1 (t.gen % 4) (surfCode t.surf) t.slot
        let s := s.journal 1 (psetFlag z) (zoneTag (z % zoneSetBase) k)
          (leBytes 4 (s.entry z k).toNat ++ leBytes 4 new.toNat ++ leBytes 4 t.seq ++ leBytes 2 (s.zmptr z)) 0
        let d := s.zdesc z
        (s.entrySet z k new true).setBytes (s.descAddr z) { d with gen := t.gen / 4 }.bytes) s
    let s := s.rebuildZne
    let zs := s.zones.filter (fun z => (s.zdesc z).isActive || tags.any (fun t => t.zone == z))
    let s := (zs.foldl (fun s z => s.zoneReadOnly z) s).raiseFault Blk.ste 0 5 2 0
    s.fset F.STE_STS_RPHASE (if s.ste.accs.any (fun a => a.isSealed) then 3 else 0)

/-- TAG_SCAN_END. -/
def execTagScanEnd (tags : List TagSeen) (s : State) : Host.Outcome State Fault Refusal := .next (tagScanEndOp tags s)

/-- PARITY_PENDING_WRITE (R223): after GLB_LOCK, P and Q of every SEALED stripe. -/
def parityPendingWriteOp (s : State) : State :=
  if s.fget F.STE_STS_RPHASE = 3 && s.locked then (s.ste.accs.foldl (fun s a => s.parityDue a) s).replayDone else s

/-- PARITY_PENDING_WRITE. -/
def execParityPendingWrite (s : State) : Host.Outcome State Fault Refusal := .next (parityPendingWriteOp s)

/-- A write of STE_RETIRE (R229). -/
def State.retireWrite (s : State) (v : Word) : State :=
  let i := surfIndex (F.STE_RETIRE_SURF.of v)
  if !F.STE_RETIRE_GO.on v || decide (12 ≤ F.STE_RETIRE_SURF.of v % 16) || !s.surfOn i then s
  else if s.journalRoom 3 then s.retire i
  else s.steMap (fun x => { x with deferred := x.deferred ++ [.retire v] })

/-- SURFACE_RETIRE: a write of STE_RETIRE with GO = 1. -/
def execSurfaceRetire (v : Word) (s : State) : Host.Outcome State Fault Refusal := .next (s.retireWrite (setBits v 31 1 1))

/-- Whether a block is unrecoverable and its sector not yet poisoned on media (R230). -/
def State.unrecAt (s : State) (z k i : Nat) : Bool := s.ste.unrec.any (fun u => u.zone == z && u.k == k && u.sector == i)

/-- What data member `m` gives at sector `i` of a stripe (R213, R216): bytes known, or none for an erasure. [assumption 125 DEDUCED] -/
def State.memberInfo (s : State) (z st i : Nat) (reads : List MemberRead) (m : Nat) : Option (List Byte) :=
  let k := 18 * st + m
  let off := chunkStart k + i
  let id := s.zoneBlock z off
  let d := s.zdesc z
  match (s.cqe.buffer.filter (fun b => b.nsid == id.nsid && b.lba == id.lba)).getLast? with
  | some b => some (if b.poison then zeroSector else b.info)
  | none =>
    if entryState (s.entry z k) != 1 || decide (d.end_ ≤ off) then some zeroSector
    else if s.unrecAt z k i then none
    else match reads.find? (fun r => r.m == m) with
      | some r => if r.ok then some r.data else none
      | none => none

/-- The parity bytes at hand (R216): the accumulator's, or those read. -/
def State.parityInfo (s : State) (z st i : Nat) (reads : List MemberRead) (q : Bool) : Option (List Byte) :=
  match s.stripeAcc z st with
  | some a => some (if q then (a.row i).2 else (a.row i).1)
  | none => match reads.find? (fun r => r.m == (if q then 17 else 16)) with
    | some r => if r.ok then some r.data else none
    | none => none

/-- The bytes of one member's sector from the others (R214); none with too many erasures (R230). -/
def State.reconstruct (s : State) (z st i : Nat) (reads : List MemberRead) (target : Nat) : Option (List Byte) :=
  if s.unrecAt z (18 * st + target) i then none
  else
    let data := (List.range 16).map (fun m => (m, if m = target then none else s.memberInfo z st i reads m))
    let known := data.filterMap (fun p => p.2.map (fun d => (p.1, d)))
    let lost := (data.filter (fun p => p.2.isNone)).map (fun p => p.1)
    let p := if target = 16 then none else s.parityInfo z st i reads false
    let q := if target = 17 then none else s.parityInfo z st i reads true
    let (kp, kq) := parityOf known
    let full : Option (List (Nat × List Byte)) := match lost, p, q with
      | [], _, _ => some known
      | [x], some p, _ => some (known ++ [(x, recoverOne x true (xorBytes p kp) zeroSector)])
      | [x], none, some q => some (known ++ [(x, recoverOne x false zeroSector (xorBytes q kq))])
      | [x, y], some p, some q =>
        let r := recoverTwo x y (xorBytes p kp) (xorBytes q kq)
        some (known ++ [(x, r.1), (y, r.2)])
      | _, _, _ => none
    full.bind (fun l =>
      if target = 16 then some (parityOf l).1 else if target = 17 then some (parityOf l).2 else (l.find? (fun p => p.1 == target)).map (fun p => p.2))

/-- Unrecoverable blocks (R230): counted, and the fault of Table 10.7. -/
def State.unrecoverable (s : State) (n : Nat) : State := if n = 0 then s else (s.count Rg.STE_UNREC_LO n).raiseFault Blk.ste 0 6 3 0

/-- A block is found unrecoverable (R230): counted once. [assumption 123 DEDUCED] -/
def State.markUnrec (s : State) (z k i : Nat) (issued : Bool) : State :=
  if s.unrecAt z k i then s
  else (s.steMap (fun x => { x with unrec := x.unrec ++ [⟨z, k, i, issued, false⟩] })).unrecoverable 1

/-- A chunk is written to a surface with given rows (R231): RGEN + 1, under R207. -/
def State.rewriteChunk (s : State) (z k i : Nat) (rows : List (Option (List Byte))) : State :=
  let e := s.entry z k
  if s.zne.writes.any (fun w => w.zone == z && w.k == k) then s
  else s.queueWrite { freshWrite z k i rows.length e with copy := true, rows := rows }

/-- Whether a chunk can be written again at its surface: mapped, not on a retired surface, and not being written. -/
def State.chunkFree (s : State) (z k : Nat) : Bool :=
  let e := s.entry z k
  entryState e == 1 && !s.surfFailed (entrySurf e + surfBase z) && !s.zne.writes.any (fun w => w.zone == z && w.k == k)

/-- A chunk is copied to a new slot of its surface with some sectors given instead of read (R230, R233). -/
def State.copyPatch (s : State) (z k : Nat) (patch : List (Nat × Option (List Byte))) : State :=
  if !s.chunkFree z k || patch.isEmpty then s
  else
    let e := s.entry z k
    let n := if k % 18 < 16 then min 256 ((s.zdesc z).end_ - chunkStart k) else 256
    s.queueWrite { freshWrite z k (entrySurf e + surfBase z) n e with copy := true, patch := patch }

/-- Sectors of a stripe with more than two erasures (R230), with the reads of their members: every erased block is unrecoverable, its chunk is rewritten with
the sector poisoned, and P and Q are written anew at those sectors, or the accumulators where they still stand.  Member `target`'s chunk is rewritten
here only if `own`. [assumption 123 DEDUCED] -/
def State.poison (s : State) (z st : Nat) (l : List (Nat × List MemberRead)) (target : Nat) (own : Bool) : State :=
  if l.isEmpty then s
  else
    let gone := fun (p : Nat × List MemberRead) (m : Nat) => m == target || (s.memberInfo z st p.1 p.2 m).isNone
    let row := fun (p : Nat × List MemberRead) => parityOf ((List.range 16).filterMap (fun m =>
      if gone p m then none else (s.memberInfo z st p.1 p.2 m).map (fun d => (m, d))))
    let kp := 18 * st + 16
    let closed := s.stripeClosed z st
    let issued := !closed || (s.chunkFree z kp && s.chunkFree z (kp + 1))
    let lost := fun (m : Nat) => (l.filter (fun p => gone p m)).map (fun p => p.1)
    let u := (List.range 16).foldl (fun u m => (lost m).foldl (fun u i => u.markUnrec z (18 * st + m) i issued) u) s
    let u := (List.range 16).foldl (fun u m => if m == target && !own then u else u.copyPatch z (18 * st + m) ((lost m).map (fun i => (i, none)))) u
    if closed then
      if issued then (u.copyPatch z kp (l.map (fun p => (p.1, some (row p).1)))).copyPatch z (kp + 1) (l.map (fun p => (p.1, some (row p).2))) else u
    else match u.stripeAcc z st with
      | some a => u.stripeSet { a with rows := l.foldl (fun r p => insertKey p.1 (row p) (dropKey p.1 r)) a.rows }
      | none => u

/-- The next chunk to mend (R231): the priority pass over stripes with two or more lost members, then the normal pass at its own cursor. -/
def State.mendNext (s : State) : Option Nat × State :=
  let l := s.lostChunks
  let two := fun k => decide (2 ≤ (l.filter (fun x => x / 18 == k / 18)).length)
  let cur := fun (s : State) (prio : Bool) (k : Nat) =>
    ((s.fset F.STE_MCUR_ZONE (k / 288 % zoneSetBase)).fset F.STE_MCUR_STRIPE (k % 288 / 18)).fsetB F.STE_MCUR_PRIO prio
  match (if s.flag F.STE_MCUR_PRIO then l.find? (fun k => decide (s.ste.mendPrio ≤ k) && two k) else none) with
  | some k => (some k, cur (s.steMap (fun x => { x with mendPrio := k + 1 })) true k)
  | none => match l.find? (fun k => decide (s.ste.mendNorm ≤ k)) with
    | some k => (some k, cur (s.steMap (fun x => { x with mendNorm := k + 1 })) false k)
    | none => (none, (s.steMap (fun x => { x with mendNorm := 0 })).fsetB F.STE_MCUR_PRIO false)

/-- MEND_CHUNK (R231): every sector of the next lost chunk is reconstructed and the chunk written to the surface that R201 chooses. [assumptions 122 DEDUCED, 125 DEDUCED] -/
def mendChunkOp (reads : List (List MemberRead)) (s : State) : State :=
  if s.fget F.STE_MSTS_PEND = 0 || s.cqe.paused || s.moversRest || !s.locked then s.mendCheck
  else match s.mendNext with
    | (none, s) => s.mendCheck
    | (some key, s) =>
      let z := key / 288
      let k := key % 288
      let m := k % 18
      let n := if m < 16 then min 256 ((s.zdesc z).end_ - chunkStart k) else 256
      let rows := (List.range n).map (fun i => s.reconstruct z (k / 18) i (reads.getD i []) m)
      let bad := (List.range n).filter (fun i => (rows.getD i none).isNone)
      if bad.length = n ∧ 0 < n ∧ m < 16 then
        let e := s.entry z k
        let new := mkEntry 2 (entryRgen e) (surfCode (entrySurf e)) (entrySlot e)
        let s := s.journal 1 (psetFlag z) (zoneTag (z % zoneSetBase) k) (leBytes 4 e.toNat ++ leBytes 4 new.toNat ++ leBytes 4 0 ++ leBytes 2 (s.zmptr z)) 0
        (((s.killSlot (entrySurf e + surfBase z) (entrySlot e)).entrySet z k new true).unrecoverable
          (bad.filter (fun i => !s.unrecAt z k i)).length).mendCheck
      else match s.chooseSurf z k with
        | none => s.zoneReadOnly z
        | some i =>
          let s := if m < 16 then s.poison z (k / 18) (bad.map (fun i => (i, reads.getD i []))) m false else s
          s.rewriteChunk z k i rows

/-- MEND_CHUNK. -/
def execMendChunk (reads : List (List MemberRead)) (s : State) : Host.Outcome State Fault Refusal := .next (mendChunkOp reads s)

/-- Bytes a block returns to the host, with the metadata of its format (Table 12.13), which PRACT = 1 strips where it is protection information (R280). [assumption 164 DEDUCED] -/
def State.hostBlock (s : State) (nsid : Nat) (pract : Bool) (data prot : List Byte) : List Byte :=
  let f := look (fun _ => 0) nsid s.hep.lbaf
  data ++ prot.take (if pract && f / 16 != 0 then 0 else if f % 16 = 1 then 8 else if f % 16 = 2 then 16 else 0)

/-- A block as a read returns it once it is at hand (R242, R279, R347): buffered or from media, both in stored form, or unwritten. [assumption 121 DEDUCED] -/
def State.readBlock (s : State) (x : Slot) (i : Nat) : Option (List Byte) :=
  let lba := x.lba + i
  let ns := x.cmd.hdr.nsid
  let pract := x.cmd.hdr.pract
  match x.blocks.getD i .unwritten with
  | .unwritten => some (s.hostBlock ns pract (List.replicate 4096 0) (List.replicate 16 0xFF))
  | .buffer st => (s.cqe.buffer.find? (fun b => b.nsid == ns && b.lba == lba && b.stamp == st)).map (fun b =>
      s.hostBlock ns pract (s.plainData ns lba b.data) b.prot)
  | .mirror => some []
  | .media _ =>
    (s.cqe.parts.find? (fun p => p.stamp == x.stamp && decide (p.lba0 ≤ lba) && decide (lba < p.lba0 + p.count))).map (fun p =>
      let b := s.bytes (p.addr + 4128 * (lba - p.lba0)) 4112
      s.hostBlock ns pract (s.plainData ns lba (b.take 4096)) (b.drop 4096))

/-- A read whose blocks are all at hand completes (R242, R244, R278); a poisoned or unrecoverable block fails it. -/
def State.readTry (s : State) (stamp : Nat) : State :=
  match s.slotOf stamp with
  | none => s
  | some x =>
    match x.cmd.kind with
    | .read _ n =>
      let poisoned := (List.range n).any (fun i => match x.blocks.getD i .unwritten with
        | .buffer st => s.cqe.buffer.any (fun b => b.nsid == x.cmd.hdr.nsid && b.lba == x.lba + i && b.stamp == st && b.poison)
        | _ => false)
      if s.cqe.parts.any (fun p => p.stamp == stamp && !p.waiting.isEmpty) then s
      else
        let l := (List.range n).map (s.readBlock x)
        if l.any (fun b => b.isNone) then s
        else if poisoned then (s.finish x St.unrecovered).bufferSweep
        else if x.status ≠ 0 then (s.finish x x.status).bufferSweep
        else (s.finish x 0 0 (l.filterMap id).flatten).bufferSweep
    | _ => s

/-- What R226 says of a sector of a completed read: accepted, poisoned, failing a check, or unreadable. -/
inductive SectorFate where
  | good
  | poisoned
  | stale
  | unreadable
  deriving DecidableEq, Repr

/-- Whether sector `j` of a read of `count` sectors was not read (R167, R226): its status word (Table 5.5) says so, and no pool record (Table 6.4) says that
it was recovered. -/
def State.readFailed (s : State) (staddr count j : Nat) : Bool :=
  let r := s.load (staddr + 8 * j) 8 % 16
  if r ≤ 2 then false else if 8 ≤ r then true else decide (2 < s.load (staddr + 8 * (count + j)) 8 % 16)

/-- R226 for a sector at hand: its tag ZONE word and GEN, SEQ, and whether the guard check fails. -/
def State.sectorCheck (s : State) (zone gen at_ : Nat) (unread guardBad : Bool) : SectorFate :=
  if unread then .unreadable
  else if s.load (at_ + 4112) 4 ≠ zone ∨ s.load (at_ + 4116) 4 ≠ gen then .stale
  else if s.load (at_ + 4120) 4 = 0xFFFFFFFF then .poisoned
  else if guardBad then .stale
  else .good

/-- R226 for sector `j` of a part. [assumption 121 DEDUCED] -/
def State.sectorFate (s : State) (p : ReadPart) (j pdone status : Nat) (guardBad : List Nat) : SectorFate :=
  let conv := decide (2 ^ 24 ≤ p.zone)
  let zone := if conv then convTag (p.zone % 2 ^ 22) else zoneTag (p.zone % zoneSetBase) p.k
  let gen := if conv then 0 else genOf (s.zgen p.zone) (entryRgen p.entry)
  let ns := if conv then s.convNsid (decide (2 ^ 24 + 2 ^ 22 ≤ p.zone)) else s.zonedNsid (partnerZone p.zone)
  s.sectorCheck zone gen (p.addr + 4128 * j) (s.readFailed p.staddr p.count j || (2 < status && decide (pdone ≤ j))) (s.guarded ns && guardBad.contains j)

/-- A read of a copy completes (R206, R226): poisoned sectors stay poisoned, those that fail wait to be reconstructed (R227), and with all at hand the
chunk is written. -/
def State.copyReadDone (s : State) (r : BitVec 128) (guardBad : List Nat) : State :=
  let tag := (r.extractLsb' 64 32).toNat
  match s.zne.writes.find? (fun w => w.reads.any (fun x => x.1 == tag)) with
  | none => s
  | some w =>
    match w.reads.find? (fun x => x.1 == tag) with
    | none => s
    | some (_, f, n) =>
      let status := (r.extractLsb' 0 8).toNat
      let pdone := (r.extractLsb' 8 16).toNat
      let fate := fun j => s.sectorCheck (zoneTag (w.zone % zoneSetBase) w.k) (genOf (s.zgen w.zone) (entryRgen w.entry)) (w.buf + 4128 * (f + j))
        (s.readFailed (w.staddr + 16 * f) n j || (2 < status && decide (pdone ≤ j))) (s.guarded (s.zonedNsid (partnerZone w.zone)) && guardBad.contains j)
      let pick := fun (p : SectorFate → Bool) => ((List.range n).filter (fun j => p (fate j))).map (fun j => f + j)
      let dead := (pick (fun x => x == .poisoned)).map (fun i => (i, (none : Option (List Byte))))
      let w' := { w with reads := w.reads.filter (fun x => x.1 != tag), waiting := w.waiting ++ pick (fun x => x == .stale || x == .unreadable)
                         stale := w.stale ++ pick (fun x => x == .stale), patch := w.patch ++ dead }
      ((s.writeSet w (fun _ => w')).stagePatch w' dead).copyRead w'

/-- Change a part. -/
def State.partSet (s : State) (p : ReadPart) (f : ReadPart → ReadPart) : State :=
  s.cqeMap (fun c => { c with parts := c.parts.map (fun x => if x.stamp = p.stamp ∧ x.lba0 = p.lba0 then f x else x) })

/-- A sector of a conventional copy that fails is served from the other copy (R228), and once that one reads good the first is rewritten; one that fails there
too is unrecoverable. -/
def State.convOther (s : State) (p : ReadPart) (bad : List Nat) (silent : Nat) : State :=
  if bad.isEmpty then
    if p.other then s.convSubmit (decide (2 ^ 24 + 2 ^ 22 ≤ p.zone)) (p.zone % 2 ^ 22) (1 - p.k) 2 0 p.first p.count p.addr p.staddr else s
  else
    let m := p.zone % 2 ^ 22
    let partner := decide (2 ^ 24 + 2 ^ 22 ≤ p.zone)
    let s := (List.range silent).foldl (fun s _ => ((s.count Rg.STE_SILENT_LO).raiseFault Blk.ste 0 1 1 0).blockRecord Blk.ste 0 1 0) s
    if p.other then
      (s.unrecoverable bad.length).partSet p (fun x => { x with waiting := [] }) |>.slotMap p.stamp (fun x => { x with status := St.unrecovered })
    else
      let s := s.convSubmit partner m (1 - p.k) 1 2 p.first p.count p.addr p.staddr
      s.partSet p (fun x => { x with other := true, k := 1 - p.k, waiting := List.range p.count })

/-- A completion of a read's media operation (R226): sectors that pass are delivered; poisoned ones fail the read; the rest wait to be reconstructed. -/
def State.partDone (s : State) (r : BitVec 128) (guardBad : List Nat) : State :=
  let tag := r.extractLsb' 64 32
  match s.cqe.parts.find? (fun p => p.tag == tag && !p.waiting.isEmpty) with
  | none => s
  | some p =>
    let status := (r.extractLsb' 0 8).toNat
    let pdone := (r.extractLsb' 8 16).toNat
    let fate := fun j => s.sectorFate p j pdone status guardBad
    let l := List.range p.count
    let bad := l.filter (fun j => fate j == .stale || fate j == .unreadable)
    let stale := l.filter (fun j => fate j == .stale)
    let s := if l.any (fun j => fate j == .poisoned) then s.slotMap p.stamp (fun x => { x with status := St.unrecovered }) else s
    if 2 ^ 24 ≤ p.zone then
      let s := s.partSet p (fun x => { x with waiting := [] })
      (s.convOther { p with waiting := [] } bad stale.length).readTry p.stamp
    else (s.partSet p (fun x => { x with waiting := bad, stale := stale })).readTry p.stamp

/-- COMPLETION_POST (R167): ended operations that are ready are posted; STE checks the sectors of reads that come back (R226).  `guardBad` are the sectors
of a read whose guard or reference tag does not hold over the decrypted data. -/
def completionPostOp (a : Act) (guardBad : List Nat) (s : State) : State :=
  let s := s.postReady a 16
  let mine := (s.msqOf a).hwCpls.filter (fun r => s.cqe.parts.any (fun p => p.tag == r.extractLsb' 64 32))
  let copies := (s.msqOf a).hwCpls.filter (fun r => s.zne.writes.any (fun w => w.reads.any (fun x => x.1 == (r.extractLsb' 64 32).toNat)))
  let s := s.msqMap a (fun m => { m with hwCpls := m.hwCpls.filter (fun r => !mine.contains r && !copies.contains r) })
  copies.foldl (fun s r => s.copyReadDone r guardBad) (mine.foldl (fun s r => s.partDone r guardBad) s)

/-- COMPLETION_POST. -/
def execCompletionPost (a : Act) (guardBad : List Nat) (s : State) : Host.Outcome State Fault Refusal := .next (completionPostOp a guardBad s)

/-- The reads of a reconstruction as they stand (R227): those of the second round replace the failed ones of the first. -/
def reconReads (m : ReconIn) : List MemberRead :=
  m.first.map (fun (r : MemberRead) => if r.ok then r else (m.second.find? (fun (x : MemberRead) => x.m == r.m)).getD r)

/-- A member's sector from the others (R227): with the first reads, or with the second where more than two erasures stood. -/
def State.reconGot (s : State) (m : ReconIn) : Option (List Byte) :=
  match s.reconstruct m.zone m.stripe m.sector m.first m.member with
  | some d => some d
  | none => s.reconstruct m.zone m.stripe m.sector (reconReads m) m.member

/-- A sector that failed a check has been reconstructed (R226). -/
def State.silent (s : State) (was : Bool) : State :=
  if was || s.forced Blk.ste 0 1 then ((s.count Rg.STE_SILENT_LO).raiseFault Blk.ste 0 1 1 0 was).blockRecord Blk.ste 0 1 0 else s

/-- A block has been found unrecoverable (R230); of a parity member nothing follows. -/
def State.lostSector (s : State) (m : ReconIn) (own : Bool) : State :=
  if m.member < 16 then s.poison m.zone m.stripe [(m.sector, reconReads m)] m.member own else s

/-- A sector of a host read is reconstructed (R226, R227, R230). -/
def State.reconRead (s : State) (m : ReconIn) (p : ReadPart) : State :=
  let j := m.sector - p.first
  let k := 18 * m.stripe + m.member
  let drop := fun (s : State) => s.partSet p (fun x => { x with waiting := x.waiting.filter (fun y => y != j) })
  let failed := ((drop s).lostSector m true).slotMap p.stamp (fun x => { x with status := St.unrecovered })
  let s := match s.reconGot m with
    | some d =>
      if m.checkOk then
        let s := ((drop (s.setBytes (p.addr + 4128 * j) (d.take 4112))).count Rg.STE_RECON_LO).silent (p.stale.contains j)
        (match s.chunkSurf m.zone k with
          | some i => s.copyChunk m.zone k i false
          | none => s)
      else failed
    | none => failed
  s.readTry p.stamp

/-- A sector of a copy is reconstructed (R226, R227, R230); where that fails a data sector is poisoned, and a copy of a parity chunk is given up. [assumption 124 DEDUCED] -/
def State.reconCopy (s : State) (m : ReconIn) (w : ChunkWr) : State :=
  let fewer := { w with waiting := w.waiting.filter (fun y => y != m.sector) }
  let failed :=
    if m.member < 16 then
      let w' := { fewer with patch := w.patch ++ [(m.sector, none)] }
      (((s.writeSet w (fun _ => w')).lostSector m false).stagePatch w' [(m.sector, none)]).copyRead w'
    else ((s.writeDrop w).bandFull w.surf).sendNext w.surf
  match s.reconGot m with
  | some d =>
    if m.checkOk then
      (((s.writeSet w (fun _ => fewer)).setBytes (w.buf + 4128 * m.sector) (d.take 4112)).silent (w.stale.contains m.sector)).copyRead fewer
    else failed
  | none => failed

/-- SECTOR_RECONSTRUCTION (R226, R227, R230): the members' reads for a sector of a host read or of a copy complete; those that failed in the first round count as
read in the second where more than two erasures stood. -/
def sectorReconstructionOp (m : ReconIn) (s : State) : State :=
  let k := 18 * m.stripe + m.member
  match s.cqe.parts.find? (fun p => p.zone == m.zone && p.k == k && decide (p.first ≤ m.sector) && p.waiting.contains (m.sector - p.first)) with
  | some p => s.reconRead m p
  | none =>
    match s.zne.writes.find? (fun w => w.zone == m.zone && w.k == k && w.waiting.contains m.sector) with
    | some w => s.reconCopy m w
    | none => s

/-- SECTOR_RECONSTRUCTION. -/
def execSectorReconstruction (m : ReconIn) (s : State) : Host.Outcome State Fault Refusal := .next (sectorReconstructionOp m s)

/-- A Rinse pass ends (R234): CODE, DONE, PASSES, the event. -/
def State.rinseOver (s : State) (code : Nat) : State :=
  let s := (((s.fsetB F.STE_RSTS_BUSY false).fsetB F.STE_RSTS_DONE true).fset F.STE_RSTS_CODE code).fset F.STE_RSTS_PASSES
    (min 0xFFFF (s.fget F.STE_RSTS_PASSES + 1))
  ((s.fsetB F.STE_STS_RINSE false).steMap (fun x => { x with rinse := none })).raiseEvent 94

/-- A row of counts with nothing counted. -/
def noRinse : RinseRow := ⟨0, 0, 0, 0, 0, 0, 0, 0⟩

/-- A write of STE_RCTL (R232, Table 10.8). -/
def State.rctlWrite (s : State) (v : Word) : State :=
  let s := (s.fset F.STE_RCTL_CHECKP (F.STE_RCTL_CHECKP.of v)).fset F.STE_RCTL_RELOCREV (F.STE_RCTL_RELOCREV.of v)
  let s := if F.STE_RCTL_GO.on v && s.ste.rinse.isNone then
      let a := s.wide Rg.STE_RSADDR_LO
      if a % 64 ≠ 0 ∨ !s.inDdrRw a 832 then s.rinseOver 2
      else
        let r : Rinse := { start := s.clock.toNat, stop := false, chunks := 0, stripes := 0, rows := List.replicate 24 noRinse }
        ((s.steMap (fun x => { x with rinse := some r })).fsetB F.STE_STS_RINSE true).fsetB F.STE_RSTS_BUSY true
    else s
  if F.STE_RCTL_STOP.on v then s.steMap (fun x => { x with rinse := x.rinse.map (fun r => { r with stop := true }) }) else s

/-- RINSE_START: a write of STE_RCTL with GO = 1. -/
def execRinseStart (v : Word) (s : State) : Host.Outcome State Fault Refusal := .next (s.rctlWrite (setBits v 0 1 1))
/-- RINSE_STOP: a write of STE_RCTL with STOP = 1. -/
def execRinseStop (v : Word) (s : State) : Host.Outcome State Fault Refusal := .next (s.rctlWrite (setBits v 1 1 1))

/-- Change a surface's counts of the pass. -/
def State.rinseRow (s : State) (i : Nat) (f : RinseRow → RinseRow) : State :=
  s.steMap (fun x => { x with rinse := x.rinse.map (fun r => { r with rows := r.rows.modify (i % 24) f }) })

/-- The parity comparison of a CLOSED stripe (R233) at the sectors of which every member is at hand: one data member j for which every mismatch has
Q″ = g^j ⊙ P″ is rewritten from parity, else P and Q. [assumption 126 DEDUCED] -/
def State.parityCompare (s : State) (z st : Nat) (members : List (List MemberRead)) : State :=
  let info := fun i m => s.memberInfo z st i (members.getD i []) m
  let par := fun i q => s.parityInfo z st i (members.getD i []) q
  let known := fun i => (List.range 16).filterMap (fun m => (info i m).map (fun d => (m, d)))
  let whole := (List.range members.length).filter (fun i => (known i).length == 16 && (par i false).isSome && (par i true).isSome)
  let row := fun i => parityOf (known i)
  let diff := fun i => (xorBytes (row i).1 ((par i false).getD zeroSector), xorBytes (row i).2 ((par i true).getD zeroSector))
  let pairs := (whole.map (fun i => (diff i).1.zip (diff i).2)).flatten.filter (fun (b : Byte × Byte) => b.1 != 0 || b.2 != 0)
  let s := s.steMap (fun x => { x with rinse := x.rinse.map (fun r => { r with stripes := r.stripes + 1 }) })
  if pairs.isEmpty && !s.forced Blk.ste 0 2 then s
  else
    let s := (s.count Rg.STE_PMISM_LO).raiseFault Blk.ste 0 2 1 0 (!pairs.isEmpty)
    let fits := fun j => pairs.all (fun (b : Byte × Byte) => b.1 != 0 && decide (b.2.toNat = gmul (gpow 2 j) b.1.toNat))
    match (if pairs.isEmpty then none else (List.range 16).find? fits) with
    | some j =>
      let k := 18 * st + j
      let fixed := (whole.filter (fun i => decide (chunkStart k + i < (s.zdesc z).end_))).map (fun i => (i, some (xorBytes ((info i j).getD zeroSector) (diff i).1)))
      (s.rinseRow (entrySurf (s.entry z k)) (fun r => { r with mismatches := r.mismatches + 1 })).copyPatch z k fixed
    | none =>
      if pairs.isEmpty then s
      else (s.copyPatch z (18 * st + 16) (whole.map (fun i => (i, some (row i).1)))).copyPatch z (18 * st + 17) (whole.map (fun i => (i, some (row i).2)))

/-- RINSE_CHUNK_READ (R232, R233): one chunk on a masked surface that is not retired has been read and checked; with CHECKP the members of its stripe are
compared. -/
def rinseChunkReadOp (m : RinseIn) (s : State) : State :=
  match s.ste.rinse, s.chunkSurf m.zone m.k with
  | some _, some i =>
    if s.surfFailed i || !(s.rd Rg.STE_RMASK).getLsbD (surfBit i) || entryState (s.entry m.zone m.k) != 1 || s.cqe.paused || s.moversRest then s
    else
      let move := decide (max 1 (s.fget F.STE_RCTL_RELOCREV) ≤ m.maxRevs) || decide (0 < m.reconstructed) || decide (0 < m.checkFails)
      let s := s.steMap (fun x => { x with rinse := x.rinse.map (fun r => { r with chunks := r.chunks + 1 }) })
      let s := s.rinseRow i (fun r => { r with
        chunks := r.chunks + 1, recovered := r.recovered + m.recovered, reconstructed := r.reconstructed + m.reconstructed
        checkFails := r.checkFails + m.checkFails, rehomed := r.rehomed + move.toNat, unrecoverable := r.unrecoverable + m.unrecoverable.length
        maxRevs := max r.maxRevs m.maxRevs })
      let s := (List.range m.checkFails).foldl (fun s _ => ((s.count Rg.STE_SILENT_LO).raiseFault Blk.ste 0 1 1 0).blockRecord Blk.ste 0 1 0) s
      let s := if m.unrecoverable.isEmpty || decide (16 ≤ m.k % 18) then (if move then s.copyChunk m.zone m.k i false else s)
        else s.poison m.zone (m.k / 18) (m.unrecoverable.map (fun i => (i, m.members.getD i []))) (m.k % 18) true
      if s.flag F.STE_RCTL_CHECKP && !m.members.isEmpty && s.stripeClosed m.zone (m.k / 18) then s.parityCompare m.zone (m.k / 18) m.members else s
  | _, _ => s

/-- RINSE_CHUNK_READ. -/
def execRinseChunkRead (m : RinseIn) (s : State) : Host.Outcome State Fault Refusal := .next (rinseChunkReadOp m s)

/-- A count of a summary (R234). -/
def sat32 (n : Nat) : List Byte := leBytes 4 (min 0xFFFFFFFF n)

/-- The summary of a pass (Table 10.4). -/
def Rinse.summary (r : Rinse) (code end_ : Nat) : List Byte :=
  leBytes 8 r.start ++ leBytes 8 end_ ++ leBytes 4 code ++ sat32 r.chunks ++ sat32 r.stripes ++ List.replicate 36 0 ++
    (r.rows.map (fun x => sat32 x.chunks ++ sat32 x.recovered ++ sat32 x.reconstructed ++ sat32 x.checkFails ++ sat32 x.rehomed ++
      sat32 x.unrecoverable ++ sat32 x.mismatches ++ leBytes 1 (min 255 x.maxRevs) ++ leBytes 3 0)).flatten

/-- RINSE_END (R232, R234). -/
def rinseEndOp (s : State) : State :=
  match s.ste.rinse with
  | none => s
  | some r =>
    let code := if r.stop then 1 else 0
    (s.setBytes (s.wide Rg.STE_RSADDR_LO) (r.summary code s.clock.toNat)).rinseOver code

/-- RINSE_END. -/
def execRinseEnd (s : State) : Host.Outcome State Fault Refusal := .next (rinseEndOp s)

/-- Blocks of one write to a conventional chunk that are still in the buffer only. -/
def State.convBlocks (s : State) (stamp : Nat) : List WinBlk :=
  s.cqe.buffer.filter (fun b => b.stamp == stamp && !b.media && (b.nsid == s.convNsid false || (s.flag F.BRL_STS_CARRY && b.nsid == s.convNsid true)))

/-- Whether an earlier read was resolved to media at a block (R243). -/
def State.mediaRead (s : State) (b : WinBlk) : Bool :=
  s.cqe.slots.any (fun x => match x.cmd.kind with
    | .read slba _ => decide (x.stamp < b.stamp) && x.cmd.hdr.nsid == b.nsid && decide (slba ≤ b.lba) &&
        (match x.blocks.getD (b.lba - slba) .unwritten with | .media _ => true | .unwritten => true | _ => false)
    | _ => false)

/-- One conventional chunk of a write (R228): the PEND record, copy 0, copy 1, the DONE record. [assumption 120 DEDUCED] -/
def State.convChunk (s : State) (partner : Bool) (stamp m : Nat) : State :=
  let bs := (s.convBlocks stamp).filter (fun b => b.lba / 256 == m && b.nsid == s.convNsid partner)
  let lo := (bs.map (fun b => b.lba % 256)).foldl min 255
  let hi := (bs.map (fun b => b.lba % 256)).foldl max 0
  let seq := nextSeq s.vault.wseq
  let s := s.vaultMap (fun v => { v with wseq := seq })
  let fl := if partner then 8 else 0
  let body := leBytes 2 lo ++ leBytes 2 (hi - lo + 1) ++ leBytes 4 seq
  let s := s.journal 7 (fl + 2) (convTag m) body stamp
  let (buf, s) := s.freshBuf
  let (st, s) := s.freshBuf
  let s := bs.foldl (fun s b => s.setBytes (buf + 4128 * (b.lba % 256 - lo)) (b.info ++ leBytes 4 (convTag m) ++ leBytes 4 0 ++ leBytes 4 seq ++ leBytes 4 0)) s
  let s := s.convSubmit partner m 0 2 0 lo (hi - lo + 1) buf st
  let s := s.convSubmit partner m 1 2 0 lo (hi - lo + 1) buf st
  let s := s.journal 7 (fl + 4) (convTag m) body stamp
  let mine := fun (b : WinBlk) => b.stamp == stamp && b.nsid == s.convNsid partner && b.lba / 256 == m
  let s := s.leaveWindow mine
  s.cqeMap (fun c => { c with buffer := c.buffer.map (fun b => if mine b then { b with media := true, done := true } else b) })

/-- Whether an earlier write to a block is still to come or to go to media (R241). [assumption 135 DEDUCED] -/
def State.olderWrite (s : State) (b : WinBlk) : Bool :=
  s.cqe.buffer.any (fun c => c.nsid == b.nsid && c.lba == b.lba && decide (c.stamp < b.stamp) && !c.media) ||
    s.cqe.slots.any (fun x => x.cmd.kind.isData && !x.dataIn && x.status == 0 && decide (x.stamp < b.stamp) && x.cmd.hdr.nsid == b.nsid &&
      decide (x.lba ≤ b.lba) && decide (b.lba < x.lba + x.cmd.kind.count))

/-- CONV_WRITE (R228, R241, R243): both copies of the conventional chunks of a write, between PEND and DONE; it waits for earlier writes to those blocks, and for
earlier reads of them on media. -/
def State.convWrite (s : State) (stamp : Nat) : State :=
  let bs := s.convBlocks stamp
  if bs.isEmpty || bs.any s.mediaRead || bs.any s.olderWrite || !s.locked || !s.flag F.STE_STS_RUN then s
  else if !s.journalRoom 10 then s.steMap (fun x => { x with deferred := x.deferred ++ [.conv stamp] })
  else
    let one := fun (s : State) (partner : Bool) =>
      ((bs.filter (fun b => b.nsid == s.convNsid partner)).map (fun b => b.lba / 256)).eraseDups.foldl (fun s m => s.convChunk partner stamp m) s
    ((one (one s false) true).bufferSweep).mediaDone

/-- CONV_WRITE. -/
def execConvWrite (stamp : Nat) (s : State) : Host.Outcome State Fault Refusal := .next (s.convWrite stamp)

/-- Run what waited for the journal, in order (R218, R219). -/
def State.runDeferred (s : State) : List Deferred → State
  | [] => s
  | d :: t =>
    let s := match d with
      | .chunk r => s.chunkComplete r
      | .zone => s
      | .spare v => (s.fsetB F.ZNE_SPSTS_BUSY false).spaddWrite v
      | .retire v => s.retireWrite v
      | .conv st => s.convWrite st
    s.runDeferred t

/-- JOURNAL_RATE_RELEASE (R218): the next second's records; what still finds no room waits on. -/
def journalRateReleaseOp (s : State) : State :=
  let l := s.ste.deferred
  (s.steMap (fun x => { x with deferred := [] })).runDeferred l

/-- JOURNAL_RATE_RELEASE. -/
def execJournalRateRelease (s : State) : Host.Outcome State Fault Refusal := .next (journalRateReleaseOp s)

end Sys2Proof.Machine
end

