-- ==== Sys2Proof/Machine/Cqe.lean ====
section
/-! DEFINITION. Command Queue Engine (R237 to R259): admission, read resolution, zone actions in stamp order, write data, the Interlocking, flush, resets of a queue,
activation and power-state entry. -/
namespace Sys2Proof.Machine

/-- A write of CQE_CTL (R258, Table 11.8). -/
def State.cqeCtlWrite (s : State) (v : Word) : State :=
  let s := if F.CQE_CTL_CLRCNT.on v then
      ((((s.clearCount Rg.CQE_ADMIT_LO).clearCount Rg.CQE_EARLY_LO).clearCount Rg.CQE_MVCAN_LO).clearCount Rg.CQE_POISON_LO).clearCount Rg.CQE_PSABAND_LO
    else s
  if !F.CQE_CTL_EN.on v || s.flag F.CQE_STS_RUN then s
  else
    let base := s.fget F.CQE_CSTAGE_BLK * 0x1000000
    let size := max 1 (s.fget F.CQE_CSTAGE_SIZE) * 0x1000000
    let meets := decide (base < s.mdBase + 0x1000000) && decide (s.mdBase < base + size)
    let bad := !s.inDdrRw base size || meets
    if bad || s.forced Blk.cqe 0 4 then (s.fsetB F.CQE_STS_CFGERR true).raiseFault Blk.cqe 0 4 3 0 bad
    else ((s.fsetB F.CQE_CTL_EN true).fsetB F.CQE_STS_RUN true).earlyUpdate

/-- CQE_ENABLE: a write of CQE_CTL with EN = 1. -/
def execCqeEnable (v : Word) (s : State) : Host.Outcome State Fault Refusal := .next (s.cqeCtlWrite (setBits v 0 1 1))
/-- CQE_COUNTER_CLEAR (R11): CLRCNT = 1. -/
def execCqeCounterClear (v : Word) (s : State) : Host.Outcome State Fault Refusal := .next (s.cqeCtlWrite (setBits v 1 1 1))

/-- Whether a namespace is zoned, and of which set: none for another. -/
def State.nsSet (s : State) (nsid : Nat) : Option (Bool × Bool) :=
  if nsid = s.zonedNsid false then some (true, false)
  else if nsid = s.convNsid false then some (false, false)
  else if s.twin && nsid == s.zonedNsid true then some (true, true)
  else if s.twin && nsid == s.convNsid true then some (false, true)
  else none
/-- Whether a namespace is zoned. -/
def State.isZoned (s : State) (nsid : Nat) : Bool := (s.nsSet nsid).elim false (fun p => p.1)
/-- The zone of a block. -/
def State.zoneOf (s : State) (nsid lba : Nat) : Nat := lba / 65536 + (if (s.nsSet nsid).elim false (fun p => p.2) then zoneSetBase else 0)

/-- Whether a namespace is the partner's. -/
def State.isPartner (s : State) (nsid : Nat) : Bool := (s.nsSet nsid).elim false (fun p => p.2)

/-- Write-kind admission is held while the journal is nearly full (R219), and on a twin while the partner is silent or the link is down without a takeover
(R361, R367). -/
def State.writesHeld (s : State) : Bool :=
  decide (64512 ≤ s.fget F.STE_JOCC_OCC) || s.brl.setBack || (s.flag F.BRL_STS_PAIRED && (s.flag F.BRL_STS_PSILENT || !s.flag F.BRL_STS_LINK) && !s.flag F.BRL_STS_CARRY)

/-- Bytes of conventional blocks staged (Table 11.0), in the stored size of a block. [assumption 132 DEDUCED] -/
def State.staged (s : State) : Nat :=
  4096 * ((s.cqe.buffer.filter (fun b => !s.isZoned b.nsid && !b.done)).length +
    (s.cqe.slots.filter (fun x => x.cmd.kind.isData && !s.isZoned x.cmd.hdr.nsid && !x.dataIn)).foldl (fun n x => n + x.cmd.kind.count) 0)

/-- The port is present (Table 12.1). -/
def State.portOn (s : State) (p : Port) : Bool := decide (p = .zero) || s.flag F.GLB_CFG_PORTS
/-- CSTS.RDY of a port (Table 12.15). -/
def State.rdy (s : State) (p : Port) : Bool := s.flag (match p with | .zero => F.HEP_STS_RDY0 | .one => F.HEP_STS_RDY1)

/-- Whether every queue of a port is held (Table 11.0): CQE does not run, slots are full, or a shutdown, disable, activation or power loss stands. -/
def State.portHeld (s : State) (p : Port) : Bool :=
  !s.flag F.CQE_STS_RUN || s.cqe.stopped || !s.rdy p || s.cqe.closing.get p || s.flag F.CQE_STS_FWACT || decide (8192 ≤ s.cqe.slots.length) ||
    !s.portOn p

/-- Whether the command at the head of a queue waits (R240); a command to be forwarded waits for one of 512 forwarding slots (R371). [assumption 132 DEDUCED] -/
def State.cmdHeld (s : State) (c : Cmd) : Bool :=
  if s.isPartner c.hdr.nsid && !s.flag F.BRL_STS_CARRY then s.anaState true == 1 && decide (512 ≤ s.brl.fwds.length) else
  (c.kind.isWriteKind && s.writesHeld) ||
    (c.kind.isData && !s.isZoned c.hdr.nsid && decide (max 1 (s.fget F.CQE_CSTAGE_SIZE) * 0x1000000 < s.staged + 4096 * c.kind.count))

/-- Commands that one turn takes from a queue (R238): 2^n of Arbitration Burst, all for 7. -/
def PortSt.burstMax (p : PortSt) : Nat :=
  let n := bitsOf (look (fun _ => (0 : Word)) 0x01 p.features) 0 3
  if n = 7 then 65536 else 2 ^ n

/-- The queue that a port serves next (R238): the present one within its burst, else the next in turn, whose head may be admitted. [assumption 131 DEDUCED] -/
def State.pickQueue (s : State) (p : Port) : Option Nat :=
  let x := s.port p
  let ready := x.sqs.filter (fun q => q.qid != 0 && (match q.cmds with | c :: _ => !s.cmdHeld c | [] => false))
  if s.portHeld p then none
  else if x.burst < x.burstMax && ready.any (fun q => q.qid == x.turn) then some x.turn
  else match ready.find? (fun q => decide (x.turn < q.qid)) with
    | some q => some q.qid
    | none => ready.head?.map (fun q => q.qid)

/-- The port and queue that admission takes next (R238): ports alternate, one with nothing admissible passes. [assumption 131 DEDUCED] -/
def State.pickNext (s : State) : Option (Port × Nat) :=
  let other : Port := match s.hep.lastPort with | .zero => .one | .one => .zero
  match s.pickQueue other with
  | some q => some (other, q)
  | none => (s.pickQueue s.hep.lastPort).map (fun q => (s.hep.lastPort, q))

/-- Issue the next admission stamp (R237, R239, STAMP_BOUND_WRITE). -/
def State.issueStamp (s : State) : Nat × State :=
  let n := s.wide Rg.CQE_STAMP_LO
  let s := if !s.cqe.stamped || n % 2 ^ 24 = 0 then s.vaultMap (fun v => { v with stampBound := (n / 2 ^ 24 + 1) * 2 ^ 24 }) else s
  (n, ((s.cqeMap (fun c => { c with stamped := true })).wideSet Rg.CQE_STAMP_LO (n + 1)).count Rg.CQE_ADMIT_LO)

/-- Where the write pointer of a zone will stand when the commands that ZNE has yet to apply before a stamp have been applied. [assumption 133 DEDUCED] -/
def State.wpAhead (s : State) (nsid z stamp : Nat) : Nat :=
  (s.cqe.slots.filter (fun y => !y.applied && decide (y.stamp < stamp) && y.cmd.hdr.nsid == nsid)).foldl (fun w y => match y.cmd.kind with
    | .zone .resetting a all => if all || s.zoneOf nsid a == z then 0 else w
    | .append a n _ => if s.zoneOf nsid a = z then w + n else w
    | .write a n _ => if s.zoneOf nsid a = z then a % 65536 + n else w
    | .zeroes a n => if s.zoneOf nsid a = z then a % 65536 + n else w
    | _ => w) (s.zdesc z).wp

/-- First block of a command: of a Zone Append not yet applied, the one it will be given (R197, R241). -/
def State.slotLba (s : State) (x : Slot) : Nat := match x.cmd.kind with
  | .append a _ _ => if x.applied then x.lba else a / 65536 * 65536 + s.wpAhead x.cmd.hdr.nsid (s.zoneOf x.cmd.hdr.nsid a) x.stamp
  | _ => x.lba

/-- Whether a write slot covers a block. -/
def State.covers (s : State) (x : Slot) (nsid lba : Nat) : Bool :=
  x.cmd.hdr.nsid == nsid && decide (s.slotLba x ≤ lba) && decide (lba < s.slotLba x + x.cmd.kind.count)

/-- Where a block of a read comes from (R242, R279, READ_RESOLUTION): the latest earlier write's buffered or coming data, a Reset not yet applied, media, or
nothing written. [assumption 133 DEDUCED] -/
def State.resolveBlock (s : State) (nsid lba stamp : Nat) : BlkRes :=
  let waits := (s.cqe.slots.filter (fun x => x.cmd.kind.isData && !x.dataIn && x.status == 0 && s.covers x nsid lba && decide (x.stamp < stamp))).map (fun x => x.stamp)
  let bufs := (s.cqe.buffer.filter (fun b => b.nsid == nsid && b.lba == lba && decide (b.stamp < stamp))).map (fun b => b.stamp + 1)
  let resets := (s.cqe.slots.filter (fun x => !x.applied && x.cmd.hdr.nsid == nsid && decide (x.stamp < stamp) && (match x.cmd.kind with
    | .zone .resetting z all => all || z / 65536 == lba / 65536
    | _ => false))).map (fun x => x.stamp)
  let w := (waits.map (fun n => n + 1) ++ bufs).foldl max 0
  let r := (resets.map (fun n => n + 1)).foldl max 0
  if w < r then .unwritten
  else if 0 < w then .buffer (w - 1)
  else if s.isZoned nsid then
    let z := s.zoneOf nsid lba
    let e := s.entry z (chunkOf (lba % 65536))
    if (s.zdesc z).end_ ≤ lba % 65536 || entryState e = 0 then .unwritten else .media e
  else if s.vault.convWritten.contains (nsid * 2 ^ 40 + lba) then .media 0
  else .unwritten

/-- The conventional chunk number as parts of reads name it. -/
def convZone (partner : Bool) (m : Nat) : Nat := 2 ^ 24 + (if partner then 2 ^ 22 else 0) + m

/-- Runs of blocks of a read that lie in one chunk under one entry: zone, chunk index, entry, first block, number. -/
def State.mediaRuns (s : State) (nsid : Nat) : List (Nat × BlkRes) → List (Nat × Nat × Word × Nat × Nat)
  | [] => []
  | (lba, .media e) :: t =>
    let z := if s.isZoned nsid then s.zoneOf nsid lba else convZone ((s.nsSet nsid).elim false (fun p => p.2)) (lba / 256)
    let k := if s.isZoned nsid then chunkOf (lba % 65536) else 0
    match s.mediaRuns nsid t with
    | (z', k', e', l', n) :: r => if z = z' ∧ k = k' ∧ e = e' ∧ l' = lba + 1 then (z, k, e, lba, n + 1) :: r else (z, k, e, lba, 1) :: (z', k', e', l', n) :: r
    | [] => [(z, k, e, lba, 1)]
  | _ :: t => s.mediaRuns nsid t

/-- The copy that a conventional read takes first (R228). -/
def State.convCopyFor (s : State) (partner : Bool) (m : Nat) : Nat :=
  let depth := fun (c : Nat) => match s.convPlace partner m c with
    | some (i, _) => (s.msqOf (surfAct i)).queue.length
    | none => 0
  let gone := fun (c : Nat) => match s.convPlace partner m c with
    | some (i, _) => s.surfFailed i
    | none => true
  let r := s.fget F.STE_CCFG_RSEL
  let c := if r = 1 then 0 else if r = 2 then 1 else if depth 1 < depth 0 then 1 else 0
  if gone c then 1 - c else c

/-- Submit the media operations of a read's run (R226, R242); on a retired surface the sectors wait for reconstruction (R231). -/
def State.submitRun (s : State) (stamp nsid : Nat) (run : Nat × Nat × Word × Nat × Nat) : State :=
  let (z, k, e, lba, n) := run
  let conv := decide (2 ^ 24 ≤ z)
  let partner := (s.nsSet nsid).elim false (fun p => p.2)
  let first := lba % 256
  let copy := if conv then s.convCopyFor partner (z % 2 ^ 22) else k
  let place : Option (Nat × List Piece) :=
    if conv then (s.convPlace partner (z % 2 ^ 22) copy).map (fun p => (p.1, s.convPieces p.1 p.2 first n))
    else
      let i := entrySurf e + surfBase z
      if entryState e = 1 then some (i, s.slotPieces i (entrySlot e) first n) else none
  match place with
  | none => s.slotMap stamp (fun x => { x with status := St.unrecovered })
  | some (i, pieces) =>
    (pieces.foldl (fun (a : State × Nat) pc =>
      let s := a.1
      let (buf, s) := s.freshBuf
      let (st, s) := s.freshBuf
      let tag : Word := BitVec.ofNat 32 s.freeCtr
      let part : ReadPart := { stamp := stamp, tag := tag, zone := z, k := copy, entry := e, lba0 := lba + a.2, first := first + a.2, count := pc.count, addr := buf,
                               staddr := st, waiting := List.range pc.count, stale := [], other := false }
      let s := s.cqeMap (fun c => { c with parts := c.parts ++ [part] })
      let s := if s.surfFailed i then s else (s.submitPieces i 1 2 0 tag.toNat false buf st [pc]).2
      (s, a.2 + pc.count)) (s, 0)).1

/-- The blocks of a conventional write join those ever written (R279). -/
def State.convMark (s : State) (nsid lba n : Nat) : State :=
  let l := (List.range n).map (fun i => nsid * 2 ^ 40 + lba + i)
  s.vaultMap (fun v => { v with convWritten := l.foldl (fun acc k => acc.takeWhile (fun x => decide (x < k)) ++ k :: acc.dropWhile (fun x => decide (x ≤ k))) v.convWritten })

/-- Reads that wait for a write which will not give them its blocks are resolved again (R241, R242). [assumption 133 DEDUCED] -/
def State.resolveAgain (s : State) (x : Slot) (gone : Nat → Bool) : State :=
  let ns := x.cmd.hdr.nsid
  let readers := s.cqe.slots.filter (fun y => y.blocks.contains (.buffer x.stamp))
  readers.foldl (fun s y =>
    let redo := (y.blocks.mapIdx (fun i b => (y.lba + i, b))).filter (fun p => p.2 == .buffer x.stamp && gone p.1)
    let news := redo.map (fun p => (p.1, s.resolveBlock ns p.1 x.stamp))
    let s := s.slotMap y.stamp (fun w => { w with blocks := w.blocks.mapIdx (fun i b =>
      if b = .buffer x.stamp then ((news.find? (fun q => q.1 == y.lba + i)).elim b (fun q => q.2)) else b) })
    ((s.mediaRuns ns news).foldl (fun s r => s.submitRun y.stamp ns r) s).readTry y.stamp) s

/-- A zoned or conventional write ended without its data (R245): a zoned one's blocks are stored poisoned, a conventional one changes nothing and reads that
waited for it are resolved again. -/
def State.failWrite (s : State) (x : Slot) : State :=
  let ns := x.cmd.hdr.nsid
  let n := x.cmd.kind.count
  if s.isZoned ns then
    let s := (List.range n).foldl (fun s i =>
      let b : WinBlk := { nsid := ns, lba := x.lba + i, stamp := x.stamp, poison := true, early := false, media := false, done := false, data := [], prot := [] }
      (s.cqeMap (fun c => { c with buffer := c.buffer ++ [b] })).stripeAdd (s.zoneOf ns x.lba) ((x.lba + i) % 65536) [] true) s
    (s.count Rg.CQE_POISON_LO n).raiseFault Blk.cqe 0 3 0 0
  else
    (s.slotMap x.stamp (fun y => { y with status := St.transfer })).resolveAgain x (fun _ => true)

/-- Reads with blocks that wait for a write are tried again. -/
def State.readsOf (s : State) (stamp : Nat) : State :=
  ((s.cqe.slots.filter (fun y => y.blocks.contains (.buffer stamp))).map (fun y => y.stamp)).foldl (fun s st => s.readTry st) s

/-- Window blocks allowed (Table 11.8, R368). -/
def State.winLimit (s : State) : Nat :=
  min (if s.twin && !s.flag F.BRL_STS_CARRY then 0x800 else 0x1000) (s.fget F.CQE_PWCFG_LIMIT)

/-- Early completion (R248, R367): FUA 0, hold-up armed, room in the window, and on a mirroring twin every WIN acknowledged. -/
def State.earlyTry (s : State) (stamp : Nat) : State :=
  match s.slotOf stamp with
  | none => s
  | some x =>
    let fua := match x.cmd.kind with | .write _ _ f => f | .append _ _ f => f | _ => false
    let n := x.cmd.kind.count
    let cut := s.flag F.BRL_STS_PAIRED && !s.flag F.BRL_STS_LINK && !s.flag F.BRL_STS_CARRY
    if x.cmd.kind.isData && x.dataIn && !fua && s.flag F.PWR_STS_ARMED && decide (n + s.fget F.CQE_PWOCC_BLOCKS ≤ s.winLimit) && x.wins == 0 && !cut then
      let s := s.cqeMap (fun c => { c with buffer := c.buffer.map (fun b => if b.stamp = stamp ∧ !b.media then { b with early := true } else b) })
      let s := (s.count Rg.CQE_EARLY_LO).winUpdate
      s.finish x 0 (match x.cmd.kind with | .append .. => x.lba | _ => 0)
    else s

/-- The reference tag of a stored block of a Zone Append of type 1 (R280): the low bits of the address that ZNE assigned, in the standard's byte order. [assumption 164 DEDUCED] -/
def refTag (fmt lba : Nat) (prot : List Byte) : List Byte :=
  if fmt % 16 = 1 ∧ fmt / 16 = 1 then prot.take 4 ++ (leBytes 4 lba).reverse ++ prot.drop 8
  else if fmt % 16 = 2 ∧ fmt / 16 = 1 then prot.take 10 ++ (leBytes 6 lba).reverse
  else prot

/-- A write's data is wholly received and checked (R244, R248, R347): its blocks are, in stored form, in the buffer and the parity accumulators; it may complete early. [assumptions 121 DEDUCED, 164 DEDUCED] -/
def State.dataArrived (s : State) (stamp : Nat) (blocks : List (List Byte)) : State :=
  match s.slotOf stamp with
  | none => s
  | some x =>
    let ns := x.cmd.hdr.nsid
    let n := x.cmd.kind.count
    let fmt := look (fun _ => 0) ns s.hep.lbaf
    let app := match x.cmd.kind with | .append .. => true | _ => false
    let s := (List.range n).foldl (fun s i =>
      let raw := blocks.getD i []
      let p := (raw.drop 4096 ++ List.replicate 16 0).take 16
      let b : WinBlk := { nsid := ns, lba := x.lba + i, stamp := stamp, poison := false, early := false, media := false, done := false
                          data := s.storedData ns (x.lba + i) ((raw ++ List.replicate 4096 0).take 4096), prot := if app then refTag fmt (x.lba + i) p else p }
      let s := s.cqeMap (fun c => { c with buffer := c.buffer ++ [b] })
      if s.isZoned ns then s.stripeAdd (s.zoneOf ns x.lba) (b.lba % 65536) b.info false else s) s
    let s := if s.isZoned ns then s else s.convMark ns x.lba n
    let mirror := s.flag F.BRL_STS_MIRSYNC
    let s := s.slotMap stamp (fun y => { y with dataIn := true, wins := if mirror then n else 0 })
    let s := if mirror then (s.cqe.buffer.filter (fun b => b.stamp == stamp)).foldl (fun s b => s.sendPkt (.win b.lba b.nsid stamp b.info)) s else s
    (s.earlyTry stamp).readsOf stamp

/-- Statuses of a failed receipt (Table 12.12). -/
def receiptStatus : DataOutcome → Nat
  | .good => 0
  | .transferError => St.transfer
  | .guardError => 0x282
  | .appTagError => 0x283
  | .refTagError => 0x284

/-- The data of a forwarded write has come, or its transfer or check has failed (R371): the command goes to its owner with its data, or completes with the status. [assumption 255 DEDUCED] -/
def State.forwardData (s : State) (i : Nat) (m : WriteData) : State :=
  match s.brl.fwds.find? (fun f => f.slot == i) with
  | none => s
  | some f =>
    if f.sent || (s.port f.hdr.port).fetch.contains (fwdStamp + i) then s
    else
      let s := s.fetchDone f.hdr.port (fwdStamp + i)
      if m.outcome = .good then
        let s := (s.brlMap (fun b => { b with fwds := b.fwds.map (fun g => if g.slot = i then { g with sent := true } else g) })).sendPkt (.fwd ⟨{ f.hdr with cid := i }, f.kind⟩)
        m.blocks.foldl (fun s b => s.sendPkt (.fdata i b)) s
      else
        (s.brlMap (fun b => { b with fwds := b.fwds.filter (fun g => g.slot != i) })).complete f.hdr (receiptStatus m.outcome)

/-- WRITE_DATA_RECEIVED (R245, R248): the data of an admitted write has wholly come, or its transfer or check has failed; a stamp from `fwdStamp` on names a
forwarding slot.  A write whose requests are not all issued (R266, R269) waits. -/
def writeDataReceivedOp (stamp : Nat) (m : WriteData) (s : State) : State :=
  if fwdStamp ≤ stamp then s.forwardData (stamp - fwdStamp) m else
  match s.slotOf stamp with
  | none => s
  | some x =>
    if !x.cmd.kind.isData || x.dataIn || !x.applied || (s.port x.cmd.hdr.port).fetch.contains stamp then s else
    let s := if x.cmd.hdr.qid < 65536 then s.fetchDone x.cmd.hdr.port stamp else s
    if m.outcome = .good then s.dataArrived stamp m.blocks
    else ((s.failWrite x).readsOf stamp).finish x (receiptStatus m.outcome)

/-- WRITE_DATA_RECEIVED. -/
def execWriteDataReceived (stamp : Nat) (m : WriteData) (s : State) : Host.Outcome State Fault Refusal := .next (writeDataReceivedOp stamp m s)

/-- Zones that an action with Select All acts on (Table 9.2). -/
def State.actZones (s : State) (nsid : Nat) (a : ZoneAct) : List Nat :=
  let base := if (s.nsSet nsid).elim false (fun p => p.2) then zoneSetBase else 0
  (s.zones.map (fun z => z + base)).filter (fun z =>
    let zs := (s.zdesc z).zs
    match a with
    | .opening => zs == 4
    | .closing => zs == 2 || zs == 3
    | .finishing => zs == 2 || zs == 3 || zs == 4
    | .resetting => zs == 2 || zs == 3 || zs == 4 || zs == 0xE
    | .offlining => zs == 0xD)

/-- Zones that a slot concerns. -/
def State.slotZones (s : State) (x : Slot) : List Nat :=
  match x.cmd.kind with
  | .zone a z all => if all then s.actZones x.cmd.hdr.nsid a else [s.zoneOf x.cmd.hdr.nsid z]
  | k => if s.isZoned x.cmd.hdr.nsid then [s.zoneOf x.cmd.hdr.nsid k.start] else []

/-- Whether a read that has not retired concerns a zone (R243). -/
def State.zoneRead (s : State) (z stamp : Nat) : Bool :=
  s.cqe.slots.any (fun y => decide (y.stamp < stamp) && (match y.cmd.kind with
    | .read a n => s.isZoned y.cmd.hdr.nsid && decide (0 < n) && decide (s.zoneOf y.cmd.hdr.nsid a ≤ z) && decide (z ≤ s.zoneOf y.cmd.hdr.nsid (a + n - 1))
    | _ => false))

/-- Whether ZNE can apply a slot now (R197, R223, R243): replay admits it, earlier reads of its zones have retired where it is a zone action, no earlier command of
its zones waits, and the journal has room. -/
def State.canApply (s : State) (x : Slot) : Bool :=
  let zs := s.slotZones x
  let act := match x.cmd.kind with | .zone .. => true | _ => false
  let rep := match x.cmd.kind with | .report .. => true | _ => false
  !x.applied && s.fget F.STE_STS_RPHASE != 1 && s.fget F.STE_STS_RPHASE != 2 &&
    !s.cqe.slots.any (fun y => decide (y.stamp < x.stamp) && !y.applied && (rep || (s.slotZones y).any zs.contains)) &&
    (!act || !zs.any (fun z => s.zoneRead z x.stamp)) && (rep || s.journalRoom (8 + 4 * zs.length))

/-- A Report Zones entry: type, state, capacity, start, write pointer, as the standard lays them out (64 bytes). -/
def State.zoneEntry (s : State) (z : Nat) : List Byte :=
  let d := s.zdesc z
  let start := 65536 * (z % zoneSetBase)
  let wp := if d.zs = 0xE ∨ d.zs = 0xD ∨ d.zs = 0xF then 0xFFFFFFFFFFFFFFFF else start + d.wp
  leBytes 1 2 ++ leBytes 1 (d.zs * 16) ++ leBytes 6 0 ++ leBytes 8 65536 ++ leBytes 8 start ++ leBytes 8 wp ++ leBytes 32 0

/-- Apply one slot (R197): a write is judged and placed, an action changes its zones, a report is answered. -/
def State.applySlot (s : State) (x : Slot) : State :=
  let ns := x.cmd.hdr.nsid
  match x.cmd.kind with
  | .zone a _ _ =>
    let (st, s) := (s.slotZones x).foldl (fun (r : Nat × State) z => if r.1 ≠ 0 then r else r.2.zoneAct z a x.stamp) (0, s)
    s.finish x st
  | .report a n =>
    let base := s.zoneOf ns a
    let l := ((s.zones.map (fun z => z + (base / zoneSetBase) * zoneSetBase)).filter (fun z => decide (base ≤ z))).take n
    s.finish x 0 0 (leBytes 8 l.length ++ leBytes 56 0 ++ (l.map s.zoneEntry).flatten)
  | k =>
    let z := s.zoneOf ns k.start
    let off := match k with | .append .. => none | _ => some (k.start % 65536)
    let wp := (s.zdesc z).wp
    let (st, s) := s.zoneWrite z off k.count x.stamp
    if st ≠ 0 then
      ((s.slotMap x.stamp (fun y => { y with status := st, applied := true })).resolveAgain x (fun _ => true)).finish x st
    else
      let lba := match k with | .append .. => 65536 * (z % zoneSetBase) + wp | _ => k.start
      let s := s.slotMap x.stamp (fun y => { y with applied := true, lba := lba })
      let s := s.resolveAgain x (fun b => b < lba || lba + k.count ≤ b)
      match k with
      | .zeroes _ n => s.dataArrived x.stamp (List.replicate n (List.replicate 4112 0))
      | _ => s

/-- ZONE_ACTION_APPLY (R197): the first slot in stamp order that ZNE can apply. -/
def zoneActionApplyOp (s : State) : State :=
  match s.cqe.slots.find? s.canApply with
  | some x => s.applySlot x
  | none => s

/-- ZONE_ACTION_APPLY. -/
def execZoneActionApply (s : State) : Host.Outcome State Fault Refusal := .next (zoneActionApplyOp s)

/-- Two ranges meet; a length of 0 covers everything (R246). -/
def rangesMeet (a n b m : Nat) : Bool := n == 0 || m == 0 || (decide (a < b + m) && decide (b < a + n))

/-- Whether an Interlocking entry covers some of what a slot concerns (R246). -/
def State.ilMeets (s : State) (q : IlockReq) (x : Slot) : Bool :=
  let act := match x.cmd.kind with | .zone .. => true | _ => false
  match s.nsSet x.cmd.hdr.nsid with
  | none => false
  | some (zoned, partner) =>
    if q.space = 2 then act
    else if q.part != partner || (q.space == 0) != zoned then false
    else if act then (match x.cmd.kind with
      | .zone _ z all => all || rangesMeet q.start q.len (z / 65536 * 65536) 65536
      | _ => false)
    else x.cmd.kind.count != 0 && rangesMeet q.start q.len (s.slotLba x) x.cmd.kind.count

/-- Whether two Interlocking requests meet (R246). -/
def ilOverlap (a b : IlockReq) : Bool := a.space == b.space && (a.space == 2 || (a.part == b.part && rangesMeet a.start a.len b.start b.len))

/-- CQE_IL (Table 11.8). -/
def State.ilCounts (s : State) : State :=
  (s.fset F.CQE_IL_USED s.cqe.il.length).fset F.CQE_IL_HELD (s.cqe.il.filter (fun e => e.held)).length

/-- The lowest interlock entry that is free (R165). -/
def State.ilFree (s : State) : Option Nat := (List.range 1024).find? (fun i => !s.cqe.il.any (fun e => e.index == i))

/-- A mover's request takes the lowest free entry with a snapshot (R246), or waits. [assumption 137 DEDUCED] -/
def State.ilRequest (s : State) (m : IlockReq) : State :=
  match s.ilFree with
  | some i => (s.cqeMap (fun c => { c with il := c.il ++ [⟨i, m, s.wide Rg.CQE_STAMP_LO, false⟩] })).ilCounts
  | none => s.cqeMap (fun c => { c with ilWait := c.ilWait ++ [m] })

/-- INTERLOCK_REQUEST (R246). -/
def execInterlockRequest (m : IlockReq) (s : State) : Host.Outcome State Fault Refusal := .next (s.ilRequest m)

/-- Whether a slot has retired (R244): a write whose data is in; anything else leaves its slot when it retires. -/
def Slot.retired (x : Slot) : Bool := x.cmd.kind.isData && x.dataIn

/-- Whether an entry may be HELD (R246, Table 11.4): no earlier overlapping command unretired, no earlier overlapping entry, movers not paused, and from
the start of a power-state entry until the return only the journal checkpoint's own. [assumption 136 DEDUCED] -/
def State.ilCan (s : State) (e : IlEntry) : Bool :=
  !s.cqe.slots.any (fun x => decide (x.stamp < e.snap) && !x.retired && s.ilMeets e.req x) &&
    !(s.cqe.il.takeWhile (fun f => f.index != e.index)).any (fun f => ilOverlap f.req e.req) &&
    (e.req.owner == 3 && !s.flag F.CQE_STS_FWACT || !s.cqe.paused && !s.moversRest)

/-- INTERLOCK_HELD (R246). -/
def interlockHeldOp (index : Nat) (s : State) : State :=
  match s.cqe.il.find? (fun e => e.index == index) with
  | some e =>
    if s.ilCan e then (s.cqeMap (fun c => { c with il := c.il.map (fun f => if f.index = index then { f with held := true } else f) })).ilCounts else s
  | none => s

/-- INTERLOCK_HELD. -/
def execInterlockHeld (index : Nat) (s : State) : Host.Outcome State Fault Refusal := .next (interlockHeldOp index s)

/-- INTERLOCK_RELEASE (R246): the entry is free, and the oldest waiting request takes it. -/
def interlockReleaseOp (index : Nat) (s : State) : State :=
  if s.cqe.il.any (fun e => e.index == index) then
    let s := (s.cqeMap (fun c => { c with il := c.il.filter (fun e => e.index != index) })).ilCounts
    match s.cqe.ilWait with
    | m :: t => (s.cqeMap (fun c => { c with ilWait := t })).ilRequest m
    | [] => s
  else s

/-- INTERLOCK_RELEASE. -/
def execInterlockRelease (index : Nat) (s : State) : Host.Outcome State Fault Refusal := .next (interlockReleaseOp index s)

/-- The four words of an entry (Table 11.1). -/
def IlEntry.words (e : IlEntry) : List Word :=
  [BitVec.ofNat 32 (1 + e.held.toNat * 2 + e.req.owner % 8 * 4 + e.req.space % 4 * 32 + e.req.len % 2 ^ 24 * 256), BitVec.ofNat 32 e.req.start,
   BitVec.ofNat 32 (e.req.start / 2 ^ 32 % 8 + e.req.part.toNat * 8), BitVec.ofNat 32 e.snap]

/-- INTERLOCK_CAPTURE (R258): a read of CQE_ILDATA0 captures the entry that CQE_ILSEL selects; a free entry reads 0. [assumption 137 DEDUCED] -/
def State.ilCapture (s : State) : State :=
  let w := match s.cqe.il.find? (fun e => e.index == s.fget F.CQE_ILSEL_INDEX) with
    | some e => e.words
    | none => [0, 0, 0, 0]
  (List.range 4).foldl (fun s i => s.wr (Rg.CQE_ILDATA i) (w.getD i 0)) s

/-- INTERLOCK_CAPTURE. -/
def execInterlockCapture (s : State) : Host.Outcome State Fault Refusal :=
  let s := s.ilCapture
  .next { s with core := { s.core with rdata := s.rd (Rg.CQE_ILDATA 0) } }

/-- A host write is admitted over HELD conventional entries (R247, MOVER_CANCEL): the movers' operations for the range are cancelled and counted. [assumption 138 DEDUCED] -/
def State.moverCancel (s : State) (x : Slot) : State :=
  let hit := s.cqe.il.filter (fun e => e.held && e.req.space == 1 && s.ilMeets e.req x)
  hit.foldl (fun s e =>
    let held := fun (a : Act) => ((s.msqOf a).cur.map (fun o => o.desc)).toList ++ (s.msqOf a).queue ++ (s.msqOf a).hwWait
    let ms := if e.req.len = 0 then ((held .zero ++ held .one).map (fun d => d.getD 4 0)).filter (fun t => decide (510 ≤ bitsOf t 19 9))
      else (List.range ((e.req.start % 256 + e.req.len + 255) / 256)).map (fun i => BitVec.ofNat 32 (convTag (e.req.start / 256 + i)))
    let one := fun (s : State) (a : Act) => ms.foldl (fun s t =>
      (operationCancelOp a 1 t s).msqMap a (fun m => { m with hwWait := m.hwWait.filter (fun d => d.getD 4 0 != t) })) s
    (one (one s .zero) .one).count Rg.CQE_MVCAN_LO) s

/-- CQE_STS.QUIESCE and the movers' pause (Table 11.3). [assumption 136 DEDUCED] -/
def State.quiesce (s : State) : State :=
  let q := s.cqe.closing.p0 || s.cqe.closing.p1
  (s.fsetB F.CQE_STS_QUIESCE q).cqeMap (fun c => { c with paused := q || s.flag F.CQE_STS_FWACT || (s.twin && !s.flag F.BRL_STS_CARRY &&
    (s.flag F.BRL_STS_PSILENT || (s.flag F.BRL_STS_PAIRED && !s.flag F.BRL_STS_LINK))) })

/-- Activation begins (R254): REQ, and every queue of both ports stops. -/
def State.fwStart (s : State) : State :=
  if s.flag F.CQE_PSTS_ENTRY || s.flag F.CQE_PSTS_RETURN then s.cqeMap (fun c => { c with fwWait := true })
  else ((((s.fsetB F.CQE_FWA_REQ true).fsetB F.CQE_STS_FWACT true).cqeMap (fun c => { c with fwWait := false })).quiesce).asyncEvent 9 2 1 3

/-- Entry is abandoned (R255, ENTRY_ABANDON). [assumption 139 DEDUCED] -/
def State.entryAbandon (s : State) : State :=
  let s := (((s.fsetB F.CQE_PSTS_ENTRY false).fsetB F.CQE_PSTS_ABAND true).count Rg.CQE_PSABAND_LO).raiseFault Blk.cqe 0 2 0 0
  if s.cqe.fwWait then s.fwStart else s

/-- The return to the last operational state begins (R255): the spindle runs. -/
def State.returnStart (s : State) : State :=
  if s.flag F.CQE_PSTS_RETURN then s
  else ((s.fsetB F.CQE_PSTS_RETURN true).cqeMap (fun c => { c with returnDue := false })).spcCtlWrite (setBits (s.rd Rg.SPC_CTL) 0 1 1)

/-- What an I/O command's admission does to a power-state entry (R255): before checkpoint 3 it is abandoned; later the drive returns after checkpoint 5. -/
def State.entryCommand (s : State) : State :=
  if s.flag F.CQE_PSTS_ENTRY then
    if s.fget F.CQE_PSTS_CKPT < 3 then s.entryAbandon else s.cqeMap (fun c => { c with returnDue := true })
  else if 3 ≤ s.fget F.CQE_PSTS_CUR then s.returnStart
  else s

/-- Take the command at the head of a queue into a slot (R237) and set it going. [assumptions 130 DEDUCED, 159 PRESUMED] -/
def State.admitCmd (s : State) (c : Cmd) : State :=
  let (st, s) := s.issueStamp
  let s := s.entryCommand
  let ns := c.hdr.nsid
  let zoned := s.isZoned ns
  let now := match c.kind with | .read .. => true | .flush => true | .zone .. => false | .report .. => false | _ => !zoned
  let x : Slot := { stamp := st, cmd := c, lba := c.kind.start, applied := now, dataIn := false, status := 0, mute := false, wins := 0, blocks := [] }
  let s := (s.cqeMap (fun q => { q with slots := q.slots ++ [x] })).slotCount
  match c.kind with
  | .read a n =>
    if zoned && (List.range n).any (fun i => (s.zdesc (s.zoneOf ns (a + i))).zs == 0xF) then s.finish x St.offline else
    let res := (List.range n).map (fun i => (a + i, s.resolveBlock ns (a + i) st))
    let s := s.slotMap st (fun y => { y with blocks := res.map (fun r => r.2) })
    ((s.mediaRuns ns res).foldl (fun s r => s.submitRun st ns r) s).readTry st
  | .flush => s
  | .zone .. => s
  | .report .. => if s.canApply x then s.applySlot x else s
  | .zeroes _ n =>
    if zoned then (match s.cqe.slots.find? s.canApply with | some y => if y.stamp = st then s.applySlot y else s | none => s)
    else (s.moverCancel x).dataArrived st (List.replicate n (List.replicate 4112 0))
  | k =>
    let s := if c.hdr.qid < 65536 then s.fetchData c.hdr.port st k.count else s
    if zoned then (match s.cqe.slots.find? s.canApply with | some y => if y.stamp = st then s.applySlot y else s | none => s)
    else s.moverCancel x

/-- The lowest forwarding slot that is free. -/
def State.fwdFree (s : State) : Option Nat :=
  (List.range 512).find? (fun i => !s.brl.fwds.any (fun f => f.slot == i) && !s.brl.dropped.contains i)

/-- Send a command to its owner (R371): it takes the lowest free forwarding slot; a write goes once its data has come and been checked, everything else at once. -/
def State.forward (s : State) (h : CmdHdr) (k : FwdKind) : State :=
  match s.fwdFree with
  | none => s
  | some i =>
    let n := match k with
      | .io (.write _ n _) => n
      | .io (.append _ n _) => n
      | _ => 0
    let s := s.brlMap (fun b => { b with fwds := b.fwds ++ [⟨i, h, k, n == 0, []⟩] })
    if n = 0 then s.sendPkt (.fwd ⟨{ h with cid := i }, k⟩) else s.fetchData h.port (fwdStamp + i) n

/-- The command at the head of its queue is admitted, or, when it names the partner's namespace and this chip does not carry it, forwarded or completed as its ANA state
says (R281, R371). -/
def State.admitAny (s : State) (c : Cmd) : State :=
  if s.isPartner c.hdr.nsid && !s.flag F.BRL_STS_CARRY then
    match s.anaState true with
    | 1 => s.forward c.hdr (.io c.kind)
    | 3 => s.complete c.hdr St.anaTransition
    | _ => s.complete c.hdr St.anaInaccessible
  else if s.isPartner c.hdr.nsid && s.flag F.BRL_STS_HBACK then s.complete c.hdr St.anaTransition
  else s.admitCmd c

/-- A fenced chip completes every I/O command with Asymmetric Access Inaccessible and admits none (R360). -/
def State.fencedHead (s : State) (p : Port) (qid : Nat) : State :=
  match (s.port p).sqs.find? (fun q => q.qid == qid) with
  | some q => match q.cmds with
    | c :: t => (s.portMap p (fun x => { x with sqs := x.sqs.map (fun y => if y.qid = qid then { y with cmds := t } else y) })).complete c.hdr St.anaInaccessible
    | [] => s
  | none => s

/-- COMMAND_ADMISSION (R237 to R240): the command at the head of the queue whose turn it is; nothing where another queue's turn it is or it must wait. -/
def commandAdmissionOp (p : Port) (qid : Nat) (s : State) : State :=
  let s := s.jstallUpdate
  if s.flag F.BRL_STS_FENCED then s.fencedHead p qid
  else if s.pickNext = some (p, qid) then
    match (s.port p).sqs.find? (fun q => q.qid == qid) with
    | some q => match q.cmds with
      | c :: t =>
        let s := s.portMap p (fun x => { x with
          sqs := x.sqs.map (fun y => if y.qid = qid then { y with cmds := t } else y)
          turn := qid, burst := if x.turn = qid ∧ x.burst < x.burstMax then x.burst + 1 else 1 })
        (s.hepMap (fun h => { h with lastPort := p })).admitAny c
      | [] => s
    | none => s
  else s

/-- COMMAND_ADMISSION. -/
def execCommandAdmission (port : Port) (qid : Nat) (s : State) : Host.Outcome State Fault Refusal := .next (commandAdmissionOp port qid s)

/-- FLUSH_COMPLETE (R251): every covered write that has not failed is on media. -/
def flushCompleteOp (stamp : Nat) (s : State) : State :=
  match s.slotOf stamp with
  | none => s
  | some x =>
    let ns := x.cmd.hdr.nsid
    let covers := fun n => ns == 0xFFFFFFFF || n == ns
    let waits := s.cqe.slots.any (fun y => y.cmd.kind.isData && decide (y.stamp < stamp) && covers y.cmd.hdr.nsid) ||
      s.cqe.buffer.any (fun b => !b.media && decide (b.stamp < stamp) && covers b.nsid && !b.poison)
    if x.cmd.kind = .flush && !waits then s.finish x 0 else s

/-- FLUSH_COMPLETE. -/
def execFlushComplete (stamp : Nat) (s : State) : Host.Outcome State Fault Refusal := .next (flushCompleteOp stamp s)

/-- Cancel the media operations and pool jobs of a read (R169, R253). -/
def State.cancelReads (s : State) (stamp : Nat) : State :=
  (s.cqe.parts.filter (fun p => p.stamp == stamp)).foldl (fun s p =>
    let one := fun (s : State) (a : Act) =>
      (operationCancelOp a (if 2 ^ 24 ≤ p.zone then 1 else 0) p.tag s).msqMap a (fun m => { m with hwWait := m.hwWait.filter (fun d => d.getD 4 0 != p.tag) })
    one (one s .zero) .one) s

/-- One admitted command at a controller reset (Table 11.3): a write whose data is in goes to media, a zone action will be applied, anything else is discarded;
none completes to the host. [assumption 134 DEDUCED] -/
def State.resetSlot (s : State) (x : Slot) : State :=
  let quiet := fun (s : State) => s.slotMap x.stamp (fun y => { y with mute := true })
  match x.cmd.kind with
  | .zone .. => quiet s
  | .write .. => if x.dataIn then quiet s else if x.applied then ((s.failWrite x).freeSlot x.stamp).readsOf x.stamp else s.freeSlot x.stamp
  | .append .. => if x.dataIn then quiet s else if x.applied then ((s.failWrite x).freeSlot x.stamp).readsOf x.stamp else s.freeSlot x.stamp
  | .zeroes .. => quiet s
  | _ => ((s.cancelReads x.stamp).freeSlot x.stamp).bufferSweep

/-- The queue effects of CC.EN to 0, a function-level reset or an abrupt shutdown on the commands that `p` picks (R253, Table 11.3). -/
def State.resetSlots (s : State) (p : Slot → Bool) : State := (s.cqe.slots.filter p).foldl (fun s x => s.resetSlot x) s

/-- Table 11.3 for a port's commands. [assumption 142 DEDUCED] -/
def State.queueReset (s : State) (p : Port) : State := s.resetSlots (fun x => decide (x.cmd.hdr.port = p) && decide (x.cmd.hdr.qid < 65536))

/-- ACTIVATION_READY (R254): no admitted command other than the commit remains. -/
def activationReadyOp (s : State) : State :=
  if s.flag F.CQE_FWA_REQ && s.cqe.slots.isEmpty then s.fsetB F.CQE_FWA_READY true else s

/-- ACTIVATION_READY. -/
def execActivationReady (s : State) : Host.Outcome State Fault Refusal := .next (activationReadyOp s)

/-- Power-state entry begins (R254, Table 11.4): from checkpoint 0; during an activation it waits. -/
def State.entryStart (s : State) (t : Nat) : State :=
  if s.flag F.CQE_STS_FWACT then s.cqeMap (fun c => { c with entryWait := some t })
  else
    let cur := s.fget F.CQE_PSTS_CUR
    let s := s.cqeMap (fun c => { c with lastOp := if cur < 3 then cur else c.lastOp, entryStamp := s.wide Rg.CQE_STAMP_LO, returnDue := false, entryWait := none })
    (((s.fsetB F.CQE_PSTS_ENTRY true).fset F.CQE_PSTS_TARGET t).fset F.CQE_PSTS_CKPT 0).fsetB F.CQE_PSTS_RETURN false

/-- A write of CQE_FWA (R254): DONE = 1 with READY resumes admission and completes the commit. -/
def State.fwaWrite (s : State) (v : Word) : State :=
  if F.CQE_FWA_DONE.on v && s.flag F.CQE_FWA_READY then
    let s := (((s.fsetB F.CQE_FWA_REQ false).fsetB F.CQE_FWA_READY false).fsetB F.CQE_STS_FWACT false).quiesce
    let s := match s.cqe.fwCmd with
      | some h => (s.cqeMap (fun c => { c with fwCmd := none })).complete h 0
      | none => s
    match s.cqe.entryWait with
    | some t => s.entryStart t
    | none => s
  else s

/-- ACTIVATION_DONE: a write of CQE_FWA with DONE = 1. -/
def execActivationDone (v : Word) (s : State) : Host.Outcome State Fault Refusal := .next (s.fwaWrite (setBits v 2 1 1))

/-- A write of CQE_PSCTL (Table 11.8): other targets discard it. -/
def State.psctlWrite (s : State) (v : Word) : State :=
  let t := F.CQE_PSCTL_TARGET.of v
  if F.CQE_PSCTL_GO.on v && (t == 3 || t == 4) && !s.flag F.CQE_PSTS_ENTRY then s.entryStart t else s

/-- POWER_STATE_ENTRY: a write of CQE_PSCTL with GO = 1. -/
def execPowerStateEntry (v : Word) (s : State) : Host.Outcome State Fault Refusal := .next (s.psctlWrite (setBits v 31 1 1))

/-- The end of an entry: the state is current, and a return or an activation that waits begins. [assumption 140 DEDUCED] -/
def State.entryEnd (s : State) : State :=
  let s := (s.fsetB F.CQE_PSTS_ENTRY false).fset F.CQE_PSTS_CUR (s.fget F.CQE_PSTS_TARGET)
  if s.cqe.returnDue then s.returnStart else if s.cqe.fwWait then s.fwStart else s

/-- ENTRY_CHECKPOINT (Table 11.4, R255): the next checkpoint, where its condition holds; a PS4 entry without a late command goes on past the fifth (R320). [assumption 141 DEDUCED] -/
def entryCheckpointOp (s : State) : State :=
  if !s.flag F.CQE_PSTS_ENTRY then s
  else match s.fget F.CQE_PSTS_CKPT with
    | 0 =>
      let waits := s.cqe.slots.any (fun x => x.cmd.kind.isData && decide (x.stamp < s.cqe.entryStamp)) ||
        s.cqe.buffer.any (fun b => b.early || (!b.media && decide (b.stamp < s.cqe.entryStamp)))
      if waits then s else (s.fset F.CQE_PSTS_CKPT 1).steMap (fun x => { x with cpPend := s.flag F.STE_STS_RUN })
    | 1 => if s.ste.cpPend || s.ste.cp.isSome then s else s.fset F.CQE_PSTS_CKPT 2
    | 2 =>
      let s := s.fset F.CQE_PSTS_CKPT 3
      ((s.unloadIfMay .zero).unloadIfMay .one).spcCtlWrite (setBits (s.rd Rg.SPC_CTL) 0 1 0)
    | 3 => if s.bothParked then s.fset F.CQE_PSTS_CKPT 4 else s
    | 4 =>
      if s.spcIn SpcS.stopped then
        let s := s.fset F.CQE_PSTS_CKPT 5
        if s.fget F.CQE_PSTS_TARGET = 4 && !s.cqe.returnDue then s else s.entryEnd
      else s
    | _ => s

/-- ENTRY_CHECKPOINT. -/
def execEntryCheckpoint (s : State) : Host.Outcome State Fault Refusal := .next (entryCheckpointOp s)

/-- POWER_STATE_RETURN_END (R255, Table 11.5): the spindle is at its target and the heads are loaded. [assumption 140 DEDUCED] -/
def powerStateReturnEndOp (s : State) : State :=
  if s.flag F.CQE_PSTS_RETURN && s.spcIn SpcS.run && s.flag F.SPC_STS_INBAND && !s.flag (F.SAC_STS_PARKED .zero) && !s.flag (F.SAC_STS_PARKED .one) then
    let s := (s.fsetB F.CQE_PSTS_RETURN false).fset F.CQE_PSTS_CUR s.cqe.lastOp
    if s.cqe.fwWait then s.fwStart else s
  else s

/-- POWER_STATE_RETURN_END. -/
def execPowerStateReturnEnd (s : State) : Host.Outcome State Fault Refusal := .next (powerStateReturnEndOp s)

/-- A write of PWR_CORE (R320): ignored outside PS4 entry past checkpoint 5; DDR5 is then in self-refresh and the cores lose power. -/
def State.coreOffWrite (s : State) (v : Word) : State :=
  if F.PWR_CORE_OFF.on v && s.flag F.CQE_PSTS_ENTRY && s.fget F.CQE_PSTS_CKPT == 5 && s.fget F.CQE_PSTS_TARGET == 4 then
    let s := (s.pwrMap (fun p => { p with ps4Off := true })).coreMap (fun c => { c with stopped := true })
    s.entryEnd
  else s

/-- CORES_OFF: a write of PWR_CORE with OFF = 1. -/
def execCoresOff (v : Word) (s : State) : Host.Outcome State Fault Refusal := .next (s.coreOffWrite (setBits v 0 1 1))

/-- PS4_WAKE (R320): a doorbell write or configuration access in PS4 starts the return; the cores are released at PWR_WAKEVEC with their registers at reset
values. [assumption 209 DEDUCED] -/
def State.ps4Wake (s : State) : State :=
  if s.fget F.CQE_PSTS_CUR = 4 || s.pwr.ps4Off then
    let s := if s.pwr.ps4Off then
        let h0 : Hart := ⟨true, 0, 0, none, 0, false, false⟩
        let h : Hart := ⟨false, 0, 0, none, 0, false, false⟩
        (s.pwrMap (fun p => { p with ps4Off := false })).coreMap (fun c => { c with stopped := false, harts := [h0, h, h, h], wake := some (s.rd Rg.PWR_WAKEVEC).toNat })
      else s
    s.returnStart
  else s

/-- PS4_WAKE. -/
def execPs4Wake (s : State) : Host.Outcome State Fault Refusal := .next s.ps4Wake

end Sys2Proof.Machine
end

