-- ==== Sys2Proof/Machine/Hep.lean ====
section
/-! DEFINITION. Host Endpoint (R260 to R272): links, configuration space, BARs and the expansion ROM, the resets of one port, tags and completion
timeouts, Bus Master Enable, MSI-X, port authority, the controller's registers, and the arrival of I/O commands. -/
namespace Sys2Proof.Machine

/-- LINK_UP (R260): a present port trains; four lanes only in the one-port arrangement, and never x1 on more than it has. -/
def linkUpOp (p : Port) (speed width : Nat) (s : State) : State :=
  let wide := width == 1 || width == 2 || (width == 4 && !s.flag F.GLB_CFG_PORTS)
  if s.portOn p && decide (1 ≤ speed) && decide (speed ≤ 5) && wide && !s.cqe.stopped then
    (s.fset (F.HEP_LINK_SPEED p.num) speed).fset (F.HEP_LINK_WIDTH p.num) width
  else s

/-- LINK_UP. -/
def execLinkUp (p : Port) (speed width : Nat) (s : State) : Host.Outcome State Fault Refusal := .next (linkUpOp p speed width s)

/-- Configuration registers whose unwritable bits the header and capability tables do not state and that the standards give the device: free values. [assumption 150 PRESUMED] -/
def cfgOpen (r : Nat) : Bool :=
  r == 0x7C || r == 0x80 || r == 0x9C || r == 0xA0 || r == 0x118 || r == 0x15C || (decide (0x160 ≤ r) && decide (r < 0x178)) || (decide (0x17C ≤ r) && decide (r < 0x1A0)) ||
    (decide (0x1A4 ≤ r) && decide (r < 0x1C8)) || (decide (0x1CC ≤ r) && decide (r < 0x200))

/-- The fixed bits of a configuration register (Tables 12.2 to 12.4; the layouts of the PCI standards, R1). [assumption 150 PRESUMED] -/
def State.cfgFixed (s : State) (p : Port) (r : Nat) : Word :=
  if r = 0x00 then 0x84201FA8
  else if r = 0x04 then 0x00100000
  else if r = 0x08 then 0x01080200 ||| BitVec.ofNat 32 (bitsOf (s.rd Rg.GLB_ID) 8 8)
  else if r = 0x10 then 0x4
  else if r = 0x18 then (if (s.port p).bar2 then 0x4 else 0)
  else if r = 0x2C then s.rd Rg.HEP_SSID
  else if r = 0x34 then 0x40
  else if r = 0x40 then 0x00035001
  else if r = 0x44 then 0x8
  else if r = 0x50 then 0x00807011
  else if r = 0x54 then 0x2000
  else if r = 0x58 then 0x3000
  else if r = 0x70 then 0x00020010
  else if r = 0x74 then 0x10008022
  else if r = 0x94 then 0x0003081F
  else if r = 0x100 then 0x14820001
  else if r = 0x148 then 0x15810003
  else if r = 0x14C then s.rd Rg.HEP_DSN_LO
  else if r = 0x150 then s.rd Rg.HEP_DSN_HI
  else if r = 0x158 then 0x17810019
  else if r = 0x178 then 0x1A010026
  else if r = 0x1A0 then 0x1C81002A
  else if r = 0x1C8 then 0x20010027
  else if r = 0x200 then 0x2101001E
  else if r = 0x204 then 0x1F
  else if r = 0x210 then 0x00010018
  else 0

/-- The bits of a configuration register that a request can write (the same tables and standards). [assumption 150 PRESUMED] -/
def State.cfgMask (s : State) (p : Port) (r : Nat) : Word :=
  let bar2 := (s.port p).bar2
  if r = 0x04 then 0x0546
  else if r = 0x0C then 0xFF
  else if r = 0x10 then 0xFFFFC000
  else if r = 0x14 then 0xFFFFFFFF
  else if r = 0x18 then (if bar2 then 0xFE000000 else 0)
  else if r = 0x1C then (if bar2 then 0xFFFFFFFF else 0)
  else if r = 0x30 then (if s.fget F.HEP_OPTLEN_LEN = 0 then 0 else 0xFFFC0001)
  else if r = 0x3C then 0xFF
  else if r = 0x44 then 0x3
  else if r = 0x50 then 0xC0000000
  else if r = 0x78 then 0x7FFF
  else if r = 0x80 then 0x0FC3
  else if r = 0x98 then 0x141F
  else if r = 0x108 ∨ r = 0x10C ∨ r = 0x114 then 0x03FFFFFF
  else if r = 0x208 then 0xE3FFFF0F
  else if r = 0x20C then 0xFF
  else if r = 0x214 then 0x1FFF1FFF
  else 0

/-- Registers whose bits a request clears by writing 1: the AER status registers. -/
def cfgW1c (r : Nat) : Bool := r == 0x104 || r == 0x110

/-- Write the stored bits of a configuration register. -/
def State.cfgPut (s : State) (p : Port) (r : Nat) (v : Word) : State := s.portMap p (fun x => { x with cfg := put cfgReset r v x.cfg })

/-- Report an error under AER (R267, R268): bits of the uncorrectable (0x104) or correctable (0x110) status register. -/
def State.aer (s : State) (p : Port) (r bit : Nat) : State := s.cfgPut p r ((s.port p).cfgWord r ||| BitVec.ofNat 32 (1 <<< bit))

/-- Messages whose blocks have gone are sent, the lowest vector first (R270). -/
def PortSt.messagePump (x : PortSt) : Nat → PortSt
  | 0 => x
  | n + 1 =>
    let v := 128 - n
    let x := if x.pba.getLsbD v && x.bme && !x.fmask && !x.vmasked v then
        { x with pba := x.pba &&& ~~~ BitVec.ofNat 129 (1 <<< v), sent := x.sent ++ [v] } else x
    x.messagePump n

/-- Bus Master Enable becomes `b` (R269): its event on a change; set, what waited resumes and goes. -/
def State.bmeSet (s : State) (p : Port) (b : Bool) : State :=
  let w := (s.port p).cfgWord 0x04
  if w.getLsbD 2 = b then s
  else
    let s := (s.cfgPut p 0x04 (setBits w 2 1 b.toNat)).raiseEvent (174 + p.num)
    let s := if b then ((s.fetchPump p 256).heldPump p).portMap p (fun x => x.messagePump 129) else s
    s.bmepUpdate p

/-- BUS_MASTER_DISABLE (R269). -/
def execBusMasterDisable (p : Port) (s : State) : Host.Outcome State Fault Refusal := .next (s.bmeSet p false)
/-- BUS_MASTER_ENABLE (R269). -/
def execBusMasterEnable (p : Port) (s : State) : Host.Outcome State Fault Refusal := .next (s.bmeSet p true)

/-- The controller is reset (R264, Tables 11.3, 12.5): its commands meet Table 11.3, its queues, waiting completions and requests go, CSTS.RDY falls, and the
administrator is no longer authenticated (R348).  A twin tells its partner (R371). -/
def State.controllerReset (s : State) (p : Port) : State :=
  let s := s.queueReset p
  let s := if s.flag F.BRL_STS_PAIRED then s.sendPkt (.fctl (.controllerReset p)) else s
  let gone := s.brl.fwds.filter (fun f => f.hdr.port == p)
  let s := s.brlMap (fun b => { b with fwds := b.fwds.filter (fun f => f.hdr.port != p), dropped := b.dropped ++ gone.map (fun f => f.slot) })
  let s := s.portMap p (fun x => { x with cc := 0, shst := 0, cfs := false, sqs := [], cqs := [], fetch := [], held := [], pba := 0, enHeld := false, aers := [], events := []
                                          features := [], turn := 0, burst := 0, errors := [] })
  let s := (s.cqeMap (fun c => { c with closing := c.closing.set p false })).quiesce
  ((s.fsetB (p.sel F.HEP_STS_RDY0 F.HEP_STS_RDY1) false).fsetB F.SEC_STS_ADMIN false).bmepUpdate p

/-- The tag generation flips (R266, R268): requests under way become an earlier generation's. -/
def State.genFlip (s : State) (p : Port) : State :=
  let f := p.sel F.HEP_STS_GEN0 F.HEP_STS_GEN1
  (s.fset f (1 - s.fget f)).portMap p (fun x => { x with tags := x.tags.map (fun u => { u with old := true }) })

/-- Configuration registers with sticky bits, which only a fundamental reset returns to their reset values: the AER registers and, for a function-level reset,
link control too (Table 12.5). -/
def cfgSticky (flr : Bool) (r : Nat) : Bool := (decide (0x104 ≤ r) && decide (r < 0x148)) || (flr && r == 0x80)

/-- What the resets of a port share (R264, Table 12.5). -/
def State.portReset (s : State) (p : Port) (keep : Nat → Bool) : State :=
  let s := s.controllerReset p
  let s := s.portMap p (fun x => { x with cfg := x.cfg.filter (fun c => keep c.1), bar0 := [], flr := false })
  ((s.genFlip p).bmepUpdate p).raiseEvent (172 + p.num)

/-- The link of a port goes down (Table 12.5). -/
def State.linkDown (s : State) (p : Port) : State := s.wr (Rg.HEP_LINK p.num) 0

/-- FUNDAMENTAL_RESET (R264): PERSTn# asserted; port 1's input is not used in the one-port arrangement (Table 12.1). -/
def execFundamentalReset (p : Port) (s : State) : Host.Outcome State Fault Refusal :=
  .next (if s.portOn p then (s.portReset p (fun _ => false)).linkDown p else s)
/-- HOT_RESET (R264): hot reset or link down; the link is down until it has trained again. [assumption 152 DEDUCED] -/
def execHotReset (p : Port) (s : State) : Host.Outcome State Fault Refusal :=
  .next (if s.portOn p then (s.portReset p (cfgSticky false)).linkDown p else s)

/-- A function-level reset begins (R264, R265). -/
def State.flrStart (s : State) (p : Port) : State :=
  if s.portOn p && !(s.port p).flr then (s.portReset p (cfgSticky true)).portMap p (fun x => { x with flr := true }) else s

/-- FUNCTION_LEVEL_RESET. -/
def execFunctionLevelReset (p : Port) (s : State) : Host.Outcome State Fault Refusal := .next (s.flrStart p)
/-- FUNCTION_LEVEL_RESET_END (R265): configuration requests are answered again. -/
def execFunctionLevelResetEnd (p : Port) (s : State) : Host.Outcome State Fault Refusal := .next (s.portMap p (fun x => { x with flr := false }))

/-- CSTS.RDY (R22, R265, R272, R340): an enabled controller is ready once GLB_LOCK is set; after a failed start it reports CFS instead. [assumption 157 DEDUCED] -/
def State.readyTry (s : State) (p : Port) : State :=
  let x := s.port p
  if !x.cc.getLsbD 0 || s.rdy p then s
  else if s.fget F.SEC_BOOTSTS_CODE ≠ 0 then s.portMap p (fun x => { x with cfs := true, enHeld := false })
  else if s.locked then (s.portMap p (fun x => { x with enHeld := false })).fsetB (p.sel F.HEP_STS_RDY0 F.HEP_STS_RDY1) true
  else s.portMap p (fun x => { x with enHeld := true })

/-- Whether a CC value may enable the controller (R272). -/
def ccGood (v : Word) : Bool :=
  let css := bitsOf v 4 3
  (css == 0 || css == 6) && decide (bitsOf v 7 4 ≤ 4) && bitsOf v 11 3 == 0 && bitsOf v 16 4 == 6 && bitsOf v 20 4 == 4

/-- CC.EN to 1 (R272): the admin queues stand with the sizes of AQA, 4,096 each while nothing has written it. [assumption 156 PRESUMED] -/
def State.ccEnable (s : State) (p : Port) (v : Word) : State :=
  if !ccGood v then s
  else
    let aqa := look (fun _ => (0x0FFF0FFF : Word)) 0x24 (s.port p).bar0
    let s := s.portMap p (fun x => { x with cc := v ||| 1, shst := 0, sqs := [⟨0, bitsOf aqa 0 12 + 1, 0, 0, []⟩], cqs := [⟨0, bitsOf aqa 16 12 + 1, 0, 0, 0, 0⟩] })
    (s.raiseEvent (170 + p.num)).readyTry p

/-- A shutdown begins (R253, Table 11.3): admission of the port stops, movers pause; an abrupt one discards as CC.EN to 0 does. -/
def State.shutdown (s : State) (p : Port) (abrupt : Bool) : State :=
  let s := s.portMap p (fun x => { x with cc := setBits x.cc 14 2 (if abrupt then 2 else 1), shst := 1 })
  let s := (s.cqeMap (fun c => { c with closing := c.closing.set p true })).quiesce
  let s := if abrupt then s.queueReset p else s
  (s.raiseEvent (170 + p.num)).shutTry p

/-- A write of CC (R253, R272): its EN and SHN changes act; while EN = 0 its other fields are held. [assumption 156 PRESUMED] -/
def State.ccWrite (s : State) (p : Port) (v : Word) : State :=
  let x := s.port p
  let en := v.getLsbD 0
  let shn := bitsOf v 14 2
  if !s.portOn p then s
  else if x.cc.getLsbD 0 && !en then (s.controllerReset p).raiseEvent (170 + p.num)
  else if !x.cc.getLsbD 0 && en then s.ccEnable p v
  else if x.cc.getLsbD 0 && (shn == 1 || shn == 2) && bitsOf x.cc 14 2 != shn then s.shutdown p (shn == 2)
  else if !x.cc.getLsbD 0 then s.portMap p (fun x => { x with cc := v &&& 0xFFFFF0 })
  else s

/-- CONTROLLER_DISABLE (R253): CC.EN to 0. -/
def execControllerDisable (p : Port) (s : State) : Host.Outcome State Fault Refusal := .next (s.ccWrite p (setBits (s.port p).cc 0 1 0))
/-- CONTROLLER_ENABLE (R272): a write of CC with EN = 1. -/
def execControllerEnable (p : Port) (v : Word) (s : State) : Host.Outcome State Fault Refusal := .next (s.ccWrite p (setBits v 0 1 1))
/-- NORMAL_SHUTDOWN (R253): CC.SHN = 01b. -/
def execNormalShutdown (p : Port) (s : State) : Host.Outcome State Fault Refusal := .next (s.ccWrite p (setBits (s.port p).cc 14 2 1))
/-- ABRUPT_SHUTDOWN (R253): CC.SHN = 10b. -/
def execAbruptShutdown (p : Port) (s : State) : Host.Outcome State Fault Refusal := .next (s.ccWrite p (setBits (s.port p).cc 14 2 2))

/-- A read of a controller register in BAR0 (R272, the layout of the NVMe standard): CAP, VS, CC, CSTS, CRTO, which CAP.TO repeats; other offsets as written, or 0. [assumption 156 PRESUMED] -/
def State.nvmeRead (s : State) (p : Port) (o : Nat) : Word :=
  if o = 0x00 then 0x3C010FFF
  else if o = 0x04 then 0x08400820
  else if o = 0x08 then 0x00020000
  else if o = 0x14 then (s.port p).cc
  else if o = 0x68 then 60
  else if o = 0x1C then BitVec.ofNat 32 ((s.rdy p).toNat + (s.port p).cfs.toNat * 2 + s.shstNow p * 4)
  else if 0x3000 ≤ o ∧ o < 0x3014 ∧ o % 4 = 0 then BitVec.ofNat 32 ((s.port p).pba.toNat / 2 ^ (8 * (o - 0x3000)))
  else if o = 0x24 ∨ (0x28 ≤ o ∧ o < 0x38) ∨ (0x2000 ≤ o ∧ o < 0x2810) then look bar0Default o (s.port p).bar0
  else 0

/-- A write of a controller register in BAR0 (R262, R272): CC acts; AQA, ASQ, ACQ and the MSI-X table are held; an unmasked vector's message goes; anything else is
discarded. -/
def State.nvmeWrite (s : State) (p : Port) (o : Nat) (v : Word) : State :=
  if !s.portOn p || o % 4 != 0 then s
  else if o = 0x14 then s.ccWrite p v
  else if o = 0x24 ∨ (0x28 ≤ o ∧ o < 0x38) ∨ (0x2000 ≤ o ∧ o < 0x2810) then
    s.portMap p (fun x => ({ x with bar0 := put bar0Default o v x.bar0 }).messagePump 129)
  else s

/-- A write of HEP_CTL (R265, R283): CFGRDY latches BAR2's presence (R262). -/
def State.hepCtlWrite (s : State) (v : Word) : State :=
  let s := if F.HEP_CTL_CLRCNT.on v then
      ([0, 1] : List Nat).foldl (fun s n => ((s.clearCount (Rg.HEP_LATE_CPL_LO n)).clearCount (Rg.HEP_STALE_LO n)).clearCount (Rg.HEP_CTO_LO n)) s
    else s
  if F.HEP_CTL_CFGRDY.on v && !s.flag F.HEP_CTL_CFGRDY then
    let one := fun (s : State) (p : Port) => s.portMap p (fun x => { x with bar2 := s.flag (F.HEP_AUTH_SERVICE p.num) })
    (one (one s .zero) .one).fsetB F.HEP_CTL_CFGRDY true
  else s

/-- CONFIG_READY: a write of HEP_CTL with CFGRDY = 1. -/
def execConfigReady (v : Word) (s : State) : Host.Outcome State Fault Refusal := .next (s.hepCtlWrite (setBits v 0 1 1))
/-- HEP_COUNTER_CLEAR (R283): CLRCNT = 1. -/
def execHepCounterClear (v : Word) (s : State) : Host.Outcome State Fault Refusal := .next (s.hepCtlWrite (setBits v 1 1 1))

/-- A configuration write (R261, R262, R264, R269, R270). -/
def State.cfgWrite (s : State) (p : Port) (r : Nat) (v : Word) : State :=
  if cfgW1c r then s.cfgPut p r ((s.port p).cfgWord r &&& ~~~ v)
  else
    let bme := (s.port p).bme
    let new := v &&& s.cfgMask p r
    let s := if r = 0x04 then (s.cfgPut p r (setBits new 2 1 bme.toNat)).bmeSet p (v.getLsbD 2) else s.cfgPut p r new
    let s := if r = 0x50 then s.portMap p (fun x => x.messagePump 129) else s
    if r = 0x78 ∧ v.getLsbD 15 then s.flrStart p else s

/-- CONFIGURATION_REQUEST (R265): one aligned word, answered with Retry (no answer) until CFGRDY is set and while a function-level reset runs; in PS4 it starts the
return (R320). [assumption 151 DESIGN CHOICE] -/
def configurationRequestOp (p : Port) (wr : Bool) (reg : Nat) (v : Word) (s : State) : State :=
  if !s.portOn p then s
  else
    let s := s.ps4Wake
    if !s.flag F.HEP_CTL_CFGRDY || (s.port p).flr then s.hepMap (fun h => { h with answer := none })
    else
      let r := reg / 4 * 4
      if wr then (s.cfgWrite p r v).hepMap (fun h => { h with answer := some 0 })
      else if cfgOpen r then (s.hepMap (fun h => { h with answer := some ((BitVec.ofNat 32 (Config.unstated s.freeCtr) &&& ~~~ s.cfgMask p r) ||| (s.port p).cfgWord r) })).tick
      else s.hepMap (fun h => { h with answer := some (s.cfgFixed p r ||| (s.port p).cfgWord r) })

/-- CONFIGURATION_REQUEST. -/
def execConfigurationRequest (p : Port) (wr : Bool) (reg : Nat) (v : Word) (s : State) : Host.Outcome State Fault Refusal :=
  .next (configurationRequestOp p wr reg v s)

/-- EXPANSION_ROM_READ (R263): with ROM Enable and Memory Space Enable, the Yard's option image; 0 from HEP_OPTLEN × 512 on. -/
def expansionRomReadOp (p : Port) (off : Nat) (s : State) : State :=
  let on := ((s.port p).cfgWord 0x30).getLsbD 0 && ((s.port p).cfgWord 0x04).getLsbD 1 && s.portOn p && decide (off < 0x40000) && decide (s.fget F.HEP_OPTLEN_LEN ≠ 0)
  if on then s.hepMap (fun h => { h with rom := if off < s.fget F.HEP_OPTLEN_LEN * 512 then s.byte (0x11800000 + off) else 0 }) else s

/-- EXPANSION_ROM_READ. -/
def execExpansionRomRead (p : Port) (off : Nat) (s : State) : Host.Outcome State Fault Refusal := .next (expansionRomReadOp p off s)

/-- A write of an absent doorbell or of a bad value: the standard's error events (type 0), which no feature masks. [assumption 162 PRESUMED] -/
def State.doorbellError (s : State) (p : Port) (info : Nat) : State :=
  (s.portMap p (fun x => { x with events := x.events ++ [info * 256 + 0x10000] })).aerPump p

/-- DOORBELL_WRITE (R265): discarded while CSTS.RDY = 0; in PS4 it starts the return (R320).  A submission tail is noted, the admin queue's with its event (Table
15.7); a completion head frees entries, and completions that waited are posted. -/
def doorbellWriteOp (p : Port) (isCq : Bool) (qid : Nat) (v : Word) (s : State) : State :=
  if !s.rdy p then s
  else
    let s := s.ps4Wake
    if isCq then match (s.port p).cqs.find? (fun q => q.qid == qid) with
      | none => s.doorbellError p 0
      | some q =>
        let n := v.toNat
        if q.size ≤ n then s.doorbellError p 1
        else (s.portMap p (fun x => x.cqSet { q with head := q.head + (n + q.size - q.head % q.size) % q.size })).heldPump p
    else match (s.port p).sqs.find? (fun q => q.qid == qid) with
      | none => s.doorbellError p 0
      | some q =>
        if q.size ≤ v.toNat then s.doorbellError p 1
        else
          let s := s.portMap p (fun x => { x with sqs := x.sqs.map (fun y => if y.qid = qid then { y with tail := v.toNat } else y) })
          if qid = 0 then s.raiseEvent (168 + p.num) else s

/-- DOORBELL_WRITE. -/
def execDoorbellWrite (p : Port) (isCq : Bool) (qid : Nat) (v : Word) (s : State) : Host.Outcome State Fault Refusal := .next (doorbellWriteOp p isCq qid v s)

/-- COALESCING_TIMER (R270): the time limit of a queue's held message expires. -/
def coalescingTimerOp (p : Port) (qid : Nat) (s : State) : State :=
  match (s.port p).cqs.find? (fun q => q.qid == qid) with
  | some q => if 0 < q.coalesced then s.portMap p (fun x => (x.cqSet { q with coalesced := 0 }).message q.vector) else s
  | none => s

/-- COALESCING_TIMER. -/
def execCoalescingTimer (p : Port) (qid : Nat) (s : State) : Host.Outcome State Fault Refusal := .next (coalescingTimerOp p qid s)

/-- A command whose data transfer has failed ends with Data Transfer Error (R245, R267, R268). -/
def State.endTransfer (s : State) (p : Port) (stamp : Nat) : State :=
  if fwdStamp ≤ stamp then
    match s.brl.fwds.find? (fun f => f.slot == stamp - fwdStamp) with
    | some f =>
      if f.sent then s
      else ((s.brlMap (fun b => { b with fwds := b.fwds.filter (fun g => g.slot != f.slot) })).fetchDrop p stamp).complete f.hdr St.transfer
    | none => s
  else match s.slotOf stamp with
    | some x => if x.cmd.kind.isData && !x.dataIn then
        let s := if x.applied then (s.failWrite x).readsOf stamp else s
        (s.fetchDrop p stamp).finish x St.transfer
      else s
    | none => s

/-- PCIE_COMPLETION (R268): judged by its tag. [assumptions 154 DEDUCED, 155 PRESUMED] -/
def pcieCompletionOp (p : Port) (tag : Nat) (m : PcieCpl) (s : State) : State :=
  match (s.port p).tags.find? (fun u => u.tag == tag) with
  | none => s
  | some u =>
    let s := s.portMap p (fun x => { x with tags := x.tags.filter (fun v => v.tag != tag) })
    if u.old then (s.count (Rg.HEP_STALE_LO p.num)).raiseFault Blk.hep 0 1 0 tag
    else if u.timedOut then ((s.aer p 0x110 13).aer p 0x104 16 |>.count (Rg.HEP_LATE_CPL_LO p.num)).raiseFault Blk.hep 0 1 0 tag
    else
      let s := match m with
        | .good => s
        | .poisoned => (s.aer p 0x104 12).endTransfer p u.stamp
        | _ => s.endTransfer p u.stamp
      (s.fetchPump p 256).bmepUpdate p

/-- PCIE_COMPLETION. -/
def execPcieCompletion (p : Port) (tag : Nat) (m : PcieCpl) (s : State) : Host.Outcome State Fault Refusal := .next (pcieCompletionOp p tag m s)

/-- COMPLETION_TIMEOUT (R267): reported under AER and counted, and the command ends; not for a request of an earlier generation (R268) nor while the timeout is
disabled (Table 12.6). [assumption 153 DEDUCED] -/
def completionTimeoutOp (p : Port) (tag : Nat) (s : State) : State :=
  match (s.port p).tags.find? (fun u => u.tag == tag) with
  | none => s
  | some u =>
    if u.timedOut || ((s.port p).cfgWord 0x98).getLsbD 4 then s
    else
      let s := s.portMap p (fun x => { x with tags := x.tags.map (fun v => if v.tag = tag then { v with timedOut := true } else v) })
      if u.old then s else
      let s := ((s.aer p 0x104 14).count (Rg.HEP_CTO_LO p.num)).raiseFault Blk.hep 0 2 3 tag
      ((s.endTransfer p u.stamp).fetchPump p 256).bmepUpdate p

/-- COMPLETION_TIMEOUT. -/
def execCompletionTimeout (p : Port) (tag : Nat) (s : State) : Host.Outcome State Fault Refusal := .next (completionTimeoutOp p tag s)

/-- Blocks of a namespace: the zoned one's zones, the conventional one's chunks. -/
def State.nsBlocks (s : State) (nsid : Nat) : Nat :=
  match s.nsSet nsid with
  | some (true, _) => s.fget F.ZNE_CFG_NZONES * 65536
  | some (false, _) => s.fget F.ZNE_CONV_SIZE * 1024 * 256
  | none => 0

/-- Whether a namespace is there (R273, R370): the conventional one where it has a size. -/
def State.nsPresent (s : State) (nsid : Nat) : Bool :=
  match s.nsSet nsid with
  | some (true, _) => true
  | some (false, _) => decide (s.fget F.ZNE_CONV_SIZE ≠ 0)
  | none => false

/-- Whether an own namespace's key slot is empty (R348). -/
def State.nsLocked (s : State) (nsid : Nat) : Bool :=
  if nsid = s.convNsid false then s.fget F.SEC_STS_NS1 != 0
  else if nsid = s.zonedNsid false then s.fget F.SEC_STS_NS2 != 0
  else false

/-- Why an I/O command is turned away as it arrives: its authority (R271), its namespace, its key (R348), its range (R273), none if it is not. [assumption 158 DEDUCED] -/
def State.ioError (s : State) (c : Cmd) : Option Nat :=
  let n := c.hdr.port.num
  let ns := c.hdr.nsid
  let max := s.nsBlocks ns
  let auth := match c.kind with
    | .read .. => F.HEP_AUTH_READ n
    | .report .. => F.HEP_AUTH_READ n
    | _ => F.HEP_AUTH_WRITE n
  let data := match c.kind with
    | .read .. => true
    | k => k.isData
  let limit := match c.kind with
    | .zeroes .. => 65536
    | _ => 256
  if !s.flag auth then some St.denied
  else if c.kind = .flush then (if ns = 0xFFFFFFFF ∨ s.nsPresent ns then none else some St.namespace)
  else if !s.nsPresent ns then some St.namespace
  else if data && s.nsLocked ns then some St.denied
  else
    let zonedOnly := match c.kind with
      | .append .. => true
      | .zone .. => true
      | .report .. => true
      | _ => false
    if zonedOnly && !s.isZoned ns then some St.opcode
    else if data && (c.kind.count == 0 || decide (limit < c.kind.count)) then some St.field
    else if data && decide (max < c.kind.start + c.kind.count) then some St.lbaRange
    else match c.kind with
      | .append z _ _ => if z % 65536 = 0 then none else some St.field
      | .zone _ z all => if all then none else if max ≤ z then some St.lbaRange else if z % 65536 = 0 then none else some St.field
      | .report z _ => if max ≤ z then some St.lbaRange else none
      | _ => none

/-- An I/O command arrives in its submission queue: turned away, or waiting there for its admission. -/
def State.ioCommand (s : State) (h : CmdHdr) (k : CmdKind) : State :=
  let c : Cmd := ⟨h, k⟩
  if !s.rdy h.port || !s.portOn h.port || h.qid = 0 || !(s.port h.port).sqs.any (fun q => q.qid == h.qid) then s
  else match s.ioError c with
    | some st => s.complete h st
    | none => s.portMap h.port (fun x => { x with sqs := x.sqs.map (fun q => if q.qid = h.qid then { q with cmds := q.cmds ++ [c] } else q) })

/-- FLUSH (R251). -/
def execFlush (h : CmdHdr) (s : State) : Host.Outcome State Fault Refusal := .next (s.ioCommand h .flush)
/-- WRITE (R248). -/
def execWrite (h : CmdHdr) (slba nlb : Nat) (fua : Bool) (s : State) : Host.Outcome State Fault Refusal := .next (s.ioCommand h (.write slba nlb fua))
/-- READ (R242). -/
def execRead (h : CmdHdr) (slba nlb : Nat) (s : State) : Host.Outcome State Fault Refusal := .next (s.ioCommand h (.read slba nlb))
/-- WRITE_ZEROES (R241). -/
def execWriteZeroes (h : CmdHdr) (slba nlb : Nat) (s : State) : Host.Outcome State Fault Refusal := .next (s.ioCommand h (.zeroes slba nlb))
/-- ZONE_APPEND (R197). -/
def execZoneAppend (h : CmdHdr) (zslba nlb : Nat) (fua : Bool) (s : State) : Host.Outcome State Fault Refusal := .next (s.ioCommand h (.append zslba nlb fua))
/-- ZONE_OPEN (R197). -/
def execZoneOpen (h : CmdHdr) (zslba : Nat) (all : Bool) (s : State) : Host.Outcome State Fault Refusal := .next (s.ioCommand h (.zone .opening zslba all))
/-- ZONE_CLOSE (R197). -/
def execZoneClose (h : CmdHdr) (zslba : Nat) (all : Bool) (s : State) : Host.Outcome State Fault Refusal := .next (s.ioCommand h (.zone .closing zslba all))
/-- ZONE_FINISH (R205). -/
def execZoneFinish (h : CmdHdr) (zslba : Nat) (all : Bool) (s : State) : Host.Outcome State Fault Refusal := .next (s.ioCommand h (.zone .finishing zslba all))
/-- ZONE_RESET (R205). -/
def execZoneReset (h : CmdHdr) (zslba : Nat) (all : Bool) (s : State) : Host.Outcome State Fault Refusal := .next (s.ioCommand h (.zone .resetting zslba all))
/-- ZONE_OFFLINE (R197). -/
def execZoneOffline (h : CmdHdr) (zslba : Nat) (all : Bool) (s : State) : Host.Outcome State Fault Refusal := .next (s.ioCommand h (.zone .offlining zslba all))
/-- REPORT_ZONES (R273). -/
def execReportZones (h : CmdHdr) (slba count : Nat) (s : State) : Host.Outcome State Fault Refusal := .next (s.ioCommand h (.report slba count))

/-- What an admin command answers: status, DW0 and data. -/
structure Answer where
  status : Nat
  dw0 : Nat := 0
  data : List Byte := []
  deriving DecidableEq, Repr

/-- An admin command: taken from its queue with a stamp (R237), outside its port's authority Access Denied and no other effect (R271), else its effect; it completes
with the answer, if one is due at once.  While the port's queues are held it waits: nothing happens. -/
def State.adminDo (s : State) (h : CmdHdr) (allowed : Bool) (f : State → State × Option Answer) : State :=
  if h.qid ≠ 0 ∨ s.portHeld h.port then s
  else
    let s := (s.issueStamp).2
    if !allowed then s.complete h St.denied
    else match f s with
      | (s, some a) => s.complete h a.status a.dw0 a.data
      | (s, none) => s

/-- UNSUPPORTED_COMMAND (R1): Invalid Command Opcode. -/
def execUnsupportedCommand (h : CmdHdr) (admin : Bool) (_opcode : Nat) (s : State) : Host.Outcome State Fault Refusal :=
  .next (if admin then s.adminDo h true (fun s => (s, some { status := St.opcode }))
    else if s.rdy h.port && h.qid != 0 && (s.port h.port).sqs.any (fun q => q.qid == h.qid) then s.complete h St.opcode else s)

end Sys2Proof.Machine
end

