-- ==== Sys2Proof/Machine/Sec.lean ====
section
/-! DEFINITION. Security (R347 to R352): key slots and key blocks, protocol 0xF0, crypto-erase, the debug lock. -/
namespace Sys2Proof.Machine

/-- Update SEC's hidden state. -/
def State.secMap (s : State) (f : SecSt → SecSt) : State := { s with sec := f s.sec }

/-- SEC_STS.NS1 and NS2 (Table 16.12): no key block, else LOCKED while the slot is empty. -/
def State.secStatus (s : State) : State :=
  let code := fun (n : Two) => match s.sec.blocks.get n with
    | none => 2
    | some _ => if (s.sec.slots.get n).isNone then 1 else 0
  (s.fset F.SEC_STS_NS1 (code .zero)).fset F.SEC_STS_NS2 (code .one)

/-- `n` bytes of the random generator. -/
def State.randomBytes (s : State) (n : Nat) : List Byte × State :=
  ((List.range n).map (fun i => Config.random (s.freeCtr + i)), { s with freeCtr := s.freeCtr + n })

/-- A status that the manual does not state: a free value that is not success. [assumption 230 DESIGN CHOICE] -/
def State.openStatus (s : State) : Nat × State := (Config.unstated s.freeCtr + 1, s.tick)

/-- Which of the chip's own namespaces an NSID names: the conventional one first. -/
def State.ownNs (s : State) (nsid : Nat) : Option Two :=
  if nsid = s.convNsid false then some .zero else if nsid = s.zonedNsid false then some .one else none

/-- A key block is unwrapped into its slot (R348): the namespace is unlocked. [assumption 233 DEDUCED] -/
def State.unwrap (s : State) (n : Two) : State :=
  match s.sec.blocks.get n with
  | none => s
  | some b =>
    let s' := if (s.sec.slots.get n).isNone then s.raiseEvent 106 else s
    (s'.secMap (fun x => { x with slots := x.slots.set n (some b.key) })).secStatus

/-- An authentication fails (R348): counted to 5, whose fifth exhausts the attempts. [assumption 231 DEDUCED] -/
def State.authFail (s : State) (unwrap : Bool) : State :=
  let f := s.fget F.SEC_STS_AUTHF
  let s := s.raiseEvent 107
  if 5 ≤ f then s
  else
    let s := if unwrap then s.raiseFault Blk.sec 0 4 3 0 else s
    let s := s.fset F.SEC_STS_AUTHF (f + 1)
    if f + 1 = 5 then s.raiseFault Blk.sec 0 3 0 0 else s

/-- Authenticate (Table 16.8): `ok` is whether the credential unwraps the key block, or is the administrator's. [assumption 231 DEDUCED] -/
def State.authOp (s : State) (nsid : Nat) (ok : Bool) : State × Nat :=
  let fail := fun (s : State) (u : Bool) =>
    let (st, s) := (s.authFail u).openStatus
    (s, st)
  if 5 ≤ s.fget F.SEC_STS_AUTHF then fail s false
  else if nsid = 0 then (if ok then (s.fsetB F.SEC_STS_ADMIN true, 0) else fail s false)
  else match s.ownNs nsid with
    | none => (s, St.field)
    | some n => if (s.sec.blocks.get n).isNone || !ok then fail s true else (s.unwrap n, 0)

/-- Set credential (Table 16.8): the key block is wrapped anew under a new salt, or under the device-unique key. [assumption 231 DEDUCED] -/
def State.credOp (s : State) (nsid : Nat) (oldOk newEmpty : Bool) : State × Nat :=
  if !oldOk then let (st, s) := s.openStatus; (s, st)
  else if nsid = 0 then (s.secMap (fun x => { x with adminCred := !newEmpty }), 0)
  else match s.ownNs nsid with
    | none => (s, St.field)
    | some n => match s.sec.blocks.get n with
      | none => let (st, s) := s.openStatus; (s, st)
      | some b =>
        let (salt, s) := s.randomBytes 16
        (s.secMap (fun x => { x with blocks := x.blocks.set n (some { b with salt := salt, cred := !newEmpty }) }), 0)

/-- Lock (Table 16.8): zeroes the slot. -/
def State.lockOp (s : State) (nsid : Nat) : State × Nat :=
  match s.ownNs nsid with
  | none => (s, St.field)
  | some n => ((s.secMap (fun x => { x with slots := x.slots.set n none })).secStatus, 0)

/-- A security command of the port's SECURITY authority; for the partner's namespace it is forwarded (R371). -/
def State.secDo (s : State) (h : CmdHdr) (nsid : Nat) (k : FwdKind) (f : State → State × Nat) (data : State → List Byte := fun _ => []) : State :=
  s.adminDo h (s.flag (F.HEP_AUTH_SECURITY h.port.num)) (fun s =>
    if s.isPartner nsid then
      (if s.anaState true = 1 then (s.forward { h with nsid := nsid } k, none) else (s, some { status := St.anaInaccessible }))
    else
      let (s, st) := f s
      (s, some { status := st, data := data s }))

/-- SECURITY_PROTOCOL_DISCOVERY (R348): protocol 0x00 lists 0x00 and 0xF0, laid out as SPC-4 does. -/
def execSecurityProtocolDiscovery (h : CmdHdr) (s : State) : Host.Outcome State Fault Refusal :=
  .next (s.adminDo h (s.flag (F.HEP_AUTH_SECURITY h.port.num)) (fun s => (s, some { status := 0, data := [0, 0, 0, 0, 0, 0, 0, 2, 0, 0xF0] })))
/-- AUTHENTICATE (R348). -/
def execAuthenticate (h : CmdHdr) (nsid : Nat) (ok : Bool) (s : State) : Host.Outcome State Fault Refusal :=
  .next (s.secDo h nsid (.authenticate ok) (fun s => s.authOp nsid ok))
/-- SET_CREDENTIAL (R348). -/
def execSetCredential (h : CmdHdr) (nsid : Nat) (oldOk newEmpty : Bool) (s : State) : Host.Outcome State Fault Refusal :=
  .next (s.secDo h nsid (.setCredential oldOk newEmpty) (fun s => s.credOp nsid oldOk newEmpty))
/-- LOCK (R348). -/
def execLock (h : CmdHdr) (nsid : Nat) (s : State) : Host.Outcome State Fault Refusal := .next (s.secDo h nsid .lock (fun s => s.lockOp nsid))

/-- The Status answer (R348): the two namespaces' states and the attempts left. [assumption 232 DESIGN CHOICE] -/
def State.secBytes (s : State) : List Byte :=
  leBytes 1 (s.fget F.SEC_STS_NS1) ++ leBytes 1 (s.fget F.SEC_STS_NS2) ++ leBytes 1 (5 - s.fget F.SEC_STS_AUTHF)

/-- SECURITY_STATUS (R348). -/
def execSecurityStatus (h : CmdHdr) (s : State) : Host.Outcome State Fault Refusal :=
  .next (s.secDo h h.nsid .status (fun s => (s, 0)) State.secBytes)

/-- Every block of a namespace becomes unwritten, and every zone Empty (R279, R349, Table 12.9). -/
def State.unwriteNs (s : State) (n : Two) : State :=
  match n with
  | .zero =>
    let ns := s.convNsid false
    let mine := fun (b : WinBlk) => b.nsid == ns
    let s := s.leaveWindow mine
    let s := s.cqeMap (fun c => { c with buffer := c.buffer.map (fun b => if mine b then { b with media := true, done := true } else b) })
    ((s.vaultMap (fun v => { v with convWritten := v.convWritten.filter (fun k => k / 2 ^ 40 != ns) })).bufferSweep).mediaDone
  | .one => s.zones.foldl (fun s z => s.zoneClear z (s.wide Rg.CQE_STAMP_LO)) s

/-- New key pairs and key blocks (R349 steps 1 and 2), under the existing credentials. -/
def State.newKey (s : State) (n : Two) : State :=
  let (key, s) := s.randomBytes 64
  let (salt, s) := s.randomBytes 16
  let old := s.sec.blocks.get n
  s.secMap (fun x => { x with blocks := x.blocks.set n (some ⟨salt, old.elim false (fun b => b.cred), key⟩) })

/-- The slot takes the new key pair (R349 step 3). -/
def State.newSlot (s : State) (n : Two) : State :=
  s.secMap (fun x => { x with slots := x.slots.set n ((x.blocks.get n).map (fun b => b.key)) })

/-- The index by which the Vault names a namespace whose erase is under way. -/
def twoOf (n : Nat) : Two := if n = 0 then .zero else .one

/-- CRYPTO_ERASE and CRYPTO_ERASE_RESUME (R349): from step 1, or, where step 3 is done, step 4 alone; SANITIZING stands in the Vault meanwhile. [assumption 234 DEDUCED] -/
def State.cryptoErase (s : State) (l : List Nat) (swapped : Bool) : State :=
  let s := (s.secMap (fun x => { x with erase := some (l, swapped) })).fsetB F.SEC_STS_SANITIZING true
  let s := if swapped then s
    else
      let s := l.foldl (fun s n => s.newKey (twoOf n)) s
      (l.foldl (fun s n => s.newSlot (twoOf n)) s).secMap (fun x => { x with erase := some (l, true) })
  let s := l.foldl (fun s n => s.unwriteNs (twoOf n)) s
  (((s.secMap (fun x => { x with erase := none, sanitized := true })).fsetB F.SEC_STS_SANITIZING false).secStatus).raiseEvent 109

/-- FORMAT_NVM on an own namespace (R280, R349, Table 12.9). -/
def State.formatOp (s : State) (n : Two) (nsid lbaf pi ses : Nat) : State × Nat :=
  if 2 < lbaf ∨ ¬ (pi = 0 ∨ pi = 1 ∨ pi = 3) ∨ (lbaf = 0 ∧ pi ≠ 0) ∨ ¬ (ses = 0 ∨ ses = 2) then (s, 0x10A)
  else
    let s := s.hepMap (fun h => { h with lbaf := put (fun _ => 0) nsid (lbaf + 16 * pi) h.lbaf, changedNs := h.changedNs.filter (fun m => m != nsid) ++ [nsid] })
    let s := if ses = 2 then s.cryptoErase [n.num] false else s.unwriteNs n
    (s.asyncEvent 8 2 0 4, 0)

/-- FORMAT_NVM: one namespace; the partner's is forwarded (R371). -/
def execFormatNvm (h : CmdHdr) (lbaf pi ses : Nat) (s : State) : Host.Outcome State Fault Refusal :=
  .next (s.adminDo h (s.flag (F.HEP_AUTH_ADMIN h.port.num)) (fun s =>
    if s.isPartner h.nsid && s.anaState true == 1 then (s.forward h (.format lbaf pi ses), none)
    else if s.isPartner h.nsid then (s, some { status := St.anaInaccessible })
    else match s.ownNs h.nsid with
      | some n => if s.nsPresent h.nsid then
          let (s, st) := s.formatOp n h.nsid lbaf pi ses
          (s, some { status := st })
        else (s, some { status := St.namespace })
      | none => (s, some { status := St.namespace })))

/-- SANITIZE (R349): both namespaces; on a twin whose partner can be reached it runs on both chips and completes when both have finished (R371). [assumption 262 DEDUCED] -/
def execSanitize (h : CmdHdr) (s : State) : Host.Outcome State Fault Refusal :=
  .next (s.adminDo h (s.flag (F.HEP_AUTH_ADMIN h.port.num)) (fun s =>
    let s := s.cryptoErase [0, 1] false
    if s.twin && s.anaState true == 1 then (s.forward h .sanitize, none) else (s, some { status := 0 })))

/-- A write of SEC_SVN (R352, Table 16.12): RWL; a lower SVNMIN is discarded, an accepted one is stored in the Vault. -/
def State.svnWrite (s : State) (v : Word) : State :=
  let n := F.SEC_SVN_SVNMIN.of v
  if s.locked || decide (n < s.fget F.SEC_SVN_SVNMIN) then s
  else (s.fset F.SEC_SVN_SVNMIN n).vaultMap (fun x => { x with svnMin := n })

/-- SVN_UPDATE. -/
def execSvnUpdate (v : Word) (s : State) : Host.Outcome State Fault Refusal := .next (s.svnWrite v)

/-- DEBUG_CHALLENGE (R350): 16 random bytes and the device serial number. -/
def debugChallengeOp (s : State) : State :=
  if 3 ≤ s.sec.dbgFails then s
  else
    let (r, s) := s.randomBytes 16
    s.secMap (fun x => { x with challenge := some (r ++ (List.range 16).map Config.serial) })

/-- DEBUG_CHALLENGE. -/
def execDebugChallenge (s : State) : Host.Outcome State Fault Refusal := .next (debugChallengeOp s)

/-- DEBUG_RESPONSE (R350, Table 16.10): the verdict on the signature; accepted, the tamper latch and count, the keys zeroised, the record's message, debug open. [assumption 235 DEDUCED] -/
def debugResponseOp (ok : Bool) (s : State) : State :=
  if s.sec.challenge.isNone || decide (3 ≤ s.sec.dbgFails) || s.flag F.SEC_STS_DBGOPEN then s
  else
    let s := s.secMap (fun x => { x with challenge := none })
    if !ok then s.secMap (fun x => { x with dbgFails := x.dbgFails + 1 })
    else
      let s := (s.fsetB F.SEC_TAMPER_LATCH true).fset F.SEC_TAMPER_DBGCNT (min 0xFFFF (s.fget F.SEC_TAMPER_DBGCNT + 1))
      let s := (s.secMap (fun x => { x with slots := ⟨none, none⟩, patchKey := false })).secStatus
      ((s.raiseFault Blk.sec 0 5 2 0).raiseEvent 108).fsetB F.SEC_STS_DBGOPEN true

/-- DEBUG_RESPONSE. -/
def execDebugResponse (ok : Bool) (s : State) : Host.Outcome State Fault Refusal := .next (debugResponseOp ok s)

end Sys2Proof.Machine
end

