-- ==== Sys2Proof/Machine/Admin.lean ====
section
/-! DEFINITION. Admin commands (R252, R254, R273 to R277, R336, R345): queue management, Identify, log pages, features, Abort, firmware; and NVMe-MI (R282). -/
namespace Sys2Proof.Machine

/-- A page of `n` bytes with runs of bytes at rising offsets and 0 elsewhere, from position `pos` on. -/
def pageFrom (n pos : Nat) : List (Nat × List Byte) → List Byte
  | [] => List.replicate (n - pos) 0
  | (o, b) :: t => List.replicate (o - pos) 0 ++ b ++ pageFrom n (o + b.length) t

/-- Bytes that the Fjoma image gives (R273). -/
def imageBytes (o n : Nat) : List Byte := (List.range n).map (fun i => Config.imageByte (o + i))
/-- Bytes that the manual does not state: free values, counted from `k`. -/
def openBytes (k n : Nat) : List Byte := (List.range n).map (fun i => BitVec.ofNat 8 (Config.unstated (k + i)))

/-- Queue statuses of the NVMe standard (R1). -/
def St.cqInvalid : Nat := 0x100
def St.queueId : Nat := 0x101
def St.queueSize : Nat := 0x102
def St.abortLimit : Nat := 0x105
def St.vector : Nat := 0x108
def St.logPage : Nat := 0x109
def St.needReset : Nat := 0x10B
def St.queueDelete : Nat := 0x10C
def St.sequence : Nat := 0x00C
def St.sqDeleted : Nat := 0x008

/-- CREATE_IO_CQ (R273): identifiers 1 to 64, 2 to 4,096 entries, contiguous, a vector from 0 to 128. -/
def execCreateIoCq (h : CmdHdr) (qid size vector : Nat) (contig : Bool) (s : State) : Host.Outcome State Fault Refusal :=
  .next (s.adminDo h true (fun s =>
    let x := s.port h.port
    let st := if qid = 0 ∨ 64 < qid ∨ x.cqs.any (fun q => q.qid == qid) then St.queueId
      else if size < 2 ∨ 4096 < size then St.queueSize
      else if !contig then St.field
      else if 128 < vector then St.vector
      else 0
    (if st = 0 then s.portMap h.port (fun x => { x with cqs := x.cqs ++ [⟨qid, size, vector, 0, 0, 0⟩] }) else s, some { status := st })))

/-- CREATE_IO_SQ (R273). -/
def execCreateIoSq (h : CmdHdr) (qid size cqid : Nat) (contig : Bool) (s : State) : Host.Outcome State Fault Refusal :=
  .next (s.adminDo h true (fun s =>
    let x := s.port h.port
    let st := if qid = 0 ∨ 64 < qid ∨ x.sqs.any (fun q => q.qid == qid) then St.queueId
      else if cqid = 0 ∨ !x.cqs.any (fun q => q.qid == cqid) then St.cqInvalid
      else if size < 2 ∨ 4096 < size then St.queueSize
      else if !contig then St.field
      else 0
    let put := fun (x : PortSt) => { x with sqs := x.sqs.takeWhile (fun q => decide (q.qid < qid)) ++ ⟨qid, size, cqid, 0, []⟩ :: x.sqs.dropWhile (fun q => decide (q.qid < qid)) }
    (if st = 0 then s.portMap h.port put else s, some { status := st })))

/-- The commands of a submission queue at its deletion: those waiting and those admitted complete as aborted by it, the latter with Table 11.3's effect of a discarding
reset. [assumption 166 DEDUCED] -/
def State.sqAbort (s : State) (p : Port) (q : Sq) : State :=
  let s := q.cmds.foldl (fun s c => s.complete c.hdr St.sqDeleted) s
  let mine := fun (x : Slot) => x.cmd.hdr.port == p && x.cmd.hdr.qid == q.qid
  let s := (s.cqe.slots.filter (fun x => mine x && !x.mute)).foldl (fun s x => s.complete x.cmd.hdr St.sqDeleted) s
  s.resetSlots mine

/-- DELETE_IO_SQ (R273). -/
def execDeleteIoSq (h : CmdHdr) (qid : Nat) (s : State) : Host.Outcome State Fault Refusal :=
  .next (s.adminDo h true (fun s =>
    match (s.port h.port).sqs.find? (fun q => q.qid == qid && q.qid != 0) with
    | none => (s, some { status := St.queueId })
    | some q => ((s.sqAbort h.port q).portMap h.port (fun x => { x with sqs := x.sqs.filter (fun y => y.qid != qid) }), some { status := 0 })))

/-- DELETE_IO_CQ (R273): refused while a submission queue names it. -/
def execDeleteIoCq (h : CmdHdr) (qid : Nat) (s : State) : Host.Outcome State Fault Refusal :=
  .next (s.adminDo h true (fun s =>
    let x := s.port h.port
    if qid = 0 ∨ !x.cqs.any (fun q => q.qid == qid) then (s, some { status := St.queueId })
    else if x.sqs.any (fun q => q.cqid == qid && q.qid != 0) then (s, some { status := St.queueDelete })
    else (s.portMap h.port (fun x => { x with cqs := x.cqs.filter (fun q => q.qid != qid) }), some { status := 0 })))

/-- CNTLID (R260, R370). -/
def State.cntlid (s : State) (p : Port) : Nat := if s.twin then 2 * s.fget F.GLB_CFG_SIDE + p.num + 1 else p.num + 1

/-- A power-state descriptor (Table 14.4): the exit latency in microseconds and whether it is non-operational; the rest is the image's (32 bytes at its offset). -/
def powerDescriptor (i exlat : Nat) (nonop : Bool) : List Byte :=
  imageBytes (2048 + 32 * i) 3 ++ leBytes 1 (nonop.toNat * 2) ++ imageBytes (2048 + 32 * i + 4) 4 ++ leBytes 4 exlat ++ imageBytes (2048 + 32 * i + 12) 20

/-- Identify Controller (R272, R273, R281, R370, Table 14.4; the layout of the NVMe standard). -/
def State.identifyController (s : State) (p : Port) : List Byte :=
  pageFrom 4096 0
    [(0, leBytes 2 0x1FA8), (2, leBytes 2 (s.fget F.HEP_SSID_SSVID)), (4, imageBytes 4 68), (72, openBytes 72 4), (76, [0x0A, 8]), (78, leBytes 2 (s.cntlid p)), (80, leBytes 4 0x00020000),
     (92, leBytes 4 0x08000B00), (111, [1]), (256, leBytes 2 7), (259, [3, 0x14, 2]), (262, [63, 4]), (319, [1]), (322, leBytes 2 1), (328, leBytes 4 1), (342, [10, if s.twin then 0x17 else 1]),
     (344, leBytes 4 (if s.twin then 4 else 2)), (348, leBytes 4 (if s.twin then 4 else 2)), (512, [0x66, 0x44]), (516, leBytes 4 (if s.twin then 4 else 2)),
     (520, leBytes 2 0x48), (524, [4, 0]), (768, imageBytes 768 256),
     (2048, powerDescriptor 0 0 false ++ powerDescriptor 1 0 false ++ powerDescriptor 2 0 false ++ powerDescriptor 3 12000000 true ++ powerDescriptor 4 15000000 true)]

/-- Identify Namespace (R273, R280, R281): size, formats, protection and group. -/
def State.identifyNs (s : State) (ns : Nat) : List Byte :=
  let n := leBytes 8 (s.nsBlocks ns)
  let f := look (fun _ => 0) ns s.hep.lbaf
  let fmt := fun (m : Nat) => leBytes 2 m ++ leBytes 1 12 ++ leBytes 1 0
  pageFrom 4096 0
    [(0, n ++ n ++ n), (25, [2]), (26, leBytes 1 (f % 16)), (27, [3]), (28, [0x15]), (29, leBytes 1 (f / 16)), (30, [1]),
     (92, leBytes 4 (if s.twin then ns else if s.isZoned ns then 2 else 1)), (128, fmt 0 ++ fmt 8 ++ fmt 16)]

/-- The NSIDs that are there, ascending. -/
def State.nsList (s : State) : List Nat := ([1, 2, 3, 4] : List Nat).filter s.nsPresent

/-- Identify of the Zoned Namespace command set (R273): RAZB, MAR, MOR, the zone size for each format. -/
def State.identifyZns (s : State) : List Byte :=
  let f := leBytes 8 65536 ++ leBytes 8 0
  pageFrom 4096 0 [(2, leBytes 2 1), (4, leBytes 4 (s.maxAct - 1)), (8, leBytes 4 (s.maxOpen - 1)), (2816, f ++ f ++ f)]

/-- Identify data by CNS (R273), or its status. -/
def State.identifyData (s : State) (h : CmdHdr) (cns : Nat) : Answer :=
  let ns := h.nsid
  if cns = 0 then (if s.nsPresent ns then { status := 0, data := s.identifyNs ns } else { status := St.namespace })
  else if cns = 1 then { status := 0, data := s.identifyController h.port }
  else if cns = 2 then { status := 0, data := pageFrom 4096 0 [(0, ((s.nsList.filter (fun n => decide (ns < n))).map (leBytes 4)).flatten)] }
  else if cns = 3 then
    (if s.nsPresent ns then { status := 0, data := pageFrom 4096 0 [(0, [4, 1, 0, 0, if s.isZoned ns then 2 else 0])] } else { status := St.namespace })
  else if cns = 5 then
    (if !s.nsPresent ns then { status := St.namespace }
     else { status := 0, data := if s.isZoned ns then s.identifyZns else pageFrom 4096 0 [(20, leBytes 4 0x100)] })
  else if cns = 6 then { status := 0, data := pageFrom 4096 0 [] }
  else if cns = 0x1C then { status := 0, data := pageFrom 4096 0 [(0, leBytes 8 5)] }
  else { status := St.field }

/-- IDENTIFY (R273). -/
def execIdentify (h : CmdHdr) (cns : Nat) (s : State) : Host.Outcome State Fault Refusal := .next (s.adminDo h true (fun s => (s, some (s.identifyData h cns))))

/-- Available Spare (R275). -/
def State.availSpare (s : State) : Nat := 100 * (131072 - s.fget F.ZNE_SPCNT_COUNT) / 131072

/-- The SMART/Health page (R275; the layout of the NVMe standard; counts of host traffic and the like are free values). -/
def State.smartPage (s : State) (p : Port) : List Byte :=
  let k := s.freeCtr * 4096
  pageFrom 512 0
    [(0, leBytes 1 s.warnBits), (1, leBytes 2 s.composite.toNat), (3, leBytes 1 s.availSpare), (4, [10]), (5, leBytes 1 (s.fget F.ASC_AGESUM_USED)), (32, openBytes k 96),
     (128, leBytes 16 (s.fget F.PWR_POH_HOURS)), (144, leBytes 16 (s.fget F.PWR_SAVECNT_COUNT)), (160, leBytes 16 (s.wide Rg.STE_UNREC_LO)), (176, leBytes 16 (s.port p).errCount), (192, openBytes (k + 96) 40)]

/-- The vendor drive-life page (Table 12.11). -/
def State.lifePage (s : State) : List Byte :=
  let gone := (List.range 24).foldl (fun n i => n + (if s.surfFailed i then 2 ^ i else 0)) 0
  leBytes 1 (s.fget F.ASC_AGESUM_USED) ++ leBytes 1 (s.flag F.PWR_STS_ARMED).toNat ++ leBytes 6 0 ++ leBytes 8 (s.wide Rg.STE_UNREC_LO) ++ leBytes 8 (s.wide Rg.STE_RECON_LO) ++
    leBytes 8 gone ++ List.replicate 480 0

/-- A Station Book record as log page 0xC1 gives it (R345): zeros where it fails the tests against the head `h1`. -/
def State.recordOf (s : State) (h1 n : Int) : List Byte :=
  let zero : List Byte := List.replicate 32 0
  if n < 0 ∨ h1 ≤ n then zero
  else
    let b := s.bytes (recordAddr n.toNat) 32
    let whole := ofLe (b.drop 28) == crc32c (b.take 28) && ofLe (b.take 4) + ofLe ((b.drop 4).take 2) * 2 ^ 32 == n.toNat && (decide (n < 1024) || decide (h1 - 8192 ≤ n))
    if whole then b else zero

/-- Log page 0xC1 (R345): records from the one numbered head − 8,192 + `first` on. -/
def State.bookPage (s : State) (first count : Nat) : List Byte :=
  let h1 : Int := s.vault.bokNext
  ((List.range count).map (fun (i : Nat) => s.recordOf h1 (h1 - 8192 + (first + i : Nat)))).flatten

/-- Log page 0xC2 (R345): SEC_BOOTSTS and the last start record. -/
def State.bootPage (s : State) : List Byte :=
  leBytes 4 (s.rd Rg.SEC_BOOTSTS).toNat ++ (match s.vault.startRec with
    | some n => s.bytes (recordAddr n) 32
    | none => List.replicate 32 0)

/-- The Asymmetric Namespace Access page (R281): one group for each namespace, or the two of a single chip. -/
def State.anaPage (s : State) : List Byte :=
  let code := fun (st : Nat) => if st = 0 then 1 else if st = 1 then 2 else if st = 2 then 3 else 0xF
  let one := fun (ns : Nat) => leBytes 4 ns ++ leBytes 4 1 ++ leBytes 8 s.hep.anaCount ++ leBytes 1 (code (s.anaState (s.isPartner ns))) ++ List.replicate 15 0 ++ leBytes 4 ns
  leBytes 8 s.hep.anaCount ++ leBytes 2 s.nsList.length ++ leBytes 6 0 ++ (s.nsList.map one).flatten

/-- Error Information (Table 12.11): 64 entries. -/
def State.errorPage (s : State) (p : Port) : List Byte :=
  let x := s.port p
  let one := fun (i : Nat) (c : Cpl) => leBytes 8 (x.errCount - i) ++ leBytes 2 c.hdr.qid ++ leBytes 2 c.hdr.cid ++ leBytes 2 (c.status * 2) ++ openBytes (s.freeCtr * 4096 + 64 * i) 10 ++
    leBytes 4 c.hdr.nsid ++ List.replicate 36 0
  pageFrom 4096 0 [(0, ((x.errors.take 64).mapIdx one).flatten)]

/-- Commands Supported and Effects (Tables 12.9, 12.11): CSUPP of each listed opcode. -/
def effectsPage : List Byte :=
  let on := fun (l : List Nat) => ((List.range 256).map (fun o => leBytes 4 (if l.contains o then 1 else 0))).flatten
  pageFrom 4096 0 [(0, on [0, 1, 2, 4, 5, 6, 8, 9, 0xA, 0xC, 0x10, 0x11, 0x80, 0x81, 0x82, 0x84] ++ on [0, 1, 2, 8, 0x79, 0x7A, 0x7D])]

/-- Revision of a flash slot as the chip knows it. -/
def State.slotRev (s : State) (n : Nat) : Nat := match s.flash with
  | some f => (if n = 1 then f.slot1 else f.slot2).revision
  | none => 0

/-- A log page by identifier for a port that may read it, and the state after the read: change lists restart (Table 12.11). -/
def State.logPage (s : State) (h : CmdHdr) (lid : Nat) : State × Answer :=
  if lid = 0x01 then (s.tick, { status := 0, data := s.errorPage h.port })
  else if lid = 0x02 then (s.tick, { status := 0, data := s.smartPage h.port })
  else if lid = 0x03 then (s, { status := 0, data := pageFrom 512 0 [(0, leBytes 1 (s.fget F.SEC_BOOTSTS_SLOT)), (8, leBytes 8 (s.slotRev 1) ++ leBytes 8 (s.slotRev 2))] })
  else if lid = 0x04 then (s.hepMap (fun x => { x with changedNs := [] }), { status := 0, data := pageFrom 4096 0 [(0, (s.hep.changedNs.map (leBytes 4)).flatten)] })
  else if lid = 0x05 then (s, { status := 0, data := effectsPage })
  else if lid = 0x0C then (s, { status := 0, data := s.anaPage })
  else if lid = 0x81 then (s, { status := 0, data := pageFrom 512 0 [(0, leBytes 2 0xFFFF ++ leBytes 2 s.sec.sanitized.toNat)] })
  else if lid = 0xBF then (s.hepMap (fun x => { x with changedZones := [] }),
    { status := 0, data := pageFrom 4096 0 [(0, leBytes 2 s.hep.changedZones.length ++ leBytes 6 0 ++ (s.hep.changedZones.map (fun z => leBytes 8 (65536 * (z % zoneSetBase)))).flatten)] })
  else if lid = 0xC0 then (s, { status := 0, data := s.lifePage })
  else if lid = 0xC1 then (s, { status := 0, data := s.bookPage 0 128 })
  else if lid = 0xC2 then (s, { status := 0, data := s.bootPage })
  else (s, { status := St.logPage })

/-- Whether a port may read a log page (R271): 0xC1 and up need SERVICE. -/
def State.logAllowed (s : State) (p : Port) (lid : Nat) : Bool := decide (lid < 0xC1) || s.flag (F.HEP_AUTH_SERVICE p.num)

/-- Get Log Page as an admin command. -/
def State.logDo (s : State) (h : CmdHdr) (lid : Nat) : State :=
  s.adminDo h (s.logAllowed h.port lid) (fun s => let (s, a) := s.logPage h lid; (s, some a))

/-- GET_LOG_PAGE (R273). -/
def execGetLogPage (h : CmdHdr) (lid : Nat) (s : State) : Host.Outcome State Fault Refusal := .next (s.logDo h lid)
/-- SMART_HEALTH_LOG (R275). -/
def execSmartHealthLog (h : CmdHdr) (s : State) : Host.Outcome State Fault Refusal := .next (s.logDo h 0x02)
/-- DRIVE_LIFE_LOG (R273). -/
def execDriveLifeLog (h : CmdHdr) (s : State) : Host.Outcome State Fault Refusal := .next (s.logDo h 0xC0)
/-- STATION_BOOK_LOG (R345). -/
def execStationBookLog (h : CmdHdr) (first count : Nat) (s : State) : Host.Outcome State Fault Refusal :=
  .next (s.adminDo h (s.logAllowed h.port 0xC1) (fun s => (s, some { status := 0, data := s.bookPage first count })))
/-- BOOT_STATUS_LOG (R345). -/
def execBootStatusLog (h : CmdHdr) (s : State) : Host.Outcome State Fault Refusal := .next (s.logDo h 0xC2)

/-- Whether no media operation of a read has been submitted to its queue yet (R252). -/
def State.readUnsent (s : State) (stamp : Nat) : Bool :=
  (s.cqe.parts.filter (fun p => p.stamp == stamp)).all (fun p =>
    let waits := fun (a : Act) => (s.msqOf a).hwWait.any (fun d => d.getD 4 0 == p.tag)
    waits .zero || waits .one)

/-- ABORT (R252): of an admitted read whose media operations have not been submitted; a forwarded command's abort goes to its owner (R371). -/
def execAbort (h : CmdHdr) (sqid cid : Nat) (s : State) : Host.Outcome State Fault Refusal :=
  .next (s.adminDo h true (fun s =>
    match s.cqe.slots.find? (fun x => x.cmd.hdr.port == h.port && x.cmd.hdr.qid == sqid && x.cmd.hdr.cid == cid) with
    | some x =>
      let read := match x.cmd.kind with
        | .read .. => true
        | _ => false
      if read && s.readUnsent x.stamp && !x.mute then ((s.cancelReads x.stamp).finish x St.aborted, some { status := 0, dw0 := 0 })
      else (s, some { status := 0, dw0 := 1 })
    | none =>
      match s.brl.fwds.find? (fun f => f.hdr.port == h.port && f.hdr.qid == sqid && f.hdr.cid == cid) with
      | some f => (s.sendPkt (.fctl (.abort h.port f.slot)), some { status := 0, dw0 := 1 })
      | none => (s, some { status := 0, dw0 := 1 })))

/-- Power Management (R274, R318, Table 14.4): PS3 and PS4 begin entry; PS0 to PS2 cap the step and start a speed step, from PS3 or PS4 with the return. [assumptions 161 DEDUCED, 208 DEDUCED] -/
def State.powerOp (s : State) (ps : Nat) : State × Nat :=
  if 4 < ps then (s, St.field)
  else if 3 ≤ ps then
    (if s.flag F.CQE_PSTS_ENTRY || s.fget F.CQE_PSTS_CUR == ps then (s, 0) else (s.entryStart ps, 0))
  else
    let cap := if ps = 0 then 5 else if ps = 1 then 3 else 1
    let s := (s.pwrMap (fun p => { p with psCap := cap })).ceilingUpdate
    let s := s.targetAsk s.ceiling
    let s := s.cqeMap (fun c => { c with lastOp := ps })
    if s.flag F.CQE_PSTS_ENTRY then
      (if s.fget F.CQE_PSTS_CKPT < 3 then (s.entryAbandon.fset F.CQE_PSTS_CUR ps, 0) else (s.cqeMap (fun c => { c with returnDue := true }), 0))
    else if 3 ≤ s.fget F.CQE_PSTS_CUR then (s.returnStart, 0)
    else (s.fset F.CQE_PSTS_CUR ps, 0)

/-- Clock time in milliseconds. -/
def State.clockMs (s : State) : Int := s.clock.toNat / 1000000

/-- Timestamp (R276): one signed offset from clock time, in HEP_TSOFF too. -/
def State.timestampOp (s : State) (ms : Nat) : State :=
  let off := (ms : Int) - s.clockMs
  (s.hepMap (fun h => { h with tsOff := off, tsSet := true })).wideSet Rg.HEP_TSOFF_LO (lowBits 64 off)

/-- Host Controlled Thermal Management (R277). -/
def State.hctmOp (s : State) (tmt1 tmt2 : Nat) : State × Nat :=
  if 0 < tmt1 ∧ 0 < tmt2 ∧ tmt2 ≤ tmt1 then (s, St.field) else ((s.hepMap (fun h => { h with tmt1 := tmt1, tmt2 := tmt2 })).hctmUpdate, 0)

/-- Features of drive scope (Table 12.10), which need ADMIN (Table 12.8). -/
def driveFeature (fid : Nat) : Bool := fid == 0x02 || fid == 0x04 || fid == 0x0E || fid == 0x10

/-- Set a feature (R274, Table 12.10). -/
def State.featureOp (s : State) (h : CmdHdr) (fid : Nat) (v : Word) : State × Answer :=
  let ctl := fun (k : Nat) => (s.portMap h.port (fun x => { x with features := put (fun _ => 0) k v x.features }), ({ status := 0 } : Answer))
  if fid = 0x01 then ctl fid
  else if fid = 0x02 then (let (s, st) := s.powerOp (bitsOf v 0 5); (s, { status := st }))
  else if fid = 0x04 then
    (if bitsOf v 16 4 ≠ 0 ∨ 1 < bitsOf v 20 2 then (s, { status := St.field })
     else ((s.hepMap (fun x => { x with features := put (fun k => if k = 0x04 then 343 else 0) (if bitsOf v 20 2 = 0 then 0x04 else 0x104) (v &&& 0xFFFF) x.features })).warnUpdate, { status := 0 }))
  else if fid = 0x07 then
    (if (s.port h.port).sqs.any (fun q => q.qid != 0) || (s.port h.port).cqs.any (fun q => q.qid != 0) then (s, { status := St.sequence })
     else if bitsOf v 0 16 = 0xFFFF ∨ bitsOf v 16 16 = 0xFFFF then (s, { status := St.field })
     else (s, { status := 0, dw0 := 0x003F003F }))
  else if fid = 0x08 ∨ fid = 0x0B then ctl fid
  else if fid = 0x09 then (if 128 < bitsOf v 0 16 then (s, { status := St.field }) else ctl (0x900 + bitsOf v 0 16))
  else if fid = 0x0E then (s.timestampOp v.toNat, { status := 0 })
  else if fid = 0x10 then (let (s, st) := s.hctmOp (bitsOf v 16 16) (bitsOf v 0 16); (s, { status := st }))
  else (s, { status := St.field })

/-- SET_FEATURES (R274). -/
def execSetFeatures (h : CmdHdr) (fid : Nat) (v : Word) (s : State) : Host.Outcome State Fault Refusal :=
  .next (s.adminDo h (!driveFeature fid || s.flag (F.HEP_AUTH_ADMIN h.port.num)) (fun s => let (s, a) := s.featureOp h fid v; (s, some a)))
/-- SET_POWER_MANAGEMENT (R274). -/
def execSetPowerManagement (h : CmdHdr) (ps : Nat) (s : State) : Host.Outcome State Fault Refusal :=
  .next (s.adminDo h (s.flag (F.HEP_AUTH_ADMIN h.port.num)) (fun s => let (s, st) := s.powerOp ps; (s, some { status := st })))
/-- SET_TIMESTAMP (R276). -/
def execSetTimestamp (h : CmdHdr) (ms : Nat) (s : State) : Host.Outcome State Fault Refusal :=
  .next (s.adminDo h (s.flag (F.HEP_AUTH_ADMIN h.port.num)) (fun s => (s.timestampOp ms, some { status := 0 })))
/-- SET_THERMAL_MANAGEMENT (R277). -/
def execSetThermalManagement (h : CmdHdr) (tmt1 tmt2 : Nat) (s : State) : Host.Outcome State Fault Refusal :=
  .next (s.adminDo h (s.flag (F.HEP_AUTH_ADMIN h.port.num)) (fun s => let (s, st) := s.hctmOp tmt1 tmt2; (s, some { status := st })))

/-- The Timestamp that a Get Features returns (R276): clock time plus the offset, Synch 0, Origin 1, or Origin 0 before the first set. -/
def State.timestampData (s : State) : List Byte :=
  leBytes 6 (lowBits 48 (s.clockMs + (if s.hep.tsSet then s.hep.tsOff else 0))) ++ leBytes 1 (if s.hep.tsSet then 2 else 0) ++ leBytes 1 0

/-- A feature's value (R273, Table 12.10); dword 11 selects a threshold or a vector. -/
def State.featureValue (s : State) (p : Port) (fid : Nat) (v : Word) : Answer :=
  let ctl := fun (k : Nat) => (look (fun _ => (0 : Word)) k (s.port p).features).toNat
  if fid = 0x01 ∨ fid = 0x08 ∨ fid = 0x0B then { status := 0, dw0 := ctl fid }
  else if fid = 0x02 then { status := 0, dw0 := s.fget F.CQE_PSTS_CUR }
  else if fid = 0x04 then { status := 0, dw0 := (if bitsOf v 20 2 = 0 then look (fun _ => (343 : Word)) 0x04 s.hep.features else look (fun _ => (0 : Word)) 0x104 s.hep.features).toNat }
  else if fid = 0x07 then { status := 0, dw0 := 0x003F003F }
  else if fid = 0x09 then { status := 0, dw0 := bitsOf v 0 16 + (ctl (0x900 + bitsOf v 0 16) / 65536) % 2 * 65536 }
  else if fid = 0x0E then { status := 0, data := s.timestampData }
  else if fid = 0x10 then { status := 0, dw0 := s.hep.tmt1 * 65536 + s.hep.tmt2 }
  else { status := St.field }

/-- GET_FEATURES (R273). -/
def execGetFeatures (h : CmdHdr) (fid : Nat) (v : Word) (s : State) : Host.Outcome State Fault Refusal :=
  .next (s.adminDo h true (fun s => (s, some (s.featureValue h.port fid v))))
/-- GET_TIMESTAMP (R276). -/
def execGetTimestamp (h : CmdHdr) (s : State) : Host.Outcome State Fault Refusal :=
  .next (s.adminDo h true (fun s => (s, some (s.featureValue h.port 0x0E 0))))

/-- ASYNCHRONOUS_EVENT_REQUEST (R275, Table 12.9): 4 outstanding; an event that waits answers at once. -/
def execAsynchronousEventRequest (h : CmdHdr) (s : State) : Host.Outcome State Fault Refusal :=
  .next (s.adminDo h true (fun s =>
    if 4 ≤ (s.port h.port).aers.length then (s, some { status := St.abortLimit })
    else ((s.portMap h.port (fun x => { x with aers := x.aers ++ [h.cid] })).aerPump h.port, none)))

/-- The slot that is not active (R336). -/
def State.inactiveSlot (s : State) : Nat := if s.fget F.SEC_BOOTSTS_SLOT = 2 then 1 else 2

/-- FIRMWARE_IMAGE_DOWNLOAD (R336): writes the inactive slot; it is not read back until the next start. -/
def execFirmwareImageDownload (h : CmdHdr) (image : SlotImage) (s : State) : Host.Outcome State Fault Refusal :=
  .next (s.adminDo h (s.flag (F.HEP_AUTH_FW h.port.num)) (fun s =>
    let n := s.inactiveSlot
    let s := s.hepMap (fun x => { x with download := some image })
    ({ s with flash := s.flash.map (fun f => if n = 1 then { f with slot1 := image } else { f with slot2 := image }) }, some { status := 0 })))

/-- Firmware Commit rewrites the boot-control copy with the lower sequence number (R336), an invalid copy first, so that `slot` is active at the next start. -/
def commitTo (f : Flash) (slot : Nat) : Flash :=
  match f.ctl0, f.ctl1 with
  | none, none => { f with ctl0 := some ⟨1, slot⟩ }
  | none, some b => { f with ctl0 := some ⟨b.seq + 1, slot⟩ }
  | some a, none => { f with ctl1 := some ⟨a.seq + 1, slot⟩ }
  | some a, some b => if a.seq < b.seq then { f with ctl0 := some ⟨b.seq + 1, slot⟩ } else { f with ctl1 := some ⟨a.seq + 1, slot⟩ }

/-- A commit: slot 0 leaves the choice to the drive, which takes the inactive one; a slot other than 1 or 2 is refused (Invalid Firmware Slot). -/
def State.commitOp (s : State) (slot action : Nat) : State × Nat :=
  let n := if slot = 0 then s.inactiveSlot else slot
  if 2 < n then (s, 0x106)
  else if action = 0 then (s, 0)
  else ({ s with flash := s.flash.map (fun f => commitTo f n) }, if action = 3 then 0 else St.needReset)

/-- A commit that activates (R254): its completion is posted when firmware writes DONE. -/
def State.commitActivate (s : State) (h : CmdHdr) (slot : Nat) : State × Option Answer :=
  let (s, st) := s.commitOp slot 3
  if st ≠ 0 then (s, some { status := st }) else ((s.cqeMap (fun c => { c with fwCmd := some h })).fwStart, none)

/-- FIRMWARE_COMMIT (R336, Table 12.9): actions 0b000 to 0b010; 0b011 activates (R254). -/
def execFirmwareCommit (h : CmdHdr) (slot action : Nat) (s : State) : Host.Outcome State Fault Refusal :=
  .next (s.adminDo h (s.flag (F.HEP_AUTH_FW h.port.num)) (fun s =>
    if 3 < action then (s, some { status := St.field })
    else if action = 3 then s.commitActivate h slot
    else let (s, st) := s.commitOp slot action; (s, some { status := st })))
/-- FIRMWARE_COMMIT_ACTIVATE (R254): action 0b011. -/
def execFirmwareCommitActivate (h : CmdHdr) (slot : Nat) (s : State) : Host.Outcome State Fault Refusal :=
  .next (s.adminDo h (s.flag (F.HEP_AUTH_FW h.port.num)) (fun s => s.commitActivate h slot))

/-- The health values that the SMBus endpoint reports (R282): the critical warnings, the composite temperature in °C, the life used; the last ones while the cores are
off. -/
def State.healthNow (s : State) : List Byte :=
  if s.pwr.ps4Off then s.hep.health else [BitVec.ofNat 8 s.warnBits, BitVec.ofInt 8 (s.composite - 273), BitVec.ofNat 8 (s.fget F.ASC_AGESUM_USED)]

/-- Whether the subsystem is functional (R340). -/
def State.functional (s : State) : Bool := s.fget F.SEC_BOOTSTS_CODE == 0

/-- The SMBus endpoint answers; the health it reported is kept. -/
def State.miAnswer (s : State) (l : List Byte) : State := s.hepMap (fun h => { h with mctp := l, health := s.healthNow })

/-- MI_BASIC_MANAGEMENT_READ (R282): the block of command code 0 as the NVMe-MI standard lays it out, without its PEC. [assumption 165 PRESUMED] -/
def execMiBasicManagementRead (s : State) : Host.Outcome State Fault Refusal :=
  .next (s.miAnswer ([6, if s.functional then 0x3B else 0x1B] ++ (match s.healthNow with
    | [w, t, u] => [~~~ w, t, u]
    | l => l) ++ [0, 0]))

/-- An MCTP request, answered while HEP_MI.EN = 1 (R282): a response status, then data. -/
def State.mctpDo (s : State) (l : List Byte) : State := if s.flag F.HEP_MI_EN then s.miAnswer l else s

/-- READ_NVME_MI_DATA_STRUCTURE (R282): subsystem, port, controller list, controller; other types are an invalid parameter. -/
def execReadNvmeMiDataStructure (dtyp : Nat) (s : State) : Host.Outcome State Fault Refusal :=
  let ports := 1 + s.fget F.GLB_CFG_PORTS
  .next (s.mctpDo (if dtyp = 0 then [0, BitVec.ofNat 8 (ports - 1), 1, 2]
    else if dtyp = 1 then [0, 2, 64, 0]
    else if dtyp = 2 then 0 :: (leBytes 2 ports ++ leBytes 2 (s.cntlid .zero) ++ (if ports = 2 then leBytes 2 (s.cntlid .one) else []))
    else if dtyp = 3 then 0 :: (leBytes 2 0x1FA8 ++ leBytes 2 0x8420 ++ leBytes 2 (s.fget F.HEP_SSID_SSVID) ++ leBytes 2 (s.fget F.HEP_SSID_SSID))
    else [4]))

/-- SUBSYSTEM_HEALTH_STATUS_POLL (R282): functional, then the health values. -/
def execSubsystemHealthStatusPoll (s : State) : Host.Outcome State Fault Refusal :=
  .next (s.mctpDo ([0, if s.functional then 0x20 else 0] ++ s.healthNow))

/-- CONTROLLER_HEALTH_STATUS_POLL (R282): CNTLID, CSTS, then the health values. -/
def execControllerHealthStatusPoll (p : Port) (s : State) : Host.Outcome State Fault Refusal :=
  .next (s.mctpDo (0 :: (leBytes 2 (s.cntlid p) ++ leBytes 4 (s.nvmeRead p 0x1C).toNat ++ leBytes 1 s.availSpare ++ s.healthNow)))

/-- CONFIGURATION_GET (R282): 1 SMBus frequency, 2 health status change, 3 the transmission unit. -/
def execConfigurationGet (cid : Nat) (s : State) : Host.Outcome State Fault Refusal :=
  .next (s.mctpDo (if cid = 1 then [0, BitVec.ofNat 8 s.hep.miFreq] else if cid = 2 then [0, 0] else if cid = 3 then [0, 64] else [4]))

/-- CONFIGURATION_SET (R282): the endpoint's own frequency, 100 or 400 kHz; the unit stays 64; drive state never changes. -/
def execConfigurationSet (cid : Nat) (v : Word) (s : State) : Host.Outcome State Fault Refusal :=
  let ok := (cid == 1 && (v == 1 || v == 2)) || cid == 2 || (cid == 3 && v == 64)
  let s' := if cid = 1 ∧ ok ∧ s.flag F.HEP_MI_EN then s.hepMap (fun h => { h with miFreq := v.toNat }) else s
  .next (s'.mctpDo [if ok then 0 else 4])

/-- MI_TUNNELED_COMMAND (R282): Identify, Get Log Page and Get Features, read without their effects; any other opcode is invalid. -/
def execMiTunneledCommand (opcode arg : Nat) (s : State) : Host.Outcome State Fault Refusal :=
  let h : CmdHdr := ⟨.zero, 0, 0, 0, false⟩
  let ans := fun (a : Answer) => 0 :: (leBytes 4 a.dw0 ++ leBytes 4 (a.status * 2 * 65536) ++ a.data)
  .next (s.mctpDo (if opcode = 0x06 then ans (s.identifyData h arg)
    else if opcode = 0x02 then (if s.logAllowed .zero arg then ans (s.logPage h arg).2 else ans { status := St.denied })
    else if opcode = 0x0A then ans (s.featureValue .zero arg 0)
    else [3]))

/-- MI_UNSUPPORTED_REQUEST (R282): Invalid Command Opcode. -/
def execMiUnsupportedRequest (_opcode : Nat) (s : State) : Host.Outcome State Fault Refusal := .next (s.mctpDo [3])

end Sys2Proof.Machine
end

