-- ==== Sys2Proof/Machine/Brl.lean ====
section
/-! DEFINITION. Twin configuration and the Branch Line (R353 to R377): link and packets, pairing and mirroring, heartbeat and silence, Tokens, takeover, steering,
forwarding as the owner, and hand-back. -/
namespace Sys2Proof.Machine

/-- The level of a Token net by which this chip holds it (R354): low at its home. -/
def State.tokenLevel (s : State) (b : Nat) : Bool := if b = 1 then s.fget F.GLB_CFG_SIDE == 0 else s.fget F.GLB_CFG_SIDE == 1
/-- The bit of a Token net (Table 17.8). -/
def TokenBit : TokenNet → Nat
  | .tokA => 0
  | .tokB => 1
  | .tokS => 2
/-- Set a bit of a number. -/
def withBit (n b : Nat) (v : Bool) : Nat := if v then n ||| 2 ^ b else if n.testBit b then n - 2 ^ b else n

/-- Silence ends (R361): movers and admission go on. -/
def State.silenceEnd (s : State) : State :=
  if s.flag F.BRL_STS_PSILENT then ((s.fsetB F.BRL_STS_PSILENT false).quiesce).anaUpdate else s

/-- The link falls (R364, R367): mirroring and the copy stop; a chip that does not hold the spindle shows STOPPED (R369). [assumptions 246 DEDUCED, 247 DEDUCED] -/
def State.linkFall (s : State) : State :=
  if !s.flag F.BRL_STS_LINK then s
  else
    let s := (s.fsetB F.BRL_STS_LINK false).fsetB F.BRL_STS_MIRSYNC false
    let s := s.brlMap (fun b => { b with waits := [], copyNext := none, lastRec := none })
    let s := if s.twin && !s.holdsSpindle then (s.fset F.SPC_STS_STATE SpcS.stopped).fsetB F.SPC_STS_INBAND false else s
    (((s.raiseEvent 116).raiseFault Blk.brl 0 1 2 0).quiesce).anaUpdate

/-- A frame arrives (R363): a valid one is taken in and ends silence; any other is discarded and counted, and the sender replays. [assumption 248 DEDUCED] -/
def State.onFrame (s : State) (f : FrameIn) (k : State → State) : State :=
  if !s.flag F.BRL_STS_LINK then s
  else if f.crcOk && (match s.brl.rxSeq with
    | none => true
    | some n => f.seq == n + 1) then k ((s.brlMap (fun b => { b with rxSeq := some f.seq })).silenceEnd)
  else s.count Rg.BRL_CRCERR_LO

/-- A packet with a transfer-ready handshake arrives (R364): its request is answered XRDY; the packet itself is taken in. [assumption 249 DEDUCED] -/
def State.onXrdy (s : State) (f : FrameIn) (k : State → State) : State :=
  s.onFrame f (fun s => if f.req then s.sendFrame f.tag.toNat false .xrdy else k s)

/-- INVALID_FRAME (R363). -/
def execInvalidFrame (f : FrameIn) (s : State) : Host.Outcome State Fault Refusal := .next (s.onFrame { f with crcOk := false } id)
/-- IDLE (R363). -/
def execIdle (f : FrameIn) (s : State) : Host.Outcome State Fault Refusal := .next (s.onFrame f id)
/-- FLTM (R363): the manual gives a received fault message no effect beyond the frame's. [assumption 254 DEDUCED] -/
def execFltm (f : FrameIn) (_msg : BitVec 64) (s : State) : Host.Outcome State Fault Refusal := .next (s.onFrame f id)
/-- FENCE_PACKET (R360): the partner has fenced; what follows is its silence (R361). -/
def execFencePacket (f : FrameIn) (s : State) : Host.Outcome State Fault Refusal := .next (s.onFrame f id)
/-- IDLE_TIMER (R363): nothing sent for 1 µs. -/
def execIdleTimer (s : State) : Host.Outcome State Fault Refusal := .next (s.sendPkt .idle)

/-- The page list and the region table as MDCOPY sends them (R368): 597 pages of 256 packets, then three packets of regions and one of journal areas; the set of a
hand-back is the copy in the mirror area. [assumption 252 DEDUCED] -/
def State.copyBytes (s : State) (set : Bool) (i : Nat) : List Byte :=
  let p := i / 256
  let off := 4096 * (i % 256)
  if set then s.bytes (s.mirBase + 0x100000 * p + off) 4096
  else if p < 597 then s.bytes (s.pageAddr p + off) 4096
  else if i % 256 < 3 then
    ((List.range 1024).map (fun w => leBytes 4 (s.rgnWord (i % 256 * 8 + w / 128) (w % 128 / 4) (w % 4)).toNat)).flatten
  else ((List.range 16).map (fun w => leBytes 4 (s.rd (Rg.STE_JAREA_W0 (w / 4) + 4 * (w % 4))).toNat)).flatten ++ List.replicate 4032 0

/-- Packets of a copy. -/
def copyLength (set : Bool) : Nat := if set then 597 * 256 else 597 * 256 + 4

/-- MIRSYNC becomes 1 (R368, MIRSYNC_SET). -/
def State.mirSync (s : State) : State :=
  if s.flag F.BRL_STS_MIRSYNC then s
  else ((s.fsetB F.BRL_STS_MIRSYNC true).raiseEvent 118).brlMap (fun b => { b with lastRec := none, synced := b.synced || s.flag F.BRL_STS_PAIRED })

/-- Records from `n` on are sent in JSEQ order; the TAG of the last (R368). -/
def State.sendRecords (s : State) : Nat → Nat → State
  | 0, _ => s
  | k + 1, n => ((s.brlMap (fun b => { b with lastRec := some b.nextTag })).sendPkt (.jrec (s.ringRecord n))).sendRecords k (n + 1)

/-- Every record written since the copy began goes out; with none left the mirror is in step. [assumption 252 DEDUCED] -/
def State.copyRecords (s : State) : State :=
  let n := s.brl.copySeq
  if s.vault.jseq ≤ n then s.mirSync
  else (s.brlMap (fun b => { b with copySeq := s.vault.jseq })).sendRecords (s.vault.jseq - n) n

/-- The next packet of the copy (R368), one at a time; after the last, the records, or a hand-back's next stage. [assumption 252 DEDUCED] -/
def State.copyStep (s : State) : State :=
  match s.brl.copyNext with
  | none => s
  | some i =>
    if i < copyLength s.brl.copySet then
      (s.brlMap (fun b => { b with copyNext := some (i + 1) })).sendPkt (.mdcopy (i / 256) (4096 * (i % 256)) (s.copyBytes s.brl.copySet i))
    else
      let s := s.brlMap (fun b => { b with copyNext := none })
      if s.brl.copySet then s else s.copyRecords

/-- A copy begins: the metadata (R368), or the carried set at a hand-back (R375). -/
def State.copyStart (s : State) (set : Bool) : State :=
  (s.brlMap (fun b => { b with copyNext := some 0, copySet := set, copySeq := s.vault.jseq, lastRec := none })).copyStep

/-- Whether the mirror area is acceptable (R368): 1 GiB inside the DDR5 read-write area, clear of ZNE's metadata and of CQE's staging. -/
def State.mirrorGood (s : State) : Bool :=
  let a := s.mirBase
  let n := 0x40000000
  let cs := s.fget F.CQE_CSTAGE_BLK * 0x1000000
  let cn := max 1 (s.fget F.CQE_CSTAGE_SIZE) * 0x1000000
  s.inDdrRw a n && !(decide (a < s.mdBase + 0x1000000) && decide (s.mdBase < a + n)) && !(decide (a < cs + cn) && decide (cs < a + n))

/-- Hand-back is accepted (R375): two Interlocking entries over the partner's namespaces, whose groups become Change. -/
def State.handBackStart (s : State) : State :=
  if s.flag F.BRL_STS_CARRY && s.flag F.BRL_STS_PAIRED && s.held.testBit s.partToken && !s.flag F.BRL_STS_HBACK then
    let s := ((s.fsetB F.BRL_STS_HBACK true).brlMap (fun b => { b with handBack := .locks })).anaUpdate
    (s.ilRequest ⟨5, 0, true, 0, 0⟩).ilRequest ⟨5, 1, true, 0, 0⟩
  else s

/-- A write of BRL_CTL (R360, R363, R368, R375, R377). -/
def State.brlCtlWrite (s : State) (v : Word) : State :=
  let s := if F.BRL_CTL_CLRCNT.on v then ((s.clearCount Rg.BRL_LATE_CPL_LO).clearCount Rg.BRL_CRCERR_LO).clearCount Rg.BRL_XRDYTO_LO else s
  let s := if F.BRL_CTL_EN.on v && !s.flag F.BRL_CTL_EN then
      (if s.mirrorGood then s.fsetB F.BRL_CTL_EN true else (s.fsetB F.BRL_STS_CFGERR true).fset F.BRL_STS_CODE 1)
    else s
  let s := if F.BRL_CTL_HANDBACK.on v then s.handBackStart else s
  if F.BRL_CTL_FENCE.on v then s.fence else s

/-- BRANCH_LINE_ENABLE: EN = 1. -/
def execBranchLineEnable (v : Word) (s : State) : Host.Outcome State Fault Refusal := .next (s.brlCtlWrite (setBits v 0 1 1))
/-- FENCE: FENCE = 1 (R360). -/
def execFence (v : Word) (s : State) : Host.Outcome State Fault Refusal := .next (s.brlCtlWrite (setBits v 1 1 1))
/-- HAND_BACK: HANDBACK = 1 (R375). -/
def execHandBack (v : Word) (s : State) : Host.Outcome State Fault Refusal := .next (s.brlCtlWrite (setBits v 2 1 1))
/-- BRL_COUNTER_CLEAR: CLRCNT = 1 (R377). -/
def execBrlCounterClear (v : Word) (s : State) : Host.Outcome State Fault Refusal := .next (s.brlCtlWrite (setBits v 3 1 1))

/-- LINK_TRAINED (R363): LINK, the measured delay, and HELLO. -/
def linkTrainedOp (delay : Nat) (s : State) : State :=
  if s.flag F.BRL_CTL_EN && !s.flag F.BRL_STS_LINK && !s.flag F.BRL_STS_FENCED then
    let s := (((s.fsetB F.BRL_STS_LINK true).fset F.BRL_DELAY_NS delay).raiseEvent 116).brlMap (fun b => { b with rxSeq := none })
    ((s.sendPkt (.hello (s.rd Rg.BRL_TWINID) (s.flag F.GLB_CFG_SIDE) (s.rd Rg.GLB_ID) (BitVec.ofNat 32 s.core.imgRev))).quiesce).anaUpdate
  else s

/-- LINK_TRAINED. -/
def execLinkTrained (delay : Nat) (s : State) : Host.Outcome State Fault Refusal := .next (linkTrainedOp delay s)

/-- BRANCH_LINE_LINK_LOSS (R361, R367): the link alone is lost. [assumption 246 DEDUCED] -/
def branchLineLinkLossOp (s : State) : State :=
  if s.flag F.BRL_STS_LINK then s.linkFall.raiseFault Blk.brl 0 3 2 0 else s

/-- BRANCH_LINE_LINK_LOSS. -/
def execBranchLineLinkLoss (s : State) : Host.Outcome State Fault Refusal := .next (branchLineLinkLossOp s)

/-- HELLO (R47, R368): the chips pair, or pairing is refused; a first pairing in this start settles whose revolution field is adopted, and the copy begins. [assumptions 247 DEDUCED, 251 DEDUCED] -/
def helloOp (id : Word) (side : Bool) (angle : Angle) (s : State) : State :=
  let refuse := fun (c : Nat) => (s.fset F.BRL_STS_CODE c).raiseFault Blk.brl 0 9 3 0
  if id ≠ s.rd Rg.BRL_TWINID then refuse 2
  else if side = s.flag F.GLB_CFG_SIDE then refuse 3
  else
    let behind := decide (s.ttb.angle.toNat < angle.toNat)
    let d := revOf angle - revOf s.ttb.angle
    let s := if s.ttb.paired then s
      else { s with ttb := { s.ttb with paired := true, adopt := if behind && d != 0 then some (BitVec.ofNat 39 d) else none } }
    let s := ((s.fsetB F.BRL_STS_PAIRED true).fset F.BRL_STS_CODE 0).anaUpdate
    if s.flag F.BRL_STS_CARRY || s.homeLost then s else s.copyStart false

/-- HELLO. -/
def execHello (f : FrameIn) (id : Word) (side : Bool) (_glbId _imgRev : Word) (angle : Angle) (s : State) : Host.Outcome State Fault Refusal :=
  .next (s.onFrame f (helloOp id side angle))

/-- SYNC_SEND (R46, R369): at each revolution index the holder of TOKEN_S, the reference chip, sends SYNC and SPST. -/
def execSyncSend (s : State) : Host.Outcome State Fault Refusal :=
  .next (if s.twin && s.holdsSpindle then (s.sendPkt (.sync s.ttb.angle)).sendSpst else s)

/-- SYNC (R31, R46, R365): the follower's stamp less the delay, against the packet's angle at compare resolution; 16 in the window set TWINSYNC, 8 that are not clear it, by their own
commands. [assumption 250 DEDUCED] -/
def syncOp (angle stamp : Angle) (s : State) : State :=
  if s.holdsSpindle then s
  else
    let late := s.fget F.BRL_DELAY_NS * 4 * s.fget F.TTB_INC_INC / (5 * 2 ^ 28)
    let near := fun (a b : Angle) => sext 32 (lowBits 32 (angleDiff a b))
    let d := near (stamp - BitVec.ofNat 64 late) angle
    let c := near ((stamp - BitVec.ofNat 64 late) &&& ~~~ 15) (angle &&& ~~~ 15)
    let good := decide (-0x400 ≤ c) && decide (c < 0x400)
    let s := { s with ttb := { s.ttb with syncRun := if good then s.ttb.syncRun + 1 else 0, syncMiss := if good then 0 else s.ttb.syncMiss + 1 } }
    let inc := s.fget F.TTB_INC_INC
    if inc = 0 then s
    else (s.sset F.TTB_TWERR_ERR (clampI (d * 5 * 2 ^ 28 / inc + (Config.roundUp s.freeCtr).toNat) (-32768) 32767)).tick

/-- SYNC. -/
def execSync (f : FrameIn) (angle stamp : Angle) (s : State) : Host.Outcome State Fault Refusal := .next (s.onFrame f (syncOp angle stamp))

/-- SPST (R369): the holder takes the partner's request, ceiling and parked state; any other chip shows the holder's state, speed and observer loss (R66). [assumption 253 DEDUCED] -/
def spstOp (sts speed : Word) (target ceil : Nat) (parked : Bool) (s : State) : State :=
  if !s.twin then s
  else
    let s := s.brlMap (fun b => { b with partParked := parked })
    if s.holdsSpindle then
      ((s.brlMap (fun b => { b with partTarget := some target, partCeil := ceil })).spcParked).targetSet
        (s.brlMap (fun b => { b with partTarget := some target, partCeil := ceil })).sharedTarget
    else
      let s := ((s.fset F.SPC_STS_STATE (F.SPC_STS_STATE.of sts)).fset F.SPC_STS_INBAND (F.SPC_STS_INBAND.of sts)).fset F.SPC_STS_OBSLOSS (F.SPC_STS_OBSLOSS.of sts)
      ((s.wr Rg.SPC_SPEED speed).inhUpdate).ttbRate

/-- SPST. -/
def execSpst (f : FrameIn) (sts speed : Word) (target ceil : Nat) (parked : Bool) (s : State) : Host.Outcome State Fault Refusal :=
  .next (s.onFrame f (spstOp sts speed target ceil parked))

/-- JREC (R367): the record is applied to the copy of the partner's metadata and acknowledged. -/
def jrecOp (tag : Word) (bytes : List Byte) (s : State) : State :=
  let fl := (bytes.getD 9 0) ||| 8
  (s.applyRecord (bytes.take 9 ++ fl :: bytes.drop 10)).sendFrame tag.toNat false .ack

/-- JREC. -/
def execJrec (f : FrameIn) (bytes : List Byte) (s : State) : Host.Outcome State Fault Refusal := .next (s.onFrame f (jrecOp f.tag bytes))

/-- WIN (R367): the block is stored in the window mirror and acknowledged. -/
def winOp (tag : Word) (lba nsid stamp : Nat) (bytes : List Byte) (s : State) : State :=
  let b : WinBlk := { nsid := nsid, lba := lba, stamp := stamp, poison := false, early := true, media := false, done := false, data := bytes.take 4096, prot := bytes.drop 4096 }
  (s.brlMap (fun x => { x with winMirror := x.winMirror.filter (fun y => !(y.nsid == nsid && y.lba == lba && decide (y.stamp ≤ stamp))) ++ [b] })).sendFrame tag.toNat false .ack

/-- WIN. -/
def execWin (f : FrameIn) (lba nsid stamp : Nat) (bytes : List Byte) (s : State) : Host.Outcome State Fault Refusal :=
  .next (s.onXrdy f (winOp f.tag lba nsid stamp bytes))

/-- WREL (R367): blocks leave the window mirror. -/
def execWrel (f : FrameIn) (blocks : List BlockId) (s : State) : Host.Outcome State Fault Refusal :=
  .next (s.onFrame f (fun s => s.brlMap (fun x => { x with winMirror := x.winMirror.filter (fun y => !blocks.contains ⟨y.nsid, y.lba⟩) })))

/-- MDCOPY (R368, R375): into the mirror area; while the partner holds this chip's home actuator Token, the pages are its own set coming back, and the checkpoint on its
journal areas holds the same. [assumption 259 DEDUCED] -/
def mdcopyOp (page off : Nat) (bytes : List Byte) (s : State) : State :=
  if 597 < page ∨ 0x100000 < off + bytes.length then s
  else if s.homeLost then
    (if page < 597 then
      let s := s.setBytes (s.pageAddr page + off) bytes
      let s := s.vaultMap (fun v => { v with cpCells := s.metaCells, cpSeq := v.jseq })
      (s.brlMap (fun b => { b with setBack := true })).steMap (fun x => { x with cpPend := true })
    else s)
  else s.setBytes (s.mirBase + 0x100000 * page + off) bytes

/-- MDCOPY. -/
def execMdcopy (f : FrameIn) (page off : Nat) (bytes : List Byte) (s : State) : Host.Outcome State Fault Refusal := .next (s.onXrdy f (mdcopyOp page off bytes))

/-- A late answer (R364): discarded, counted, and its notice. -/
def State.lateAnswer (s : State) (tag : Nat) : State :=
  if s.brl.late.contains tag then
    ((s.brlMap (fun b => { b with late := b.late.erase tag })).count Rg.BRL_LATE_CPL_LO).raiseFault Blk.brl 0 5 0 tag
  else s

/-- XRDY (R364): the full packet goes; one that is acknowledged then waits for its ACK, and a copy goes on. -/
def xrdyOp (tag : Nat) (s : State) : State :=
  match s.brl.waits.find? (fun w => w.tag == tag && !w.ack) with
  | none => s.lateAnswer tag
  | some w =>
    let s := (s.brlMap (fun b => { b with waits := b.waits.filter (fun x => x.tag != tag) ++ (if w.pkt.wantsAck then [{ w with ack := true, again := false }] else []) })).sendFrame tag false w.pkt
    match w.pkt with
    | .mdcopy .. => s.copyStep
    | _ => s

/-- XRDY. -/
def execXrdy (f : FrameIn) (s : State) : Host.Outcome State Fault Refusal := .next (s.onFrame f (xrdyOp f.tag.toNat))

/-- ACK (R364, R367, R368): a record's, which may bring the mirror into step, or a window block's, which may let its write complete. [assumption 240 DEDUCED] -/
def ackOp (tag : Nat) (s : State) : State :=
  match s.brl.waits.find? (fun w => w.tag == tag && w.ack) with
  | none => s.lateAnswer tag
  | some w =>
    let s := s.brlMap (fun b => { b with waits := b.waits.filter (fun x => x.tag != tag) })
    match w.pkt with
    | .jrec _ => if s.brl.lastRec = some tag then s.copyRecords else s
    | .win _ _ stamp _ => (s.slotMap stamp (fun x => { x with wins := x.wins - 1 })).earlyTry stamp
    | _ => s

/-- ACK. -/
def execAck (f : FrameIn) (s : State) : Host.Outcome State Fault Refusal := .next (s.onFrame f (ackOp f.tag.toNat))

/-- HANDSHAKE_TIMEOUT (R364): the request is sent once more; a second expiry takes the link down. -/
def handshakeTimeoutOp (tag : Nat) (s : State) : State :=
  match s.brl.waits.find? (fun w => w.tag == tag) with
  | none => s
  | some w =>
    let s := s.count Rg.BRL_XRDYTO_LO
    if w.again then
      let s := (s.linkFall).brlMap (fun b => { b with late := b.late ++ [tag] })
      s.raiseFault Blk.brl 0 4 3 tag
    else
      (s.brlMap (fun b => { b with waits := b.waits.map (fun x => if x.tag = tag then { x with again := true } else x) })).sendFrame tag (!w.ack) w.pkt

/-- HANDSHAKE_TIMEOUT. -/
def execHandshakeTimeout (tag : Nat) (s : State) : Host.Outcome State Fault Refusal := .next (handshakeTimeoutOp tag s)

/-- The queue number that marks a forwarded command on its owner. -/
def ownerQid (h : CmdHdr) : CmdHdr := { h with qid := h.qid + 65536 }

/-- Data of forwarded writes that is whole goes to its slot, once ZNE has placed the write (R371). -/
def State.dataTry (s : State) : State :=
  s.brl.dataIn.foldl (fun s p =>
    match s.cqe.slots.find? (fun x => decide (65536 ≤ x.cmd.hdr.qid) && x.cmd.hdr.cid == p.1) with
    | some x =>
      if x.applied && !x.dataIn && x.cmd.kind.isData && decide (x.cmd.kind.count * 4112 ≤ p.2.length) then
        let bs := (List.range x.cmd.kind.count).map (fun i => (p.2.drop (4112 * i)).take 4112)
        (s.brlMap (fun b => { b with dataIn := b.dataIn.filter (fun q => q.1 != p.1) })).dataArrived x.stamp bs
      else s
    | none => s) s

/-- FWD (R371): the owner admits and stamps the command, or answers with its status; admin commands of its namespaces take effect. -/
def fwdOp (e : FwdEntry) (s : State) : State :=
  let h := ownerQid e.hdr
  match e.kind with
  | .io k =>
    if s.cqe.stopped || !s.flag F.CQE_STS_RUN || s.anaState false != 0 then s.complete h St.anaInaccessible
    else if (k.isData || (match k with | .read .. => true | _ => false)) && s.nsLocked h.nsid then s.complete h St.denied
    else s.admitCmd ⟨h, k⟩
  | .format l p v => match s.ownNs h.nsid with
    | some n => let (s, st) := s.formatOp n h.nsid l p v; s.complete h st
    | none => s.complete h St.namespace
  | .sanitize => (s.cryptoErase [0, 1] false).complete h 0
  | .authenticate ok => let (s, st) := s.authOp h.nsid ok; s.complete h st
  | .setCredential o n => let (s, st) := s.credOp h.nsid o n; s.complete h st
  | .lock => let (s, st) := s.lockOp h.nsid; s.complete h st
  | .status => s.complete h 0 0 s.secBytes

/-- FWD. -/
def execFwd (f : FrameIn) (e : FwdEntry) (s : State) : Host.Outcome State Fault Refusal := .next (s.onFrame f (fwdOp e))

/-- FDATA (R371): on the owner, data of a forwarded write; on the arrival chip (65,536 added to the slot), data of a forwarded read. -/
def fdataOp (cid : Nat) (bytes : List Byte) (s : State) : State :=
  if 65536 ≤ cid then
    s.brlMap (fun b => { b with fwds := b.fwds.map (fun u => if u.slot = cid - 65536 then { u with data := u.data ++ bytes } else u) })
  else
    (s.brlMap (fun b => { b with dataIn := put (fun _ => []) cid (look (fun _ => []) cid b.dataIn ++ bytes) b.dataIn })).dataTry

/-- FDATA. -/
def execFdata (f : FrameIn) (cid : Nat) (bytes : List Byte) (s : State) : Host.Outcome State Fault Refusal := .next (s.onXrdy f (fdataOp cid bytes))

/-- FCPL (R371): the arrival chip posts the completion; after a reset it is discarded. -/
def fcplOp (cid status dw0 : Nat) (s : State) : State :=
  if s.brl.dropped.contains cid then s.brlMap (fun b => { b with dropped := b.dropped.erase cid })
  else match s.brl.fwds.find? (fun u => u.slot == cid) with
    | some u => (s.brlMap (fun b => { b with fwds := b.fwds.filter (fun v => v.slot != cid) })).complete u.hdr status dw0 u.data
    | none => s

/-- FCPL. -/
def execFcpl (f : FrameIn) (cid status dw0 : Nat) (s : State) : Host.Outcome State Fault Refusal := .next (s.onFrame f (fcplOp cid status dw0))

/-- FCTL (R371): an abort answered under R252, or Table 11.3 for a controller's forwarded commands. -/
def fctlOp (n : FwdNotice) (s : State) : State :=
  match n with
  | .abort _ cid =>
    match s.cqe.slots.find? (fun x => decide (65536 ≤ x.cmd.hdr.qid) && x.cmd.hdr.cid == cid) with
    | some x => (match x.cmd.kind with
      | .read .. => if s.readUnsent x.stamp then (s.cancelReads x.stamp).finish x St.aborted else s
      | _ => s)
    | none => s
  | .controllerReset p => s.resetSlots (fun x => x.cmd.hdr.port == p && decide (65536 ≤ x.cmd.hdr.qid))

/-- FCTL. -/
def execFctl (f : FrameIn) (n : FwdNotice) (s : State) : Host.Outcome State Fault Refusal := .next (s.onFrame f (fctlOp n))

/-- A write of BRL_HBKICK (R359). -/
def State.kickWrite (s : State) (v : Word) : State := if F.BRL_HBKICK_KICK.on v then s.brlMap (fun b => { b with kicked := true }) else s
/-- HEARTBEAT_KICK. -/
def execHeartbeatKick (v : Word) (s : State) : Host.Outcome State Fault Refusal := .next (s.kickWrite (setBits v 0 1 1))

/-- HEARTBEAT_TOGGLE (R359): HBO toggles while its conditions hold; two toggles in a row whose pad reads otherwise lose the own heartbeat (R360). -/
def heartbeatToggleOp (padLevel : Bool) (s : State) : State :=
  if s.twin && s.flag F.BRL_CTL_EN && !s.flag F.BRL_STS_FENCED && s.brl.kicked then
    let s := s.brlMap (fun b => { b with hbo := !b.hbo, hbBad := if padLevel = !b.hbo then 0 else b.hbBad + 1 })
    if 2 ≤ s.brl.hbBad then s.fence else s
  else s

/-- HEARTBEAT_TOGGLE. -/
def execHeartbeatToggle (padLevel : Bool) (s : State) : Host.Outcome State Fault Refusal := .next (heartbeatToggleOp padLevel s)

/-- KICK_EXPIRY (R360). [assumption 244 DEDUCED] -/
def kickExpiryOp (s : State) : State :=
  if s.twin && s.flag F.BRL_CTL_EN then ((s.brlMap (fun b => { b with kicked := false })).fence) else s

/-- KICK_EXPIRY. -/
def execKickExpiry (s : State) : Host.Outcome State Fault Refusal := .next (kickExpiryOp s)

/-- HEARTBEAT_EDGE (R361). -/
def execHeartbeatEdge (s : State) : Host.Outcome State Fault Refusal := .next (if s.twin then (s.fsetB F.BRL_STS_HBLOSS false).silenceEnd else s)

/-- PARTNER_HEARTBEAT_LOSS (R361): the heartbeat alone is lost. -/
def partnerHeartbeatLossOp (s : State) : State :=
  if s.twin && s.flag F.BRL_CTL_EN && s.flag F.BRL_STS_LINK && !s.flag F.BRL_STS_HBLOSS then (s.fsetB F.BRL_STS_HBLOSS true).raiseFault Blk.brl 0 3 2 0 else s

/-- PARTNER_HEARTBEAT_LOSS. -/
def execPartnerHeartbeatLoss (s : State) : Host.Outcome State Fault Refusal := .next (partnerHeartbeatLossOp s)

/-- PARTNER_SILENT (R361): no edge and no valid frame for HBMISS × HBPER; a junior chip unloads. -/
def partnerSilentOp (s : State) : State :=
  if s.twin && s.flag F.BRL_CTL_EN && !s.flag F.BRL_STS_FENCED && !s.flag F.BRL_STS_PSILENT then
    let s := ((s.fsetB F.BRL_STS_PSILENT true).fsetB F.BRL_STS_HBLOSS true).raiseEvent 117
    let s := ((s.raiseFault Blk.brl 0 2 2 0).quiesce).anaUpdate
    if s.flag F.BRL_STS_SENIOR then s else (s.unloadIfMay .zero).unloadIfMay .one
  else s

/-- PARTNER_SILENT. -/
def execPartnerSilent (s : State) : Host.Outcome State Fault Refusal := .next (partnerSilentOp s)

/-- GUARD_EXPIRY (R358, R366): the silence unbroken, a senior chip drives the partner's actuator Token, a junior one that and TOKEN_S. -/
def guardExpiryOp (s : State) : State :=
  if s.twin && s.flag F.BRL_STS_PSILENT && !s.flag F.BRL_STS_FENCED && s.brl.synced && !s.flag F.BRL_STS_CARRY && !s.brl.tokWait then
    let d := withBit (s.fget F.BRL_TKSTS_DRIVE) s.partToken true
    let d := if s.flag F.BRL_STS_SENIOR then d else withBit d 2 true
    ((s.fset F.BRL_TKSTS_DRIVE d).brlMap (fun b => { b with tokWait := true })).anaUpdate
  else s

/-- GUARD_EXPIRY. -/
def execGuardExpiry (s : State) : Host.Outcome State Fault Refusal := .next (guardExpiryOp s)

/-- TOKEN_NET_CHANGE (R354): a net's level; the hold and the loss come with their own commands. -/
def execTokenNetChange (net : TokenNet) (level : Bool) (s : State) : Host.Outcome State Fault Refusal :=
  .next (s.fset F.BRL_TKSTS_LEVEL (withBit (s.fget F.BRL_TKSTS_LEVEL) (TokenBit net) level))

/-- What rebuilding ZNE's hidden tables does for the partner set from the mirror copy (R372), as after a replay. -/
def State.rebuildPartner (s : State) : State :=
  let lo := s.mirBase + 8 * 0x100000
  let l := (s.mem.filter (fun c => decide (lo ≤ c.1) && decide (c.1 < lo + 576 * 0x100000))).map (fun c => (c.1 - lo) / 4 + zoneSetBase * 288)
  let keys := (l.foldl (fun acc k => if acc.head? = some k then acc else k :: acc) []).reverse
  let s := keys.foldl (fun s key =>
    let e := s.entry (key / 288) (key % 288)
    if entryState e = 1 then s.liveSlot (entrySurf e + 24) (entrySlot e) (key / 288) (key % 288) else s) s
  (s.members zoneSetBase).foldl (fun s i =>
    match (List.range (bandSum (s.regions i))).find? (fun b => s.bandState i b == 1) with
    | some b =>
      let used := match regionOfBand (s.regions i) b with
        | some g => ((s.zne.owners.filter (fun p => p.1 / 2 ^ 23 == i && decide (g.slot0 + (b - g.band0) * g.spb ≤ p.1 % 2 ^ 23) &&
            decide (p.1 % 2 ^ 23 < g.slot0 + (b - g.band0 + 1) * g.spb))).map (fun p => p.1 % 2 ^ 23 + 1 - (g.slot0 + (b - g.band0) * g.spb))).foldl max 0
        | none => 0
      s.zneMap (fun z => { z with openBand := insertKey i b (dropKey i z.openBand), fill := put (fun _ => 0) i used z.fill })
    | none => s) s

/-- The partner's zones. -/
def State.partnerZones (s : State) : List Nat := s.zones.map (fun z => z + zoneSetBase)

/-- The chip carries the partner set (R372): layout from the mirror copy, the window mirror as window blocks, write pointers, admission for all namespaces without
mirroring, and the event.  Commands still forwarded to the lost partner end Inaccessible. [assumptions 256 DEDUCED, 257 DEDUCED] -/
def State.carryStart (s : State) : State :=
  let s := (s.fsetB F.BRL_STS_CARRY true).fsetB F.BRL_STS_MIRSYNC false
  let blks := s.brl.winMirror.map (fun b => { b with stamp := 0 })
  let s := s.cqeMap (fun c => { c with buffer := c.buffer ++ blks })
  let s := s.brlMap (fun b => { b with winMirror := [], tokWait := false, firstPartner := true, copyNext := none, waits := [] })
  let s := (s.partnerZones.foldl (fun s z => s.restoreWp z) s).rebuildPartner
  let zs := s.zones ++ s.partnerZones
  let s := (s.fset F.ZNE_CNT_NOPEN (zs.filter (fun z => (s.zdesc z).isOpen)).length).fset F.ZNE_CNT_NACTIVE (zs.filter (fun z => (s.zdesc z).isActive)).length
  let gone := s.brl.fwds
  let s := s.brlMap (fun b => { b with fwds := [] })
  let s := gone.foldl (fun s u => s.complete u.hdr St.anaInaccessible) s
  (((s.winUpdate).quiesce).raiseFault Blk.brl 0 6 2 0).raiseEvent 119 |>.anaUpdate

/-- TOKEN_GAINED (R354, R355, R372): a net has stood at this chip's level for 10 µs. [assumption 241 DEDUCED] -/
def tokenGainedOp (net : TokenNet) (s : State) : State :=
  let b := TokenBit net
  if !s.twin || (s.fget F.BRL_TKSTS_LEVEL).testBit b != s.tokenLevel b || s.held.testBit b then s
  else
    let s := s.fset F.BRL_TKSTS_HELD (withBit (s.fget F.BRL_TKSTS_HELD) b true)
    if b = 2 then
      let s := (((s.fsetB F.BRL_STS_SENIOR true).fsetB F.TTB_STS_TWINSYNC true).inhUpdate).henUpdate
      if s.brl.tokWait && s.held.testBit s.partToken then s.carryStart else s
    else if b = s.ownToken then
      let s := (s.brlMap (fun x => { x with firstOwn := true })).permBoth
      if s.flag F.BRL_STS_PAIRED && !s.flag F.BRL_STS_MIRSYNC then s.copyStart false else s
    else if s.brl.tokWait && (s.fget F.BRL_TKSTS_DRIVE).testBit 2 && !s.held.testBit 2 then s
    else s.carryStart

/-- TOKEN_GAINED. -/
def execTokenGained (net : TokenNet) (s : State) : Host.Outcome State Fault Refusal := .next (tokenGainedOp net s)

/-- A port whose Token is lost (R355): gate and assist off, SAC in PARKED with both DACs at 0; a Buffer Stop acts on it no more. -/
def State.portLost (s : State) (a : Act) : State :=
  let s := ((s.forceOff a).fsetB (F.SAC_STS_BSACT a) false).sacSet a { s.forceOff a |>.sacOf a with bstop := .idle, unload := .idle }
  (s.sacEnter a SacS.parked).dac a 0 0

/-- TOKEN_LOST (R354, R355, R360): the net has stood at the other level for 1 µs; other than after a hand-back the chip fences. [assumption 241 DEDUCED] -/
def tokenLostOp (net : TokenNet) (s : State) : State :=
  let b := TokenBit net
  if !s.twin || (s.fget F.BRL_TKSTS_LEVEL).testBit b = s.tokenLevel b || !s.held.testBit b then s
  else
    let using_ := b != 2 && b == (if s.flag F.BRL_STEER_SET then s.partToken else s.ownToken)
    let given := b == s.partToken && !(s.fget F.BRL_TKSTS_DRIVE).testBit b
    let s := s.fset F.BRL_TKSTS_HELD (withBit (s.fget F.BRL_TKSTS_HELD) b false)
    let s := if using_ then (s.portLost .zero).portLost .one else s
    let s := if b = 2 then
        let s := ((s.spcEnter SpcS.stopped).bridgeSet .gatesLow).fsetB F.BRL_STS_SENIOR false
        ({ s with ttb := { s.ttb with syncRun := 0, syncMiss := 0 } }).fsetB F.TTB_STS_TWINSYNC false |>.inhUpdate
      else s
    let s := s.raiseEvent 120
    if given then s else s.fence

/-- TOKEN_LOST. -/
def execTokenLost (net : TokenNet) (s : State) : Host.Outcome State Fault Refusal := .next (tokenLostOp net s)

/-- TOKEN_WAIT_EXPIRY (R357): 1 ms without the hold condition: nets not held are no longer driven, and the takeover is abandoned. [assumption 243 DEDUCED] -/
def tokenWaitExpiryOp (s : State) : State :=
  if s.brl.tokWait then
    let s := (s.fset F.BRL_TKSTS_DRIVE (s.fget F.BRL_TKSTS_DRIVE &&& s.fget F.BRL_TKSTS_HELD)).brlMap (fun b => { b with tokWait := false })
    (s.raiseFault Blk.brl 0 7 3 0).anaUpdate
  else s

/-- TOKEN_WAIT_EXPIRY. -/
def execTokenWaitExpiry (s : State) : Host.Outcome State Fault Refusal := .next (tokenWaitExpiryOp s)

/-- A write of BRL_STEER (R373): REJ is cleared by 1; a change of SET is accepted under the three conditions and switches both ports; the first steering to a pair since
its Token was gained runs the retract. [assumption 258 DEDUCED] -/
def State.steerWrite (s : State) (v : Word) : State :=
  let s := if F.BRL_STEER_REJ.on v then s.fsetB F.BRL_STEER_REJ false else s
  let set := F.BRL_STEER_SET.on v
  if set = s.flag F.BRL_STEER_SET then s
  else
    let ok := s.twin && s.held.testBit s.partToken && s.sacIn .zero SacS.parked && s.sacIn .one SacS.parked && (s.msqOf .zero).cur.isNone && (s.msqOf .one).cur.isNone
    if !ok then s.fsetB F.BRL_STEER_REJ true
    else
      let first := if set then s.brl.firstPartner else s.brl.firstOwn
      let s := (s.fsetB F.BRL_STEER_SET set).fsetB F.BRL_STEER_BUSY true
      if first then (s.sacEnter .zero SacS.unload).sacEnter .one SacS.unload else s

/-- STEER. -/
def execSteer (v : Word) (s : State) : Host.Outcome State Fault Refusal := .next (s.steerWrite v)

/-- Accumulators of the partner's OPEN and SEALED stripes are rebuilt when its pair is first steered in (R223, R372): from the committed chunks as read and the window. -/
def State.partnerAccs (s : State) (reads : List SectorRead) : State :=
  let s := (s.brlMap (fun b => { b with firstPartner := false })).rebuildAccs (reads.map (fun r => { r with zone := r.zone % zoneSetBase + zoneSetBase }))
  (s.cqe.buffer.filter (fun b => b.early && b.stamp == 0 && b.nsid == s.zonedNsid true)).foldl
    (fun s b => s.stripeAdd (b.lba / 65536 + zoneSetBase) (b.lba % 65536) b.info b.poison) s

/-- STEERING_DONE (R373): the settle or the retract ends; operations that waited for the pair go. [assumption 258 DEDUCED] -/
def steeringDoneOp (reads : List SectorRead) (s : State) : State :=
  if !s.flag F.BRL_STEER_BUSY then s
  else
    let set := s.flag F.BRL_STEER_SET
    let s := (s.fsetB F.BRL_STEER_BUSY false).raiseEvent 121
    let park := fun (s : State) (a : Act) => if s.sacIn a SacS.unload then s.sacEnter a SacS.parked else s
    let s := park (park s .zero) .one
    let s := if set && s.brl.firstPartner then s.partnerAccs reads else if set then s else s.brlMap (fun b => { b with firstOwn := false })
    ((List.range 48).foldl (fun s i => s.sendNext i) s).permBoth

/-- STEERING_DONE. -/
def execSteeringDone (reads : List SectorRead) (s : State) : Host.Outcome State Fault Refusal := .next (steeringDoneOp reads s)

/-- The partner set is the chip's no more (R375): what ZNE and STE keep of it goes, and the zone counts are the own set's. [assumption 259 DEDUCED] -/
def State.dropSet (s : State) : State :=
  let s := s.zneMap (fun z => { z with
    openBand := z.openBand.filter (fun p => decide (p.1 < 24)), fill := z.fill.filter (fun p => decide (p.1 < 24))
    live := z.live.filter (fun p => decide (p.1 < 24 * 65536)), owners := z.owners.filter (fun p => decide (p.1 < 24 * 2 ^ 23))
    freeSoon := z.freeSoon.filter (fun k => decide (k < 24 * 65536)), places := z.places.filter (fun p => decide (p.1 < 288 * zoneSetBase)) })
  let s := s.steMap (fun x => { x with accs := x.accs.filter (fun a => !partnerZone a.zone), unrec := x.unrec.filter (fun u => !partnerZone u.zone) })
  (s.fset F.ZNE_CNT_NOPEN (s.zones.filter (fun z => (s.zdesc z).isOpen)).length).fset F.ZNE_CNT_NACTIVE (s.zones.filter (fun z => (s.zdesc z).isActive)).length

/-- The hand-back goes on as far as State allows (R375): both entries HELD, the set's window on media, a checkpoint, the copy, the pair parked and SET = 0, the Token
released. [assumption 259 DEDUCED] -/
def State.handStep (s : State) : Nat → State
  | 0 => s
  | n + 1 => match s.brl.handBack with
    | .idle => s
    | .locks =>
      if (s.cqe.il.filter (fun e => e.req.owner == 5 && e.req.part && e.held)).length < 2 then s
      else (s.brlMap (fun b => { b with handBack := .commit })).handStep n
    | .commit =>
      if s.cqe.buffer.any (fun b => b.early && s.isPartner b.nsid) then s
      else ((s.brlMap (fun b => { b with handBack := .checkpoint })).steMap (fun x => { x with cpPend := s.flag F.STE_STS_RUN })).handStep n
    | .checkpoint =>
      if s.ste.cpPend || s.ste.cp.isSome then s else ((s.brlMap (fun b => { b with handBack := .copy })).copyStart true).handStep n
    | .copy => if s.brl.copyNext.isSome then s else (s.brlMap (fun b => { b with handBack := .park })).handStep n
    | .park =>
      if s.flag F.BRL_STEER_SET && !s.bothParked then (s.unloadIfMay .zero).unloadIfMay .one
      else
        let s := (s.fsetB F.BRL_STEER_SET false).fset F.BRL_TKSTS_DRIVE (withBit (s.fget F.BRL_TKSTS_DRIVE) s.partToken false)
        let ids := (s.cqe.il.filter (fun e => e.req.owner == 5)).map (fun e => e.index)
        let s := ids.foldl (fun s i => interlockReleaseOp i s) s
        let s := (s.fsetB F.BRL_STS_HBACK false).fsetB F.BRL_STS_CARRY false
        let s := (s.brlMap (fun b => { b with handBack := .idle, copySet := false })).dropSet
        (((s.raiseEvent 122).quiesce).anaUpdate).copyStart false

/-- HAND_BACK_END. -/
def execHandBackEnd (s : State) : Host.Outcome State Fault Refusal := .next (s.handStep 8)

end Sys2Proof.Machine
end

