-- ==== Sys2Proof/Machine/Glb.lean ====
section
/-! DEFINITION. What belongs to no single block: the resets of the device (R6, R9, R24, R307, R379), the start (R336 to R340, Table 16.4), the configuration
lock (R22), and boundary scan (R386). -/
namespace Sys2Proof.Machine

/-- The registers of the always-on domain (R9, R171, R306, R335, R352). -/
def alwaysOn : List Nat :=
  [Rg.MSQ_MCK .zero, Rg.MSQ_MCK .one, Rg.MSQ_HALTPC .zero, Rg.MSQ_HALTPC .one, Rg.MEM_UEINFO, Rg.MEM_UEADDR_LO, Rg.MEM_UEADDR_HI, Rg.FLT_FATAL, Rg.SEC_TAMPER]

/-- Put back registers from a former state. -/
def State.keepRegs (s old : State) (l : List Nat) : State := l.foldl (fun s o => s.wr o (old.rd o)) s

/-- What the Vault's values load at every start before hart 0 leaves reset (R6, R288, R322, R342, R352). -/
def State.vaultLoads (s : State) : State :=
  let s := ((s.wr Rg.PWR_POH (BitVec.ofNat 32 s.vault.poh)).wr Rg.PWR_SAVECNT (BitVec.ofNat 32 s.vault.saveCnt)).fset F.SEC_SVN_SVNMIN s.vault.svnMin
  s.bokHead.bankMap.fset F.MEM_VREMAP_USED s.vault.remap.length

/-- What one actuator keeps through a reset (R24, R100): a Buffer Stop sequence that runs goes on and the actuator stays in BSTOP; otherwise it leaves PARKED. [assumption 237 DEDUCED] -/
def State.sacKeep (s old : State) (a : Act) : State :=
  if old.flag (F.SAC_STS_BSACT a) then
    let s := s.sacSet a { s.sacOf a with bstop := (old.sacOf a).bstop, resetDue := true }
    let s := (s.fset (F.SAC_STS_STATE a) SacS.bstop).fsetB (F.SAC_STS_BSACT a) true
    ((s.fsetB (F.SAC_STS_PARKED a) false).keepRegs old [Rg.SAC_DAC a])
  else s

/-- What a reset leaves (R6, R9, R24): the Vault, what the media and the flash hold, the always-on domain and the pins' levels stay; every other part of the machine is as State.reset has
it, the Vault's values loaded.  `aux` says that the always-on domain has lost its supply too. [assumptions 190 DESIGN CHOICE, 225 DEDUCED, 226 DEDUCED, 236 DEDUCED] -/
def State.restart (old : State) (cause : Nat) (aux : Bool) : State :=
  let r := State.reset
  let slot := fun (n : Two) => match old.sec.blocks.get n with
    | some b => if b.cred then none else old.sec.slots.get n
    | none => none
  let s : State := { r with
    pending := old.pending, vault := old.vault, flash := old.flash, freeCtr := old.freeCtr
    mem := old.mem.filter (fun (c : Host.Cell) => inVault c.1)
    ms := { r.ms with bad := old.ms.bad.filter (fun p => inVault (8 * p.1)) }
    zne := { r.zne with owners := old.zne.owners }
    sec := { r.sec with blocks := old.sec.blocks, adminCred := old.sec.adminCred, erase := old.sec.erase, sanitized := old.sec.sanitized
                        slots := ⟨slot .zero, slot .one⟩ }
    hep := { r.hep with lbaf := old.hep.lbaf, miFreq := if aux then r.hep.miFreq else old.hep.miFreq }
    core := { r.core with cause := cause }
    pins := { old.pins with gpio15 := false } }
  let s := if aux then s else s.keepRegs old alwaysOn
  let s := (s.fset F.GLB_CFG_STRAP (old.fget F.GLB_CFG_STRAP)).vaultLoads
  (s.sacKeep old .zero).sacKeep old .one

/-- POWER_ON_RESET_RELEASE (R307, R379): the straps are sampled.  A fatal hold outlasts it unless the supply of the always-on domain was lost (R328). [assumption 238 DEDUCED] -/
def powerOnResetReleaseOp (straps : BitVec 3) (auxLost : Bool) (s : State) : State :=
  if s.flt.fatalHold && !auxLost then s
  else (s.restart 0 auxLost).fset F.GLB_CFG_STRAP straps.toNat

/-- POWER_ON_RESET_RELEASE. -/
def execPowerOnResetRelease (straps : BitVec 3) (auxLost : Bool) (s : State) : Host.Outcome State Fault Refusal :=
  .next (powerOnResetReleaseOp straps auxLost s)

/-- A write of GLB_RST (R24, R328, R314): with the key it asks for a device reset, unless a fault reset, the fatal sequence or a power loss governs. [assumption 214 DEDUCED] -/
def State.glbRstWrite (s : State) (v : Word) : State :=
  if F.GLB_RST_KEY.of v = 0x5A17 && F.GLB_RST_DEVRST.on v && s.core.resetDue.isNone && !s.ms.faultReset && !s.flt.fatalSeq && s.pwr.saving.isNone && !s.pwr.held then
    s.coreMap (fun c => { c with resetDue := some 2 })
  else s

/-- GLB_RST_WRITE. -/
def execGlbRstWrite (v : Word) (s : State) : Host.Outcome State Fault Refusal := .next (s.glbRstWrite v)

/-- A device reset is a hard stop of a sequencer (R160): HALTPC records the word that was running. [assumption 238 DEDUCED] -/
def State.haltMark (s : State) (a : Act) : State :=
  if s.flag (F.MSQ_STS_HALT a) then s
  else
    let part := match (s.msqOf a).cur with
      | some o => o.started
      | none => false
    (s.fset (F.MSQ_HALTPC_ADDR a) (s.fget (F.MSQ_PC_ADDR a))).fsetB (F.MSQ_HALTPC_PARTIAL a) part

/-- Buffer Stop at a device reset (R24, R99): invoked unless the actuator is PARKED or in SELFTEST. -/
def State.resetStop (s : State) (a : Act) : State :=
  if s.sacIn a SacS.parked || s.sacIn a SacS.selftest then s else s.bufferStop a

/-- A harvest that runs on through the reset after a power loss (R314): SPC's state and speed stay. [assumption 237 DEDUCED] -/
def State.harvestKeep (s old : State) (cause : Nat) : State :=
  if cause = 3 && old.spcIn SpcS.harvest then
    ({ s with spc := { old.spc with harvested := false } }).keepRegs old [Rg.SPC_STS, Rg.SPC_SPEED]
  else s

/-- DEVICE_RESET (R24): the reset that is due begins.  FLT_MON.FALLBACK stays 1 until main power is removed (R329). [assumption 217 DEDUCED] -/
def deviceResetOp (s : State) : State :=
  match s.core.resetDue with
  | none => s
  | some cause =>
    let s := ((((s.haltMark .zero).haltMark .one).resetStop .zero).resetStop .one)
    ((s.restart cause false).fsetB F.FLT_MON_FALLBACK (s.flag F.FLT_MON_FALLBACK)).harvestKeep s cause

/-- DEVICE_RESET. -/
def execDeviceReset (s : State) : Host.Outcome State Fault Refusal := .next (deviceResetOp s)

/-- SEC_BOOTSTS.STEP (R339). -/
def State.bootStep (s : State) (n : Nat) : State := s.fset F.SEC_BOOTSTS_STEP n

/-- A start fails (R340): the code, the record by way of SEC kind 2, GPIO 15 high, CFGRDY with no expansion ROM and default authority, hart 0 halted. [assumption 222 DEDUCED] -/
def State.startFail (s : State) (code : Nat) : State :=
  let s := (s.fset F.SEC_BOOTSTS_CODE code).raiseFault Blk.sec 0 2 4 code
  let s := { s with pins := { s.pins with gpio15 := true } }
  (s.hepCtlWrite 1).coreMap (fun c => { c with stopped := true })

/-- The word marked by MEM_UEINFO (R292): a Yard word is darned, a Vault word replaced by one of 256 spare words, whose content the manual does not state. [assumptions 190 DESIGN CHOICE, 191 DEDUCED, 239 DESIGN CHOICE] -/
def State.markWord (s : State) : State :=
  let a := s.wide Rg.MEM_UEADDR_LO
  let src := s.fget F.MEM_UEINFO_SRC
  if src = 1 then (if inYard a && !s.darned a then s.hardWord a else s)
  else if src = 2 then
    if !inVault a || s.vault.remap.contains (a / 8) then s
    else if s.vault.remap.length < 256 then
      let free := (List.range 8).map (fun i => BitVec.ofNat 8 (Config.unstated (s.freeCtr + i)))
      let s := ({ s with freeCtr := s.freeCtr + 8 }).vaultMap (fun v => { v with remap := v.remap ++ [a / 8] })
      ((s.unbad (a / 8)).putBytes a free).fset F.MEM_VREMAP_USED s.vault.remap.length
    else s.raiseFault Blk.mem 0 4 2 (addrInfo a)
  else s

/-- The start record (R341, R351): the first of the start, with power-on hours and the start count. -/
def State.startRecord (s : State) : State :=
  let s := s.vaultMap (fun v => { v with starts := (v.starts + 1) % 2 ^ 32, startRec := some v.bokNext })
  let info := BitVec.ofNat 64 (s.vault.poh + s.vault.starts * 2 ^ 32)
  (s.writeRecord ⟨recCode Blk.bok 0 1, s.clock, info, 0, false, false⟩).raiseFault Blk.bok 0 1 0 (s.vault.poh % 2 ^ 32)

/-- What PWR, CQE and SEC find in the Vault (R239, R315, R317, R348, R349). [assumption 233 DEDUCED] -/
def State.startLoads (s : State) : State :=
  let s := s.wideSet Rg.CQE_STAMP_LO (max 1 s.vault.stampBound)
  let found := s.headerCount != 0
  let s := (s.coreMap (fun c => { c with replay := found })).fsetB F.PWR_STS_SAVED (found && s.headerGood)
  let one := fun (s : State) (n : Two) => match s.sec.blocks.get n with
    | some b => if b.cred then s.secMap (fun x => { x with slots := x.slots.set n none }) else s.unwrap n
    | none => s
  let s := (one (one s .zero) .one).secStatus
  match s.sec.erase with
  | some (l, swapped) => s.cryptoErase l swapped
  | none => s

/-- The slot that boot control names (R336). -/
def flashActive (f : Flash) : Nat :=
  match f.ctl0, f.ctl1 with
  | some a, some b => if a.seq < b.seq then b.slot else a.slot
  | some a, none => a.slot
  | none, some b => b.slot
  | none, none => 1

/-- A slot by its number. -/
def flashSlot (f : Flash) (n : Nat) : SlotImage := if n = 2 then f.slot2 else f.slot1

/-- Sections of a type. -/
def imageType (i : SlotImage) (t : Nat) : List Section := i.sections.filter (fun x => x.typ == t)

/-- The first check of R338 that a slot fails, by its code (Table 16.5). [assumptions 220 DESIGN CHOICE, 221 DEDUCED] -/
def slotCheck (i : SlotImage) (svnMin : Nat) : Option Nat :=
  let early := i.fail.bind (fun c => if c < 0x15 then some c else none)
  let unknown := i.sections.any (fun x => x.critical && (x.typ == 0 || decide (7 < x.typ)))
  if early.isSome then early
  else if i.svn < svnMin then some 0x15
  else if i.fail.isSome then i.fail
  else if (imageType i 1).length ≠ 1 || (imageType i 2).length ≠ 1 || unknown then some 0x18
  else none

/-- A slot has passed (R338, R339 step 4, R350, Table 16.3): GLB_CFG and MEM_DDRCFG are loaded from the type 1 section. -/
def State.slotPass (s : State) (n : Nat) (i : SlotImage) : State :=
  let b := ((imageType i 1).headD ⟨1, false, 0, []⟩).bytes
  let b0 := (b.getD 0 0).toNat
  let s := (s.fset F.SEC_BOOTSTS_SLOT n).fset F.SEC_SVN_IMGSVN i.svn
  let s := s.secMap (fun x => { x with slotPassed := true, dbgDigest := (b.drop 8).take 48 })
  let s := s.coreMap (fun c => { c with imgRev := i.revision % 2 ^ 16 })
  let s := ((s.fset F.GLB_CFG_TWIN (b0 % 2)).fset F.GLB_CFG_SIDE (b0 / 2 % 2)).fset F.GLB_CFG_PORTS (b0 / 4 % 2)
  (s.wr Rg.MEM_DDRCFG (BitVec.ofNat 32 ((b.getD 1 0).toNat % 64))).bootStep 4

/-- The flash as START finds it: the flash named with the command, or the one the model holds (R2). [assumption 220 DESIGN CHOICE] -/
def State.flashPlaced (s : State) (flash : Option Flash) : State :=
  match flash with
  | some f => { s with flash := some f }
  | none => s

/-- START (R339, Table 16.4 steps 1 to 4; R288, R290, R322, R336, R338, R341, R342, R348, R349): the boot ROM runs up to DDR5 training.  `flash` is what the flash holds; none: what the
machine has last read from it or written to it. [assumptions 221 DEDUCED, 225 DEDUCED] -/
def startOp (flash : Option Flash) (s : State) : State :=
  if s.fget F.SEC_BOOTSTS_STEP ≠ 0 || s.fget F.SEC_BOOTSTS_CODE ≠ 0 || s.core.resetDue.isSome || s.pwr.held || s.flt.fatalHold then s
  else
    let s := s.vaultLoads.markWord.startRecord.startLoads.bootStep 1
    let strap := s.fget F.GLB_CFG_STRAP
    if strap = 2 then s
    else
      let s := (s.flashPlaced flash).bootStep 2
      match s.flash with
      | none => s.startFail 0x11
      | some f =>
        if !f.responds then s.startFail 0x11
        else
          let s := s.bootStep 3
          let svn := s.fget F.SEC_SVN_SVNMIN
          let n := if strap = 1 then 2 else if flashActive f = 2 then 2 else 1
          match slotCheck (flashSlot f n) svn with
          | none => s.slotPass n (flashSlot f n)
          | some c =>
            if strap = 1 then s.startFail c
            else
              let m := 3 - n
              match slotCheck (flashSlot f m) svn with
              | none => ((s.fsetB F.SEC_BOOTSTS_FALLBACK true).raiseFault Blk.sec 0 1 2 0).slotPass m (flashSlot f m)
              | some d => s.startFail d

/-- START. -/
def execStart (flash : Option Flash) (s : State) : Host.Outcome State Fault Refusal := .next (startOp flash s)

/-- Where a section goes (Table 16.3). -/
def sectionTarget (x : Section) : Option Nat :=
  if x.typ = 1 then some (if x.dest = 0 then 0x11840000 else x.dest)
  else if x.typ = 5 then some 0x11800000
  else if (2 ≤ x.typ ∧ x.typ ≤ 7) ∧ x.dest ≠ 0 then some x.dest
  else none

/-- What a section copies (Table 16.3): an option image holds at most 256 KiB. -/
def sectionContent (x : Section) : List Byte := if x.typ = 5 then x.bytes.take 0x40000 else x.bytes

/-- Whether the boot ROM's stores reach an address range: the Yard from the option image on, and fitted DDR5 (Table 1.6). [assumption 224 DEDUCED] -/
def State.copyRoom (s : State) (a n : Nat) : Bool :=
  (decide (0x11800000 ≤ a) && decide (a + n ≤ 0x14000000)) || (decide (0x80000000 ≤ a) && decide (a + n ≤ 0x80000000 + s.ms.fitted))

/-- Copy a section (R338, R339 step 6). [assumption 224 DEDUCED] -/
def State.copySection (s : State) (x : Section) : State :=
  match sectionTarget x with
  | some a => if s.copyRoom a (sectionContent x).length then s.setBytes a (sectionContent x) else s
  | none => s

/-- The image that passed. -/
def State.bootImage (s : State) : Option SlotImage := s.flash.map (fun f => flashSlot f (s.fget F.SEC_BOOTSTS_SLOT))

/-- NZONES of the type 1 section (Table 16.3). -/
def imageZones (i : SlotImage) : Nat := ofLe (((((imageType i 1).headD ⟨1, false, 0, []⟩).bytes).drop 4).take 4)

/-- DDR5_TRAINING_END (R21, R295, R339 steps 4 to 7): `gib` is the trained size in GiB. [assumptions 192 DEDUCED, 223 DEDUCED] -/
def ddr5TrainingEndOp (ok : Bool) (gib : Nat) (s : State) : State :=
  if s.fget F.SEC_BOOTSTS_STEP ≠ 4 || s.fget F.SEC_BOOTSTS_CODE ≠ 0 || s.flag F.MEM_DDRSTS_TRAINED then s
  else match s.bootImage with
  | none => s
  | some i =>
    if !ok || s.fget F.MEM_DDRCFG_SIZE = 3 then s.startFail 0x20
    else
      let s := ((s.fsetB F.MEM_DDRSTS_TRAINED true).msMap (fun m => { m with fitted := gib * 2 ^ 30 })).bootStep 5
      if gib < 2 || (s.twin && decide (gib < 4)) then s.startFail 0x21
      else if 524288 < imageZones i then s.startFail 0x22
      else (i.sections.foldl (fun s x => s.copySection x) (s.bootStep 6)).bootStep 7

/-- DDR5_TRAINING_END. -/
def execDdr5TrainingEnd (ok : Bool) (gib : Nat) (s : State) : Host.Outcome State Fault Refusal := .next (ddr5TrainingEndOp ok gib s)

/-- CONFIG_LOCK (R8, R22): a write of GLB_LOCK with LOCK = 1; what it permits is brought up to date at once. -/
def configLockOp (s : State) : State :=
  if s.locked then s
  else ((((s.fsetB F.GLB_LOCK_LOCK true).armUpdate false).permBoth).readyTry .zero).readyTry .one

/-- CONFIG_LOCK. -/
def execConfigLock (s : State) : Host.Outcome State Fault Refusal := .next (configLockOp s)

/-- Update the pins. -/
def State.pinMap (s : State) (f : PinSt → PinSt) : State := { s with pins := f s.pins }

/-- A phase's two gates as the boundary cells drive them (R386): never both high. -/
def safePhase (g : BitVec 6) (k : Nat) : BitVec 6 :=
  if g.getLsbD (2 * k) && g.getLsbD (2 * k + 1) then g &&& ~~~ BitVec.ofNat 6 (3 <<< (2 * k)) else g

/-- What EXTEST and CLAMP drive (R386): the preloaded cells, with the spindle gates made safe; the Token cells only while BOOT[2:0] = 0b010. [assumption 272 DEDUCED] -/
def State.scanDrive (s : State) : Cells :=
  let c := s.pins.cells
  { c with gates := safePhase (safePhase (safePhase c.gates 0) 1) 2
           tokens := if s.fget F.GLB_CFG_STRAP = 2 then c.tokens else 0 }

/-- BYPASS: the one-bit register is selected, which reads 0 first (IEEE 1149.1). [assumption 271 PRESUMED] -/
def execBypass (s : State) : Host.Outcome State Fault Refusal := .next (s.pinMap (fun p => { p with instr := .bypass, dr := 0, driven := none }))
/-- IDCODE (R386): 0x1842_0D6B. -/
def execIdcode (s : State) : Host.Outcome State Fault Refusal := .next (s.pinMap (fun p => { p with instr := .idcode, dr := 0x18420D6B, driven := none }))
/-- SAMPLE_PRELOAD (R386): the boundary cells are loaded while the pins stay with their blocks. -/
def execSamplePreload (pattern : Cells) (s : State) : Host.Outcome State Fault Refusal :=
  .next (s.pinMap (fun p => { p with instr := .samplePreload, cells := pattern, driven := none }))
/-- EXTEST (R386): the boundary cells drive the pins. -/
def execExtest (s : State) : Host.Outcome State Fault Refusal := .next (s.pinMap (fun p => { p with instr := .extest, driven := some s.scanDrive }))
/-- CLAMP (R386): as EXTEST, with the bypass register selected. -/
def execClamp (s : State) : Host.Outcome State Fault Refusal := .next (s.pinMap (fun p => { p with instr := .clamp, dr := 0, driven := some s.scanDrive }))
/-- HIGHZ (R386): the pins of the chain are released, with the bypass register selected. -/
def execHighz (s : State) : Host.Outcome State Fault Refusal := .next (s.pinMap (fun p => { p with instr := .highz, dr := 0, driven := none }))

end Sys2Proof.Machine
end

