-- ==== Sys2Proof/Machine/Vendor.lean ====
section
/-! DEFINITION. The vendor window as cores and a host port with service authority see it (R4 to R7, R10, R17, R18): reads with their effects, writes by access code and
by each register's own meaning. -/
namespace Sys2Proof.Machine

/-- Offsets within a window of the low registers of pairs whose summary cites R10, by window number (Table 1.5). -/
def wideOffsets (k : Nat) : List Nat :=
  match k with
  | 1 => [0x30, 0x40, 0x48, 0x50, 0x60, 0x68, 0x70]
  | 2 => [0x08, 0x80, 0x88, 0x90, 0x98, 0xA0]
  | 3 => [0x40, 0x48, 0x50]
  | 4 => [0x10, 0x18, 0xC0, 0xC8, 0xD0, 0xD8, 0xE0, 0xE8]
  | 5 => [0x18, 0x80, 0x88, 0x90, 0x98, 0xA0, 0xA8, 0xB0]
  | 6 => [0x08, 0x10, 0x40]
  | 7 => [0x40]
  | 8 => [0x20, 0x28, 0x70, 0x78]
  | 9 => [0x20, 0x28, 0x70, 0x78]
  | 10 => [0x80, 0x88]
  | 11 => [0x80, 0x88]
  | 12 => [0x20, 0x28, 0x30, 0x38]
  | 13 => [0x20, 0x28, 0x30, 0x38]
  | 14 => [0x20, 0x28, 0x30, 0x38, 0x40]
  | 15 => [0x88, 0xA0]
  | 16 => [0x08, 0x10]
  | 17 => [0x08, 0x28, 0x30]
  | 20 => [0x40, 0x48, 0x50]
  | _ => []

/-- Whether a register is the low one of a pair that R10 governs. -/
def wideLow (o : Nat) : Bool := (wideOffsets (o / 0x10000)).contains (o % 0x10000)

/-- Word `i` of a value. -/
def wordOf (n i : Nat) : Word := BitVec.ofNat 32 (n / 2 ^ (32 * i))

/-- MEM_DARNDATA for the selected entry (Table 13.4). -/
def State.darnData (s : State) : Word :=
  let b := s.fget F.MEM_DARNSEL_BANK
  let k := b * 16 + s.fget F.MEM_DARNSEL_ENTRY
  match s.vault.darn.find? (fun p => p.1 == k) with
  | some p => if b ≤ 65 then BitVec.ofNat 32 (p.2 % 2 ^ 17 + 2 ^ 17) else 0
  | none => 0

/-- What a read of the register at `o` shows, without the read's effects: 0 where none is defined (R5, R18); the angle, clock time, latches and completions as they stand. -/
def State.view (s : State) (o : Nat) : Word :=
  if (regRow o).isNone then 0
  else if o = Rg.TTB_NOW_LO then wordOf s.ttb.angle.toNat 0
  else if o = Rg.TTB_NOW_HI then wordOf s.ttb.angle.toNat 1
  else if o = Rg.TTB_CLK_LO then wordOf s.clock.toNat 0
  else if o = Rg.TTB_CLK_HI then wordOf s.clock.toNat 1
  else if Rg.EVR_PEND 0 ≤ o ∧ o ≤ Rg.EVR_PEND 19 then wordOf s.evr.hart.toNat ((o - Rg.EVR_PEND 0) / 4)
  else if o = Rg.MSQ_EVP .zero then s.evpBits .zero
  else if o = Rg.MSQ_EVP .one then s.evpBits .one
  else if Rg.MSQ_CPL .zero 0 ≤ o ∧ o ≤ Rg.MSQ_CPL .zero 3 then wordOf ((s.msqOf .zero).cpls.headD 0).toNat ((o - Rg.MSQ_CPL .zero 0) / 4)
  else if Rg.MSQ_CPL .one 0 ≤ o ∧ o ≤ Rg.MSQ_CPL .one 3 then wordOf ((s.msqOf .one).cpls.headD 0).toNat ((o - Rg.MSQ_CPL .one 0) / 4)
  else if o = Rg.MEM_DARNDATA then s.darnData
  else if o = Rg.FLT_MSG_LO then wordOf s.oldestMessage.toNat 0
  else if o = Rg.FLT_MSG_HI then wordOf s.oldestMessage.toNat 1
  else if o = Rg.BRL_TKSTS ∧ !s.twin then setBits (s.rd o) 4 3 5
  else s.rd o

/-- A 32-bit read of the vendor window and its effects: R10's shadows, the removal of the oldest message (R326) and the capture of an Interlocking entry (R258). -/
def State.read32 (s : State) (o : Nat) : Word × State :=
  if o = Rg.FLT_MSG_LO then s.takeMessage
  else if o = Rg.CQE_ILDATA 0 then
    let s := s.ilCapture
    (s.view o, s)
  else if wideLow o then
    (s.view o, { s with shadows := insertKey o (s.view (o + 4)) (dropKey o s.shadows) })
  else if 4 ≤ o ∧ wideLow (o - 4) then
    match s.shadows.find? (fun p => p.1 == o - 4) with
    | some p => (p.2, { s with shadows := dropKey (o - 4) s.shadows })
    | none => (s.view o, s)
  else (s.view o, s)

/-- A write by access code (R7, Table 0.1): RW; RWL until GLB_LOCK; W1C; W1S. -/
def State.codeWrite (s : State) (o : Nat) (v : Word) : State :=
  match regRow o with
  | none => s
  | some r =>
    let m := BitVec.ofNat 32 (if s.locked then r.rw else r.rw ||| r.rwl)
    let w := (s.rd o &&& ~~~ m) ||| (v &&& m)
    let w := w &&& ~~~ (v &&& BitVec.ofNat 32 r.w1c)
    s.wr o (w ||| (v &&& BitVec.ofNat 32 r.w1s))

/-- Writes to one SAC; in SELFTEST the current follows SACn_TSTI (Table 4.3). [assumption 48 DEDUCED] -/
def State.sacWrite (s : State) (a : Act) (o : Nat) (v : Word) : State :=
  if o = Rg.SAC_CTL a then s.sacCtlWrite a v
  else if o = Rg.SAC_CMD a then s.sacCmdWrite a v
  else if o = Rg.SAC_CCTL a then s.sacCctlWrite a v
  else
    let s := (s.codeWrite o v).permUpdate a
    if o = Rg.SAC_TSTI a ∧ s.sacIn a SacS.selftest then s.dac a (s.sget (F.SAC_TSTI_CODE a)) 0 else s

/-- Writes to one MSQ. -/
def State.msqWrite (s : State) (a : Act) (o : Nat) (v : Word) : State :=
  if o = Rg.MSQ_CTL a then s.msqCtlWrite a v
  else if o = Rg.MSQ_OPSUB a then s.opsubWrite a v
  else if o = Rg.MSQ_CPLPOP a then s.cplpopWrite a v
  else if o = Rg.MSQ_PLDCTL a then s.pldctlWrite a v
  else s.codeWrite o v

/-- Writes to one RWC. -/
def State.rwcWrite (s : State) (a : Act) (o : Nat) (v : Word) : State :=
  if o = Rg.RWC_CTL a then s.rwcCtlWrite a v
  else if o = Rg.RWC_PSCMD a then s.pscmdWrite a v
  else s.codeWrite o v

/-- Writes to TTB. -/
def State.ttbWrite (s : State) (o : Nat) (v : Word) : State :=
  if o = Rg.TTB_CTL then s.ttbCtlWrite v
  else if o = Rg.TTB_SNAP then s.ttbSnapWrite v
  else if Rg.TTB_SLOT_CTL 0 ≤ o ∧ o ≤ Rg.TTB_SLOT_CTL 63 ∧ o % 16 = 12 then s.slotCtlWrite ((o - Rg.TTB_SLOT_CTL 0) / 16) v
  else s.codeWrite o v

/-- Writes to SPC: SPC_LIMIT also sets the overspeed limit in force (R58). [assumption 30 DESIGN CHOICE] -/
def State.spcWrite (s : State) (o : Nat) (v : Word) : State :=
  if o = Rg.SPC_CTL then s.spcCtlWrite v
  else if o = Rg.SPC_TARGET then s.targetWrite v
  else if o = Rg.SPC_LIMIT ∧ !s.locked then
    let s := s.codeWrite o v
    { s with spc := { s.spc with ovspd := F.SPC_LIMIT_OVSPD.of v } }
  else s.codeWrite o v

/-- Writes to ASC. -/
def State.ascWrite (s : State) (o : Nat) (v : Word) : State :=
  if o = Rg.ASC_CTL then s.ascCtlWrite v
  else if o = Rg.ASC_CCTL then s.ascCctlWrite v
  else if o = Rg.ASC_CALCTL then s.calCtlWrite v
  else if Rg.ASC_CALBUF 0 ≤ o ∧ o ≤ Rg.ASC_CALBUF 3 then s.calBufWrite ((o - Rg.ASC_CALBUF 0) / 4) v
  else s.codeWrite o v

/-- Writes to ZNE and STE. -/
def State.zneSteWrite (s : State) (o : Nat) (v : Word) : State :=
  if o = Rg.ZNE_CTL then s.zneCtlWrite v
  else if o = Rg.ZNE_SPADD then s.spaddWrite v
  else if o = Rg.STE_CTL then s.steCtlWrite v
  else if o = Rg.STE_RETIRE then s.retireWrite v
  else if o = Rg.STE_RCTL then s.rctlWrite v
  else s.codeWrite o v

/-- Writes to CQE and HEP: the window's limit bears on early completion (Table 11.8). [assumption 168 DEDUCED] -/
def State.hostWrite (s : State) (o : Nat) (v : Word) : State :=
  if o = Rg.HEP_CTL then s.hepCtlWrite v
  else if o = Rg.HEP_AUTH 1 ∧ !s.flag F.GLB_CFG_PORTS then s
  else if o = Rg.CQE_CTL then s.cqeCtlWrite v
  else if o = Rg.CQE_PSCTL then s.psctlWrite v
  else if o = Rg.CQE_FWA then s.fwaWrite v
  else if o = Rg.CQE_PWCFG then (s.codeWrite o v).earlyUpdate
  else s.codeWrite o v

/-- Writes to MEM; a scrub that a plain write starts finds no errors that the command does not name. [assumption 17 DESIGN CHOICE] -/
def State.memWrite (s : State) (o : Nat) (v : Word) : State :=
  if o = Rg.MEM_CTL then s.memCtlWrite v
  else if o = Rg.MEM_SCRCTL then s.scrctlWrite v []
  else if o = Rg.MEM_TEST then s.memTestWrite v
  else if o = Rg.MEM_MCC_CTL then s.mccCtlWrite v
  else if o = Rg.MEM_MCC_OP then s.mccOpWrite v
  else s.codeWrite o v

/-- Writes to FLT, EVR, BOK and SEC; any FLT write closes the way to the unlock (R330). -/
def State.safetyWrite (s : State) (o : Nat) (v : Word) : State :=
  if o = Rg.FLT_CTL then s.fltCtlWrite v
  else if o = Rg.FLT_UNLOCK then s.unlockWrite v
  else if o = Rg.FLT_FORCE then s.forceWrite v
  else if o / 0x10000 = 16 then s.fltTouched.codeWrite o v
  else if o = Rg.EVR_SWSET then s.swsetWrite v
  else if Rg.EVR_ROUTE 0 ≤ o ∧ o ≤ Rg.EVR_ROUTE 639 then s.routeWrite ((o - Rg.EVR_ROUTE 0) / 4) v
  else if o = Rg.BOK_CTL then s.bokCtlWrite v
  else if o = Rg.BOK_FWREC then s.fwrecWrite v
  else if o = Rg.SEC_SVN then s.svnWrite v
  else s.codeWrite o v

/-- Writes to PWR and BRL; what hold-up needs bears on ARMED at once (R311). -/
def State.pwrBrlWrite (s : State) (o : Nat) (v : Word) : State :=
  if o = Rg.PWR_CTL then s.pwrCtlWrite v
  else if o = Rg.PWR_CORE then s.coreOffWrite v
  else if o = Rg.PWR_HREQ then (s.codeWrite o v).armUpdate false
  else if o = Rg.BRL_CTL then s.brlCtlWrite v
  else if o = Rg.BRL_HBKICK then s.kickWrite v
  else if o = Rg.BRL_STEER then s.steerWrite v
  else s.codeWrite o v

/-- A 32-bit write to the vendor window (R5, R7, R17, R18). -/
def State.write32 (s : State) (o : Nat) (v : Word) : State :=
  match o / 0x10000 with
  | 0 => if o = Rg.GLB_LOCK then (if F.GLB_LOCK_LOCK.on v then configLockOp s else s) else if o = Rg.GLB_RST then s.glbRstWrite v else s
  | 1 => s.hostWrite o v
  | 2 => s.hostWrite o v
  | 3 => s.zneSteWrite o v
  | 4 => s.zneSteWrite o v
  | 5 => s.memWrite o v
  | 6 => s.ttbWrite o v
  | 7 => s.spcWrite o v
  | 8 => s.sacWrite .zero o v
  | 9 => s.sacWrite .one o v
  | 10 => s.msqWrite .zero o v
  | 11 => s.msqWrite .one o v
  | 12 => s.rwcWrite .zero o v
  | 13 => s.rwcWrite .one o v
  | 14 => if o = Rg.DDP_CTL then s.ddpCtlWrite v else s.codeWrite o v
  | 15 => s.ascWrite o v
  | 19 => s.pwrBrlWrite o v
  | 20 => s.pwrBrlWrite o v
  | _ => s.safetyWrite o v

/-- Where a port's BAR0 stands beside the vendor window in a register command's offset (the model's own): above the window, 16 KiB a port. [assumption 15 DESIGN CHOICE] -/
def bar0Base (p : Port) : Nat := 0x4000000 + 0x4000 * p.num

/-- The port and BAR0 offset that a register command's offset names, if any. [assumption 15 DESIGN CHOICE] -/
def bar0Of (o : Nat) : Option (Port × Nat) :=
  if bar0Base .zero ≤ o ∧ o < bar0Base .one then some (.zero, o - bar0Base .zero)
  else if bar0Base .one ≤ o ∧ o < bar0Base .one + 0x4000 then some (.one, o - bar0Base .one)
  else none

/-- One aligned 32-bit read by a register command. [assumption 15 DESIGN CHOICE] -/
def State.busRead (s : State) (o : Nat) : Word × State :=
  match bar0Of o with
  | some (p, k) => (s.nvmeRead p k, s)
  | none => s.read32 o

/-- One aligned 32-bit write by a register command. [assumption 15 DESIGN CHOICE] -/
def State.busWrite (s : State) (o : Nat) (v : Word) : State :=
  match bar0Of o with
  | some (p, k) => s.nvmeWrite p k v
  | none => s.write32 o v

/-- A write of any size (R4): an aligned 64-bit one is two, the lower address first; a narrower or misaligned one is discarded. -/
def State.sizedWrite (s : State) (o size : Nat) (v : BitVec 64) : State :=
  if size = 4 ∧ o % 4 = 0 then s.busWrite o (v.setWidth 32)
  else if size = 8 ∧ o % 8 = 0 then (s.busWrite o (v.setWidth 32)).busWrite (o + 4) (v.extractLsb' 32 32)
  else s

/-- A read of any size (R4): a narrower or misaligned one returns 0. -/
def State.sizedRead (s : State) (o size : Nat) : BitVec 64 × State :=
  if size = 4 ∧ o % 4 = 0 then
    let r := s.busRead o
    (r.1.setWidth 64, r.2)
  else if size = 8 ∧ o % 8 = 0 then
    let lo := s.busRead o
    let hi := lo.2.busRead (o + 4)
    (hi.1 ++ lo.1, hi.2)
  else (0, s)

/-- REGISTER_WRITE (R4, R5, R7, R17, R18). -/
def execRegisterWrite (off size : Nat) (v : BitVec 64) (s : State) : Host.Outcome State Fault Refusal := .next (s.sizedWrite off size v)

/-- Keep what a register read returned. [assumption 16 DESIGN CHOICE] -/
def State.readKept (r : BitVec 64 × State) : State := r.2.coreMap (fun c => { c with rdata := r.1.setWidth 32 })

/-- WIDE_LOW_READ (R10): a 32-bit read of the low register of a pair, or of any other register. [assumption 16 DESIGN CHOICE] -/
def execWideLowRead (off : Nat) (s : State) : Host.Outcome State Fault Refusal := .next (State.readKept (s.sizedRead off 4))
/-- WIDE_HIGH_READ (R10): a 32-bit read of the high register of a pair, or of any other register. [assumption 16 DESIGN CHOICE] -/
def execWideHighRead (off : Nat) (s : State) : Host.Outcome State Fault Refusal :=
  .next (State.readKept (s.sizedRead off 4))

end Sys2Proof.Machine
end

