-- ==== Sys2Proof/Machine/Cluster.lean ====
section
/-! DEFINITION. The processor cluster: events claimed and completed (R26, R333, R334), the device-specific CSRs (R25, R27, Table 1.9), core accesses to the
physical address map (R19, R20, Table 1.6) and the gather buffer (R287).  The harts' own instruction set is not the manual's and is left out. -/
namespace Sys2Proof.Machine

/-- Whether a hart executes: released from reset, and the cores not stopped. -/
def State.hartRuns (s : State) (h : Fin 4) : Bool := (s.hart h).released && !s.core.stopped

/-- A hart's access raises an exception, by its cause code: 1, 5, 7 access faults of a fetch, a load, a store; 2 illegal instruction. [assumption 12 DESIGN CHOICE] -/
def State.trap (s : State) (h : Fin 4) (cause : Nat) : State := s.hartMap h (fun x => { x with trap := some cause })

/-- A hart's load, fetch or CSR read returns a value. -/
def State.give (s : State) (h : Fin 4) (v : BitVec 64) : State := s.hartMap h (fun x => { x with data := v, trap := none })

/-- A hart's store or CSR write is done. -/
def State.done (s : State) (h : Fin 4) : State := s.hartMap h (fun x => { x with trap := none })

/-- Whether an event is pending to a hart and at or above its threshold (R26, R334). -/
def State.claimable (s : State) (h : Fin 4) (n : Nat) : Bool :=
  s.evr.hart.getLsbD n && !s.evr.claimed.getLsbD n && (s.fget (F.EVR_ROUTE_HARTS n)).testBit h.val && decide ((s.hart h).thr ≤ s.fget (F.EVR_ROUTE_PRIO n))

/-- The event that a claim takes: the highest priority, then the lowest source (R26). -/
def State.claimNext (s : State) (h : Fin 4) : Option Nat :=
  (List.range 640).foldl (fun (b : Option Nat) n =>
    if s.claimable h n then match b with
      | none => some n
      | some m => if s.fget (F.EVR_ROUTE_PRIO m) < s.fget (F.EVR_ROUTE_PRIO n) then some n else b
    else b) none

/-- A read of MEVCLAIM in machine mode (R26, Table 1.9). -/
def State.claim (s : State) (h : Fin 4) : State :=
  match s.claimNext h with
  | none => s.give h 0
  | some n =>
    let v := 2 ^ 31 + s.fget (F.EVR_ROUTE_PRIO n) * 2 ^ 10 + n
    ({ s with evr := { s.evr with claimed := s.evr.claimed ||| bit640 n } }).give h (BitVec.ofNat 64 v)

/-- EVENT_CLAIM (R25, R26): a read of MEVCLAIM; below machine mode an illegal instruction. -/
def eventClaimOp (h : Fin 4) (machine : Bool) (s : State) : State :=
  if !s.hartRuns h then s else if machine then s.claim h else s.trap h 2

/-- EVENT_CLAIM. -/
def execEventClaim (h : Fin 4) (machine : Bool) (s : State) : Host.Outcome State Fault Refusal := .next (eventClaimOp h machine s)

/-- A write of MEVCLAIM in machine mode (R26, R333): the source's hart latch clears and it may become pending again. [assumption 18 DEDUCED] -/
def State.completeEvent (s : State) (h : Fin 4) (v : Word) : State :=
  let m := ~~~ bit640 (bitsOf v 0 10)
  ({ s with evr := { s.evr with hart := s.evr.hart &&& m, claimed := s.evr.claimed &&& m } }).done h

/-- EVENT_COMPLETE (R25, R26, R333). -/
def eventCompleteOp (h : Fin 4) (machine : Bool) (v : Word) (s : State) : State :=
  if !s.hartRuns h then s else if machine then s.completeEvent h v else s.trap h 2

/-- EVENT_COMPLETE. -/
def execEventComplete (h : Fin 4) (machine : Bool) (v : Word) (s : State) : Host.Outcome State Fault Refusal := .next (eventCompleteOp h machine v s)

/-- Release a hart if its RUN bit is written 1 (R27). -/
def State.releaseHart (s : State) (v : Word) (h : Fin 4) : State :=
  if v.getLsbD h.val && !(s.hart h).released then s.hartMap h (fun x => { x with released := true }) else s

/-- HART_RELEASE (R25, R27): a write of MCORERUN by hart 0 in machine mode; from another hart an illegal instruction. -/
def hartReleaseOp (h : Fin 4) (machine : Bool) (v : Word) (s : State) : State :=
  if !s.hartRuns h then s
  else if !machine || h != 0 then s.trap h 2
  else (((s.releaseHart v 1).releaseHart v 2).releaseHart v 3).done h

/-- HART_RELEASE. -/
def execHartRelease (h : Fin 4) (machine : Bool) (v : Word) (s : State) : Host.Outcome State Fault Refusal := .next (hartReleaseOp h machine v s)

/-- MCORERUN (Table 1.9). -/
def State.coreRun (s : State) : Nat :=
  1 + (s.hart 1).released.toNat * 2 + (s.hart 2).released.toNat * 4 + (s.hart 3).released.toNat * 8

/-- MBOOTINFO (Table 1.9). -/
def State.bootInfo (s : State) : Nat :=
  s.core.cause % 16 + s.fget F.GLB_CFG_TWIN * 16 + s.fget F.GLB_CFG_SIDE * 32 + s.core.replay.toNat * 64 + s.core.imgRev % 2 ^ 16 * 2 ^ 16

/-- The machine interrupts pending to a hart as mip shows them: software (bit 3), timer (bit 7), external (bit 11, R334). [assumption 12 DESIGN CHOICE] -/
def State.mip (s : State) (h : Fin 4) : Nat :=
  (s.hart h).msip.toNat * 8 + (s.hart h).mtip.toNat * 128 + (s.claimNext h).isSome.toNat * 2048

/-- A CSR read (R19, R25, R27, R334): the time CSR is the clock time; other CSRs of the standards belong to the hart and change nothing here. [assumption 12 DESIGN CHOICE] -/
def State.csrRead (s : State) (h : Fin 4) (machine : Bool) (n : Nat) : State :=
  if n = 0xC01 then s.give h s.clock
  else if n = 0x7C0 ∨ n = 0x7C1 ∨ n = 0x7C2 ∨ n = 0xFC0 ∨ n = 0xFC1 ∨ n = 0xF14 ∨ n = 0x344 then
    if !machine then s.trap h 2
    else if n = 0x7C0 then s.claim h
    else if n = 0x7C1 then s.give h (BitVec.ofNat 64 (s.hart h).thr)
    else if n = 0x7C2 then s.give h (BitVec.ofNat 64 s.coreRun)
    else if n = 0xFC0 then s.give h (s.near.setWidth 64)
    else if n = 0xFC1 then s.give h (BitVec.ofNat 64 s.bootInfo)
    else if n = 0xF14 then s.give h (BitVec.ofNat 64 h.val)
    else s.give h (BitVec.ofNat 64 (s.mip h))
  else s

/-- A CSR write (R25, R27): MNEARANG and MBOOTINFO lie in the read-only range of the privileged specification. [assumption 12 DESIGN CHOICE] -/
def State.csrWrite (s : State) (h : Fin 4) (machine : Bool) (n : Nat) (v : BitVec 64) : State :=
  if n = 0x7C0 then (if machine then s.completeEvent h (v.setWidth 32) else s.trap h 2)
  else if n = 0x7C1 then (if machine then (s.hartMap h (fun x => { x with thr := v.toNat % 16 })).done h else s.trap h 2)
  else if n = 0x7C2 then hartReleaseOp h machine (v.setWidth 32) s
  else if n = 0xFC0 ∨ n = 0xFC1 ∨ n = 0xF14 ∨ n = 0xC01 then s.trap h 2
  else s

/-- The regions of Table 1.6 as the model acts on them. -/
inductive CoreRegion where
  | rom
  | timer
  | yard (writable exec : Bool)
  | vault
  | vendor
  | ddr (writable : Bool)
  deriving DecidableEq, Repr

/-- The region that holds `n` bytes from `a` (Table 1.6; the option image is writable until GLB_LOCK). [assumptions 13 DESIGN CHOICE, 192 DEDUCED] -/
def State.region (s : State) (a n : Nat) : Option CoreRegion :=
  let within := fun (lo hi : Nat) => decide (lo ≤ a) && decide (a + n ≤ hi)
  if within 0 0x20000 then some .rom
  else if within 0x2000000 0x2010000 then some .timer
  else if within 0x10000000 0x10800000 || within 0x10800000 0x11800000 then some (.yard false false)
  else if within 0x11800000 0x11840000 then some (.yard (!s.locked) false)
  else if within 0x11840000 0x14000000 then some (.yard true true)
  else if within 0x18000000 0x18400000 || within 0x18400000 0x19400000 || within 0x19400000 0x19448000 then some .vault
  else if within 0x40000000 0x42000000 then some .vendor
  else if within 0x80000000 (min 0xA4000000 (0x80000000 + s.ms.fitted)) then some (.ddr false)
  else if within 0xA4000000 (0x80000000 + s.ms.fitted) then some (.ddr true)
  else none

/-- Whether a region permits a fetch (Table 1.6). -/
def CoreRegion.fetches : CoreRegion → Bool
  | .rom => true
  | .yard _ x => x
  | _ => false

/-- Whether a region permits a store (Table 1.6). -/
def CoreRegion.stores : CoreRegion → Bool
  | .timer => true
  | .yard w _ => w
  | .vendor => true
  | .ddr w => w
  | _ => false

/-- The machine timer and software interrupt registers (Table 1.6), read as a doubleword at an aligned offset: msip of hart h at 4 × h, mtimecmp at 0x4000 + 8 × h, mtime at
0xBFF8. [assumption 10 PRESUMED] -/
def State.timerWord (s : State) (o : Nat) : Nat :=
  if o = 0 then (s.hart 0).msip.toNat + (s.hart 1).msip.toNat * 2 ^ 32
  else if o = 8 then (s.hart 2).msip.toNat + (s.hart 3).msip.toNat * 2 ^ 32
  else if o = 0x4000 then (s.hart 0).mtimecmp.toNat
  else if o = 0x4008 then (s.hart 1).mtimecmp.toNat
  else if o = 0x4010 then (s.hart 2).mtimecmp.toNat
  else if o = 0x4018 then (s.hart 3).mtimecmp.toNat
  else if o = 0xBFF8 then s.clock.toNat
  else 0

/-- A read of the timer region. [assumption 10 PRESUMED] -/
def State.timerRead (s : State) (o n : Nat) : Nat :=
  let both := s.timerWord (o / 8 * 8) + s.timerWord (o / 8 * 8 + 8) * 2 ^ 64
  both / 2 ^ (8 * (o % 8)) % 2 ^ (8 * n)

/-- Set mtimecmp of a hart; its timer interrupt is pending exactly while mtime has reached it. [assumption 11 DESIGN CHOICE] -/
def State.timerSet (s : State) (h : Fin 4) (v : BitVec 64) : State :=
  s.hartMap h (fun x => { x with mtimecmp := v, mtip := decide (v.toNat ≤ s.clock.toNat) })

/-- The value of a doubleword after a store of `n` bytes at byte `k` of it. -/
def mergeWord (old k n : Nat) (v : Nat) : Nat :=
  let m := (2 ^ (8 * n) - 1) * 2 ^ (8 * k) % 2 ^ 64
  old % 2 ^ 64 - (old % 2 ^ 64 &&& m) + (v * 2 ^ (8 * k) % 2 ^ 64 &&& m)

/-- A write of the timer region by aligned accesses of 4 or 8 bytes; mtime is the clock time and keeps its value. [assumption 10 PRESUMED] -/
def State.timerWrite (s : State) (o n v : Nat) : State :=
  if (n = 4 ∨ n = 8) ∧ o % n = 0 then
    let w := o / 8 * 8
    let x := mergeWord (s.timerWord w) (o % 8) n v
    let soft := fun (s : State) (h : Fin 4) (b : Bool) => s.hartMap h (fun y => { y with msip := b })
    if w = 0 then soft (soft s 0 (x.testBit 0)) 1 (x.testBit 32)
    else if w = 8 then soft (soft s 2 (x.testBit 0)) 3 (x.testBit 32)
    else if w = 0x4000 then s.timerSet 0 (BitVec.ofNat 64 x)
    else if w = 0x4008 then s.timerSet 1 (BitVec.ofNat 64 x)
    else if w = 0x4010 then s.timerSet 2 (BitVec.ofNat 64 x)
    else if w = 0x4018 then s.timerSet 3 (BitVec.ofNat 64 x)
    else s
  else s

/-- MACHINE_TIMER_INTERRUPT (R19): mtime reaches the hart's mtimecmp. [assumption 11 DESIGN CHOICE] -/
def machineTimerInterruptOp (h : Fin 4) (s : State) : State :=
  let s := { s with ttb := { s.ttb with clkQ := max s.ttb.clkQ (4 * (s.hart h).mtimecmp.toNat) } }
  s.hartMap h (fun x => { x with mtip := true })

/-- MACHINE_TIMER_INTERRUPT. -/
def execMachineTimerInterrupt (h : Fin 4) (s : State) : Host.Outcome State Fault Refusal := .next (machineTimerInterruptOp h s)

/-- A gather entry is written to the Yard with fresh check bits (R287); the bytes are merged already. -/
def State.gatherDrain (s : State) (w : Nat) : State :=
  if s.core.gather.any (fun p => p.1 == w) then (s.coreMap (fun c => { c with gather := c.gather.filter (fun p => p.1 != w) })).checkBits (8 * w) 8 else s

/-- A narrow store of a hart to a Yard word (R287); `e` is what the array gives for the old word on allocation. -/
def State.gatherStore (s : State) (h : Fin 4) (a : Nat) (l : List Byte) (e : ArrErr) : State :=
  let w := a / 8
  let mask := (2 ^ l.length - 1) * 2 ^ (a % 8)
  let drainFull := fun (s : State) => if s.core.gather.any (fun p => p.1 == w && p.2.1 == 255) then s.gatherDrain w else s
  if s.core.gather.any (fun p => p.1 == w) then
    let s := s.coreMap (fun c => { c with gather := c.gather.map (fun p => if p.1 = w then (w, p.2.1 ||| mask, h) else p) })
    drainFull (s.putBytes a l)
  else
    let s := if 8 ≤ s.core.gather.length then s.gatherDrain ((s.core.gather.headD (0, 0, 0)).1) else s
    let r := s.yardRead (8 * w) e
    if r.1 then drainFull ((r.2.coreMap (fun c => { c with gather := c.gather ++ [(w, mask, h)] })).putBytes a l)
    else r.2

/-- A store to the Yard: whole words at once, parts of words by way of the gather buffer. [assumption 13 DESIGN CHOICE] -/
def State.yardStore (s : State) (h : Fin 4) (a : Nat) (l : List Byte) (e : ArrErr) : State :=
  if a % 8 = 0 ∧ l.length = 8 then s.setBytes a l
  else
    let k := 8 - a % 8
    if l.length ≤ k then s.gatherStore h a l e
    else
      let s := s.gatherStore h a (l.take k) e
      if s.ms.faultReset then s else s.gatherStore h (a + k) (l.drop k) ⟨0, false⟩

/-- GATHER_IDLE_WRITEBACK (R287): 64 cycles without a store to the entry. -/
def execGatherIdleWriteback (a : Nat) (s : State) : Host.Outcome State Fault Refusal := .next (s.gatherDrain (a / 8))

/-- CORE_FENCE (R287): a FENCE by the storing hart drains its entries. -/
def coreFenceOp (h : Fin 4) (s : State) : State :=
  (s.core.gather.filter (fun p => p.2.2 == h)).foldl (fun s p => s.gatherDrain p.1) s

/-- CORE_FENCE. -/
def execCoreFence (h : Fin 4) (s : State) : Host.Outcome State Fault Refusal := .next (coreFenceOp h s)

/-- Read the Yard or Vault words of an access through their codes; a word in the gather buffer is the entry's (R285, R287, R290). [assumptions 13 DESIGN CHOICE, 181 DEDUCED] -/
def State.arrayLoad (s : State) (a n : Nat) (e : ArrErr) : Bool × State :=
  let one := fun (r : Bool × State) (w : Nat) (e : ArrErr) =>
    if !r.1 || r.2.core.gather.any (fun p => p.1 == w) then r else r.2.arrayRead (8 * w) e
  let r := one (true, s) (a / 8) e
  if (a + n - 1) / 8 = a / 8 then r else one r ((a + n - 1) / 8) ⟨0, false⟩

/-- A load or fetch of a hart (R19). [assumption 14 DESIGN CHOICE] -/
def State.coreLoad (s : State) (h : Fin 4) (g : CoreRegion) (a n : Nat) (e : ArrErr) : State :=
  match g with
  | .rom => s.give h (BitVec.ofNat 64 (ofLe ((List.range n).map (fun i => Config.bootRom (a + i)))))
  | .timer => s.give h (BitVec.ofNat 64 (s.timerRead (a - 0x2000000) n))
  | .vendor =>
    let r := s.sizedRead (a - 0x40000000) n
    r.2.give h r.1
  | .ddr _ => s.ddrAccess ⟨h, a, n, none⟩ e
  | _ =>
    let r := s.arrayLoad a n e
    if r.1 then r.2.give h (BitVec.ofNat 64 (r.2.load a n)) else r.2

/-- A store of a hart (R19). -/
def State.coreStore (s : State) (h : Fin 4) (g : CoreRegion) (a n : Nat) (v : BitVec 64) (e : ArrErr) : State :=
  match g with
  | .timer => (s.timerWrite (a - 0x2000000) n v.toNat).done h
  | .vendor => (s.sizedWrite (a - 0x40000000) n v).done h
  | .ddr _ => s.ddrAccess ⟨h, a, n, some v⟩ e
  | _ => (s.yardStore h a (leBytes n v.toNat) e).done h

/-- CORE_ACCESS (R19, R25): an access outside the map, or of a kind that its region does not permit, raises the access fault of its kind and has no effect. [assumption 14 DESIGN CHOICE] -/
def coreAccessOp (h : Fin 4) (kind : AccessKind) (a n : Nat) (v : BitVec 64) (e : ArrErr) (s : State) : State :=
  if !s.hartRuns h then s
  else match kind with
    | .csrRead m => s.csrRead h m a
    | .csrWrite m => s.csrWrite h m a v
    | .fetch => match s.region a n with
      | some g => if g.fetches then s.coreLoad h g a n e else s.trap h 1
      | none => s.trap h 1
    | .load => match s.region a n with
      | some g => s.coreLoad h g a n e
      | none => s.trap h 5
    | .store => match s.region a n with
      | some g => if g.stores then s.coreStore h g a n v e else s.trap h 7
      | none => s.trap h 7

/-- CORE_ACCESS. -/
def execCoreAccess (h : Fin 4) (kind : AccessKind) (a n : Nat) (v : BitVec 64) (e : ArrErr) (s : State) : Host.Outcome State Fault Refusal :=
  .next (coreAccessOp h kind a n v e s)

end Sys2Proof.Machine
end

