-- ==== Sys2Proof/Machine/Dispatch.lean ====
section
/-! DEFINITION. One arm for each command: a direct call of its meaning. -/
namespace Sys2Proof.Machine

def exec (i : Instr) (s : State) : Host.Outcome State Fault Refusal :=
  match i with
  | .registerWrite off size v => Sys2Proof.Machine.execRegisterWrite off size v s
  | .wideLowRead off => Sys2Proof.Machine.execWideLowRead off s
  | .wideHighRead off => Sys2Proof.Machine.execWideHighRead off s
  | .powerOnResetRelease straps auxLost => Sys2Proof.Machine.execPowerOnResetRelease straps auxLost s
  | .start flash => Sys2Proof.Machine.execStart flash s
  | .ddr5TrainingEnd ok gib => Sys2Proof.Machine.execDdr5TrainingEnd ok gib s
  | .configLock => Sys2Proof.Machine.execConfigLock s
  | .glbRstWrite v => Sys2Proof.Machine.execGlbRstWrite v s
  | .deviceReset => Sys2Proof.Machine.execDeviceReset s
  | .eventClaim hart machine => Sys2Proof.Machine.execEventClaim hart machine s
  | .eventComplete hart machine v => Sys2Proof.Machine.execEventComplete hart machine v s
  | .hartRelease hart machine v => Sys2Proof.Machine.execHartRelease hart machine v s
  | .coreAccess hart kind addr size v err => Sys2Proof.Machine.execCoreAccess hart kind addr size v err s
  | .gatherIdleWriteback addr => Sys2Proof.Machine.execGatherIdleWriteback addr s
  | .coreFence hart => Sys2Proof.Machine.execCoreFence hart s
  | .bankCopyEnd => Sys2Proof.Machine.execBankCopyEnd s
  | .timetableEnable v => Sys2Proof.Machine.execTimetableEnable v s
  | .timetableDisable v => Sys2Proof.Machine.execTimetableDisable v s
  | .angleSourceSelect v => Sys2Proof.Machine.execAngleSourceSelect v s
  | .snapshotCapture v => Sys2Proof.Machine.execSnapshotCapture v s
  | .missCounterClear v => Sys2Proof.Machine.execMissCounterClear v s
  | .slotArm n v => Sys2Proof.Machine.execSlotArm n v s
  | .slotDisarm n v => Sys2Proof.Machine.execSlotDisarm n v s
  | .slotFire n => Sys2Proof.Machine.execSlotFire n s
  | .windowOpen n => Sys2Proof.Machine.execWindowOpen n s
  | .windowClose n => Sys2Proof.Machine.execWindowClose n s
  | .samDetected a stamp index parityOk => Sys2Proof.Machine.execSamDetected a stamp index parityOk s
  | .samMissed => Sys2Proof.Machine.execSamMissed s
  | .timetableLock => Sys2Proof.Machine.execTimetableLock s
  | .flywheelEntry => Sys2Proof.Machine.execFlywheelEntry s
  | .lostEntry => Sys2Proof.Machine.execLostEntry s
  | .stepEnd => Sys2Proof.Machine.execStepEnd s
  | .syncSend => Sys2Proof.Machine.execSyncSend s
  | .twinsyncSet => Sys2Proof.Machine.execTwinsyncSet s
  | .twinsyncClear => Sys2Proof.Machine.execTwinsyncClear s
  | .pwmPeriod m => Sys2Proof.Machine.execPwmPeriod m s
  | .speedLoopPeriod est => Sys2Proof.Machine.execSpeedLoopPeriod est s
  | .observerLoss => Sys2Proof.Machine.execObserverLoss s
  | .commutationEvent interval ring good => Sys2Proof.Machine.execCommutationEvent interval ring good s
  | .bridgeFault => Sys2Proof.Machine.execBridgeFault s
  | .spindleRun v => Sys2Proof.Machine.execSpindleRun v s
  | .spindleStop v => Sys2Proof.Machine.execSpindleStop v s
  | .lossCounterClear v => Sys2Proof.Machine.execLossCounterClear v s
  | .speedTargetWrite v => Sys2Proof.Machine.execSpeedTargetWrite v s
  | .catchMeasurementEnd dir speed => Sys2Proof.Machine.execCatchMeasurementEnd dir speed s
  | .alignEnd => Sys2Proof.Machine.execAlignEnd s
  | .openloopHandoff => Sys2Proof.Machine.execOpenloopHandoff s
  | .lockedRotorExpiry => Sys2Proof.Machine.execLockedRotorExpiry s
  | .lockedRotorRetry => Sys2Proof.Machine.execLockedRotorRetry s
  | .inbandRise => Sys2Proof.Machine.execInbandRise s
  | .reacquisition => Sys2Proof.Machine.execReacquisition s
  | .reacquisitionTimeout => Sys2Proof.Machine.execReacquisitionTimeout s
  | .brakeHoldTimeout => Sys2Proof.Machine.execBrakeHoldTimeout s
  | .standstillGap emf speed => Sys2Proof.Machine.execStandstillGap emf speed s
  | .keUpdate => Sys2Proof.Machine.execKeUpdate s
  | .wedgeDemodulated a m => Sys2Proof.Machine.execWedgeDemodulated a m s
  | .recoverEntry a => Sys2Proof.Machine.execRecoverEntry a s
  | .settleComplete a => Sys2Proof.Machine.execSettleComplete a s
  | .sacSeek a v => Sys2Proof.Machine.execSacSeek a v s
  | .sacLoad a v => Sys2Proof.Machine.execSacLoad a v s
  | .sacUnload a v => Sys2Proof.Machine.execSacUnload a v s
  | .sacSelftest a v => Sys2Proof.Machine.execSacSelftest a v s
  | .sacEndtest a v => Sys2Proof.Machine.execSacEndtest a v s
  | .sacEnable a v => Sys2Proof.Machine.execSacEnable a v s
  | .sacDisable a v => Sys2Proof.Machine.execSacDisable a v s
  | .integratorClear a v => Sys2Proof.Machine.execIntegratorClear a v s
  | .sacCounterClear a v => Sys2Proof.Machine.execSacCounterClear a v s
  | .bankApplyRequest a v => Sys2Proof.Machine.execBankApplyRequest a v s
  | .followingErrorExpiry a => Sys2Proof.Machine.execFollowingErrorExpiry a s
  | .currentPlausibilityTick a vcms => Sys2Proof.Machine.execCurrentPlausibilityTick a vcms s
  | .implausible a => Sys2Proof.Machine.execImplausible a s
  | .estimateIntervalClose a aA aB => Sys2Proof.Machine.execEstimateIntervalClose a aA aB s
  | .loadServoFound a => Sys2Proof.Machine.execLoadServoFound a s
  | .loadTimeout a => Sys2Proof.Machine.execLoadTimeout a s
  | .unloadPushEnd a => Sys2Proof.Machine.execUnloadPushEnd a s
  | .unloadHoldEnd a => Sys2Proof.Machine.execUnloadHoldEnd a s
  | .recoverSeek a => Sys2Proof.Machine.execRecoverSeek a s
  | .recoverTimeout a => Sys2Proof.Machine.execRecoverTimeout a s
  | .bufferStopRetract a => Sys2Proof.Machine.execBufferStopRetract a s
  | .bufferStopSecondPhase a => Sys2Proof.Machine.execBufferStopSecondPhase a s
  | .bufferStopHold a => Sys2Proof.Machine.execBufferStopHold a s
  | .bufferStopEnd a => Sys2Proof.Machine.execBufferStopEnd a s
  | .gatePeriodOpen a ready => Sys2Proof.Machine.execGatePeriodOpen a ready s
  | .gatePeriodClose a => Sys2Proof.Machine.execGatePeriodClose a s
  | .syncWindowClose a cands => Sys2Proof.Machine.execSyncWindowClose a cands s
  | .sectorDecoded a m => Sys2Proof.Machine.execSectorDecoded a m s
  | .serialFrameCommand a v => Sys2Proof.Machine.execSerialFrameCommand a v s
  | .serialFrameStart a => Sys2Proof.Machine.execSerialFrameStart a s
  | .serialFrameDone a data => Sys2Proof.Machine.execSerialFrameDone a data s
  | .serialTimeout a => Sys2Proof.Machine.execSerialTimeout a s
  | .serialTrailerEnd a => Sys2Proof.Machine.execSerialTrailerEnd a s
  | .latePreampReply a => Sys2Proof.Machine.execLatePreampReply a s
  | .preampFault a => Sys2Proof.Machine.execPreampFault a s
  | .channelEnable a v => Sys2Proof.Machine.execChannelEnable a v s
  | .channelCounterClear a v => Sys2Proof.Machine.execChannelCounterClear a v s
  | .poolDecodeComplete e m => Sys2Proof.Machine.execPoolDecodeComplete e m s
  | .rereadPass slot m => Sys2Proof.Machine.execRereadPass slot m s
  | .accumulatorGrant => Sys2Proof.Machine.execAccumulatorGrant s
  | .jobAgeLimit slot => Sys2Proof.Machine.execJobAgeLimit slot s
  | .poolEnable v => Sys2Proof.Machine.execPoolEnable v s
  | .poolDisable v => Sys2Proof.Machine.execPoolDisable v s
  | .poolCounterClear v => Sys2Proof.Machine.execPoolCounterClear v s
  | .machineCheck a cause pbytes => Sys2Proof.Machine.execMachineCheck a cause pbytes s
  | .cont a w => Sys2Proof.Machine.execCont a w s
  | .jump a w => Sys2Proof.Machine.execJump a w s
  | .br a w => Sys2Proof.Machine.execBr a w s
  | .call a w => Sys2Proof.Machine.execCall a w s
  | .ret a w => Sys2Proof.Machine.execRet a w s
  | .disp a w => Sys2Proof.Machine.execDisp a w s
  | .eret a w => Sys2Proof.Machine.execEret a w s
  | .nop a w => Sys2Proof.Machine.execNop a w s
  | .mov a w => Sys2Proof.Machine.execMov a w s
  | .add a w => Sys2Proof.Machine.execAdd a w s
  | .sub a w => Sys2Proof.Machine.execSub a w s
  | .and a w => Sys2Proof.Machine.execAnd a w s
  | .or a w => Sys2Proof.Machine.execOr a w s
  | .xor a w => Sys2Proof.Machine.execXor a w s
  | .shl a w => Sys2Proof.Machine.execShl a w s
  | .shr a w => Sys2Proof.Machine.execShr a w s
  | .cmp a w => Sys2Proof.Machine.execCmp a w s
  | .lds a w => Sys2Proof.Machine.execLds a w s
  | .ldd a w => Sys2Proof.Machine.execLdd a w s
  | .std a w => Sys2Proof.Machine.execStd a w s
  | .angleWait a w => Sys2Proof.Machine.execAngleWait a w s
  | .condWait a w => Sys2Proof.Machine.execCondWait a w s
  | .strobeWait a w => Sys2Proof.Machine.execStrobeWait a w s
  | .waitEnd a => Sys2Proof.Machine.execWaitEnd a s
  | .waitLimitExpiry a => Sys2Proof.Machine.execWaitLimitExpiry a s
  | .yield a w => Sys2Proof.Machine.execYield a w s
  | .gateRead a w => Sys2Proof.Machine.execGateRead a w s
  | .gateWrite a w => Sys2Proof.Machine.execGateWrite a w s
  | .gateClear a w => Sys2Proof.Machine.execGateClear a w s
  | .chanLoad a w => Sys2Proof.Machine.execChanLoad a w s
  | .chanStart a w => Sys2Proof.Machine.execChanStart a w s
  | .chanAbort a w => Sys2Proof.Machine.execChanAbort a w s
  | .chanLoadr a w => Sys2Proof.Machine.execChanLoadr a w s
  | .servoSeek a w => Sys2Proof.Machine.execServoSeek a w s
  | .servoUnload a w => Sys2Proof.Machine.execServoUnload a w s
  | .preHeadSelect a w => Sys2Proof.Machine.execPreHeadSelect a w s
  | .preWriteFrame a w => Sys2Proof.Machine.execPreWriteFrame a w s
  | .preReadFrame a w => Sys2Proof.Machine.execPreReadFrame a w s
  | .ascReadHeat a w => Sys2Proof.Machine.execAscReadHeat a w s
  | .ascWriteHeat a w => Sys2Proof.Machine.execAscWriteHeat a w s
  | .ascIdle a w => Sys2Proof.Machine.execAscIdle a w s
  | .tchk a w => Sys2Proof.Machine.execTchk a w s
  | .endOp a w => Sys2Proof.Machine.execEndOp a w s
  | .microcodeEvent a w => Sys2Proof.Machine.execMicrocodeEvent a w s
  | .operationSubmit a v => Sys2Proof.Machine.execOperationSubmit a v s
  | .hardwareSubmit a => Sys2Proof.Machine.execHardwareSubmit a s
  | .operationCancel a submitter tag => Sys2Proof.Machine.execOperationCancel a submitter tag s
  | .completionPost a guardBad => Sys2Proof.Machine.execCompletionPost a guardBad s
  | .completionPop a v => Sys2Proof.Machine.execCompletionPop a v s
  | .sequencerEnable a v => Sys2Proof.Machine.execSequencerEnable a v s
  | .sequencerStop a v => Sys2Proof.Machine.execSequencerStop a v s
  | .sequencerCounterClear a v => Sys2Proof.Machine.execSequencerCounterClear a v s
  | .patchLoad a v => Sys2Proof.Machine.execPatchLoad a v s
  | .patchLoadComplete a sigOk tagOk plain => Sys2Proof.Machine.execPatchLoadComplete a sigOk tagOk plain s
  | .setpointApplyArm v => Sys2Proof.Machine.execSetpointApplyArm v s
  | .telemetryFrame a bits => Sys2Proof.Machine.execTelemetryFrame a bits s
  | .telemetryLoss a => Sys2Proof.Machine.execTelemetryLoss a s
  | .temperatureScan readings => Sys2Proof.Machine.execTemperatureScan readings s
  | .windowEvaluation => Sys2Proof.Machine.execWindowEvaluation s
  | .throttleGraceExpiry => Sys2Proof.Machine.execThrottleGraceExpiry s
  | .calibrationStart v => Sys2Proof.Machine.execCalibrationStart v s
  | .calibrationEnd tries => Sys2Proof.Machine.execCalibrationEnd tries s
  | .calibrationRestore v => Sys2Proof.Machine.execCalibrationRestore v s
  | .ageingMeasurement degr => Sys2Proof.Machine.execAgeingMeasurement degr s
  | .ascEnable v => Sys2Proof.Machine.execAscEnable v s
  | .ascCounterClear v => Sys2Proof.Machine.execAscCounterClear v s
  | .zoneEngineEnable v => Sys2Proof.Machine.execZoneEngineEnable v s
  | .zneCounterClear v => Sys2Proof.Machine.execZneCounterClear v s
  | .zoneActionApply => Sys2Proof.Machine.execZoneActionApply s
  | .chunkCommit zone k => Sys2Proof.Machine.execChunkCommit zone k s
  | .chunkIdleExpiry zone k => Sys2Proof.Machine.execChunkIdleExpiry zone k s
  | .chunkWriteComplete rec => Sys2Proof.Machine.execChunkWriteComplete rec s
  | .writeRetryTimer => Sys2Proof.Machine.execWriteRetryTimer s
  | .reclaimCopyComplete ok => Sys2Proof.Machine.execReclaimCopyComplete ok s
  | .spareAdd v => Sys2Proof.Machine.execSpareAdd v s
  | .stripeEngineEnable v => Sys2Proof.Machine.execStripeEngineEnable v s
  | .replayLoadEnd lostPages ringUe reads conv => Sys2Proof.Machine.execReplayLoadEnd lostPages ringUe reads conv s
  | .tagScanEnd tags => Sys2Proof.Machine.execTagScanEnd tags s
  | .parityPendingWrite => Sys2Proof.Machine.execParityPendingWrite s
  | .steCounterClear v => Sys2Proof.Machine.execSteCounterClear v s
  | .checkpointRequest v => Sys2Proof.Machine.execCheckpointRequest v s
  | .checkpointTimer => Sys2Proof.Machine.execCheckpointTimer s
  | .checkpointStart => Sys2Proof.Machine.execCheckpointStart s
  | .checkpointWriteComplete area ok => Sys2Proof.Machine.execCheckpointWriteComplete area ok s
  | .journalRateRelease => Sys2Proof.Machine.execJournalRateRelease s
  | .sectorReconstruction m => Sys2Proof.Machine.execSectorReconstruction m s
  | .surfaceRetire v => Sys2Proof.Machine.execSurfaceRetire v s
  | .mendChunk reads => Sys2Proof.Machine.execMendChunk reads s
  | .rinseStart v => Sys2Proof.Machine.execRinseStart v s
  | .rinseStop v => Sys2Proof.Machine.execRinseStop v s
  | .rinseChunkRead m => Sys2Proof.Machine.execRinseChunkRead m s
  | .rinseEnd => Sys2Proof.Machine.execRinseEnd s
  | .convWrite stamp => Sys2Proof.Machine.execConvWrite stamp s
  | .commandAdmission port qid => Sys2Proof.Machine.execCommandAdmission port qid s
  | .writeDataReceived stamp m => Sys2Proof.Machine.execWriteDataReceived stamp m s
  | .interlockRequest m => Sys2Proof.Machine.execInterlockRequest m s
  | .interlockHeld index => Sys2Proof.Machine.execInterlockHeld index s
  | .interlockRelease index => Sys2Proof.Machine.execInterlockRelease index s
  | .interlockCapture => Sys2Proof.Machine.execInterlockCapture s
  | .flushComplete stamp => Sys2Proof.Machine.execFlushComplete stamp s
  | .activationReady => Sys2Proof.Machine.execActivationReady s
  | .activationDone v => Sys2Proof.Machine.execActivationDone v s
  | .powerStateEntry v => Sys2Proof.Machine.execPowerStateEntry v s
  | .entryCheckpoint => Sys2Proof.Machine.execEntryCheckpoint s
  | .powerStateReturnEnd => Sys2Proof.Machine.execPowerStateReturnEnd s
  | .cqeEnable v => Sys2Proof.Machine.execCqeEnable v s
  | .cqeCounterClear v => Sys2Proof.Machine.execCqeCounterClear v s
  | .linkUp p speed width => Sys2Proof.Machine.execLinkUp p speed width s
  | .fundamentalReset p => Sys2Proof.Machine.execFundamentalReset p s
  | .hotReset p => Sys2Proof.Machine.execHotReset p s
  | .functionLevelReset p => Sys2Proof.Machine.execFunctionLevelReset p s
  | .controllerDisable p => Sys2Proof.Machine.execControllerDisable p s
  | .controllerEnable p v => Sys2Proof.Machine.execControllerEnable p v s
  | .normalShutdown p => Sys2Proof.Machine.execNormalShutdown p s
  | .abruptShutdown p => Sys2Proof.Machine.execAbruptShutdown p s
  | .configurationRequest p wr reg v => Sys2Proof.Machine.execConfigurationRequest p wr reg v s
  | .configReady v => Sys2Proof.Machine.execConfigReady v s
  | .doorbellWrite p isCq qid v => Sys2Proof.Machine.execDoorbellWrite p isCq qid v s
  | .pcieCompletion p tag m => Sys2Proof.Machine.execPcieCompletion p tag m s
  | .completionTimeout p tag => Sys2Proof.Machine.execCompletionTimeout p tag s
  | .busMasterDisable p => Sys2Proof.Machine.execBusMasterDisable p s
  | .busMasterEnable p => Sys2Proof.Machine.execBusMasterEnable p s
  | .coalescingTimer p qid => Sys2Proof.Machine.execCoalescingTimer p qid s
  | .expansionRomRead p off => Sys2Proof.Machine.execExpansionRomRead p off s
  | .createIoSq h qid size cqid contig => Sys2Proof.Machine.execCreateIoSq h qid size cqid contig s
  | .deleteIoSq h qid => Sys2Proof.Machine.execDeleteIoSq h qid s
  | .createIoCq h qid size vector contig => Sys2Proof.Machine.execCreateIoCq h qid size vector contig s
  | .deleteIoCq h qid => Sys2Proof.Machine.execDeleteIoCq h qid s
  | .identify h cns => Sys2Proof.Machine.execIdentify h cns s
  | .getLogPage h lid => Sys2Proof.Machine.execGetLogPage h lid s
  | .smartHealthLog h => Sys2Proof.Machine.execSmartHealthLog h s
  | .driveLifeLog h => Sys2Proof.Machine.execDriveLifeLog h s
  | .stationBookLog h first count => Sys2Proof.Machine.execStationBookLog h first count s
  | .bootStatusLog h => Sys2Proof.Machine.execBootStatusLog h s
  | .abort h sqid cid => Sys2Proof.Machine.execAbort h sqid cid s
  | .setFeatures h fid v => Sys2Proof.Machine.execSetFeatures h fid v s
  | .setPowerManagement h ps => Sys2Proof.Machine.execSetPowerManagement h ps s
  | .setTimestamp h ms => Sys2Proof.Machine.execSetTimestamp h ms s
  | .setThermalManagement h tmt1 tmt2 => Sys2Proof.Machine.execSetThermalManagement h tmt1 tmt2 s
  | .getFeatures h fid v => Sys2Proof.Machine.execGetFeatures h fid v s
  | .getTimestamp h => Sys2Proof.Machine.execGetTimestamp h s
  | .asynchronousEventRequest h => Sys2Proof.Machine.execAsynchronousEventRequest h s
  | .firmwareImageDownload h image => Sys2Proof.Machine.execFirmwareImageDownload h image s
  | .firmwareCommit h slot action => Sys2Proof.Machine.execFirmwareCommit h slot action s
  | .firmwareCommitActivate h slot => Sys2Proof.Machine.execFirmwareCommitActivate h slot s
  | .formatNvm h lbaf pi ses => Sys2Proof.Machine.execFormatNvm h lbaf pi ses s
  | .sanitize h => Sys2Proof.Machine.execSanitize h s
  | .securityProtocolDiscovery h => Sys2Proof.Machine.execSecurityProtocolDiscovery h s
  | .authenticate h nsid ok => Sys2Proof.Machine.execAuthenticate h nsid ok s
  | .setCredential h nsid oldOk newEmpty => Sys2Proof.Machine.execSetCredential h nsid oldOk newEmpty s
  | .lock h nsid => Sys2Proof.Machine.execLock h nsid s
  | .securityStatus h => Sys2Proof.Machine.execSecurityStatus h s
  | .flush h => Sys2Proof.Machine.execFlush h s
  | .write h slba nlb fua => Sys2Proof.Machine.execWrite h slba nlb fua s
  | .read h slba nlb => Sys2Proof.Machine.execRead h slba nlb s
  | .writeZeroes h slba nlb => Sys2Proof.Machine.execWriteZeroes h slba nlb s
  | .zoneAppend h zslba nlb fua => Sys2Proof.Machine.execZoneAppend h zslba nlb fua s
  | .zoneOpen h zslba all => Sys2Proof.Machine.execZoneOpen h zslba all s
  | .zoneClose h zslba all => Sys2Proof.Machine.execZoneClose h zslba all s
  | .zoneFinish h zslba all => Sys2Proof.Machine.execZoneFinish h zslba all s
  | .zoneReset h zslba all => Sys2Proof.Machine.execZoneReset h zslba all s
  | .zoneOffline h zslba all => Sys2Proof.Machine.execZoneOffline h zslba all s
  | .reportZones h slba count => Sys2Proof.Machine.execReportZones h slba count s
  | .unsupportedCommand h admin opcode => Sys2Proof.Machine.execUnsupportedCommand h admin opcode s
  | .miBasicManagementRead => Sys2Proof.Machine.execMiBasicManagementRead s
  | .readNvmeMiDataStructure dtyp => Sys2Proof.Machine.execReadNvmeMiDataStructure dtyp s
  | .subsystemHealthStatusPoll => Sys2Proof.Machine.execSubsystemHealthStatusPoll s
  | .controllerHealthStatusPoll p => Sys2Proof.Machine.execControllerHealthStatusPoll p s
  | .configurationGet cid => Sys2Proof.Machine.execConfigurationGet cid s
  | .configurationSet cid v => Sys2Proof.Machine.execConfigurationSet cid v s
  | .miTunneledCommand opcode arg => Sys2Proof.Machine.execMiTunneledCommand opcode arg s
  | .miUnsupportedRequest opcode => Sys2Proof.Machine.execMiUnsupportedRequest opcode s
  | .hepCounterClear v => Sys2Proof.Machine.execHepCounterClear v s
  | .scrubStart v found => Sys2Proof.Machine.execScrubStart v found s
  | .scrubTimer found => Sys2Proof.Machine.execScrubTimer found s
  | .scrubEnd => Sys2Proof.Machine.execScrubEnd s
  | .checkbitTestArm v => Sys2Proof.Machine.execCheckbitTestArm v s
  | .refreshRatePoll double => Sys2Proof.Machine.execRefreshRatePoll double s
  | .ddr5ReadComplete addr core err place => Sys2Proof.Machine.execDdr5ReadComplete addr core err place s
  | .ddr5ReadTimeout addr core place => Sys2Proof.Machine.execDdr5ReadTimeout addr core place s
  | .lateDdr5Data addr => Sys2Proof.Machine.execLateDdr5Data addr s
  | .mapCacheFill line => Sys2Proof.Machine.execMapCacheFill line s
  | .mergeDrain => Sys2Proof.Machine.execMergeDrain s
  | .cacheLock v => Sys2Proof.Machine.execCacheLock v s
  | .cacheUnlock v => Sys2Proof.Machine.execCacheUnlock v s
  | .cacheInvalidate v => Sys2Proof.Machine.execCacheInvalidate v s
  | .rangeOperationEnd => Sys2Proof.Machine.execRangeOperationEnd s
  | .mapCacheDisable v => Sys2Proof.Machine.execMapCacheDisable v s
  | .mapCacheDisableEnd => Sys2Proof.Machine.execMapCacheDisableEnd s
  | .mapCacheEnable v => Sys2Proof.Machine.execMapCacheEnable v s
  | .memCounterClear v => Sys2Proof.Machine.execMemCounterClear v s
  | .measurementRequest v => Sys2Proof.Machine.execMeasurementRequest v s
  | .measurementTimer => Sys2Proof.Machine.execMeasurementTimer s
  | .measurementEnd s0 s1 => Sys2Proof.Machine.execMeasurementEnd s0 s1 s
  | .powerFailFall => Sys2Proof.Machine.execPowerFailFall s
  | .powerLoss => Sys2Proof.Machine.execPowerLoss s
  | .windowSaveEnd => Sys2Proof.Machine.execWindowSaveEnd s
  | .powerReturn => Sys2Proof.Machine.execPowerReturn s
  | .restoreRequest v => Sys2Proof.Machine.execRestoreRequest v s
  | .restoreEnd => Sys2Proof.Machine.execRestoreEnd s
  | .governorPeriod util => Sys2Proof.Machine.execGovernorPeriod util s
  | .coresOff v => Sys2Proof.Machine.execCoresOff v s
  | .ps4Wake => Sys2Proof.Machine.execPs4Wake s
  | .powerOnHour => Sys2Proof.Machine.execPowerOnHour s
  | .faultMessage => Sys2Proof.Machine.execFaultMessage s
  | .fatalHoldEnd => Sys2Proof.Machine.execFatalHoldEnd s
  | .faultMessageRead => Sys2Proof.Machine.execFaultMessageRead s
  | .fltCounterClear v => Sys2Proof.Machine.execFltCounterClear v s
  | .railOutOfRange unit overs mv => Sys2Proof.Machine.execRailOutOfRange unit overs mv s
  | .railBackInRange unit => Sys2Proof.Machine.execRailBackInRange unit s
  | .clockFailure pll edges => Sys2Proof.Machine.execClockFailure pll edges s
  | .testUnlock v => Sys2Proof.Machine.execTestUnlock v s
  | .forceFault v => Sys2Proof.Machine.execForceFault v s
  | .forceLapse => Sys2Proof.Machine.execForceLapse s
  | .softwareEvent v => Sys2Proof.Machine.execSoftwareEvent v s
  | .routeWrite n v => Sys2Proof.Machine.execRouteWrite n v s
  | .gpioEdge n level => Sys2Proof.Machine.execGpioEdge n level s
  | .recordWrite => Sys2Proof.Machine.execRecordWrite s
  | .bucketRefill code => Sys2Proof.Machine.execBucketRefill code s
  | .stationBookClear v => Sys2Proof.Machine.execStationBookClear v s
  | .stationBookClearEnd => Sys2Proof.Machine.execStationBookClearEnd s
  | .firmwareRecord v => Sys2Proof.Machine.execFirmwareRecord v s
  | .bokCounterClear v => Sys2Proof.Machine.execBokCounterClear v s
  | .svnUpdate v => Sys2Proof.Machine.execSvnUpdate v s
  | .debugChallenge => Sys2Proof.Machine.execDebugChallenge s
  | .debugResponse ok => Sys2Proof.Machine.execDebugResponse ok s
  | .branchLineEnable v => Sys2Proof.Machine.execBranchLineEnable v s
  | .linkTrained delay => Sys2Proof.Machine.execLinkTrained delay s
  | .fence v => Sys2Proof.Machine.execFence v s
  | .handBack v => Sys2Proof.Machine.execHandBack v s
  | .handBackEnd => Sys2Proof.Machine.execHandBackEnd s
  | .brlCounterClear v => Sys2Proof.Machine.execBrlCounterClear v s
  | .heartbeatKick v => Sys2Proof.Machine.execHeartbeatKick v s
  | .heartbeatToggle padLevel => Sys2Proof.Machine.execHeartbeatToggle padLevel s
  | .kickExpiry => Sys2Proof.Machine.execKickExpiry s
  | .heartbeatEdge => Sys2Proof.Machine.execHeartbeatEdge s
  | .partnerSilent => Sys2Proof.Machine.execPartnerSilent s
  | .guardExpiry => Sys2Proof.Machine.execGuardExpiry s
  | .tokenNetChange net level => Sys2Proof.Machine.execTokenNetChange net level s
  | .tokenGained net => Sys2Proof.Machine.execTokenGained net s
  | .tokenLost net => Sys2Proof.Machine.execTokenLost net s
  | .tokenWaitExpiry => Sys2Proof.Machine.execTokenWaitExpiry s
  | .idleTimer => Sys2Proof.Machine.execIdleTimer s
  | .idle f => Sys2Proof.Machine.execIdle f s
  | .hello f id side glbId imgRev angle => Sys2Proof.Machine.execHello f id side glbId imgRev angle s
  | .sync f angle stamp => Sys2Proof.Machine.execSync f angle stamp s
  | .spst f sts speed target ceil parked => Sys2Proof.Machine.execSpst f sts speed target ceil parked s
  | .jrec f bytes => Sys2Proof.Machine.execJrec f bytes s
  | .win f lba nsid stamp bytes => Sys2Proof.Machine.execWin f lba nsid stamp bytes s
  | .wrel f blocks => Sys2Proof.Machine.execWrel f blocks s
  | .mdcopy f page off bytes => Sys2Proof.Machine.execMdcopy f page off bytes s
  | .fwd f e => Sys2Proof.Machine.execFwd f e s
  | .fdata f cid bytes => Sys2Proof.Machine.execFdata f cid bytes s
  | .fcpl f cid status dw0 => Sys2Proof.Machine.execFcpl f cid status dw0 s
  | .fctl f n => Sys2Proof.Machine.execFctl f n s
  | .xrdy f => Sys2Proof.Machine.execXrdy f s
  | .ack f => Sys2Proof.Machine.execAck f s
  | .fltm f msg => Sys2Proof.Machine.execFltm f msg s
  | .fencePacket f => Sys2Proof.Machine.execFencePacket f s
  | .invalidFrame f => Sys2Proof.Machine.execInvalidFrame f s
  | .handshakeTimeout tag => Sys2Proof.Machine.execHandshakeTimeout tag s
  | .steer v => Sys2Proof.Machine.execSteer v s
  | .steeringDone reads => Sys2Proof.Machine.execSteeringDone reads s
  | .bypass => Sys2Proof.Machine.execBypass s
  | .idcode => Sys2Proof.Machine.execIdcode s
  | .samplePreload pattern => Sys2Proof.Machine.execSamplePreload pattern s
  | .extest => Sys2Proof.Machine.execExtest s
  | .clamp => Sys2Proof.Machine.execClamp s
  | .highz => Sys2Proof.Machine.execHighz s
  | .preampFaultClear a => Sys2Proof.Machine.execPreampFaultClear a s
  | .powerFailRise => Sys2Proof.Machine.execPowerFailRise s
  | .holdRailBelowVmin mv => Sys2Proof.Machine.execHoldRailBelowVmin mv s
  | .partnerHeartbeatLoss => Sys2Proof.Machine.execPartnerHeartbeatLoss s
  | .branchLineLinkLoss => Sys2Proof.Machine.execBranchLineLinkLoss s
  | .functionLevelResetEnd p => Sys2Proof.Machine.execFunctionLevelResetEnd p s
  | .machineTimerInterrupt hart => Sys2Proof.Machine.execMachineTimerInterrupt hart s

end Sys2Proof.Machine
end

