-- ==== Sys2Proof/Safety.lean ====
section
/-! DEFINITION. What counts as a sound state and a safe step, in the terms the statements use. -/
namespace Sys2Proof.Machine

/-- Registers, live copies and memory are in their canonical forms, so that equal contents are equal data. -/
def State.canonical (s : State) : Prop := Memory.wf s.mem = true ∧ canon regReset s.regs = true ∧ canon regReset s.live = true

/-- A step stops: it ends in a fault or a refusal. -/
def stops : Host.Outcome State Fault Refusal → Prop
  | .next _ => False
  | .fault _ => True
  | .refused _ => True

/-- A sequencer's next cycle runs the word that ROM holds at the present address: it runs, no word is held or waits, and no word of patch RAM serves instead (R149, R162). -/
def State.readyToRun (s : State) (a : Act) : Prop :=
  s.flag (F.MSQ_STS_RUN a) = true ∧ (s.msqOf a).held = none ∧ (s.msqOf a).waiting = none ∧ s.patchWord a (s.fget (F.MSQ_PC_ADDR a)) = none

/-- The word `w` runs at once: the sequencer is ready, the word holds no reserved value, waits for nothing, and the watchdog has not run out (R148, R153, R156). -/
def State.wordRuns (s : State) (a : Act) (w : Microword) : Prop :=
  s.readyToRun a ∧ reservedWord w = false ∧ w.wait = 0 ∧ (w.y = true ∨ (s.msqOf a).sinceYield < 64)

/-- An admin command is taken: it stands in the admin queue, and its port's queues are not held (R252, R253). -/
def State.adminReady (s : State) (h : CmdHdr) : Prop := h.qid = 0 ∧ s.portHeld h.port = false

end Sys2Proof.Machine
end

