-- ==== Sys2Proof/Certificates/Slice0/Obligations.lean ====
section
/-! DEFINITION. The statements for the provers.  Most say of the commands of one family, form by form, which next state each answers: the conclusion is that `exec` answers `next` of the
state that the named shared operations build, and whatever those operations do not touch stays.  The rules named in a docstring are those it rests on. -/
open Sys2Proof Sys2Proof.Machine

/-- TIMETABLE_ENABLE, TIMETABLE_DISABLE, ANGLE_SOURCE_SELECT (R33, R38, Table 2.2): a write of TTB_CTL takes AUTOSRC and a new, unreserved SRC; EN = 1 moves IDLE to ACQUIRE with
the rate of R391, EN = 0 moves every state to IDLE and stops the angle; nothing else changes. -/
def Obligations.TimetableControl : Prop :=
  ∀ (s : State) (v : Word),
    let a := s.fsetB F.TTB_CTL_AUTOSRC (F.TTB_CTL_AUTOSRC.on v)
    let u := if F.TTB_CTL_SRC.of v ≤ 1 ∧ F.TTB_CTL_SRC.of v ≠ a.fget F.TTB_CTL_SRC then
      ({ a with ttb := { a.ttb with markSkew := 0 } }).fset F.TTB_CTL_SRC (F.TTB_CTL_SRC.of v) else a
    let on := u.fsetB F.TTB_CTL_EN true
    let off := u.fsetB F.TTB_CTL_EN false
    let fresh := fun (x : State) => { x with ttb := { x.ttb with lockRun := 0, missRun := 0, slew := 0, acceptedInWedge := false } }
    (on.ttbIn TtbS.idle = true → exec (.timetableEnable v) s = .next (((fresh on).ttbEnter TtbS.acquire).inhUpdate.ttbRate)) ∧
    (on.ttbIn TtbS.idle = false → exec (.timetableEnable v) s = .next on) ∧
    exec (.timetableDisable v) s = .next (((fresh off).ttbEnter TtbS.idle).inhUpdate.fset F.TTB_INC_INC 0) ∧
    (F.TTB_CTL_EN.on v = true → exec (.angleSourceSelect v) s = exec (.timetableEnable v) s) ∧
    (F.TTB_CTL_EN.on v = false → exec (.angleSourceSelect v) s = exec (.timetableDisable v) s)

/-- SNAPSHOT_CAPTURE and MISS_COUNTER_CLEAR (R39, R48, R11): the angle and clock time of one cycle enter the snapshot registers; the miss counter is cleared; each leaves everything
else as it was. -/
def Obligations.SnapshotAndMissCounter : Prop :=
  (∀ (s : State) (v : Word), F.TTB_SNAP_CLRMISS.on v = false → ∃ t, exec (.snapshotCapture v) s = .next t ∧
    t = (s.wideSet Rg.TTB_SNAPANG_LO s.ttb.angle.toNat).wideSet Rg.TTB_SNAPCLK_LO s.clock.toNat ∧
    t.wide Rg.TTB_SNAPANG_LO = s.ttb.angle.toNat ∧ t.wide Rg.TTB_SNAPCLK_LO = s.clock.toNat ∧
    ∀ o, o ≠ Rg.TTB_SNAPANG_LO → o ≠ Rg.TTB_SNAPANG_HI → o ≠ Rg.TTB_SNAPCLK_LO → o ≠ Rg.TTB_SNAPCLK_HI → t.rd o = s.rd o) ∧
  (∀ (s : State) (v : Word), F.TTB_SNAP_CAP.on v = false → ∃ t, exec (.missCounterClear v) s = .next t ∧
    t = s.clearCount Rg.TTB_MISS_LO ∧ t.wide Rg.TTB_MISS_LO = 0 ∧ ∀ o, o ≠ Rg.TTB_MISS_LO → o ≠ Rg.TTB_MISS_HI → t.rd o = s.rd o) ∧
  (∀ (s : State) (v : Word), F.TTB_SNAP_CLRMISS.on v = true → F.TTB_SNAP_CAP.on v = true →
    exec (.snapshotCapture v) s = exec (.missCounterClear v) s ∧
    exec (.snapshotCapture v) s =
      .next (((s.wideSet Rg.TTB_SNAPANG_LO s.ttb.angle.toNat).wideSet Rg.TTB_SNAPCLK_LO s.clock.toNat).clearCount Rg.TTB_MISS_LO))

/-- The lock of the Timetable (R34 to R36, Table 2.2): a mark in LOCKED within four tolerances corrects the rate and one outside does nothing; a wedge without a mark counts as
missed and the rate falls back to its base; enough marks in tolerance lock, enough misses make FLYWHEEL, and FLYWHEEL becomes LOST. STEP_END, TWINSYNC_SET and TWINSYNC_CLEAR
(R45, R46): the speed step ends after 64 accepted marks; 16 good sync packets set TWINSYNC; on a JUNIOR chip a loss clears it and sends its fault message. -/
def Obligations.TimetableLockingAndSteps : Prop :=
  (∀ (s : State) (a : Act) (stamp : Angle) (index : Fin 512) (ok : Bool), (s.ttbIn TtbS.idle = true ∨ s.fget F.TTB_CTL_SRC ≠ a.num) →
    exec (.samDetected a stamp index ok) s = .next s) ∧
  (∀ (s : State) (a : Act) (stamp : Angle) (index : Fin 512), s.ttbIn TtbS.idle = false → s.fget F.TTB_CTL_SRC = a.num → s.flag F.BRL_STEER_SET = false →
    let u := (s.angleTo (BitVec.ofNat 64 (atCompare stamp.toNat))).fset F.TTB_STS_SRCACT a.num
    let e := lockError (BitVec.ofNat 64 (atCompare stamp.toNat)) index.val u.ttb.markSkew
    u.ttbIn TtbS.locked = true →
    (-(4 * u.ttbTol) < e → e ≤ 4 * u.ttbTol →
      let w := (u.samAccept e).loopCorrect e
      exec (.samDetected a stamp index true) s = .next { w with ttb := { w.ttb with stepSams := w.ttb.stepSams.map (· + 1) } }) ∧
    (e ≤ -(4 * u.ttbTol) ∨ 4 * u.ttbTol < e → exec (.samDetected a stamp index true) s = .next u) ∧
    exec (.samDetected a stamp index false) s = .next u) ∧
  (∀ s : State, s.ttbIn TtbS.locked = true → s.ttb.acceptedInWedge = false → exec .samMissed s =
    .next ((({ s with ttb := { s.ttb with lockRun := 0, missRun := s.ttb.missRun + 1, stepSams := s.ttb.stepSams.map (fun _ => 0) } }).count
      Rg.TTB_MISS_LO).fset F.TTB_INC_INC s.ttb.base)) ∧
  (∀ s : State, s.ttbIn TtbS.idle = false → s.ttb.acceptedInWedge = true →
    exec .samMissed s = .next { s with ttb := { s.ttb with acceptedInWedge := false } }) ∧
  (∀ s : State, (s.ttbIn TtbS.acquire = true ∧ max 1 (s.fget F.TTB_LOCKCFG_LOCKN) ≤ s.ttb.lockRun) ∨ (s.ttbIn TtbS.flywheel = true ∧ 8 ≤ s.ttb.lockRun) →
    exec .timetableLock s = .next ((({ s.slewEnd with ttb := { s.slewEnd.ttb with base := s.slewEnd.fget F.TTB_INC_INC, missRun := 0, lockRun := 0 } }).ttbEnter
      TtbS.locked).inhUpdate)) ∧
  (∀ s : State, s.ttbIn TtbS.locked = true → max 1 (s.fget F.TTB_LOCKCFG_MISSN) ≤ s.ttb.missRun → exec .flywheelEntry s =
    .next (((({ s with ttb := { s.ttb with flyStart := s.ttb.angle, lockRun := 0, slew := 0 } }).ttbEnter TtbS.flywheel).inhUpdate.raiseFault Blk.ttb 0 1 1
      0).autoSwitch)) ∧
  (∀ s : State, s.ttbIn TtbS.flywheel = true →
    let u := (if s.forced Blk.ttb 0 2 then s else s.angleTo (s.ttb.flyStart + BitVec.ofNat 64 (512 * wedgeUnits))).slewEnd
    let w := { u with ttb := { u.ttb with lockRun := 0 } }
    exec .lostEntry s = .next (((w.ttbEnter TtbS.lost).inhUpdate.raiseFault Blk.ttb 0 2 3 0 (!w.forced Blk.ttb 0 2)).ttbRate)) ∧
  (∀ (s : State) (n : Nat), s.flag F.TTB_STS_STEP = true → s.ttbIn TtbS.locked = true → s.ttb.stepSams = some n → 64 ≤ n →
    exec .stepEnd s = .next ((({ s with ttb := { s.ttb with stepSams := none } }).fsetB F.TTB_STS_STEP false).inhUpdate)) ∧
  (∀ s : State, s.flag F.TTB_STS_STEP = false → exec .stepEnd s = .next s) ∧
  (∀ s : State, s.twin = true → 16 ≤ s.ttb.syncRun → exec .twinsyncSet s = .next ((s.fsetB F.TTB_STS_TWINSYNC true).inhUpdate)) ∧
  (∀ s : State, s.twin = false → exec .twinsyncSet s = .next s) ∧
  (∀ s : State, s.flag F.TTB_STS_TWINSYNC = true → s.flag F.BRL_STS_SENIOR = false → exec .twinsyncClear s =
    .next (((({ s with ttb := { s.ttb with syncRun := 0, syncMiss := 0 } }).fsetB F.TTB_STS_TWINSYNC false).inhUpdate).raiseFault Blk.ttb 0 3 2 0
      (!s.forced Blk.ttb 0 3)))

/-- PWM_PERIOD, SPEED_LOOP_PERIOD, COMMUTATION_EVENT and OBSERVER_LOSS (R53 to R58, R63 to R67, R391): the current loops run while the bridge drives, the speed loop ramps and
regulates in RUN, a revolution of commutation events is judged and gives the speed where no observer runs, and failing periods lose the observer. -/
def Obligations.SpindleLoops : Prop :=
  (∀ (s : State) (m : PwmIn), s.spc.bridge = .foc → s.spcIn SpcS.run = true → exec (.pwmPeriod m) s = .next
    (s.spcMap (fun x =>
      let y := currentLoops x (s.fget F.SPC_ILOOP_KP) (s.fget F.SPC_ILOOP_KI) (s.padv true) (s.padv false) m
      { y with failRun := if m.failing then y.failRun + 1 else 0, lowOff := false, pwmCount := (y.pwmCount + 1) % 8 }))) ∧
  (∀ (s : State) (m : PwmIn), s.spc.bridge = .pulsed → s.spcIn SpcS.brake = true → exec (.pwmPeriod m) s = .next
    (s.spcMap (fun x => { x with failRun := 0, lowOff := m.overCurrent, pwmCount := (x.pwmCount + 1) % 8 }))) ∧
  (∀ (s : State) (est : Int), s.observerRuns = true → (s.setSpeed est).spcIn SpcS.run = true →
    exec (.speedLoopPeriod est) s = .next ((s.setSpeed est).speedLoop.ttbRate.brakeThreshold.harvestEnd.bankIdleBoth)) ∧
  (∀ (s : State) (est : Int), s.observerRuns = false → s.spcIn SpcS.run = false → s.spcIn SpcS.stopping = false → s.spcIn SpcS.harvest = false →
    exec (.speedLoopPeriod est) s = .next (s.ttbRate.brakeThreshold.harvestEnd.bankIdleBoth)) ∧
  (∀ (s : State) (interval ring : Nat) (good : Bool), s.spcIn SpcS.stopped = true → s.spc.brakeHold = false →
    let u := (s.spcMap (fun x => { x with goodRun := 0, intervals := (interval :: x.intervals).take (6 * s.polep) })).flywheelRate.ttbRate
    (60000000000 ≤ ring * u.overLimit * (6 * s.polep) → u.forced Blk.spc 0 5 = false →
      exec (.commutationEvent interval ring good) s = .next u.harvestEnd) ∧
    (ring * u.overLimit * (6 * s.polep) < 60000000000 → exec (.commutationEvent interval ring good) s = .next (u.overspeed true))) ∧
  (∀ s : State, s.spcIn SpcS.run = true → s.lossN ≤ s.spc.failRun →
    let u := ((s.fsetB F.SPC_STS_OBSLOSS true).count Rg.SPC_LOSSCNT_LO).bridgeSet .hiZ
    u.spcIn SpcS.run = true → exec .observerLoss s = .next (((u.fsetB F.SPC_STS_STEP false).spcEnter SpcS.coast).inhUpdate.ttbRate)) ∧
  (∀ s : State, s.spc.failRun < s.lossN → exec .observerLoss s = .next s)

/-- Starting and stopping the spindle (R60 to R65, Table 3.2): RUN = 1 leaves STOPPED only, unless the device is in a safe-stop, after a harvest command or without the spindle's
Token; RUN = 0 stops from RUN and brakes from the start states; a target write takes effect under the ceiling; CLRLOSS clears the counter. -/
def Obligations.SpindleCommands : Prop :=
  (∀ (s : State) (v : Word), F.SPC_CTL_CLRLOSS.on v = false →
    let u := (s.fsetB F.SPC_CTL_RUN true).fsetB F.SPC_CTL_CATCH (F.SPC_CTL_CATCH.on v)
    (u.spcIn SpcS.stopped = true → u.flag F.FLT_STS_SAFEDEV = false → u.spc.harvested = false → u.holdsSpindle = true →
      exec (.spindleRun v) s = .next (u.spinUp (F.SPC_CTL_CATCH.on v))) ∧
    (u.spcIn SpcS.stopped = false ∨ u.flag F.FLT_STS_SAFEDEV = true ∨ u.spc.harvested = true ∨ u.holdsSpindle = false →
      exec (.spindleRun v) s = .next u)) ∧
  (∀ (s : State) (v : Word), F.SPC_CTL_CLRLOSS.on v = false →
    let u := ((s.fsetB F.SPC_CTL_RUN false).fsetB F.SPC_CTL_CATCH (F.SPC_CTL_CATCH.on v)).spcMap (fun x => { x with retryDue := false })
    (u.spcIn SpcS.run = true → exec (.spindleStop v) s =
      .next (((u.spcMap (fun x => { x with rampRef := u.speed * 100000000 })).fsetB F.SPC_STS_STEP false).spcEnter SpcS.stopping)) ∧
    (u.spcIn SpcS.catching = true ∨ u.spcIn SpcS.align = true ∨ u.spcIn SpcS.openloop = true →
      exec (.spindleStop v) s = .next (u.enterBrake .standstill)) ∧
    (u.spcIn SpcS.stopped = true → exec (.spindleStop v) s = .next u)) ∧
  (∀ (s : State) (v : Word), F.SPC_CTL_RUN.on v = true → s.spcIn SpcS.run = true →
    let u := ((s.fsetB F.SPC_CTL_RUN true).fsetB F.SPC_CTL_CATCH (F.SPC_CTL_CATCH.on v)).clearCount Rg.SPC_LOSSCNT_LO
    u.spcIn SpcS.stopped = false → exec (.lossCounterClear v) s = .next u) ∧
  (∀ (s : State) (v : Word), 1 ≤ F.SPC_TARGET_SEL.of v → F.SPC_TARGET_SEL.of v ≤ 5 → s.twin = false →
    exec (.speedTargetWrite v) s = .next (s.targetSet (min (F.SPC_TARGET_SEL.of v) s.ceiling))) ∧
  (∀ (s : State) (v : Word), F.SPC_TARGET_SEL.of v < 1 ∨ 5 < F.SPC_TARGET_SEL.of v → exec (.speedTargetWrite v) s = .next s)

/-- The start of the spindle (R60 to R62, R64, Table 3.3): the catch measurement decides by direction and speed, ALIGN is followed by OPENLOOP and that by RUN, a locked rotor stops
the start and is tried again until the retries are spent. What happens to a turning spindle (R52, R63 to R73): four revolutions in band raise INBAND and end a step; a bridge
fault stops the drive; the observer is reacquired in COAST or the safe-stop path begins; a held brake is released; a high-impedance gap finds standstill. -/
def Obligations.SpindleStartAndRun : Prop :=
  (∀ (s : State) (dir : RotorDir) (speed : Nat), s.spcIn SpcS.catching = false → exec (.catchMeasurementEnd dir speed) s = .next s) ∧
  (∀ (s : State) (speed : Nat), s.spcIn SpcS.catching = true → s.spc.harvested = false →
    exec (.catchMeasurementEnd .standstill speed) s = .next ((s.fset F.SPC_STS_CATCHDIR 0).setSpeed 0).enterAlign ∧
    (300 * 65536 ≤ speed → exec (.catchMeasurementEnd .forwards speed) s = .next ((s.fset F.SPC_STS_CATCHDIR 1).setSpeed speed).enterRun) ∧
    (speed < 300 * 65536 →
      exec (.catchMeasurementEnd .forwards speed) s = .next (((s.fset F.SPC_STS_CATCHDIR 1).setSpeed speed).enterBrake .standstill)) ∧
    (60 * 65536 ≤ speed →
      exec (.catchMeasurementEnd .backwards speed) s = .next (((s.fset F.SPC_STS_CATCHDIR 2).setSpeed (-(speed : Int))).enterBrake .below60)) ∧
    (speed < 60 * 65536 →
      exec (.catchMeasurementEnd .backwards speed) s = .next ((s.fset F.SPC_STS_CATCHDIR 2).setSpeed (-(speed : Int))).enterAlign)) ∧
  (∀ s : State, s.spcIn SpcS.align = true →
    exec .alignEnd s = .next ((s.spcEnter SpcS.openloop).spcMap (fun x => { x with startEvents := 0, goodRun := 0 })).ttbRate) ∧
  (∀ s : State, s.spcIn SpcS.openloop = true → s.fget F.SPC_START_HANDOFF * 10 * 65536 ≤ mag s.speed → 12 ≤ s.spc.goodRun →
    exec .openloopHandoff s = .next (s.spcMap (fun x => { x with ints := x.iqRef * 4096, locks := 0 })).enterRun) ∧
  (∀ s : State, s.spcIn SpcS.openloop = true → s.spc.startEvents = 0 →
    let u := (s.fsetB F.SPC_STS_LOCKROT true).enterStopped
    let n := u.spc.locks + 1
    (n ≤ u.fget F.SPC_START_RETRY →
      exec .lockedRotorExpiry s = .next ((u.spcMap (fun x => { x with locks := n, retryDue := true })).raiseFault Blk.spc 0 2 3 0)) ∧
    (u.fget F.SPC_START_RETRY < n →
      exec .lockedRotorExpiry s = .next ((u.spcMap (fun x => { x with locks := n, retryDue := false })).raiseFault Blk.spc 0 3 4 0))) ∧
  (∀ s : State, s.spcIn SpcS.stopped = true → s.spc.retryDue = true → s.flag F.SPC_CTL_RUN = true → s.flag F.FLT_STS_SAFEDEV = false →
    s.spc.harvested = false → s.holdsSpindle = true → exec .lockedRotorRetry s = .next (s.spinUp true)) ∧
  (∀ s : State, s.spc.retryDue = false → exec .lockedRotorRetry s = .next s) ∧
  (∀ s : State, s.spcIn SpcS.run = true → 4 ≤ s.spc.bandRevs → s.flag F.SPC_STS_INBAND = false → s.flag F.SPC_STS_STEP = false →
    let u := s.fsetB F.SPC_STS_INBAND true
    u.flag F.SPC_STS_STEP = false → exec .inbandRise s =
      .next ({ u with ttb := { u.ttb with stepSams := if u.flag F.TTB_STS_STEP then some 0 else none } }).bankIdleBoth) ∧
  (∀ s : State, s.spc.bandRevs < 4 → exec .inbandRise s = .next s) ∧
  (∀ s : State,
    let u := (s.spcMap (fun x => { x with faultPin := x.faultPin || !s.forced Blk.spc 0 6, brakeHold := false })).fsetB F.SPC_STS_BRIDGEF true
    let w := ((u.spcEnter SpcS.fault).bridgeSet .gatesLow).fsetB F.SPC_STS_STEP false
    exec .bridgeFault s = .next (w.raiseFault Blk.spc 0 6 4 0 (!w.forced Blk.spc 0 6)).ttbRate) ∧
  (∀ s : State, s.spcIn SpcS.coast = true → 12 ≤ s.spc.goodRun →
    let u := ((s.fsetB F.SPC_STS_OBSLOSS false).raiseFault Blk.spc 0 1 1 0).spcMap (fun x => { x with ints := 0, iqRef := 0, slewClk := 1 })
    u.flag F.SPC_CTL_RUN = true → exec .reacquisition s = .next u.enterRun.inhUpdate) ∧
  (∀ s : State, s.spcIn SpcS.coast = true → s.spc.goodRun < 12 →
    exec .reacquisitionTimeout s = .next (s.safeBrake 4 (!s.forced Blk.spc 0 4)) ∧ exec .reacquisition s = .next s) ∧
  (∀ s : State, s.spc.brakeHold = true → exec .brakeHoldTimeout s =
    .next (s.spcMap (fun x => { x with brakeHold := false, lowOff := false, bridge := if mag s.speed < 1200 * 65536 then .short else .pulsed }))) ∧
  (∀ s : State, s.spc.brakeHold = false → exec .brakeHoldTimeout s = .next s) ∧
  (∀ (s : State) (emf : Nat) (speed : Int), s.spcIn SpcS.safebrake = true → s.spc.brakeHold = false →
    let u := (s.setSpeed speed).brakeThreshold
    u.spcIn SpcS.safebrake = true →
    (emf < u.fget F.SPC_CATCH_MINEMF → exec (.standstillGap emf speed) s = .next u.enterStopped) ∧
    (u.fget F.SPC_CATCH_MINEMF ≤ emf → exec (.standstillGap emf speed) s = .next u.ttbRate))

/-- SAC_SEEK, SAC_LOAD, SAC_UNLOAD, SAC_SELFTEST, SAC_ENDTEST (R81, R87, R96, R97, Table 4.4): each command takes effect in the states that permit it; anywhere else SACn_STS.REJ is
set and nothing else changes. -/
def Obligations.ActuatorCommands : Prop :=
  (∀ (s : State) (a : Act) (v : Word), s.sacPermits a 1 ((F.SAC_CMD_HEAD a).of v) = true →
    ((F.SAC_CMD_HEAD a).of v = (s.sacOf a).head →
      exec (.sacSeek a v) s = .next ((s.sacMap a (fun x => { x with headNext := (F.SAC_CMD_HEAD a).of v })).goSeek a)) ∧
    ((F.SAC_CMD_HEAD a).of v ≠ (s.sacOf a).head → exec (.sacSeek a v) s =
      .next ((s.goSeek a).sacMap a (fun x => { x with headNext := (F.SAC_CMD_HEAD a).of v, seekHold := true })))) ∧
  (∀ (s : State) (a : Act) (v : Word), s.sacPermits a 2 ((F.SAC_CMD_HEAD a).of v) = true →
    let u := s.sacMap a (fun x => { x with hist := [], judging := false, loadValid := 0, missRun := 0, plausFails := 0, seekSinceLoad := false
                                           loadAbandon := false, e1 := 0, ev1 := 0 })
    let w := (u.bankIdle a).sacEnter a SacS.load
    exec (.sacLoad a v) s = .next (w.dac a (-(u.rampSign a) * currentCode (u.fget (F.SAC_LOAD_LOADI a))) 0)) ∧
  (∀ (s : State) (a : Act) (v : Word), s.sacPermits a 3 ((F.SAC_CMD_HEAD a).of v) = true →
    (s.sacIn a SacS.load = true → exec (.sacUnload a v) s = .next (s.sacMap a (fun x => { x with loadAbandon := true }))) ∧
    (s.sacIn a SacS.load = false → exec (.sacUnload a v) s = .next (s.startUnload a))) ∧
  (∀ (s : State) (a : Act) (v : Word), s.sacPermits a 4 ((F.SAC_CMD_HEAD a).of v) = true →
    exec (.sacSelftest a v) s = .next ((s.sacEnter a SacS.selftest).dac a (s.sget (F.SAC_TSTI_CODE a)) 0)) ∧
  (∀ (s : State) (a : Act) (v : Word), s.sacPermits a 5 ((F.SAC_CMD_HEAD a).of v) = true →
    exec (.sacEndtest a v) s = .next ((s.sacEnter a SacS.parked).dac a 0 0)) ∧
  (∀ (s : State) (a : Act) (v : Word) (op : Nat) (c : Instr),
    (op, c) ∈ [(1, .sacSeek a v), (2, .sacLoad a v), (3, .sacUnload a v), (4, .sacSelftest a v), (5, .sacEndtest a v)] →
    s.sacPermits a op ((F.SAC_CMD_HEAD a).of v) = false → exec c s = .next (s.fsetB (F.SAC_STS_REJ a) true))

/-- SAC_ENABLE, SAC_DISABLE, INTEGRATOR_CLEAR, SAC_COUNTER_CLEAR and BANK_APPLY_REQUEST (R11, R84, R86, R102, Table 4.9): EN falls only in PARKED; the integrator and the two
counters clear; the shadow copy waits for a wedge boundary while wedges are judged. -/
def Obligations.ActuatorControl : Prop :=
  (∀ (s : State) (a : Act) (v : Word), (F.SAC_CTL_CLRINT a).on v = false → (F.SAC_CTL_CLRCNT a).on v = false →
    exec (.sacEnable a v) s = .next (s.fsetB (F.SAC_CTL_EN a) true) ∧
    (s.sacIn a SacS.parked = true → exec (.sacDisable a v) s = .next (s.fsetB (F.SAC_CTL_EN a) false)) ∧
    (s.sacIn a SacS.parked = false → exec (.sacDisable a v) s = .next s)) ∧
  (∀ (s : State) (a : Act) (v : Word), (F.SAC_CTL_EN a).on v = true → (F.SAC_CTL_CLRCNT a).on v = false →
    exec (.integratorClear a v) s = .next ((s.fsetB (F.SAC_CTL_EN a) true).accSet a 0)) ∧
  (∀ (s : State) (a : Act) (v : Word), (F.SAC_CTL_EN a).on v = true → (F.SAC_CTL_CLRINT a).on v = false →
    exec (.sacCounterClear a v) s =
      .next (((s.fsetB (F.SAC_CTL_EN a) true).clearCount (Rg.SAC_MISS_LO a)).clearCount (Rg.SAC_WFCNT_LO a))) ∧
  (∀ (s : State) (a : Act) (v : Word), s.judged a = true →
    exec (.bankApplyRequest a v) s = .next (s.sacMap a (fun x => { x with applyPend := true }))) ∧
  (∀ (s : State) (a : Act) (v : Word), s.judged a = false → exec (.bankApplyRequest a v) s = .next (s.bankCopy a 40))

/-- WEDGE_DEMODULATED (R76 to R80, R83 to R90, R93): a wedge enters the position, the history and the miss count; then the motion, the supervision and the write check of the
actuator's state follow, and the angle source may change. In PARKED, SELFTEST and BSTOP, or with EN = 0, nothing happens. -/
def Obligations.WedgeDemodulation : Prop :=
  (∀ (s : State) (a : Act) (m : WedgeIn),
    s.sacIn a SacS.parked = true ∨ s.sacIn a SacS.selftest = true ∨ s.sacIn a SacS.bstop = true ∨ s.flag (F.SAC_CTL_EN a) = false →
    exec (.wedgeDemodulated a m) s = .next s) ∧
  (∀ (s : State) (a : Act) (m : WedgeIn), s.sacIn a SacS.follow = true → s.flag (F.SAC_CTL_EN a) = true → 0x0C80 ≤ phaseOf s.ttb.angle →
    let valid := s.wedgeValid a m
    let u := (s.sacMap a (fun x => { x with sams := (m.sam, x.sams.1), judging := true }))
    u.judged a = true →
    let b := u.bankBoundary a
    let p := b.wedgePos a m valid
    let w := ((b.wideSet (Rg.SAC_POS_LO a) (lowBits 40 p)).sacMap a
      (fun x => { x with hist := ((p, valid) :: x.hist).take 3, missRun := if valid then 0 else x.missRun + 1 })).fsetB (F.SAC_STS_MISSV a) (!valid)
    let x := if valid then w else w.count (Rg.SAC_MISS_LO a)
    ∃ rs, let y := x.wedgeMotion a SacS.follow valid p rs
      let z := if (y.sacOf a).head = (y.sacOf a).headNext then y else y.sacMap a (fun x => { x with head := x.headNext, hist := [] })
      let e := (z.followCheck a SacS.follow valid).wedgeWriteCheck a valid
      exec (.wedgeDemodulated a m) s = .next (if e.fget F.TTB_CTL_SRC ≠ a.num then e.autoSwitch else e))

/-- The actuators' own transitions (R80, R84, R87, R96 to R98, Table 4.3): settling completes, servo found in LOAD or again in RECOVER begins a seek, too many misses begin RECOVER,
and the time limits unload. -/
def Obligations.ActuatorTransitions : Prop :=
  (∀ (s : State) (a : Act), s.sacIn a SacS.settle = true → max 1 (s.coefU a F.SAC_BANK_C6_SETTLEN) ≤ (s.sacOf a).settleRun →
    exec (.settleComplete a) s = .next (((s.sacEnter a SacS.follow).fsetB (F.SAC_STS_ONTRK a) true).permUpdate a)) ∧
  (∀ (s : State) (a : Act), s.sacIn a SacS.load = true → 4 ≤ (s.sacOf a).loadValid →
    let u := (s.accSet a 0).sacMap a (fun x => { x with e1 := 0, ev1 := 0 })
    exec (.loadServoFound a) s = .next ((u.engine a (u.pos a) (u.pos a) 0).goSeek a) ∧ exec (.loadTimeout a) s = .next s) ∧
  (∀ (s : State) (a : Act), s.sacIn a SacS.load = true → (s.sacOf a).loadValid < 4 →
    exec (.loadTimeout a) s = .next ((s.raiseFault (Blk.sac a) 0 3 3 (s.sacInfo a) (!s.forced (Blk.sac a) 0 3)).startUnload a) ∧
    exec (.loadServoFound a) s = .next s) ∧
  (∀ (s : State) (a : Act), s.sacIn a SacS.follow = true → s.missMax a ≤ (s.sacOf a).missRun →
    let u := (s.raiseFault (Blk.sac a) 0 2 1 (s.sacInfo a)).sacMap a
      (fun x => { x with recGood := 0, recWedges := 0, plausFails := 0, missRun := 0, feTimer := false, seekHold := false })
    exec (.recoverEntry a) s = .next ((u.sacEnter a SacS.recover).dac a (satI 16 (asr (u.coefS a F.SAC_BANK_C1_KI * u.acc a) 30)) 0)) ∧
  (∀ (s : State) (a : Act), s.sacIn a SacS.recover = true → 4 ≤ (s.sacOf a).recGood → exec (.recoverSeek a) s = .next (s.goSeek a)) ∧
  (∀ (s : State) (a : Act), s.sacIn a SacS.recover = true → (s.sacOf a).recGood < 4 → exec (.recoverSeek a) s = .next s ∧
    (512 ≤ (s.sacOf a).recWedges →
      exec (.recoverTimeout a) s = .next ((s.raiseFault (Blk.sac a) 0 3 3 (s.sacInfo a)).startUnload a))) ∧
  (∀ (s : State) (a : Act), s.sacIn a SacS.unload = true → (s.sacOf a).unload = .push →
    exec (.unloadPushEnd a) s =
      .next ((s.sacMap a (fun x => { x with unload := .hold })).dac a (s.rampSign a * currentCode (s.fget (F.SAC_BSP3_HOLDI a))) 0)) ∧
  (∀ (s : State) (a : Act), s.sacIn a SacS.unload = true → (s.sacOf a).unload = .hold → exec (.unloadHoldEnd a) s =
    .next (((s.sacMap a (fun x => { x with unload := .idle, judging := false, hist := [] })).dac a 0 0).sacEnter a SacS.parked))

/-- Supervision and write faults (R88 to R95, R99): a following error or an implausible current stops the actuator by Buffer Stop, a current sample is judged against the command,
and an estimate outside its limit during a write is a write fault. Buffer Stop's sequence (R99, R100, Table 4.6): from its invocation to retraction, the second phase, the hold
and the end with both DACs at zero and the heads reported parked; a step that is not the present one does nothing. -/
def Obligations.ActuatorSupervisionAndStop : Prop :=
  (∀ (s : State) (a : Act), (s.sacOf a).feTimer = true → exec (.followingErrorExpiry a) s =
    .next (((s.fsetB (F.SAC_STS_RUNAWAY a) true).raiseFault (Blk.sac a) 0 4 4 ((s.fsetB (F.SAC_STS_RUNAWAY a) true).sacInfo a)).bufferStop a)) ∧
  (∀ (s : State) (a : Act) (vcms : Int), s.sacIn a SacS.bstop = false →
    let u := s.sset (F.SAC_IMEAS_CODE a) vcms
    u.sacIn a SacS.bstop = false →
    let diff := (u.fget (F.SAC_PLAU_IGAIN a) : Int) * vcms - u.sget (F.SAC_DAC_VCM a) * 4096
    exec (.currentPlausibilityTick a vcms) s = .next
      (u.sacMap a (fun x => { x with ipFails := if u.fget (F.SAC_PLAU_IPTOL a) * 128 * 4096 < mag diff then x.ipFails + 1 else 0 }))) ∧
  (∀ (s : State) (a : Act), s.sacIn a SacS.bstop = false → 8 ≤ (s.sacOf a).ipFails ∨ 4 ≤ (s.sacOf a).plausFails →
    let u := (s.fsetB (F.SAC_STS_IMPLAUS a) true).raiseFault (Blk.sac a) 0 5 4 ((s.fsetB (F.SAC_STS_IMPLAUS a) true).sacInfo a)
    exec (.implausible a) s = .next ((u.sacMap a (fun x => { x with ipFails := 0, plausFails := 0 })).bufferStop a)) ∧
  (∀ (s : State) (a : Act) (aA aB : Nat), s.flag (F.SAC_WFG_OTEN a) = true → s.writeInProgress a = true → (s.rwcOf a).gate.isSome = true →
    let x := min 0xFFFFF aA
    let y := min 0xFFFFF aB
    let q := truncDiv (((y : Int) - x) * 65536) ((x + y : Nat) : Int)
    let est := asr (q * (s.fget (F.SAC_OTCAL_GAIN a (s.sacOf a).head) : Int)) 12 + s.sget (F.SAC_OTCAL_BIAS a (s.sacOf a).head)
    let u := (s.sset (F.SAC_OTEST_EST a) (clampI est (-32767) 32767)).fsetB (F.SAC_OTEST_VALID a) true
    (x + y < s.fget (F.SAC_SCFG_OTAMIN a) * 16 ∨ x + y = 0 →
      exec (.estimateIntervalClose a aA aB) s = .next (s.fsetB (F.SAC_OTEST_VALID a) false)) ∧
    (s.fget (F.SAC_SCFG_OTAMIN a) * 16 ≤ x + y → 0 < x + y → mag est ≤ u.fget (F.SAC_WFG_OTLIM a) * 16 → u.forced (Blk.sac a) 0 1 = false →
      exec (.estimateIntervalClose a aA aB) s = .next u) ∧
    (s.fget (F.SAC_SCFG_OTAMIN a) * 16 ≤ x + y → 0 < x + y → u.fget (F.SAC_WFG_OTLIM a) * 16 < mag est →
      exec (.estimateIntervalClose a aA aB) s = .next ((u.sacMap a (fun z => { z with estFail := true })).writeFault a true))) ∧
  (∀ (s : State) (a : Act), s.sacIn a SacS.bstop = true → (s.sacOf a).bstop = .invoked →
    exec (.bufferStopRetract a) s =
      .next ((s.sacMap a (fun x => { x with bstop := .retract })).dac a (s.rampSign a * currentCode (s.fget (F.SAC_BSP1_RETI a))) 0)) ∧
  (∀ (s : State) (a : Act), s.sacIn a SacS.bstop = true → (s.sacOf a).bstop = .retract →
    exec (.bufferStopSecondPhase a) s =
      .next ((s.sacMap a (fun x => { x with bstop := .second })).dac a (s.rampSign a * currentCode (s.fget (F.SAC_BSP2_RETI2 a))) 0)) ∧
  (∀ (s : State) (a : Act), s.sacIn a SacS.bstop = true → (s.sacOf a).bstop = .second →
    exec (.bufferStopHold a) s =
      .next ((s.sacMap a (fun x => { x with bstop := .hold })).dac a (s.rampSign a * currentCode (s.fget (F.SAC_BSP3_HOLDI a))) 0)) ∧
  (∀ (s : State) (a : Act), s.sacIn a SacS.bstop = true → (s.sacOf a).bstop = .hold → s.flag F.BRL_STS_FENCED = false →
    let u := (((s.sacMap a (fun x => { x with bstop := .ended, resetDue := false })).dac a 0 0).fsetB (F.SAC_STS_BSACT a) false).fsetB
      (F.SAC_STS_PARKED a) true
    u.flag F.BRL_STS_FENCED = false →
    ((s.sacOf a).resetDue = false → exec (.bufferStopEnd a) s = .next u.spcParked) ∧
    ((s.sacOf a).resetDue = true →
      exec (.bufferStopEnd a) s = .next ((u.sacMap a (fun x => { x with bstop := .idle })).sacEnter a SacS.parked))) ∧
  (∀ (s : State) (a : Act), s.sacIn a SacS.bstop = false →
    exec (.bufferStopRetract a) s = .next s ∧ exec (.bufferStopSecondPhase a) s = .next s ∧ exec (.bufferStopHold a) s = .next s ∧
    exec (.bufferStopEnd a) s = .next s)

/-- SLOT_ARM, SLOT_DISARM, SLOT_FIRE, WINDOW_OPEN, WINDOW_CLOSE (R40 to R44): arming latches a target inside the horizon and refuses one outside it; a slot fires at its target, a
window opens and closes, and each use disarms the slot or advances it by its period. -/
def Obligations.TimetableSlots : Prop :=
  (∀ (s : State) (n : Fin 64) (v : Word), ¬ (n.val % 2 = 1 ∧ s.isWindow (n.val - 1) = true) → (F.TTB_SLOT_CTL_MODE n).on v = false →
    let t := s.slotTarget n
    let d := s.slotDiff t
    let hw := (F.TTB_SLOT_CTL_HW n).of v
    let u := (s.fsetB (F.TTB_SLOT_CTL_MODE n) false).fset (F.TTB_SLOT_CTL_HW n) hw
    (inHorizon d = true → exec (.slotArm n v) s =
      .next ((((u.fsetB (F.TTB_SLOT_CTL_LATE n) false).fsetB (F.TTB_SLOT_CTL_FAR n) false).slotSet n (some ⟨t, 0, false, hw, decide (d < 0), false⟩)).fsetB
        (F.TTB_SLOT_CTL_INSIDE n) false)) ∧
    (inHorizon d = false → exec (.slotArm n v) s = .next ((s.fsetB (F.TTB_SLOT_CTL_FAR n) true).fsetB F.TTB_STS_FAR true)) ∧
    exec (.slotDisarm n v) s = .next ((u.slotSet n none).fsetB (F.TTB_SLOT_CTL_INSIDE n) false)) ∧
  (∀ (s : State) (n : Fin 64) (l : SlotLatch), s.slotAt n = some l → l.window = false →
    let u := s.angleTo l.target
    (u.slotDiff l.target ≤ 0 →
      exec (.slotFire n) s = .next ((((u.fsetB (F.TTB_SLOT_CTL_LATE n) l.late).slotFired n).strobe l.hw).slotNext n l)) ∧
    (0 < u.slotDiff l.target → exec (.slotFire n) s = .next s) ∧ exec (.windowOpen n) s = .next s) ∧
  (∀ (s : State) (n : Fin 64) (l : SlotLatch), s.slotAt n = some l → l.window = true → l.opened = false → l.late = false →
    let u := s.angleTo l.target
    u.slotDiff l.target ≤ 0 → exec (.windowOpen n) s =
      .next (((((u.fsetB (F.TTB_SLOT_CTL_LATE n) false).slotFired n).slotSet n (some { l with opened := true })).fsetB (F.TTB_SLOT_CTL_INSIDE n) true).strobe l.hw)) ∧
  (∀ (s : State) (n : Fin 64) (l : SlotLatch), s.slotAt n = some l → l.opened = true →
    let u := s.angleTo l.close
    u.slotDiff l.close ≤ 0 →
      exec (.windowClose n) s = .next (((u.fsetB (F.TTB_SLOT_CTL_INSIDE n) false).slotFired (n + 1)).slotNext n l)) ∧
  (∀ (s : State) (n : Fin 64), s.slotAt n = none →
    exec (.slotFire n) s = .next s ∧ exec (.windowOpen n) s = .next s ∧ exec (.windowClose n) s = .next s)

/-- GATE_PERIOD_OPEN and GATE_PERIOD_CLOSE (R92, R112 to R114, R393): a period opens only where the channel may; a write period opens with the sectors whose bytes are ready; a
period's close counts its complete sectors and may end the transfer. The channel's control and the preamplifier (R92, R95, R123 to R129, Table 5.9): a frame that firmware
commands is issued once the port is free, a read frame without an answer times out, the preamplifier's fault ends a write and falls away again, EN and CLRCNT act as the
register says. -/
def Obligations.ChannelGatesAndPreamp : Prop :=
  (∀ (s : State) (a : Act) (ready : Nat) (t : Transfer) (g : GatePeriod) (rest : List GatePeriod), (s.rwcOf a).transfer = some t → t.periods = g :: rest →
    t.started = true → (s.rwcOf a).gate = none →
    let u := s.angleToPos (t.swedge + g.wedge) g.openPh
    (u.gateAllowed a t = false → exec (.gatePeriodOpen a ready) s = .next (u.stopTransfer a)) ∧
    (u.gateAllowed a t = true → t.kind ≠ .write → exec (.gatePeriodOpen a ready) s =
      .next (u.rwcMap a (fun r => { r with gate := some g, transfer := some { t with periods := rest } }))) ∧
    (u.gateAllowed a t = true → t.kind = .write → t.stopped = false → u.forced (Blk.rwc a) 0 2 = false → g.frags.length - t.mid.toNat ≤ ready →
      let frags := g.frags.take (t.mid.toNat + (g.frags.length - t.mid.toNat))
      let w := u.rwcMap a (fun r => { r with transfer := some { t with periods := rest } })
      let x := w.rwcMap a (fun r => { r with gate := some { g with frags := frags }, wdata := w.writeBytes (t.daddr + 4128 * (t.done + frags.length - 1)) })
      frags ≠ [] → exec (.gatePeriodOpen a ready) s =
        .next ((x.fsetB (F.RWC_STS_IDLE a) false).telMap a (fun y => { y with overs := 0, missing := 0, frames := 0, sum := 0, n := 0 })))) ∧
  (∀ (s : State) (a : Act) (t : Transfer) (g : GatePeriod), (s.rwcOf a).transfer = some t → (s.rwcOf a).gate = some g →
    let last := (g.frags.getLast?).getD ⟨0, true⟩
    let t' := { t with done := t.done + (g.frags.filter (·.last)).length, mid := !last.last }
    let u := (s.angleToPos (t.swedge + g.wedge) last.endPh).rwcMap a (fun r => { r with gate := none, transfer := some t' })
    (t.kind = .write → exec (.gatePeriodClose a) s = .next (((u.fsetB (F.RWC_STS_IDLE a) true).trimUpdate a).settleTransfer a)) ∧
    (t.kind ≠ .write → exec (.gatePeriodClose a) s = .next (u.settleTransfer a))) ∧
  (∀ (s : State) (a : Act) (ready : Nat), (s.rwcOf a).transfer = none →
    exec (.gatePeriodOpen a ready) s = .next s ∧ exec (.gatePeriodClose a) s = .next s) ∧
  (∀ (s : State) (a : Act) (v : Word), s.flag (F.RWC_STS_PSBUSY a) = false → exec (.serialFrameCommand a v) s =
    .next ((s.rwcMap a (fun r => { r with fwWait := some (SerFrame.mk .firmware ((F.RWC_PSCMD_RD a).on v) (BitVec.ofNat 16 ((F.RWC_PSCMD_ADDR a).of v))
      (BitVec.ofNat 16 (s.fget (F.RWC_PSDATA_DATA a)))) })).portStatus a)) ∧
  (∀ (s : State) (a : Act) (v : Word), s.flag (F.RWC_STS_PSBUSY a) = true → exec (.serialFrameCommand a v) s = .next s) ∧
  (∀ (s : State) (a : Act) (f : SerFrame), (s.rwcOf a).frame = none →
    (∀ t, (s.rwcOf a).seqWait = f :: t →
      exec (.serialFrameStart a) s = .next ((s.rwcMap a (fun r => { r with frame := some f, seqWait := t, trailer := false })).portStatus a)) ∧
    ((s.rwcOf a).seqWait = [] → (s.rwcOf a).fwWait = some f →
      exec (.serialFrameStart a) s = .next ((s.rwcMap a (fun r => { r with frame := some f, fwWait := none, trailer := false })).portStatus a))) ∧
  (∀ (s : State) (a : Act) (f : SerFrame), (s.rwcOf a).frame = some f → f.rd = true → (s.rwcOf a).trailer = false →
    let u := (s.rwcMap a (fun r => { r with trailer := true })).fsetB (F.RWC_STS_PSTO a) true
    exec (.serialTimeout a) s = .next (u.raiseFault (Blk.rwc a) 0 3 3 ((s.rwcMap a (fun r => { r with trailer := true })).sacInfo a)
      (!(s.rwcMap a (fun r => { r with trailer := true })).forced (Blk.rwc a) 0 3))) ∧
  (∀ (s : State) (a : Act), (s.rwcOf a).trailer = true → exec (.latePreampReply a) s =
    .next ((s.count (Rg.RWC_LATE_CPL_LO a)).raiseFault (Blk.rwc a) 0 1 0 (s.sacInfo a) (!s.forced (Blk.rwc a) 0 1))) ∧
  (∀ (s : State) (a : Act), s.flag (F.RWC_STS_PFLT a) = false →
    let u := (s.fsetB (F.RWC_STS_PFLT a) true).raiseFault (Blk.rwc a) 0 5 3 (s.sacInfo a) (!s.forced (Blk.rwc a) 0 5)
    (u.writeInProgress a = true → exec (.preampFault a) s = .next (u.writeFault a true)) ∧
    (u.writeInProgress a = false → exec (.preampFault a) s = .next (u.permUpdate a))) ∧
  (∀ (s : State) (a : Act), exec (.preampFaultClear a) s = .next ((s.fsetB (F.RWC_STS_PFLT a) false).permUpdate a)) ∧
  (∀ (s : State) (a : Act) (v : Word), (F.RWC_CTL_CLRCNT a).on v = false →
    exec (.channelEnable a v) s = .next (s.fsetB (F.RWC_CTL_EN a) true)) ∧
  (∀ (s : State) (a : Act) (v : Word), (F.RWC_CTL_EN a).on v = true → exec (.channelCounterClear a v) s =
    .next (((((s.fsetB (F.RWC_CTL_EN a) true).clearCount (Rg.RWC_SECT_LO a)).clearCount (Rg.RWC_FAIL_LO a)).clearCount (Rg.RWC_SMISS_LO a)).clearCount
      (Rg.RWC_LATE_CPL_LO a)))

/-- SYNC_WINDOW_CLOSE, SECTOR_DECODED, REREAD_PASS (R115 to R122, R130, R137, R159): a window keeps its candidates and counts a miss; a decoded sector's status word is handed over
and the data of a good one stored; a re-read pass reaches its job and ends its transfer. -/
def Obligations.SectorDecoding : Prop :=
  (∀ (s : State) (a : Act) (cands : List SyncCand) (t : Transfer) (g : GatePeriod), (s.rwcOf a).transfer = some t → (s.rwcOf a).gate = some g →
    t.kind ≠ .write → t.marks = [] → t.mid = false → t.nextWord < t.done + g.frags.length →
    let l := keptCands (cands.filter (syncCandidate (s.dbits a t.fmt) ((t.places.getD t.nextWord ⟨0, 0, 0⟩).cell + 127) (min 4 (s.fget (F.RWC_DCFG_SMTOL a)))))
    let u := s.rwcMap a (fun r => { r with transfer := some { t with marks := [(l, none)] } })
    (l ≠ [] → exec (.syncWindowClose a cands) s = .next u) ∧
    (l = [] → exec (.syncWindowClose a cands) s = .next (u.count (Rg.RWC_SMISS_LO a)))) ∧
  (∀ (s : State) (a : Act) (m : DecodeIn) (t : Transfer) (o : MsqOp), (s.rwcOf a).transfer = some t → t.kind = .read → t.nextWord < t.done →
    ((s.msqOf a).cur.toList ++ (s.msqOf a).ended).find? MsqOp.owns = some o → descOpc o.desc = 1 →
    let split := (t.places.getD t.nextWord ⟨0, 0, 0⟩).first != 0
    let mk := t.marks.headD ([], none)
    let track := descBits o.desc 1 0 24
    let lastOff := match (s.rwcOf a).lastMark with
      | some (tr, off) => if tr = track then off else 0
      | none => 0
    let plan := attemptPlan split (s.flag (F.RWC_DCFG_APSEN a)) (s.flag (F.RWC_DCFG_SECOND a)) (min 9 (s.fget (F.RWC_DCFG_SYNCTRY a))) lastOff mk.1
      (mk.2.getD [])
    let v := runAttempts (failCode split mk.1 (mk.2.getD [])) (decide ((t.extras.filter id).length < 3)) none [] plan m.attempts
    let u := s.rwcMap a (fun r => { r with
      transfer := some { t with nextWord := t.nextWord + 1, marks := t.marks.drop 1, extras := (v.made.any (·.extra) :: t.extras).take 7 }
      samples := ((t.nextWord, m.smpA, m.smpB) :: r.samples).take 4
      lastMark := match mk.1.head? with
        | some c => some (track, c.off)
        | none => r.lastMark })
    v.result ≤ 2 → exec (.sectorDecoded a m) s =
      .next (((u.handWord a t.nextWord (statusWord v split (s.flag (F.RWC_DCFG_TAEN a) && decide (8 ≤ m.satRun)) t.nextWord)).setBytes
        (t.daddr + 4128 * t.nextWord) (m.data.take 4128)).settleTransfer a)) ∧
  (∀ (s : State) (a : Act) (m : DecodeIn), (s.rwcOf a).transfer = none → exec (.sectorDecoded a m) s = .next s) ∧
  (∀ (s : State) (slot : Nat) (m : PassIn) (j : Job), s.jobAt slot = some j → j.state = .waitPass → m.result = 8 → (s.rwcOf j.act).transfer = none →
    exec (.rereadPass slot m) s = .next (((s.count (Rg.RWC_SECT_LO j.act)).count (Rg.RWC_FAIL_LO j.act)).passArrives slot m)) ∧
  (∀ (s : State) (slot : Nat) (m : PassIn) (j : Job) (t : Transfer), s.jobAt slot = some j → j.state = .waitPass → m.result < 3 →
    (s.rwcOf j.act).transfer = some t → t.kind = .reread → t.daddr = slot → t.done = 1 → (s.rwcOf j.act).gate = none →
    exec (.rereadPass slot m) s = .next (((s.count (Rg.RWC_SECT_LO j.act)).passArrives slot m).chDone j.act))

/-- POOL_DECODE_COMPLETE, ACCUMULATOR_GRANT, JOB_AGE_LIMIT, POOL_ENABLE, POOL_DISABLE, POOL_COUNTER_CLEAR (R133, R134, R142 to R146): a good decode stores the sector and ends its
job; a pair goes to the job that waits; an old job ends with outcome 4; EN = 0 aborts every job. -/
def Obligations.DecodePool : Prop :=
  (∀ (s : State) (e : Fin 4) (m : PoolDecode) (j : Job), s.ddp.jobs.find? (fun j => decide (j.state = .engine e.val)) = some j →
    ((poolTries j m.attempts).1 ++ (poolTries j m.attempts).2).any (fun p => p.2.syndromeZero && p.2.crcOk) = true →
    exec (.poolDecodeComplete e m) s = .next ((((s.wr (Rg.DDP_ENG e.val) 0).putRecovered (j.decoded m.attempts) m.data).endJob
      (j.decoded m.attempts) (j.decoded m.attempts).goodOutcome).grants)) ∧
  (∀ (s : State) (e : Fin 4) (m : PoolDecode), s.ddp.jobs.find? (fun j => decide (j.state = .engine e.val)) = none →
    exec (.poolDecodeComplete e m) s = .next s) ∧
  (∀ (s : State) (j : Job), s.ddp.jobs.find? (fun j => decide (j.state = .waitPair)) = some j → s.freePair.isSome = true →
    exec .accumulatorGrant s = .next (s.placeJob (.wantPair j))) ∧
  (∀ (s : State), s.freePair = none → exec .accumulatorGrant s = .next s) ∧
  (∀ (s : State) (slot : Nat) (j : Job), s.jobAt slot = some j →
    let u := s.angleTo (j.created + BitVec.ofNat 64 (s.jobAge j * revUnits))
    (j.state = .ready ∨ j.state = .waitPair ∨ j.state = .waitPass → exec (.jobAgeLimit slot) s = .next (u.endJob j 4).grants) ∧
    (∀ e, j.state = .engine e → exec (.jobAgeLimit slot) s = .next (u.jobMap slot (fun x => { x with aged := true })))) ∧
  (∀ (s : State) (v : Word), F.DDP_CTL_CLRCNT.on v = false →
    exec (.poolEnable v) s = .next (s.fsetB F.DDP_CTL_EN true) ∧
    exec (.poolDisable v) s = .next ((s.fsetB F.DDP_CTL_EN false).abortJobs (fun _ => true) s.ddp.jobs)) ∧
  (∀ (s : State) (v : Word), F.DDP_CTL_EN.on v = true → exec (.poolCounterClear v) s =
    .next ((((((s.fsetB F.DDP_CTL_EN true).clearCount Rg.DDP_JOBS_LO).clearCount Rg.DDP_RECOV_LO).clearCount Rg.DDP_UNREC_LO).clearCount
      Rg.DDP_REVS_LO).clearCount Rg.DDP_REFUSED_LO))

/-- SETPOINT_APPLY_ARM, TELEMETRY_FRAME, TELEMETRY_LOSS, WINDOW_EVALUATION, ASC_ENABLE, ASC_COUNTER_CLEAR (R175 to R181, R190): APPLY arms the copy; a telemetry frame moves the
sequence number and, while the pair is on, counts towards the over-power trip; a loss trips; the write window is evaluated while ASC is enabled. -/
def Obligations.AdaptiveSetPoints : Prop :=
  (∀ (s : State) (v : Word), F.ASC_CCTL_APPLY0.on v = true → F.ASC_CCTL_APPLY1.on v = false →
    exec (.setpointApplyArm v) s = .next (s.fsetB F.ASC_CCTL_APPLY0 true)) ∧
  (∀ (s : State) (v : Word), F.ASC_CCTL_APPLY0.on v = false → F.ASC_CCTL_APPLY1.on v = true →
    exec (.setpointApplyArm v) s = .next (s.fsetB F.ASC_CCTL_APPLY1 true)) ∧
  (∀ (s : State) (v : Word), F.ASC_CCTL_APPLY0.on v = false → F.ASC_CCTL_APPLY1.on v = false → exec (.setpointApplyArm v) s = .next s) ∧
  (∀ (s : State) (a : Act) (bits : BitVec 20), s.flag F.ASC_CTL_EN = true →
    let x := bits.toNat
    let form := x / 2 ^ 19 == 0 && evenParity 19 x
    let valid := form && (s.asc.tel.get a).seq == some ((x / 2 % 8 + 7) % 8)
    let u := s.telMap a (fun t => { t with seq := if valid || (form && (s.asc.tel.get a).seq.isNone) then some (x / 2 % 8) else none })
    u.pairOn a = false → exec (.telemetryFrame a bits) s = .next u) ∧
  (∀ (s : State) (a : Act), s.flag F.ASC_CTL_EN = true → s.pairOn a = true → exec (.telemetryLoss a) s = .next (s.overPower a true)) ∧
  (∀ (s : State) (a : Act) (bits : BitVec 20), s.flag F.ASC_CTL_EN = false →
    exec (.telemetryFrame a bits) s = .next s ∧ exec (.telemetryLoss a) s = .next s ∧ exec .windowEvaluation s = .next s) ∧
  (∀ s : State, s.flag F.ASC_CTL_EN = true → exec .windowEvaluation s = .next s.windowEval) ∧
  (∀ (s : State) (v : Word), s.locked = false → F.ASC_CTL_CLRCNT.on v = false → exec (.ascEnable v) s =
    .next (((s.fset F.ASC_CTL_EN 1).fset F.ASC_CTL_KIND0 (F.ASC_CTL_KIND0.of v)).fset F.ASC_CTL_KIND1 (F.ASC_CTL_KIND1.of v))) ∧
  (∀ (s : State) (v : Word), (s.fset F.ASC_CTL_EN (F.ASC_CTL_EN.of v)).locked = true →
    exec (.ascCounterClear v) s = .next ((s.fset F.ASC_CTL_EN (F.ASC_CTL_EN.of v)).clearCount Rg.ASC_OVPCNT_LO))

/-- TEMPERATURE_SCAN, THROTTLE_GRACE_EXPIRY, CALIBRATION_START, CALIBRATION_RESTORE, CALIBRATION_END, AGEING_MEASUREMENT (R180 to R189): a scan without a good sensor leaves the
junction temperature and clears DTVALID; the throttle request is enforced after its grace; one calibration runs at a time and its result is taken; a restore needs a good CRC. -/
def Obligations.TemperatureAndCalibration : Prop :=
  (∀ (s : State) (r : List (Option Int)), s.flag F.ASC_CTL_EN = true → s.flag F.ASC_CALSTS_BUSY = false →
    let u := s.scanAll 0 r
    let mask := u.fget F.ASC_DTMASK_MASK
    u.hottest (List.range 12) = none → u.hottest ((List.range 14).filter (fun c => (mask >>> c) % 2 == 1)) = none →
    exec (.temperatureScan r) s = .next (u.fsetB F.ASC_STS_DTVALID false).recalCheck.hctmUpdate.warnUpdate) ∧
  (∀ (s : State) (r : List (Option Int)) (c d : Nat) (v w : Int), s.flag F.ASC_CTL_EN = true → s.flag F.ASC_CALSTS_BUSY = false →
    let u := s.scanAll 0 r
    u.hottest (List.range 12) = some (c, v) →
    let x := (u.sset F.ASC_JTEMP_TEMP v).fset F.ASC_JTEMP_SRC c
    x.hottest ((List.range 14).filter (fun c => (x.fget F.ASC_DTMASK_MASK >>> c) % 2 == 1)) = some (d, w) →
    exec (.temperatureScan r) s = .next (((((x.sset F.ASC_DTEMP_TEMP w).fset F.ASC_DTEMP_SRC d).fsetB F.ASC_STS_DTVALID true).throttleCheck
      v).criticalCheck v).recalCheck.hctmUpdate.warnUpdate) ∧
  (∀ s : State, s.asc.grace = true → s.flag F.ASC_STS_THREQ = true → exec .throttleGraceExpiry s =
    .next ((({ s with asc := { s.asc with grace := false } }).fsetB F.ASC_STS_THENF true).raiseFault Blk.asc 2 5 2 0 (!s.forced Blk.asc 2 5)).ceilingUpdate) ∧
  (∀ (s : State) (v : Word), F.ASC_CALCTL_RESTORE.on v = false →
    let u := ((s.fset F.ASC_CALCTL_IMMED (F.ASC_CALCTL_IMMED.of v)).fset F.ASC_CALCTL_AGREE (F.ASC_CALCTL_AGREE.of v)).fset F.ASC_CALCTL_AVG
      (F.ASC_CALCTL_AVG.of v)
    (u.flag F.ASC_CALSTS_BUSY = false → exec (.calibrationStart v) s = .next ((u.fsetB F.ASC_CALSTS_BUSY true).fset F.ASC_CALSTS_TRIES 0)) ∧
    (u.flag F.ASC_CALSTS_BUSY = true → exec (.calibrationStart v) s = .next (u.fset F.ASC_CALSTS_CODE 1))) ∧
  (∀ (s : State) (v : Word), F.ASC_CALCTL_GO.on v = false →
    let u := ((s.fset F.ASC_CALCTL_IMMED (F.ASC_CALCTL_IMMED.of v)).fset F.ASC_CALCTL_AGREE (F.ASC_CALCTL_AGREE.of v)).fset F.ASC_CALCTL_AVG
      (F.ASC_CALCTL_AVG.of v)
    let b := u.asc.calBuf
    (u.locked = true → exec (.calibrationRestore v) s = .next (u.fset F.ASC_CALSTS_CODE 5)) ∧
    (u.locked = false → crc32c ((b.take 3).map (fun w => leBytes 4 w.toNat)).flatten ≠ (b.getD 3 0).toNat →
      exec (.calibrationRestore v) s = .next (u.fset F.ASC_CALSTS_CODE 4)) ∧
    (u.locked = false → crc32c ((b.take 3).map (fun w => leBytes 4 w.toNat)).flatten = (b.getD 3 0).toNat →
      let w := (((u.wr Rg.ASC_CALRES0 (b.getD 0 0)).wr Rg.ASC_CALRES1 (b.getD 1 0)).fset F.ASC_CALRES2_TEMP (bitsOf (b.getD 2 0) 0 16)).wr
        Rg.ASC_CALRES3 (b.getD 3 0)
      exec (.calibrationRestore v) s = .next ((((({ w with asc := { w.asc with recTemp := some (w.sget F.ASC_CALRES2_TEMP) } }).fset F.ASC_CALSTS_SRC
        2).fset F.ASC_CALSTS_CODE 0).wideSet Rg.ASC_CALTIME_LO 0)))) ∧
  (∀ (s : State) (tries : List CalTry) (k : Nat), s.flag F.ASC_CALSTS_BUSY = true →
    let u := s.tick.fsetB F.ASC_CALSTS_BUSY false
    let n := 2 ^ min 12 (max 1 (s.fget F.ASC_CALCTL_AVG))
    let res := calTries (Config.roundUp s.freeCtr) s.freeCtr n (s.fget F.ASC_CALCTL_AGREE) 0 tries
    (res = .outOfRange k →
      exec (.calibrationEnd tries) s = .next (((u.fset F.ASC_CALSTS_CODE 3).fset F.ASC_CALSTS_TRIES k).raiseFault Blk.asc 2 4 2 0)) ∧
    (res = .disagree k →
      exec (.calibrationEnd tries) s = .next (((u.fset F.ASC_CALSTS_CODE 2).fset F.ASC_CALSTS_TRIES k).raiseFault Blk.asc 2 4 2 0)) ∧
    (∀ gain zs, res = .good k gain zs → u.forced Blk.asc 2 4 = false →
      let off : Int := zs / (2 * n) + (if zs % (2 * n) = 0 then 0 else (Config.roundUp s.freeCtr).toNat)
      let x := ((u.fset F.ASC_CALSTS_CODE 0).fset F.ASC_CALSTS_TRIES k).fset F.ASC_CALSTS_SRC 1
      let y := x.wr Rg.ASC_CALRES1 (BitVec.ofNat 32 (min 0xFFFFFFFF ((x.rd Rg.ASC_CALRES1).toNat + 1)))
      let z := (y.sset F.ASC_CALRES2_TEMP (u.sget F.ASC_DTEMP_TEMP)).wideSet Rg.ASC_CALTIME_LO y.clock.toNat
      let w := { z with asc := { z.asc with recTemp := some (u.sget F.ASC_DTEMP_TEMP) } }
      (w.flag F.ASC_CALCTL_IMMED = true → exec (.calibrationEnd tries) s =
        .next ((({ w with asc := { w.asc with calPend := none } }).fsetB F.ASC_CALSTS_PEND false).calLive gain off)) ∧
      (w.flag F.ASC_CALCTL_IMMED = false → exec (.calibrationEnd tries) s =
        .next ((({ w with asc := { w.asc with calPend := some (gain, off) } }).fsetB F.ASC_CALSTS_PEND true).calCrc)))) ∧
  (∀ (s : State) (degr : List Int), s.flag F.ASC_CTL_EN = true →
    let u := s.ageAll 0 degr
    let worst := (List.range 8).foldl (fun m k => max m (u.fget (F.ASC_AGE_DEGR k))) 0
    exec (.ageingMeasurement degr) s = .next (u.fset F.ASC_AGESUM_USED (min 255 (100 * worst / max 1 (u.fget F.ASC_AGESUM_LIMIT)))))

/-- Sequencing and arithmetic microwords (R148 to R151): each word of SEQ = CONT to ERET and of ALU = NOP to STD whose sequencer is ready runs: all its fields take effect in the
one cycle. -/
def Obligations.MicrowordsRun : Prop :=
  ∀ (s : State) (a : Act) (w v : Microword) (c : Instr),
    (c, v) ∈ [(Instr.cont a w, { w with seq := 0 }), (.jump a w, { w with seq := 1 }), (.br a w, { w with seq := 2 }), (.call a w, { w with seq := 3 }),
      (.ret a w, { w with seq := 4 }), (.disp a w, { w with seq := 5 }), (.eret a w, { w with seq := 6 }), (.nop a w, { w with alu := 0 }),
      (.mov a w, { w with alu := 1 }), (.add a w, { w with alu := 2 }), (.sub a w, { w with alu := 3 }), (.and a w, { w with alu := 4 }),
      (.or a w, { w with alu := 5 }), (.xor a w, { w with alu := 6 }), (.shl a w, { w with alu := 7 }), (.shr a w, { w with alu := 8 }),
      (.cmp a w, { w with alu := 9 }), (.lds a w, { w with alu := 10 }), (.ldd a w, { w with alu := 11 }), (.std a w, { w with alu := 12 })] →
    s.wordRuns a v → exec c s = .next (s.runFields a v)

/-- The microwords that yield, act on the gate, the channel, the servo, the preamplifier or ASC, end an operation or raise the microcode event (R148, R149, R156, R158, R167, R174):
each runs whole when its sequencer is ready. -/
def Obligations.ActionMicrowordsRun : Prop :=
  ∀ (s : State) (a : Act) (w v : Microword) (c : Instr),
    (c, v) ∈ [(Instr.yield a w, { w with y := true }), (.gateRead a w, { w with gate := 1 }), (.gateWrite a w, { w with gate := 2 }),
      (.gateClear a w, { w with gate := 3 }), (.chanLoad a w, { w with chan := 1 }), (.chanStart a w, { w with chan := 2 }),
      (.chanAbort a w, { w with chan := 3 }), (.chanLoadr a w, { w with chan := 4 }), (.servoSeek a w, { w with servo := 1 }),
      (.servoUnload a w, { w with servo := 2 }), (.preHeadSelect a w, { w with pre := 1 }), (.preWriteFrame a w, { w with pre := 2 }),
      (.preReadFrame a w, { w with pre := 3 }), (.ascReadHeat a w, { w with asc := 1 }), (.ascWriteHeat a w, { w with asc := 2 }),
      (.ascIdle a w, { w with asc := 3 }), (.tchk a w, { w with asc := 4 }), (.endOp a w, { w with rpt := 1 }),
      (.microcodeEvent a w, { w with evt := true })] →
    s.wordRuns a v → exec c s = .next (s.runFields a v)

/-- What running a word does (R149, R150, R155, R156, R158): with its stack use sound and no frame to wait for, ALU, GATE, CHAN, SERVO, PRE, ASC, END, the event, SEQ and the yield
take effect on one another's results in the order of the model; a PRE word is held while the port is busy, and a bad stack use is a machine check. -/
def Obligations.WordEffects : Prop :=
  ∀ (s : State) (a : Act) (w : Microword),
    ((w.seq = 3 ∧ 8 ≤ (s.msqOf a).stack.length) ∨ ((w.seq = 4 ∨ w.seq = 6) ∧ (s.msqOf a).stack = []) → s.runFields a w = s.machineCheck a 3 0) ∧
    (w.seq ≠ 3 ∨ (s.msqOf a).stack.length < 8 → (w.seq ≠ 4 ∧ w.seq ≠ 6) ∨ (s.msqOf a).stack ≠ [] →
      (s.preHolds a w = true → s.runFields a w = (s.msqMap a (fun m => { m with held := some w, waiting := none })).fsetB (F.MSQ_STS_WAITING a) false) ∧
      (s.preHolds a w = false →
        let m := s.msqOf a
        let b := (s.msqMap a (fun m => { m with held := none, waiting := none })).fsetB (F.MSQ_STS_WAITING a) false
        let c := ((((b.aluStep a w).gateStep a w.gate.toNat).chanStep a m w.chan.toNat).servoStep a m.motionDesc w.servo.toNat (m.reg w.ra)).preStep a
          m.motionDesc w.pre.toNat (m.reg w.rb) w.imm
        let d := if w.asc.toNat = 0 then c else if w.asc.toNat = 4 then c.ascTchk a else c.ascAction a (descHead m.work) w.asc.toNat
        let e := if w.rpt = 1 then d.endStep a w.code.toNat else d
        let f := (if w.evt then e.raiseEvent (a.sel 88 89) else e).seqStep a w (s.condition a w.cond.toNat != w.cinv)
        s.runFields a w = if w.y = true ∨ w.wait ≠ 0 then f.yieldPoint a else f.msqMap a (fun m => { m with sinceYield := m.sinceYield + 1 })))

/-- The arithmetic of a microword (R151, Table 7.3): MOV, ADD, SUB, AND, OR, XOR, SHL, SHR put their result into a register other than G0 and CMP into none; FLG = 1 sets Z and N
from the result and C from the carry or borrow, FLG = 0 leaves the flags; registers of the chip and memory are untouched. -/
def Obligations.MicrowordArithmetic : Prop :=
  ∀ (s : State) (a : Act) (w : Microword) (op : Nat) (f : Word → Word → Word) (cy : Word → Word → Bool),
    (op, f, cy) ∈ ([(1, fun _ y => y, fun _ _ => false), (2, fun x y => x + y, fun x y => decide (2 ^ 32 ≤ x.toNat + y.toNat)),
      (3, fun x y => x - y, fun x y => decide (x.toNat < y.toNat)), (4, fun x y => x &&& y, fun _ _ => false), (5, fun x y => x ||| y, fun _ _ => false),
      (6, fun x y => x ^^^ y, fun _ _ => false), (7, fun x y => x <<< (y.toNat % 32), fun _ _ => false),
      (8, fun x y => x >>> (y.toNat % 32), fun _ _ => false), (9, fun x y => x - y, fun x y => decide (x.toNat < y.toNat))] :
      List (Nat × (Word → Word → Word) × (Word → Word → Bool))) →
    w.alu.toNat = op →
    let m := s.msqOf a
    let x := m.reg w.ra
    let y := if w.bimm then w.imm else m.reg w.rb
    let t := s.aluStep a w
    (t.msqOf a).g = (if op = 9 ∨ w.dst = 0 then m.g else m.g.set w.dst.toNat (f x y)) ∧
    (t.msqOf a).z = (if w.flg then f x y == 0 else m.z) ∧ (t.msqOf a).n = (if w.flg then (f x y).getLsbD 31 else m.n) ∧
    (t.msqOf a).c = (if w.flg then cy x y else m.c) ∧ (t.msqOf a).work = m.work ∧ t.msqOf (Two.other a) = s.msqOf (Two.other a) ∧ t.regs = s.regs ∧ t.mem = s.mem

/-- Where a microword goes (R150): CONT to the next address, JUMP to NA, BR to one of them, CALL to NA with the next address on the stack, RET and ERET to the top of the stack,
ERET with events enabled again; DISP without a descriptor to NA. Addresses wrap at 14 bits. -/
def Obligations.MicrowordSequencing : Prop :=
  ∀ (s : State) (a : Act) (w : Microword) (ok : Bool),
    let pc := s.fget (F.MSQ_PC_ADDR a)
    let t := s.seqStep a w ok
    (w.seq = 0 → t.fget (F.MSQ_PC_ADDR a) = (pc + 1) % 2 ^ 14 ∧ t.msqOf a = s.msqOf a) ∧
    (w.seq = 1 → t.fget (F.MSQ_PC_ADDR a) = w.na.toNat ∧ t.msqOf a = s.msqOf a) ∧
    (w.seq = 2 → t.fget (F.MSQ_PC_ADDR a) = (if ok then w.na.toNat else (pc + 1) % 2 ^ 14) ∧ t.msqOf a = s.msqOf a) ∧
    (w.seq = 3 → t.fget (F.MSQ_PC_ADDR a) = w.na.toNat ∧ (t.msqOf a).stack = (pc + 1) % 2 ^ 14 :: (s.msqOf a).stack) ∧
    (∀ top rest, (s.msqOf a).stack = top :: rest → top < 2 ^ 14 →
      (w.seq = 4 → t.fget (F.MSQ_PC_ADDR a) = top ∧ (t.msqOf a).stack = rest ∧ t.flag (F.MSQ_STS_EVEN a) = s.flag (F.MSQ_STS_EVEN a)) ∧
      (w.seq = 6 → t.fget (F.MSQ_PC_ADDR a) = top ∧ (t.msqOf a).stack = rest ∧ t.flag (F.MSQ_STS_EVEN a) = true)) ∧
    (w.seq = 5 → (s.msqOf a).queue = [] → t.fget (F.MSQ_PC_ADDR a) = w.na.toNat ∧ t.msqOf a = s.msqOf a) ∧
    t.mem = s.mem ∧ ∀ o, o ≠ Rg.MSQ_PC a → o ≠ Rg.MSQ_STS a → t.rd o = s.rd o

/-- Waits (R153 to R155, R157): an ANGLE, COND or STROBE word ends its wait at once where what it waits for has come about, else it waits; the awaited thing, the wait limit, a
frame's end and the end of the trailer let the waiting or held word go on. -/
def Obligations.MicrowordWaits : Prop :=
  (∀ (s : State) (a : Act) (w v : Microword) (c : Instr),
    (c, v) ∈ [(Instr.angleWait a w, { w with wait := 1 }), (.condWait a w, { w with wait := 2 }), (.strobeWait a w, { w with wait := 3 })] →
    s.readyToRun a → reservedWord v = false → exec c s = .next (s.waitStart a v)) ∧
  (∀ (s : State) (a : Act) (w : Microword), w.wait = 2 ∨ w.wait = 3 → s.waitMet a w = true → s.waitStart a w = s.waitEnd a w false false false) ∧
  (∀ (s : State) (a : Act) (w : Microword), w.wait = 2 ∨ w.wait = 3 → s.waitMet a w = false →
    let u := s.msqMap a (fun m => { m with sinceYield := 0 })
    (u.stopsHere a = true → s.waitStart a w = u.seqStop a) ∧
    (u.stopsHere a = false → u.eventNext a = none →
      s.waitStart a w = (u.msqMap a (fun m => { m with waiting := some (w, u.ttb.angle) })).fsetB (F.MSQ_STS_WAITING a) true)) ∧
  (∀ (s : State) (a : Act) (w : Microword) (start : Angle), (s.msqOf a).waiting = some (w, start) → w.wait = 2 ∨ w.wait = 3 →
    (s.waitMet a w = true → exec (.waitEnd a) s = .next (s.waitEnd a w false false false)) ∧
    (s.ttbIn TtbS.idle = false →
      let u := s.angleTo (start + BitVec.ofNat 64 (max 1 (s.fget (F.MSQ_WLIM_WEDGES a)) * wedgeUnits))
      exec (.waitLimitExpiry a) s = .next (u.waitEnd a w (!u.waitMet a w) false false)) ∧
    (s.ttbIn TtbS.idle = true → exec (.waitLimitExpiry a) s = .next s)) ∧
  (∀ (s : State) (a : Act) (f : SerFrame) (data : BitVec 16), (s.rwcOf a).frame = some f →
    ((s.rwcOf a).trailer = false → exec (.serialFrameDone a data) s = .next ((s.frameDone a f data).releaseHold a)) ∧
    ((s.rwcOf a).trailer = true → f.src ≠ .pre → exec (.serialTrailerEnd a) s = .next ((s.frameEnd a).releaseHold a)) ∧
    ((s.rwcOf a).trailer = true → f.src = .pre → exec (.serialTrailerEnd a) s =
      .next ((((s.frameEnd a).msqMap a (fun m => { m with psto := true })).seqEvent a 9).releaseHold a)))

/-- The operation queue (R142, R166, R167, R169): GO enters the descriptor or sets QREJ when 32 wait; STE's and ZNE's submissions enter in turn; a queued operation is cancelled
with STATUS 0x23; POP frees the oldest completion. -/
def Obligations.OperationQueue : Prop :=
  (∀ (s : State) (a : Act) (v : Word), (s.msqOf a).queue.length < 32 →
    exec (.operationSubmit a v) s = .next (s.enqueue a ((List.range 16).map (fun i => s.rd (Rg.MSQ_OPD a i))))) ∧
  (∀ (s : State) (a : Act) (v : Word), 32 ≤ (s.msqOf a).queue.length → exec (.operationSubmit a v) s = .next (s.fsetB (F.MSQ_STS_QREJ a) true)) ∧
  (∀ (s : State) (a : Act) (d : List Word), descOpc d < 0xE0 → writeKind (descOpc d) = false ∨ s.locked = true →
    s.enqueue a d = (((s.msqMap a (fun m => { m with queue := m.queue ++ [d] })).seqEvent a 0).msqCounts a).haltDrain a 32) ∧
  (∀ (s : State) (a : Act) (d : List Word) (t : List (List Word)), (s.msqOf a).hwWait = d :: t →
    ((s.msqOf a).queue.length < 32 → exec (.hardwareSubmit a) s = .next ((s.msqMap a (fun m => { m with hwWait := t })).enqueue a d)) ∧
    (32 ≤ (s.msqOf a).queue.length → exec (.hardwareSubmit a) s = .next s)) ∧
  (∀ (s : State) (a : Act) (sub : Nat) (tag : Word) (d : List Word),
    let mine := fun (d : List Word) => descSub d == sub && d.getD 4 0 == tag
    let m := s.msqOf a
    m.queue.find? mine = some d → exec (.operationCancel a sub tag) s = .next (((s.msqSet a { m with
      queue := m.queue.takeWhile (fun x => !mine x) ++ (m.queue.dropWhile (fun x => !mine x)).drop 1
      ended := m.ended ++ [newOp d (some 0x23) s.near] }).postReady a 16).msqCounts a)) ∧
  (∀ (s : State) (a : Act) (sub : Nat) (tag : Word) (o : MsqOp), (s.msqOf a).queue = [] → (s.msqOf a).cur = some o → descSub o.desc = sub →
    o.desc.getD 4 0 = tag →
    let u := (s.msqSet a { s.msqOf a with cur := some { o with cancel := true } }).seqEvent a 1
    exec (.operationCancel a sub tag) s = .next (u.abortJobs (fun j => decide (j.act = a) && j.tag == tag) u.ddp.jobs)) ∧
  (∀ (s : State) (a : Act) (v : Word),
    exec (.completionPop a v) s = .next ((((s.msqMap a (fun m => { m with cpls := m.cpls.tail })).msqCounts a).postReady a 16).haltDrain a 32))

/-- Sequencer control, machine checks and patches (R148, R161, R164, R165, R171): EN starts a sequencer that neither runs nor is halted from address 0, EN = 0 asks it to stop,
which it does at once while a word of it waits outside an operation, CLRCNT clears both counters, a machine check stops a running one, and a patch load is refused while
GLB_LOCK or EN is set, and by its verdicts. -/
def Obligations.SequencerControl : Prop :=
  (∀ (s : State) (a : Act) (v : Word), (F.MSQ_CTL_CLRCNT a).on v = false →
    let u := s.fsetB (F.MSQ_CTL_EN a) true
    (u.flag (F.MSQ_STS_RUN a) = false → u.flag (F.MSQ_STS_HALT a) = false → exec (.sequencerEnable a v) s =
      .next ((((u.msqMap a (fun m => { m with stack := [], g := List.replicate 16 0, sinceYield := 0, waiting := none, held := none, stopAsked := false })).fset
        (F.MSQ_PC_ADDR a) 0).fsetB (F.MSQ_STS_EVEN a) false).fsetB (F.MSQ_STS_RUN a) true)) ∧
    (u.flag (F.MSQ_STS_RUN a) = false → u.flag (F.MSQ_STS_HALT a) = true → exec (.sequencerEnable a v) s = .next u) ∧
    (u.flag (F.MSQ_STS_RUN a) = true → exec (.sequencerEnable a v) s = .next (u.msqMap a (fun m => { m with stopAsked := false })))) ∧
  (∀ (s : State) (a : Act) (v : Word), (F.MSQ_CTL_CLRCNT a).on v = false →
    let u := s.fsetB (F.MSQ_CTL_EN a) false
    let t := u.msqMap a (fun m => { m with stopAsked := true })
    (u.flag (F.MSQ_STS_RUN a) = true → (s.msqOf a).waiting = none ∨ (s.msqOf a).cur ≠ none → exec (.sequencerStop a v) s = .next t) ∧
    (u.flag (F.MSQ_STS_RUN a) = true → (s.msqOf a).waiting ≠ none → (s.msqOf a).cur = none → exec (.sequencerStop a v) s = .next (t.seqStop a)) ∧
    (u.flag (F.MSQ_STS_RUN a) = false → exec (.sequencerStop a v) s = .next u)) ∧
  (∀ (s : State) (a : Act) (v : Word), (F.MSQ_CTL_EN a).on v = false →
    let u := ((s.fsetB (F.MSQ_CTL_EN a) false).clearCount (Rg.MSQ_OPS_LO a)).clearCount (Rg.MSQ_PART_LO a)
    u.flag (F.MSQ_STS_RUN a) = false → exec (.sequencerCounterClear a v) s = .next u) ∧
  (∀ (s : State) (a : Act) (cause : MckCause) (pb : BitVec 16), s.flag (F.MSQ_STS_RUN a) = true →
    exec (.machineCheck a cause pb) s = .next (s.machineCheck a (mckCode cause) (if cause = .parity then pb.toNat else 0) (!s.forced (Blk.msq a) 0 2))) ∧
  (∀ (s : State) (a : Act) (v : Word), s.flag (F.MSQ_PSTS_BUSY a) = false →
    (s.locked = true → exec (.patchLoad a v) s = .next (s.patchEnd a 1)) ∧
    (s.locked = false → s.flag (F.MSQ_CTL_EN a) = true → exec (.patchLoad a v) s = .next (s.patchEnd a 2)) ∧
    (s.locked = false → s.flag (F.MSQ_CTL_EN a) = false → exec (.patchLoad a v) s = .next (s.fsetB (F.MSQ_PSTS_BUSY a) true))) ∧
  (∀ (s : State) (a : Act) (plain : List Byte) (l : List PatchSection), s.flag (F.MSQ_PSTS_BUSY a) = true → s.forced (Blk.msq a) 0 1 = false →
    let img := s.fget (F.MSQ_PLD_ADDR a)
    (∀ tagOk, exec (.patchLoadComplete a false tagOk plain) s = .next (s.patchEnd a 3)) ∧
    exec (.patchLoadComplete a true false plain) s = .next (s.patchEnd a 4) ∧
    (s.sec.patchKey = true → s.patchHeader a img = true → patchSections 16384 plain = some l → s.load (img + 8) 2 = bitsOf (s.rd Rg.GLB_ID) 8 8 →
      l.all PatchSection.inRange = true →
      l.any (fun p => p.typ == 1 && (List.range p.count).any (fun i => badParity (BitVec.ofNat 144 (p.entry i)) != 0)) = false →
      exec (.patchLoadComplete a true true plain) s =
        .next (((s.patchWriteAll a l).fset (F.MSQ_PSTS_PREV a) (s.load (img + 0xA) 2)).patchEnd a 0)))

/-- SCRUB_START, SCRUB_TIMER, SCRUB_END, CHECKBIT_TEST_ARM, MEM_COUNTER_CLEAR, BANK_COPY_END, REFRESH_RATE_POLL (R285 to R295): a pass begins on a command or at the interval and
ends with its event; the check-bit test is armed only while GLB_LOCK is clear or the tests are unlocked; a finished bank copy enters the Vault's table. -/
def Obligations.MemoryCare : Prop :=
  (∀ (s : State) (v : Word) (found : List FoundErr),
    let a := ((s.fset F.MEM_SCRCTL_TGT (F.MEM_SCRCTL_TGT.of v)).fset F.MEM_SCRCTL_FIRST (F.MEM_SCRCTL_FIRST.of v)).fset F.MEM_SCRCTL_NBANKS
      (F.MEM_SCRCTL_NBANKS.of v)
    let u := if a.locked then a else (a.fset F.MEM_SCRCTL_INTV (F.MEM_SCRCTL_INTV.of v)).effInterval
    (u.flag F.MEM_SCRSTS_BUSY = false → exec (.scrubStart v found) s = .next (u.scrubPass (F.MEM_SCRCTL_FIRST.of v)
      (if F.MEM_SCRCTL_TGT.of v = 1 then 0 else min (max 1 (F.MEM_SCRCTL_NBANKS.of v)) (64 - F.MEM_SCRCTL_FIRST.of v)) (F.MEM_SCRCTL_TGT.of v != 0) found)) ∧
    (u.flag F.MEM_SCRSTS_BUSY = true → exec (.scrubStart v found) s = .next u)) ∧
  (∀ (s : State) (found : List FoundErr), s.fget F.MEM_SCRSTS_EFFINTV ≠ 0 → s.flag F.MEM_SCRSTS_BUSY = false →
    exec (.scrubTimer found) s = .next (s.scrubPass 0 64 true found)) ∧
  (∀ (s : State) (found : List FoundErr), s.fget F.MEM_SCRSTS_EFFINTV = 0 → exec (.scrubTimer found) s = .next s) ∧
  (∀ s : State, s.flag F.MEM_SCRSTS_BUSY = true →
    exec .scrubEnd s = .next (((s.fsetB F.MEM_SCRSTS_BUSY false).fsetB F.MEM_SCRSTS_DONE true).raiseEvent 95)) ∧
  (∀ (s : State) (v : Word),
    let u := s.fset F.MEM_TEST_CHK (F.MEM_TEST_CHK.of v)
    (u.locked = false ∨ u.flag F.FLT_STS_UNLOCKED = true → exec (.checkbitTestArm v) s = .next (u.fsetB F.MEM_TEST_ARM true)) ∧
    (u.locked = true → u.flag F.FLT_STS_UNLOCKED = false → exec (.checkbitTestArm v) s = .next u)) ∧
  (∀ (s : State) (v : Word), exec (.memCounterClear v) s = .next (((((((s.clearCount Rg.MEM_YCE_LO).clearCount Rg.MEM_VCE_LO).clearCount Rg.MEM_DDRCE_LO).clearCount
    Rg.MEM_DDRUE_LO).clearCount Rg.MEM_LATE_CPL_LO).clearCount Rg.MEM_MCHIT_LO).clearCount Rg.MEM_MCMISS_LO)) ∧
  (∀ (s : State) (b k : Nat) (rest : List (Nat × Nat)), s.ms.copies = (b, k) :: rest → exec .bankCopyEnd s =
    .next ((s.msMap (fun m => { m with copies := rest })).vaultMap (fun v => if k = 64 then { v with spare0 := some b } else { v with spare1 := some b })).bankMap) ∧
  (∀ (s : State) (double : Bool), exec (.refreshRatePoll double) s = .next (s.fsetB F.MEM_DDRSTS_HOTREF double))

/-- DDR5_READ_COMPLETE, DDR5_READ_TIMEOUT, LATE_DDR5_DATA, MERGE_DRAIN, MAP_CACHE_FILL (R296 to R305): a corrected read counts and reports, an uncorrectable one or a timeout takes
the path of its place, late data are counted and dropped, the oldest merge entry drains, and a filled line serves its waiters. CACHE_LOCK, CACHE_UNLOCK, CACHE_INVALIDATE,
RANGE_OPERATION_END, MAP_CACHE_ENABLE, MAP_CACHE_DISABLE, MAP_CACHE_DISABLE_END (R298 to R301): a range operation runs while the cache is on and no other one runs, locks,
unlocks or drops the lines of its range, and loses no locked line without LOCK_LOST; EN takes the cache off and on. -/
def Obligations.Ddr5AndMapCache : Prop :=
  (∀ (s : State) (addr : Nat) (place : DdrPlace),
    exec (.ddr5ReadComplete addr false .clean place) s = .next s ∧
    exec (.ddr5ReadComplete addr false .corrected place) s = .next ((s.count Rg.MEM_DDRCE_LO).raiseFault Blk.mem 0 3 1 (addrInfo addr)) ∧
    exec (.ddr5ReadComplete addr false .uncorrectable place) s = .next (s.ddrUncorrectable addr false place (!s.forced Blk.mem 0 5)) ∧
    exec (.ddr5ReadTimeout addr false place) s =
      .next ((s.msMap (fun m => { m with late := m.late ++ [addr / 128] })).ddrUncorrectable addr false place true)) ∧
  (∀ (s : State) (addr : Nat) (err : DdrErr) (place : DdrPlace), s.ms.misses.any (fun m => m.line == addr / 128 && !m.arrived) = false →
    exec (.ddr5ReadComplete addr true err place) s = .next s ∧ exec (.ddr5ReadTimeout addr true place) s = .next s) ∧
  (∀ (s : State) (addr : Nat), s.ms.late.contains (addr / 128) = true → exec (.lateDdr5Data addr) s =
    .next (((s.msMap (fun m => { m with late := m.late.erase (addr / 128) })).count Rg.MEM_LATE_CPL_LO).raiseFault Blk.mem 0 1 0 (addrInfo addr))) ∧
  (∀ (s : State) (addr : Nat), s.ms.late.contains (addr / 128) = false → exec (.lateDdr5Data addr) s = .next s) ∧
  (∀ s : State, exec .mergeDrain s = .next (s.msMap (fun m => { m with merge := m.merge.tail }))) ∧
  (∀ (s : State) (line : Nat) (m : Miss), s.ms.misses.find? (fun m => m.alloc && m.line == line && m.arrived) = some m →
    let u := s.msMap (fun x => { x with misses := x.misses.filter (fun y => !(y.alloc && y.line == line)) })
    let w := if u.cacheOn then u.cacheInstall line 1 (m.locked && decide (u.lockedIn (lineSet line) < 8)) else u
    exec (.mapCacheFill line) s = .next (m.waiters.foldl (fun s w => s.deliver w) w).retryStalled) ∧
  (∀ (s : State) (line : Nat), s.ms.misses = [] → exec (.mapCacheFill line) s = .next s) ∧
  (∀ (s : State) (v : Word), s.flag F.MEM_MCC_STS_BUSY = true ∨ s.flag F.MEM_MCC_STS_OFF = true →
    exec (.cacheLock v) s = .next s ∧ exec (.cacheUnlock v) s = .next s ∧ exec (.cacheInvalidate v) s = .next s) ∧
  (∀ (s : State) (v : Word), s.flag F.MEM_MCC_STS_BUSY = false → s.flag F.MEM_MCC_STS_OFF = false →
    let base := s.fget F.MEM_MCC_LBASE_LINE
    let n := min 16384 (max 1 (s.fget F.MEM_MCC_LLEN_LINES))
    let inr := fun (p : Nat × CLine) => decide (base ≤ p.2.line p.1) && decide (p.2.line p.1 < base + n)
    let u := fun op => (s.fsetB F.MEM_MCC_STS_BUSY true).msMap (fun m => { m with rangeOp := some (op, base, n) })
    exec (.cacheLock v) s = .next ((u 1).lockLines base n) ∧
    exec (.cacheUnlock v) s = .next ((u 2).msMap (fun m => { m with lines := m.lines.map (fun p => if inr p then (p.1, { p.2 with locked := false }) else p) })) ∧
    (let w := (u 3).msMap (fun m => { m with lines := m.lines.filter (fun p => !inr p) })
     (s.ms.lines.any (fun p => inr p && p.2.locked) = true →
       exec (.cacheInvalidate v) s = .next (((w.fsetB F.MEM_MCC_STS_LOCK_LOST true).raiseEvent 96).raiseFault Blk.mem 0 2 0 (addrInfo (base * 128)))) ∧
     (s.ms.lines.any (fun p => inr p && p.2.locked) = false → w.forced Blk.mem 0 2 = false → exec (.cacheInvalidate v) s = .next w))) ∧
  (∀ s : State, s.ms.rangeOp.isSome = true → exec .rangeOperationEnd s =
    .next ((s.msMap (fun m => { m with rangeOp := none })).fsetB F.MEM_MCC_STS_BUSY s.ms.disabling)) ∧
  (∀ (s : State) (v : Word), s.ms.disabling = false →
    exec (.mapCacheEnable v) s = .next ((s.fsetB F.MEM_MCC_CTL_EN true).fsetB F.MEM_MCC_STS_OFF false) ∧
    (let u := s.fsetB F.MEM_MCC_CTL_EN false
     (u.flag F.MEM_MCC_STS_OFF = false → exec (.mapCacheDisable v) s =
       .next ((u.msMap (fun m => { m with disabling := true, enAsked := false, merge := [] })).fsetB F.MEM_MCC_STS_BUSY true)) ∧
     (u.flag F.MEM_MCC_STS_OFF = true → exec (.mapCacheDisable v) s = .next u))) ∧
  (∀ (s : State) (v : Word), s.ms.disabling = true →
    exec (.mapCacheEnable v) s = .next ((s.fsetB F.MEM_MCC_CTL_EN true).msMap (fun m => { m with enAsked := true })) ∧
    exec (.mapCacheDisable v) s = .next ((s.fsetB F.MEM_MCC_CTL_EN false).msMap (fun m => { m with enAsked := false })) ∧
    exec .mapCacheDisableEnd s = .next ((((s.msMap (fun m => { m with disabling := false, enAsked := false, lines := [], rangeOp := none })).fsetB F.MEM_MCC_STS_OFF
      (!s.ms.enAsked)).fsetB F.MEM_MCC_STS_BUSY false).retryStalled))

/-- FAULT_MESSAGE, FAULT_MESSAGE_READ, FATAL_HOLD_END, FLT_COUNTER_CLEAR (R324 to R330): the oldest message in flight reaches the Collector, is queued and marks SEEN (but for a
message of class 0 or 1 that a full queue discards); class 4 stops safely and class 5 is fatal; a read takes the oldest queued message; the hold after a fatal fault ends. -/
def Obligations.FaultCollector : Prop :=
  (∀ s : State, s.flt.inflight = [] → exec .faultMessage s = .next s) ∧
  (∀ (s : State) (m : BitVec 64) (rest : List (BitVec 64)), s.flt.inflight = m :: rest →
    let u := (s.fltMap (fun f => { f with inflight := rest })).enqueueMessage m
    let w := u.fset F.FLT_STS_SEEN (u.fget F.FLT_STS_SEEN ||| 1 <<< msgClass m)
    (msgClass m < 2 → s.flt.queue.length < 64 → exec .faultMessage s = .next w) ∧
    (msgClass m < 2 → 64 ≤ s.flt.queue.length → exec .faultMessage s = .next u) ∧
    (msgClass m = 2 ∨ msgClass m = 3 → exec .faultMessage s = .next w) ∧
    (msgClass m = 4 → exec .faultMessage s = .next (w.safeStopSet (msgSource m))) ∧
    (msgClass m = 5 → exec .faultMessage s = .next (w.fatal (msgSource m) (msgKind m)))) ∧
  (∀ s : State, exec .faultMessageRead s =
    .next { s.takeMessage.2 with core := { s.takeMessage.2.core with rdata := s.takeMessage.1 } }) ∧
  (∀ s : State, s.flt.fatalHold = true → exec .fatalHoldEnd s = .next (s.fltMap (fun f => { f with fatalHold := false, fatalSeq := false }))) ∧
  (∀ s : State, s.flt.fatalHold = false → exec .fatalHoldEnd s = .next s) ∧
  (∀ (s : State) (v : Word), exec (.fltCounterClear v) s = .next (s.fltTouched.clearCount Rg.FLT_DROP_LO))

/-- RAIL_OUT_OF_RANGE, RAIL_BACK_IN_RANGE, CLOCK_FAILURE, TEST_UNLOCK, FORCE_FAULT, FORCE_LAPSE (R328 to R331, Table 15.6): an overvoltage or a lost clock is fatal, an undervoltage
begins the power-loss sequence but on the sixth rail; the unlock needs its two keys in turn; a force waits for its condition and lapses. -/
def Obligations.MonitorsAndTests : Prop :=
  (∀ (s : State) (u : Fin 6) (mv : Nat),
    (let w := s.fieldBit F.FLT_MON_OV u.val true
     exec (.railOutOfRange u true mv) s = .next (w.raiseFault Blk.flt u.val 2 5 (mv % 65536) (!w.forced Blk.flt u.val 2))) ∧
    (let w := s.fieldBit F.FLT_MON_UV u.val true
     (u.val = 5 → exec (.railOutOfRange u false mv) s = .next (w.raiseFault Blk.flt 5 1 2 (mv % 65536) (!w.forced Blk.flt 5 1))) ∧
     (u.val ≠ 5 → exec (.railOutOfRange u false mv) s =
       .next ((w.raiseFault Blk.flt u.val 1 0 (mv % 65536) (!w.forced Blk.flt u.val 1)).powerLoss true))) ∧
    exec (.railBackInRange u) s = .next ((s.fieldBit F.FLT_MON_UV u.val false).fieldBit F.FLT_MON_OV u.val false)) ∧
  (∀ (s : State) (pll : Bool) (edges : Nat),
    let w := (s.fsetB (if pll then F.FLT_MON_PLL else F.FLT_MON_XTAL) true).fsetB F.FLT_MON_FALLBACK true
    let u := if pll then 9 else 8
    exec (.clockFailure pll edges) s = .next (w.raiseFault Blk.flt u 3 5 (edges % 65536) (!w.forced Blk.flt u 3)).permBoth) ∧
  (∀ (s : State) (v : Word),
    (F.FLT_UNLOCK_KEY.of v = 0x0C3A → s.flt.unlockArmed = true → s.locked = false ∨ s.flag F.SEC_STS_DBGOPEN = true → exec (.testUnlock v) s =
      .next ((s.fltTouched.fsetB F.FLT_STS_UNLOCKED true).offerRecord (BitVec.ofNat 16 (Config.unstated s.freeCtr)) 0 false false false).tick) ∧
    (F.FLT_UNLOCK_KEY.of v = 0x7E51 → exec (.testUnlock v) s =
      .next ((s.fltMap (fun f => { f with unlockArmed := true })).fsetB F.FLT_STS_UNLOCKED false))) ∧
  (∀ (s : State) (v : Word),
    let u := s.fltTouched
    (u.flt.force.isSome = true → exec (.forceFault v) s = .next u) ∧
    (u.flt.force = none → u.flag F.FLT_STS_UNLOCKED = false → exec (.forceFault v) s = .next (u.fset F.FLT_FORCE_RESULT 3)) ∧
    (u.flt.force = none → u.flag F.FLT_STS_UNLOCKED = true → sourceKind (F.FLT_FORCE_SRC.of v) (F.FLT_FORCE_KIND.of v) = true → exec (.forceFault v) s =
      .next ((u.fltMap (fun f => { f with force := some (F.FLT_FORCE_SRC.of v, F.FLT_FORCE_KIND.of v) })).fset F.FLT_FORCE_RESULT 0))) ∧
  (∀ s : State, s.flt.force.isSome = true → exec .forceLapse s = .next ((s.fltMap (fun f => { f with force := none })).fset F.FLT_FORCE_RESULT 2)) ∧
  (∀ s : State, s.flt.force = none → exec .forceLapse s = .next s)

/-- SOFTWARE_EVENT, ROUTE_WRITE, GPIO_EDGE (R332 to R335, Table 15.7): a software event and a pin's edge set what their routes enable; a route's five fields take a write for
sources that are not reserved. RECORD_WRITE, BUCKET_REFILL, STATION_BOOK_CLEAR, STATION_BOOK_CLEAR_END, BOK_COUNTER_CLEAR, FIRMWARE_RECORD (R336 to R347): the oldest record is
written while the second's limit allows; a bucket takes a token up to its burst; the book is cleared only for an authenticated administrator. -/
def Obligations.EventsAndStationBook : Prop :=
  (∀ (s : State) (v : Word), exec (.softwareEvent v) s = .next (s.raiseEvent (512 + F.EVR_SWSET_IDX.of v))) ∧
  (∀ (s : State) (n : Fin 640) (v : Word),
    (eventSource n.val = true → exec (.routeWrite n v) s = .next (s.wr (Rg.EVR_ROUTE n.val) (v &&& maskOf 0 18))) ∧
    (eventSource n.val = false → exec (.routeWrite n v) s = .next s)) ∧
  (∀ (s : State) (n : Fin 16) (level : Bool), ∃ t, exec (.gpioEdge n level) s = .next t ∧
    t.pins.gpioIn = (s.pins.gpioIn &&& ~~~ BitVec.ofNat 16 (1 <<< n.val)) ||| BitVec.ofNat 16 (level.toNat <<< n.val) ∧
    t.regs = s.regs ∧ t.mem = s.mem ∧ t.flt = s.flt ∧
    t.evr.hart = (if s.fget (F.EVR_ROUTE_HARTS (136 + n.val)) = 0 then s.evr.hart else s.evr.hart ||| bit640 (136 + n.val))) ∧
  (∀ (s : State) (r : BokRec) (rest : List BokRec), s.bok.second = s.second → s.bok.queue = r :: rest →
    (s.bok.clearing = false → s.bok.written < 512 → exec .recordWrite s =
      .next ((s.bokMap (fun b => { b with queue := rest, written := b.written + 1 })).writeRecord r).bokBusy) ∧
    (s.bok.clearing = true ∨ 512 ≤ s.bok.written → exec .recordWrite s = .next s)) ∧
  (∀ (s : State) (code : BitVec 16), exec (.bucketRefill code) s = .next (s.bokMap (fun b => { b with buckets := b.buckets.map (fun x =>
    if x.code = code then { x with tokens := if x.tokens < max 1 (s.fget F.BOK_RATE_BURST) then x.tokens + 1 else x.tokens } else x) }))) ∧
  (∀ (s : State) (v : Word), F.BOK_CTL_CLRCNT.on v = false →
    (s.flag F.SEC_STS_ADMIN = true → exec (.stationBookClear v) s = .next (s.bokMap (fun b => { b with clearing := true })).bokBusy) ∧
    (s.flag F.SEC_STS_ADMIN = false → exec (.stationBookClear v) s = .next s)) ∧
  (∀ (s : State) (v : Word), F.BOK_CTL_CLR.on v = false → exec (.bokCounterClear v) s = .next ((s.clearCount Rg.BOK_DROP_LO).clearCount Rg.BOK_SUPP_LO)) ∧
  (∀ s : State, s.bok.clearing = true →
    let u := s.clearCirculating
    exec .stationBookClearEnd s = .next ((((u.writeRecord ⟨recCode Blk.bok 0 2, u.clock, 0, 0, false, false⟩).bokMap (fun b => { b with
      clearing := false })).bokBusy.raiseFault Blk.bok 0 2 0 0).raiseEvent 104)) ∧
  (∀ s : State, s.bok.clearing = false → exec .stationBookClearEnd s = .next s) ∧
  (∀ (s : State) (v : Word),
    let code := F.BOK_FWREC_CODE.of v
    (code / 64 / 32 = Blk.bok → 1 ≤ code / 64 % 32 → exec (.firmwareRecord v) s =
      .next (s.offerRecord (BitVec.ofNat 16 code) (BitVec.ofNat 64 (s.wide Rg.BOK_FWINFO_LO)) false false false)) ∧
    (code / 64 / 32 ≠ Blk.bok ∨ code / 64 % 32 = 0 → exec (.firmwareRecord v) s = .next s))

/-- The hold-up supply (R306 to R312): a measurement is asked for and gives capacitance and energy, or an error; the spindle's energy and the rail are brought up to date; PFAIL
follows the pin; a power loss begins the sequence once PFAIL is set. The speed governor (R318, R319): with EN = 1 and the spindle steady in RUN, high use raises the target by a
step under the ceiling and low use over the dwell lowers it by one; the target stays where neither holds. -/
def Obligations.HoldUpAndSpeedGovernor : Prop :=
  (∀ s : State, exec .measurementTimer s = .next (s.pwrMap (fun p => { p with measDue := true }))) ∧
  (∀ (s : State) (v : Word), s.locked = true → F.PWR_CTL_RPGO.on v = false →
    exec (.measurementRequest v) s = .next (s.pwrMap (fun p => { p with measDue := true }))) ∧
  (∀ (s : State) (v : Word), s.locked = false → F.PWR_CTL_RPGO.on v = false → exec (.measurementRequest v) s =
    .next (((s.fsetB F.PWR_CTL_HEN (F.PWR_CTL_HEN.on v)).armUpdate false).pwrMap (fun p => { p with measDue := true }))) ∧
  (∀ (s : State) (s0 s1 : Nat), s.pwr.measDue = false → exec (.measurementEnd s0 s1) s = .next s) ∧
  (∀ (s : State) (s0 s1 : Nat), s.pwr.measDue = true →
    let u := s.pwrMap (fun p => { p with measDue := false })
    let v0 := s0 * u.fget F.PWR_HCFG_DIV / 64 % 65536
    let v1 := s1 * u.fget F.PWR_HCFG_DIV / 64 % 65536
    let w := (u.fset F.PWR_HV_V0 v0).fset F.PWR_HV_V1 v1
    let r := w.fget F.PWR_HCFG_RTEST
    let cap := max 1 (w.fget F.PWR_HCFG_TTEST) * 100 * (v0 + v1) / 2 / (r * (v0 - v1))
    let end_ := fun (x : State) => x.henUpdate.armUpdate true
    (v0 < v1 + 20 ∨ r = 0 → exec (.measurementEnd s0 s1) s = .next (end_ (((w.pwrMap (fun p => { p with
      measOk := false, ecap := 0, rail := v0, railLow := false })).fsetB F.PWR_STS_MEASERR true).raiseFault Blk.pwr 0 1 2 0))) ∧
    (v1 + 20 ≤ v0 → r ≠ 0 → exec (.measurementEnd s0 s1) s = .next (end_ ((w.pwrMap (fun p => { p with
      measOk := true, ecap := if v0 ≤ 7000 then 0 else cap * (v0 * v0 - 7000 * 7000) / 2000000, rail := v0, railLow := false })).wr Rg.PWR_HCAP
        (BitVec.ofNat 32 cap))))) ∧
  (∀ s : State, exec .keUpdate s =
    .next (((s.fset F.SPC_KE_UJ (if s.holdsSpindle then min 0xFFFFFFFF s.kineticUj else 0)).tick).henUpdate.armUpdate true)) ∧
  (∀ (s : State) (mv : Nat), (mv < s.vmin → exec (.holdRailBelowVmin mv) s = .next ((s.pwrMap (fun p => { p with railLow := true })).armUpdate false)) ∧
    (s.vmin ≤ mv → exec (.holdRailBelowVmin mv) s = .next s)) ∧
  (∀ s : State, exec .powerFailFall s = .next (((s.fsetB F.PWR_STS_PFAIL true).pwrMap (fun p => { p with measDue := false })).armUpdate false) ∧
    exec .powerFailRise s = .next (s.fsetB F.PWR_STS_PFAIL false)) ∧
  (∀ s : State, s.flag F.PWR_STS_PFAIL = true → exec .powerLoss s = .next (s.powerLoss true)) ∧
  (∀ s : State, s.flag F.PWR_STS_PFAIL = false → s.forced Blk.pwr 0 3 = false → exec .powerLoss s = .next s) ∧
  (∀ (s : State) (util : Nat), s.flag F.PWR_RG_EN = false → exec (.governorPeriod util) s = .next s) ∧
  (∀ (s : State) (util : Nat), s.flag F.PWR_RG_EN = true →
    let u := s.fset F.PWR_RGSTS_UTIL (min 100 util)
    let up := u.fget F.PWR_RG_UPTH
    let dn := min up (u.fget F.PWR_RG_DNTH)
    let run := if util < dn then u.pwr.dnRun + 1 else 0
    let w := u.pwrMap (fun p => { p with dnRun := run })
    (w.flag F.SPC_STS_STEP = true ∨ w.spcIn SpcS.run = false → exec (.governorPeriod util) s = .next w) ∧
    (w.flag F.SPC_STS_STEP = false → w.spcIn SpcS.run = true →
      (up ≤ util → u.fget F.SPC_TARGET_SEL < w.ceiling → exec (.governorPeriod util) s = .next (w.targetAsk (u.fget F.SPC_TARGET_SEL + 1))) ∧
      (up ≤ util → w.ceiling ≤ u.fget F.SPC_TARGET_SEL → exec (.governorPeriod util) s = .next w) ∧
      (dn ≤ util → util < up → exec (.governorPeriod util) s = .next w) ∧
      (util < dn → run < max 1 (w.fget F.PWR_RG_DWELL) → exec (.governorPeriod util) s = .next w) ∧
      (util < dn → max 1 (w.fget F.PWR_RG_DWELL) ≤ run →
        let x := w.pwrMap (fun p => { p with dnRun := 0 })
        (u.fget F.SPC_TARGET_SEL ≤ 1 → exec (.governorPeriod util) s = .next x) ∧
        (2 ≤ u.fget F.SPC_TARGET_SEL → exec (.governorPeriod util) s = .next (x.targetAsk (u.fget F.SPC_TARGET_SEL - 1)))))) ∧
  (∀ (s : State) (k : Nat), s.twin = false → s.targetAsk k = s.targetSet (min k s.ceiling))

/-- Saving and restoring (R312 to R317, R320): the save's end leaves the device held, its outputs low, after a power loss or due for a reset; power's return releases it; a restore
is refused by its code or runs and returns the saved blocks; the hours count up. -/
def Obligations.SaveAndRestore : Prop :=
  (∀ s : State, s.pwr.saving = none → exec .windowSaveEnd s = .next s) ∧
  (∀ (s : State) (cause : Nat), s.pwr.saving = some cause →
    let u := (s.saveWindow cause).pwrMap (fun p => { p with saving := none })
    u.flt.fatalSeq = false →
    (u.ms.faultReset = true → exec .windowSaveEnd s = .next ((u.recordNow (recCode Blk.mem 0 6)).coreMap (fun c => { c with resetDue := some 1 }))) ∧
    (u.ms.faultReset = false → exec .windowSaveEnd s = .next ((u.recordNow (recCode Blk.pwr 0 3)).pwrMap (fun p => { p with held := true })).pinsHeld)) ∧
  (∀ s : State, s.pwr.held = true → s.flag F.PWR_STS_PFAIL = false → s.flt.fatalHold = false →
    exec .powerReturn s = .next (s.coreMap (fun c => { c with resetDue := some 3 }))) ∧
  (∀ s : State, s.pwr.held = false ∨ s.flag F.PWR_STS_PFAIL = true ∨ s.flt.fatalHold = true → exec .powerReturn s = .next s) ∧
  (∀ (s : State) (v : Word), s.locked = false → F.PWR_CTL_MEAS.on v = false →
    let u := (s.fsetB F.PWR_CTL_HEN (F.PWR_CTL_HEN.on v)).armUpdate false
    u.twin = false →
    (u.flag F.ZNE_STS_RUN = true → exec (.restoreRequest v) s = .next ((u.fset F.PWR_STS_RPST 3).fset F.PWR_STS_RPCODE 2)) ∧
    (u.flag F.ZNE_STS_RUN = false → u.locked = false → u.core.replay = false →
      exec (.restoreRequest v) s = .next ((u.fset F.PWR_STS_RPST 3).fset F.PWR_STS_RPCODE 3)) ∧
    (u.flag F.ZNE_STS_RUN = false → u.locked = false → u.core.replay = true → u.headerGood = true → u.forced Blk.pwr 0 2 = false →
      exec (.restoreRequest v) s = .next ((u.fset F.PWR_STS_RPST 1).fset F.PWR_STS_RPCODE 0)) ∧
    (u.flag F.ZNE_STS_RUN = false → u.locked = false → u.core.replay = true → u.headerGood = false →
      exec (.restoreRequest v) s = .next (((u.fset F.PWR_STS_RPST 2).fset F.PWR_STS_RPCODE 1).raiseFault Blk.pwr 0 2 3 0))) ∧
  (∀ (s : State) (v : Word), s.locked = true → s.twin = false → F.PWR_CTL_MEAS.on v = false →
    exec (.restoreRequest v) s = .next ((s.fset F.PWR_STS_RPST 3).fset F.PWR_STS_RPCODE 2)) ∧
  (∀ s : State, s.fget F.PWR_STS_RPST = 1 →
    let bs := (s.vault.saveDir.take s.headerCount).mapIdx (fun i e => s.savedBlock i e)
    let u := { s with cqe := { s.cqe with buffer := byStamp bs } }
    exec .restoreEnd s = .next ((u.fset F.PWR_STS_RPST 2).fset F.PWR_RPBLK_BLOCKS bs.length).winUpdate) ∧
  (∀ s : State, s.fget F.PWR_STS_RPST ≠ 1 → exec .restoreEnd s = .next s) ∧
  (∀ s : State, exec .powerOnHour s = .next ((s.vaultMap (fun v => { v with poh := min 0xFFFFFFFF (s.vault.poh + 1) })).wr Rg.PWR_POH
    (BitVec.ofNat 32 (min 0xFFFFFFFF (s.vault.poh + 1)))))

/-- Security commands (R271, R348, R353): outside its port's authority a command completes Access Denied and does nothing more; inside it, discovery answers the protocols, a good
authentication unwraps the namespace's key, a set credential wraps it anew, a lock empties the key's slot, a status answers. -/
def Obligations.SecurityCommands : Prop :=
  (∀ (s : State) (h : CmdHdr), s.adminReady h → s.flag (F.HEP_AUTH_SECURITY h.port.num) = false →
    ∀ c ∈ [Instr.securityProtocolDiscovery h, .authenticate h h.nsid true, .authenticate h h.nsid false, .setCredential h h.nsid true false, .lock h h.nsid,
      .securityStatus h], exec c s = .next (s.issueStamp.2.complete h St.denied)) ∧
  (∀ (s : State) (h : CmdHdr), s.adminReady h → s.flag (F.HEP_AUTH_SECURITY h.port.num) = true →
    let u := s.issueStamp.2
    exec (.securityProtocolDiscovery h) s = .next (u.complete h 0 0 [0, 0, 0, 0, 0, 0, 0, 2, 0, 0xF0]) ∧
    (∀ nsid ok oldOk newEmpty, u.isPartner nsid = false →
      exec (.authenticate h nsid ok) s = .next ((u.authOp nsid ok).1.complete h (u.authOp nsid ok).2) ∧
      exec (.setCredential h nsid oldOk newEmpty) s = .next ((u.credOp nsid oldOk newEmpty).1.complete h (u.credOp nsid oldOk newEmpty).2) ∧
      exec (.lock h nsid) s = .next ((u.lockOp nsid).1.complete h (u.lockOp nsid).2)) ∧
    (u.isPartner h.nsid = false → exec (.securityStatus h) s = .next (u.complete h 0 0 u.secBytes))) ∧
  (∀ (s : State) (nsid : Nat) (n : Two), s.ownNs nsid = some n → nsid ≠ 0 →
    (s.fget F.SEC_STS_AUTHF < 5 → (s.sec.blocks.get n).isSome = true → s.authOp nsid true = (s.unwrap n, 0)) ∧
    s.lockOp nsid = ((s.secMap (fun x => { x with slots := x.slots.set n none })).secStatus, 0)) ∧
  (∀ s : State, s.fget F.SEC_STS_AUTHF < 5 → s.authOp 0 true = (s.fsetB F.SEC_STS_ADMIN true, 0)) ∧
  (∀ (s : State) (newEmpty : Bool), s.credOp 0 true newEmpty = (s.secMap (fun x => { x with adminCred := !newEmpty }), 0))

/-- FORMAT_NVM and SANITIZE (R276, R351): a format with legal fields takes effect on the chip's own namespace and completes; sanitize erases both namespaces' keys; a port without
the authority is denied. -/
def Obligations.FormatAndSanitize : Prop :=
  (∀ (s : State) (h : CmdHdr) (lbaf pi ses : Nat), s.adminReady h → s.flag (F.HEP_AUTH_ADMIN h.port.num) = false →
    exec (.formatNvm h lbaf pi ses) s = .next (s.issueStamp.2.complete h St.denied) ∧ exec (.sanitize h) s = .next (s.issueStamp.2.complete h St.denied)) ∧
  (∀ (s : State) (h : CmdHdr) (lbaf pi ses : Nat) (n : Two), s.adminReady h → s.flag (F.HEP_AUTH_ADMIN h.port.num) = true →
    let u := s.issueStamp.2
    u.isPartner h.nsid = false → u.ownNs h.nsid = some n →
    (u.nsPresent h.nsid = true →
      exec (.formatNvm h lbaf pi ses) s = .next ((u.formatOp n h.nsid lbaf pi ses).1.complete h (u.formatOp n h.nsid lbaf pi ses).2)) ∧
    (u.nsPresent h.nsid = false → exec (.formatNvm h lbaf pi ses) s = .next (u.complete h St.namespace))) ∧
  (∀ (s : State) (h : CmdHdr), s.adminReady h → s.flag (F.HEP_AUTH_ADMIN h.port.num) = true →
    let u := s.issueStamp.2.cryptoErase [0, 1] false
    u.twin = false → exec (.sanitize h) s = .next (u.complete h 0)) ∧
  (∀ (s : State) (n : Two) (nsid lbaf pi ses : Nat), 2 < lbaf ∨ (pi ≠ 0 ∧ pi ≠ 1 ∧ pi ≠ 3) ∨ (lbaf = 0 ∧ pi ≠ 0) ∨ (ses ≠ 0 ∧ ses ≠ 2) →
    s.formatOp n nsid lbaf pi ses = (s, 0x10A))

/-- SVN_UPDATE, DEBUG_CHALLENGE, DEBUG_RESPONSE (R340, R350): the minimum security version only rises, and not under GLB_LOCK; three failed responses end the challenges; a good one
opens debug, latches tampering and empties the keys. -/
def Obligations.VersionAndDebug : Prop :=
  (∀ (s : State) (v : Word),
    (s.locked = true ∨ F.SEC_SVN_SVNMIN.of v < s.fget F.SEC_SVN_SVNMIN → exec (.svnUpdate v) s = .next s) ∧
    (s.locked = false → s.fget F.SEC_SVN_SVNMIN ≤ F.SEC_SVN_SVNMIN.of v → exec (.svnUpdate v) s =
      .next ((s.fset F.SEC_SVN_SVNMIN (F.SEC_SVN_SVNMIN.of v)).vaultMap (fun x => { x with svnMin := F.SEC_SVN_SVNMIN.of v })))) ∧
  (∀ s : State, 3 ≤ s.sec.dbgFails → exec .debugChallenge s = .next s) ∧
  (∀ s : State, s.sec.dbgFails < 3 →
    let r := s.randomBytes 16
    exec .debugChallenge s = .next (r.2.secMap (fun x => { x with challenge := some (r.1 ++ (List.range 16).map Config.serial) }))) ∧
  (∀ (s : State) (ok : Bool), s.sec.challenge = none ∨ 3 ≤ s.sec.dbgFails ∨ s.flag F.SEC_STS_DBGOPEN = true → exec (.debugResponse ok) s = .next s) ∧
  (∀ s : State, s.sec.challenge.isNone = false → s.sec.dbgFails < 3 → s.flag F.SEC_STS_DBGOPEN = false →
    let u := s.secMap (fun x => { x with challenge := none })
    exec (.debugResponse false) s = .next (u.secMap (fun x => { x with dbgFails := x.dbgFails + 1 })) ∧
    (let w := (u.fsetB F.SEC_TAMPER_LATCH true).fset F.SEC_TAMPER_DBGCNT (min 0xFFFF (u.fget F.SEC_TAMPER_DBGCNT + 1))
     exec (.debugResponse true) s = .next (((((w.secMap (fun x => { x with slots := ⟨none, none⟩, patchKey := false })).secStatus).raiseFault Blk.sec 0 5 2
       0).raiseEvent 108).fsetB F.SEC_STS_DBGOPEN true)))

/-- CREATE_IO_CQ, CREATE_IO_SQ, DELETE_IO_SQ, DELETE_IO_CQ, ABORT, ASYNCHRONOUS_EVENT_REQUEST (R262, R267, R273): legal queues are made and removed and each command completes; an
abort without the named command answers so; an event request waits, up to four of them. -/
def Obligations.QueueCommands : Prop :=
  (∀ (s : State) (h : CmdHdr) (qid size vec cqid : Nat), s.adminReady h →
    let u := s.issueStamp.2
    let x := u.port h.port
    (1 ≤ qid → qid ≤ 64 → x.cqs.any (fun q => q.qid == qid) = false → 2 ≤ size → size ≤ 4096 → vec ≤ 128 → exec (.createIoCq h qid size vec true) s =
      .next ((u.portMap h.port (fun x => { x with cqs := x.cqs ++ [⟨qid, size, vec, 0, 0, 0⟩] })).complete h 0)) ∧
    (1 ≤ qid → qid ≤ 64 → x.sqs.any (fun q => q.qid == qid) = false → 1 ≤ cqid → x.cqs.any (fun q => q.qid == cqid) = true → 2 ≤ size → size ≤ 4096 →
      exec (.createIoSq h qid size cqid true) s = .next ((u.portMap h.port (fun x => { x with
        sqs := x.sqs.takeWhile (fun q => decide (q.qid < qid)) ++ ⟨qid, size, cqid, 0, []⟩ :: x.sqs.dropWhile (fun q => decide (q.qid < qid)) })).complete h
          0)) ∧
    (qid = 0 ∨ 64 < qid → ∀ contig, exec (.createIoCq h qid size vec contig) s = .next (u.complete h St.queueId) ∧
      exec (.createIoSq h qid size cqid contig) s = .next (u.complete h St.queueId)) ∧
    (∀ q, x.sqs.find? (fun q => q.qid == qid && q.qid != 0) = some q → exec (.deleteIoSq h qid) s =
      .next (((u.sqAbort h.port q).portMap h.port (fun x => { x with sqs := x.sqs.filter (fun y => y.qid != qid) })).complete h 0)) ∧
    (x.sqs.find? (fun q => q.qid == qid && q.qid != 0) = none → exec (.deleteIoSq h qid) s = .next (u.complete h St.queueId)) ∧
    (1 ≤ qid → x.cqs.any (fun q => q.qid == qid) = true → x.sqs.any (fun q => q.cqid == qid && q.qid != 0) = false → exec (.deleteIoCq h qid) s =
      .next ((u.portMap h.port (fun x => { x with cqs := x.cqs.filter (fun q => q.qid != qid) })).complete h 0)) ∧
    (1 ≤ qid → x.cqs.any (fun q => q.qid == qid) = true → x.sqs.any (fun q => q.cqid == qid && q.qid != 0) = true →
      exec (.deleteIoCq h qid) s = .next (u.complete h St.queueDelete)) ∧
    (4 ≤ x.aers.length → exec (.asynchronousEventRequest h) s = .next (u.complete h St.abortLimit)) ∧
    (x.aers.length < 4 → exec (.asynchronousEventRequest h) s =
      .next ((u.portMap h.port (fun x => { x with aers := x.aers ++ [h.cid] })).aerPump h.port))) ∧
  (∀ (s : State) (h : CmdHdr) (sqid cid : Nat), s.adminReady h →
    let u := s.issueStamp.2
    (u.cqe.slots = [] → u.brl.fwds = [] → exec (.abort h sqid cid) s = .next (u.complete h 0 1)) ∧
    (∀ x a n, u.cqe.slots.find? (fun x => x.cmd.hdr.port == h.port && x.cmd.hdr.qid == sqid && x.cmd.hdr.cid == cid) = some x → x.cmd.kind = .read a n →
      u.readUnsent x.stamp = true → x.mute = false → exec (.abort h sqid cid) s = .next (((u.cancelReads x.stamp).finish x St.aborted).complete h 0)))

/-- IDENTIFY, the log pages and the features (R271, R273 to R277, Tables 12.9 to 12.11): each answers with its data or its status; a page or feature outside the port's authority is
denied; timestamp, thermal management and power management take effect before the completion. -/
def Obligations.IdentifyLogsFeatures : Prop :=
  (∀ (s : State) (h : CmdHdr) (cns lid fid first count : Nat) (v : Word), s.adminReady h →
    let u := s.issueStamp.2
    (exec (.identify h cns) s =
      .next (u.complete h (u.identifyData h cns).status (u.identifyData h cns).dw0 (u.identifyData h cns).data)) ∧
    (∀ c l, (c, l) ∈ [(Instr.getLogPage h lid, lid), (.smartHealthLog h, 0x02), (.driveLifeLog h, 0xC0), (.bootStatusLog h, 0xC2)] →
      (s.logAllowed h.port l = true → exec c s = .next ((u.logPage h l).1.complete h (u.logPage h l).2.status (u.logPage h l).2.dw0 (u.logPage h l).2.data)) ∧
      (s.logAllowed h.port l = false → exec c s = .next (u.complete h St.denied))) ∧
    (s.logAllowed h.port 0xC1 = true → exec (.stationBookLog h first count) s = .next (u.complete h 0 0 (u.bookPage first count))) ∧
    (exec (.getFeatures h fid v) s =
      .next (u.complete h (u.featureValue h.port fid v).status (u.featureValue h.port fid v).dw0 (u.featureValue h.port fid v).data)) ∧
    (exec (.getTimestamp h) s =
      .next (u.complete h (u.featureValue h.port 0x0E 0).status (u.featureValue h.port 0x0E 0).dw0 (u.featureValue h.port 0x0E 0).data)) ∧
    (driveFeature fid = false ∨ s.flag (F.HEP_AUTH_ADMIN h.port.num) = true → exec (.setFeatures h fid v) s =
      .next ((u.featureOp h fid v).1.complete h (u.featureOp h fid v).2.status (u.featureOp h fid v).2.dw0 (u.featureOp h fid v).2.data)) ∧
    (driveFeature fid = true → s.flag (F.HEP_AUTH_ADMIN h.port.num) = false → exec (.setFeatures h fid v) s = .next (u.complete h St.denied))) ∧
  (∀ (s : State) (h : CmdHdr) (ps ms tmt1 tmt2 : Nat), s.adminReady h →
    let u := s.issueStamp.2
    (s.flag (F.HEP_AUTH_ADMIN h.port.num) = true →
      exec (.setPowerManagement h ps) s = .next ((u.powerOp ps).1.complete h (u.powerOp ps).2) ∧
      exec (.setTimestamp h ms) s = .next ((u.timestampOp ms).complete h 0) ∧
      exec (.setThermalManagement h tmt1 tmt2) s = .next ((u.hctmOp tmt1 tmt2).1.complete h (u.hctmOp tmt1 tmt2).2)) ∧
    (s.flag (F.HEP_AUTH_ADMIN h.port.num) = false →
      exec (.setPowerManagement h ps) s = .next (u.complete h St.denied) ∧ exec (.setTimestamp h ms) s = .next (u.complete h St.denied) ∧
      exec (.setThermalManagement h tmt1 tmt2) s = .next (u.complete h St.denied)))

/-- FIRMWARE_IMAGE_DOWNLOAD, FIRMWARE_COMMIT, FIRMWARE_COMMIT_ACTIVATE (R278, R341): with the firmware authority an image fills the inactive slot, a commit chooses a slot or
activates it; without it the command is denied. -/
def Obligations.FirmwareCommands : Prop :=
  (∀ (s : State) (h : CmdHdr) (image : SlotImage) (slot action : Nat), s.adminReady h → s.flag (F.HEP_AUTH_FW h.port.num) = false →
    ∀ c ∈ [Instr.firmwareImageDownload h image, .firmwareCommit h slot action, .firmwareCommitActivate h slot],
      exec c s = .next (s.issueStamp.2.complete h St.denied)) ∧
  (∀ (s : State) (h : CmdHdr) (image : SlotImage) (slot action : Nat), s.adminReady h → s.flag (F.HEP_AUTH_FW h.port.num) = true →
    let u := s.issueStamp.2
    (let w := u.hepMap (fun x => { x with download := some image })
     exec (.firmwareImageDownload h image) s = .next (({ w with flash := w.flash.map (fun (f : Flash) => if u.inactiveSlot = 1 then { f with slot1 := image } else { f with
       slot2 := image }) }).complete h 0)) ∧
    (action < 3 → exec (.firmwareCommit h slot action) s = .next ((u.commitOp slot action).1.complete h (u.commitOp slot action).2)) ∧
    (3 < action → exec (.firmwareCommit h slot action) s = .next (u.complete h St.field)) ∧
    (∀ a, (u.commitActivate h slot).2 = some a →
      exec (.firmwareCommitActivate h slot) s = .next ((u.commitActivate h slot).1.complete h a.status a.dw0 a.data) ∧
      exec (.firmwareCommit h slot 3) s = exec (.firmwareCommitActivate h slot) s) ∧
    ((u.commitActivate h slot).2 = none → exec (.firmwareCommitActivate h slot) s = .next (u.commitActivate h slot).1))

/-- The management interface (R282, R283): the basic read answers always, an MCTP request only while HEP_MI.EN = 1; a good configuration set of the frequency is kept; other
requests answer their error status; nothing but the answer, the health copy and that frequency changes. -/
def Obligations.ManagementInterface : Prop :=
  (∀ s : State, exec .miBasicManagementRead s = .next (s.miAnswer ([6, if s.functional then 0x3B else 0x1B] ++ (match s.healthNow with
    | [w, t, u] => [~~~ w, t, u]
    | l => l) ++ [0, 0]))) ∧
  (∀ (s : State) (l : List Byte), ∃ t, s.miAnswer l = t ∧ t.hep.mctp = l ∧ t.hep.health = s.healthNow ∧ t.regs = s.regs ∧ t.mem = s.mem ∧
    t.hep.miFreq = s.hep.miFreq) ∧
  (∀ (s : State) (p : Port) (v : Word) (n arg opcode : Nat), s.flag F.HEP_MI_EN = false → ∀ c ∈ [Instr.readNvmeMiDataStructure n, .subsystemHealthStatusPoll,
    .controllerHealthStatusPoll p, .configurationGet n, .configurationSet n v, .miTunneledCommand opcode arg, .miUnsupportedRequest opcode],
    exec c s = .next s) ∧
  (∀ (s : State) (p : Port), s.flag F.HEP_MI_EN = true →
    exec (.readNvmeMiDataStructure 0) s = .next (s.miAnswer [0, BitVec.ofNat 8 (s.fget F.GLB_CFG_PORTS), 1, 2]) ∧
    exec (.readNvmeMiDataStructure 1) s = .next (s.miAnswer [0, 2, 64, 0]) ∧
    (∀ n, 3 < n → exec (.readNvmeMiDataStructure n) s = .next (s.miAnswer [4])) ∧
    exec .subsystemHealthStatusPoll s = .next (s.miAnswer ([0, if s.functional then 0x20 else 0] ++ s.healthNow)) ∧
    exec (.controllerHealthStatusPoll p) s =
      .next (s.miAnswer (0 :: (leBytes 2 (s.cntlid p) ++ leBytes 4 (s.nvmeRead p 0x1C).toNat ++ leBytes 1 s.availSpare ++ s.healthNow))) ∧
    exec (.configurationGet 1) s = .next (s.miAnswer [0, BitVec.ofNat 8 s.hep.miFreq]) ∧
    exec (.configurationGet 3) s = .next (s.miAnswer [0, 64]) ∧
    (∀ v : Word, v = 1 ∨ v = 2 → exec (.configurationSet 1 v) s = .next ((s.hepMap (fun h => { h with miFreq := v.toNat })).mctpDo [0])) ∧
    (∀ (n : Nat) (v : Word), 3 < n → exec (.configurationSet n v) s = .next (s.miAnswer [4])) ∧
    (∀ arg, let a := s.featureValue .zero arg 0
      exec (.miTunneledCommand 0x0A arg) s = .next (s.miAnswer (0 :: (leBytes 4 a.dw0 ++ leBytes 4 (a.status * 2 * 65536) ++ a.data)))) ∧
    (∀ opcode, exec (.miUnsupportedRequest opcode) s = .next (s.miAnswer [3])))

/-- LINK_UP, BUS_MASTER_ENABLE, BUS_MASTER_DISABLE, the four resets of a port, the controller register writes, CONFIG_READY, HEP_COUNTER_CLEAR, CONFIGURATION_REQUEST,
EXPANSION_ROM_READ (R260, R263 to R265, R269, R272, R283): a port that exists trains, resets, enables and shuts down; a configuration request answers or is retried; the option
ROM reads from the Yard. -/
def Obligations.HostPort : Prop :=
  (∀ (s : State) (p : Port) (sp w : Nat), s.portOn p = true → 1 ≤ sp → sp ≤ 5 → w = 1 ∨ w = 2 ∨ (w = 4 ∧ s.flag F.GLB_CFG_PORTS = false) → s.cqe.stopped = false →
    exec (.linkUp p sp w) s = .next ((s.fset (F.HEP_LINK_SPEED p.num) sp).fset (F.HEP_LINK_WIDTH p.num) w)) ∧
  (∀ (s : State) (p : Port) (sp w : Nat), s.portOn p = false ∨ sp = 0 ∨ 5 < sp ∨ s.cqe.stopped = true → exec (.linkUp p sp w) s = .next s) ∧
  (∀ (s : State) (p : Port), let w := (s.port p).cfgWord 0x04
    (w.getLsbD 2 = false → exec (.busMasterDisable p) s = .next s ∧ exec (.busMasterEnable p) s =
      .next (((((((s.cfgPut p 0x04 (setBits w 2 1 1)).raiseEvent (174 + p.num)).fetchPump p 256).heldPump p).portMap p (fun x => x.messagePump 129))).bmepUpdate p)) ∧
    (w.getLsbD 2 = true → exec (.busMasterEnable p) s = .next s ∧
      exec (.busMasterDisable p) s = .next (((s.cfgPut p 0x04 (setBits w 2 1 0)).raiseEvent (174 + p.num)).bmepUpdate p))) ∧
  (∀ (s : State) (p : Port), s.portOn p = true →
    exec (.fundamentalReset p) s = .next ((s.portReset p (fun _ => false)).linkDown p) ∧ exec (.hotReset p) s = .next ((s.portReset p (cfgSticky false)).linkDown p) ∧
    ((s.port p).flr = false → exec (.functionLevelReset p) s = .next ((s.portReset p (cfgSticky true)).portMap p (fun x => { x with flr := true }))) ∧
    ((s.port p).flr = true → exec (.functionLevelReset p) s = .next s) ∧
    ((s.port p).cc.getLsbD 0 = true → exec (.controllerDisable p) s = .next ((s.controllerReset p).raiseEvent (170 + p.num))) ∧
    ((s.port p).cc.getLsbD 0 = false → ∀ v : Word,
      let held := fun v : Word => s.portMap p (fun x => { x with cc := v &&& 0xFFFFF0 })
      exec (.controllerEnable p v) s = .next (s.ccEnable p (setBits v 0 1 1)) ∧ exec (.controllerDisable p) s = .next (held (setBits (s.port p).cc 0 1 0)) ∧
      exec (.normalShutdown p) s = .next (held (setBits (s.port p).cc 14 2 1)) ∧ exec (.abruptShutdown p) s = .next (held (setBits (s.port p).cc 14 2 2))) ∧
    ((s.port p).cc.getLsbD 0 = true → (bitsOf (s.port p).cc 14 2 ≠ 1 → exec (.normalShutdown p) s = .next (s.shutdown p false)) ∧
      (bitsOf (s.port p).cc 14 2 ≠ 2 → exec (.abruptShutdown p) s = .next (s.shutdown p true)))) ∧
  (∀ (s : State) (p : Port) (v : Word), s.portOn p = false → ∀ c ∈ [Instr.fundamentalReset p, .hotReset p, .functionLevelReset p, .controllerEnable p v, .controllerDisable p,
    .normalShutdown p, .abruptShutdown p], exec c s = .next s) ∧
  (∀ (s : State) (p : Port), exec (.functionLevelResetEnd p) s = .next (s.portMap p (fun x => { x with flr := false }))) ∧
  (∀ (s : State) (v : Word),
    let one := fun (s : State) (n : Nat) => ((s.clearCount (Rg.HEP_LATE_CPL_LO n)).clearCount (Rg.HEP_STALE_LO n)).clearCount (Rg.HEP_CTO_LO n)
    let bar := fun (s : State) (p : Port) => s.portMap p (fun x => { x with bar2 := s.flag (F.HEP_AUTH_SERVICE p.num) })
    (F.HEP_CTL_CFGRDY.on v = false → exec (.hepCounterClear v) s = .next (one (one s 0) 1)) ∧
    (F.HEP_CTL_CLRCNT.on v = false → s.flag F.HEP_CTL_CFGRDY = true → exec (.configReady v) s = .next s) ∧
    (F.HEP_CTL_CLRCNT.on v = false → s.flag F.HEP_CTL_CFGRDY = false → exec (.configReady v) s = .next ((bar (bar s .zero) .one).fsetB F.HEP_CTL_CFGRDY true))) ∧
  (∀ (s : State) (p : Port) (reg : Nat) (v : Word), s.portOn p = true → let u := s.ps4Wake
    (u.flag F.HEP_CTL_CFGRDY = false ∨ (u.port p).flr = true → ∀ wr, exec (.configurationRequest p wr reg v) s = .next (u.hepMap (fun h => { h with answer := none }))) ∧
    (u.flag F.HEP_CTL_CFGRDY = true → (u.port p).flr = false →
      exec (.configurationRequest p true reg v) s = .next ((u.cfgWrite p (reg / 4 * 4) v).hepMap (fun h => { h with answer := some 0 })) ∧
      (cfgOpen (reg / 4 * 4) = false → exec (.configurationRequest p false reg v) s =
        .next (u.hepMap (fun h => { h with answer := some (u.cfgFixed p (reg / 4 * 4) ||| (u.port p).cfgWord (reg / 4 * 4)) }))) ∧
      (cfgOpen (reg / 4 * 4) = true → exec (.configurationRequest p false reg v) s =
        .next ((u.hepMap (fun h => { h with answer := some ((BitVec.ofNat 32 (Config.unstated u.freeCtr) &&&
          ~~~ u.cfgMask p (reg / 4 * 4)) ||| (u.port p).cfgWord (reg / 4 * 4)) })).tick)))) ∧
  (∀ (s : State) (p : Port) (off : Nat),
    let on := ((s.port p).cfgWord 0x30).getLsbD 0 = true ∧ ((s.port p).cfgWord 0x04).getLsbD 1 = true ∧ s.portOn p = true ∧ off < 0x40000 ∧ s.fget F.HEP_OPTLEN_LEN ≠ 0
    (on → off < s.fget F.HEP_OPTLEN_LEN * 512 → exec (.expansionRomRead p off) s = .next (s.hepMap (fun h => { h with rom := s.byte (0x11800000 + off) }))) ∧
    (on → s.fget F.HEP_OPTLEN_LEN * 512 ≤ off → exec (.expansionRomRead p off) s = .next (s.hepMap (fun h => { h with rom := 0 }))) ∧
    (¬ on → exec (.expansionRomRead p off) s = .next s))

/-- DOORBELL_WRITE, COALESCING_TIMER, PCIE_COMPLETION, COMPLETION_TIMEOUT, the I/O command rows and UNSUPPORTED_COMMAND (R205, R241, R242, R248, R251, R265, R267, R268, R270,
R273): a doorbell moves its queue's pointer or reports its error; a completion frees its tag; an I/O command is completed with its error, or joins its queue. -/
def Obligations.HostTraffic : Prop :=
  (∀ (s : State) (p : Port) (isCq : Bool) (qid : Nat) (v : Word), s.rdy p = false → exec (.doorbellWrite p isCq qid v) s = .next s) ∧
  (∀ (s : State) (p : Port) (qid : Nat) (v : Word), s.rdy p = true → let u := s.ps4Wake
    ((u.port p).cqs.find? (fun q => q.qid == qid) = none → exec (.doorbellWrite p true qid v) s = .next (u.doorbellError p 0)) ∧
    ((u.port p).sqs.find? (fun q => q.qid == qid) = none → exec (.doorbellWrite p false qid v) s = .next (u.doorbellError p 0)) ∧
    (∀ q, (u.port p).cqs.find? (fun q => q.qid == qid) = some q →
      (q.size ≤ v.toNat → exec (.doorbellWrite p true qid v) s = .next (u.doorbellError p 1)) ∧
      (v.toNat < q.size → exec (.doorbellWrite p true qid v) s = .next ((u.portMap p (fun x => x.cqSet { q with
        head := q.head + (v.toNat + q.size - q.head % q.size) % q.size })).heldPump p))) ∧
    (∀ q, (u.port p).sqs.find? (fun q => q.qid == qid) = some q →
      let w := u.portMap p (fun x => { x with sqs := x.sqs.map (fun y => if y.qid = qid then { y with tail := v.toNat } else y) })
      (q.size ≤ v.toNat → exec (.doorbellWrite p false qid v) s = .next (u.doorbellError p 1)) ∧
      (v.toNat < q.size → qid = 0 → exec (.doorbellWrite p false qid v) s = .next (w.raiseEvent (168 + p.num))) ∧
      (v.toNat < q.size → qid ≠ 0 → exec (.doorbellWrite p false qid v) s = .next w))) ∧
  (∀ (s : State) (p : Port) (qid : Nat), ((s.port p).cqs.find? (fun q => q.qid == qid) = none → exec (.coalescingTimer p qid) s = .next s) ∧
    (∀ q, (s.port p).cqs.find? (fun q => q.qid == qid) = some q → (q.coalesced = 0 → exec (.coalescingTimer p qid) s = .next s) ∧
      (0 < q.coalesced → exec (.coalescingTimer p qid) s = .next (s.portMap p (fun x => (x.cqSet { q with coalesced := 0 }).message q.vector))))) ∧
  (∀ (s : State) (p : Port) (tag : Nat), (s.port p).tags.find? (fun u => u.tag == tag) = none → exec (.completionTimeout p tag) s = .next s ∧
    ∀ m, exec (.pcieCompletion p tag m) s = .next s) ∧
  (∀ (s : State) (p : Port) (tag : Nat) (u : TagUse), (s.port p).tags.find? (fun u => u.tag == tag) = some u →
    let w := s.portMap p (fun x => { x with tags := x.tags.filter (fun v => v.tag != tag) })
    (u.old = true → ∀ m, exec (.pcieCompletion p tag m) s = .next ((w.count (Rg.HEP_STALE_LO p.num)).raiseFault Blk.hep 0 1 0 tag)) ∧
    (u.old = false → u.timedOut = true → ∀ m, exec (.pcieCompletion p tag m) s =
      .next ((((w.aer p 0x110 13).aer p 0x104 16).count (Rg.HEP_LATE_CPL_LO p.num)).raiseFault Blk.hep 0 1 0 tag)) ∧
    (u.old = false → u.timedOut = false →
      exec (.pcieCompletion p tag .good) s = .next ((w.fetchPump p 256).bmepUpdate p) ∧
      exec (.pcieCompletion p tag .poisoned) s = .next ((((w.aer p 0x104 12).endTransfer p u.stamp).fetchPump p 256).bmepUpdate p) ∧
      ∀ m, m ≠ .good → m ≠ .poisoned → exec (.pcieCompletion p tag m) s = .next (((w.endTransfer p u.stamp).fetchPump p 256).bmepUpdate p)) ∧
    (u.timedOut = true ∨ ((s.port p).cfgWord 0x98).getLsbD 4 = true → exec (.completionTimeout p tag) s = .next s) ∧
    (u.timedOut = false → ((s.port p).cfgWord 0x98).getLsbD 4 = false → (u.old = true → exec (.completionTimeout p tag) s = .next (s.portMap p (fun x => { x with
        tags := x.tags.map (fun v => if v.tag = tag then { v with timedOut := true } else v) }))) ∧
      (u.old = false → exec (.completionTimeout p tag) s = .next ((((((((s.portMap p (fun x => { x with
        tags := x.tags.map (fun v => if v.tag = tag then { v with timedOut := true } else v) })).aer p 0x104 14).count (Rg.HEP_CTO_LO p.num)).raiseFault Blk.hep 0 2 3 tag).endTransfer p
          u.stamp)).fetchPump p 256).bmepUpdate p)))) ∧
  (∀ (s : State) (h : CmdHdr) (a n : Nat) (fua all : Bool), s.rdy h.port = true → s.portOn h.port = true → h.qid ≠ 0 → (s.port h.port).sqs.any (fun q => q.qid == h.qid) = true →
    (∀ c k, (c, k) ∈ [(Instr.flush h, CmdKind.flush), (.write h a n fua, .write a n fua), (.read h a n, .read a n), (.writeZeroes h a n, .zeroes a n), (.zoneAppend h a n fua, .append a n fua),
        (.zoneOpen h a all, .zone .opening a all), (.zoneClose h a all, .zone .closing a all), (.zoneFinish h a all, .zone .finishing a all),
        (.zoneReset h a all, .zone .resetting a all), (.zoneOffline h a all, .zone .offlining a all), (.reportZones h a n, .report a n)] →
      (∀ st, s.ioError ⟨h, k⟩ = some st → exec c s = .next (s.complete h st)) ∧
      (s.ioError ⟨h, k⟩ = none → exec c s =
        .next (s.portMap h.port (fun x => { x with sqs := x.sqs.map (fun q => if q.qid = h.qid then { q with cmds := q.cmds ++ [⟨h, k⟩] } else q) })))) ∧
    (∀ o, exec (.unsupportedCommand h false o) s = .next (s.complete h St.opcode))) ∧
  (∀ (s : State) (h : CmdHdr) (o : Nat), s.adminReady h → exec (.unsupportedCommand h true o) s = .next (s.issueStamp.2.complete h St.opcode))

/-- CQE_ENABLE, CQE_COUNTER_CLEAR, COMMAND_ADMISSION, WRITE_DATA_RECEIVED, ZONE_ACTION_APPLY, FLUSH_COMPLETE (R197, R237, R248, R251, R258, R259): the engine starts or reports its
configuration error; the chosen queue's oldest command is admitted; arrived data enters the buffer; the first command that may apply applies; a flush completes once nothing
before it waits. -/
def Obligations.CommandQueue : Prop :=
  (∀ (s : State) (v : Word), F.CQE_CTL_CLRCNT.on v = false →
    let base := s.fget F.CQE_CSTAGE_BLK * 0x1000000
    let size := max 1 (s.fget F.CQE_CSTAGE_SIZE) * 0x1000000
    let bad := !s.inDdrRw base size || (decide (base < s.mdBase + 0x1000000) && decide (s.mdBase < base + size))
    (s.flag F.CQE_STS_RUN = true → exec (.cqeEnable v) s = .next s) ∧
    (s.flag F.CQE_STS_RUN = false → bad = true ∨ s.forced Blk.cqe 0 4 = true →
      exec (.cqeEnable v) s = .next ((s.fsetB F.CQE_STS_CFGERR true).raiseFault Blk.cqe 0 4 3 0 bad)) ∧
    (s.flag F.CQE_STS_RUN = false → bad = false → s.forced Blk.cqe 0 4 = false →
      exec (.cqeEnable v) s = .next (((s.fsetB F.CQE_CTL_EN true).fsetB F.CQE_STS_RUN true).earlyUpdate))) ∧
  (∀ (s : State) (v : Word), F.CQE_CTL_EN.on v = false → exec (.cqeCounterClear v) s =
    .next (((((s.clearCount Rg.CQE_ADMIT_LO).clearCount Rg.CQE_EARLY_LO).clearCount Rg.CQE_MVCAN_LO).clearCount Rg.CQE_POISON_LO).clearCount Rg.CQE_PSABAND_LO)) ∧
  (∀ (s : State) (p : Port) (qid : Nat), let u := s.jstallUpdate
    (u.flag F.BRL_STS_FENCED = true → exec (.commandAdmission p qid) s = .next (u.fencedHead p qid)) ∧
    (u.flag F.BRL_STS_FENCED = false → u.pickNext ≠ some (p, qid) → exec (.commandAdmission p qid) s = .next u) ∧
    (u.flag F.BRL_STS_FENCED = false → u.pickNext = some (p, qid) → ∀ q c t, (u.port p).sqs.find? (fun q => q.qid == qid) = some q → q.cmds = c :: t →
      exec (.commandAdmission p qid) s = .next (((u.portMap p (fun x => { x with
        sqs := x.sqs.map (fun y => if y.qid = qid then { y with cmds := t } else y)
        turn := qid, burst := if x.turn = qid ∧ x.burst < x.burstMax then x.burst + 1 else 1 })).hepMap (fun h => { h with lastPort := p })).admitAny c))) ∧
  (∀ (s : State) (stamp : Nat) (m : WriteData), stamp < fwdStamp →
    (s.slotOf stamp = none → exec (.writeDataReceived stamp m) s = .next s) ∧
    (∀ x, s.slotOf stamp = some x →
      (x.cmd.kind.isData = false ∨ x.dataIn = true ∨ x.applied = false ∨ (s.port x.cmd.hdr.port).fetch.contains stamp = true →
        exec (.writeDataReceived stamp m) s = .next s) ∧
      (x.cmd.kind.isData = true → x.dataIn = false → x.applied = true → (s.port x.cmd.hdr.port).fetch.contains stamp = false →
        let u := if x.cmd.hdr.qid < 65536 then s.fetchDone x.cmd.hdr.port stamp else s
        (m.outcome = .good → exec (.writeDataReceived stamp m) s = .next (u.dataArrived stamp m.blocks)) ∧
        (m.outcome ≠ .good → exec (.writeDataReceived stamp m) s = .next (((u.failWrite x).readsOf stamp).finish x (receiptStatus m.outcome)))))) ∧
  (∀ (s : State) (stamp : Nat) (m : WriteData), fwdStamp ≤ stamp → exec (.writeDataReceived stamp m) s = .next (s.forwardData (stamp - fwdStamp) m)) ∧
  (∀ s : State, (s.cqe.slots.find? s.canApply = none → exec .zoneActionApply s = .next s) ∧
    (∀ x, s.cqe.slots.find? s.canApply = some x → exec .zoneActionApply s = .next (s.applySlot x))) ∧
  (∀ (s : State) (stamp : Nat), (s.slotOf stamp = none → exec (.flushComplete stamp) s = .next s) ∧
    (∀ x, s.slotOf stamp = some x →
      let covers := fun (n : Nat) => x.cmd.hdr.nsid == 0xFFFFFFFF || n == x.cmd.hdr.nsid
      let waits := s.cqe.slots.any (fun y => y.cmd.kind.isData && decide (y.stamp < stamp) && covers y.cmd.hdr.nsid) ||
        s.cqe.buffer.any (fun b => !b.media && decide (b.stamp < stamp) && covers b.nsid && !b.poison)
      (x.cmd.kind = .flush → waits = false → exec (.flushComplete stamp) s = .next (s.finish x 0)) ∧
      (waits = true ∨ x.cmd.kind ≠ .flush → exec (.flushComplete stamp) s = .next s)))

/-- The interlocks, the firmware activation and the power states (R246, R254, R255, R258, R320): an interlock takes the lowest free entry or waits, is held once nothing meets it,
and its release serves the first waiter; an activation is ready when no command is held; PS3 and PS4 are entered step by step and left by the wake. -/
def Obligations.InterlocksAndPowerStates : Prop :=
  (∀ (s : State) (m : IlockReq), (∀ i, s.ilFree = some i → exec (.interlockRequest m) s =
      .next ((s.cqeMap (fun c => { c with il := c.il ++ [⟨i, m, s.wide Rg.CQE_STAMP_LO, false⟩] })).ilCounts)) ∧
    (s.ilFree = none →
      exec (.interlockRequest m) s = .next (s.cqeMap (fun c => { c with ilWait := c.ilWait ++ [m] })))) ∧
  (∀ (s : State) (index : Nat), (s.cqe.il.find? (fun e => e.index == index) = none → exec (.interlockHeld index) s = .next s) ∧
    (∀ e, s.cqe.il.find? (fun e => e.index == index) = some e → (s.ilCan e = false → exec (.interlockHeld index) s = .next s) ∧
      (s.ilCan e = true → exec (.interlockHeld index) s =
        .next ((s.cqeMap (fun c => { c with il := c.il.map (fun f => if f.index = index then { f with held := true } else f) })).ilCounts)))) ∧
  (∀ (s : State) (index : Nat), (s.cqe.il.any (fun e => e.index == index) = false → exec (.interlockRelease index) s = .next s) ∧
    (s.cqe.il.any (fun e => e.index == index) = true → let u := (s.cqeMap (fun c => { c with il := c.il.filter (fun e => e.index != index) })).ilCounts
      (s.cqe.ilWait = [] → exec (.interlockRelease index) s = .next u) ∧
      (∀ m t, s.cqe.ilWait = m :: t → exec (.interlockRelease index) s = .next ((u.cqeMap (fun c => { c with ilWait := t })).ilRequest m)))) ∧
  (∀ (s : State) (e : IlEntry), s.cqe.il.find? (fun e => e.index == s.fget F.CQE_ILSEL_INDEX) = some e →
    let u := (((s.wr (Rg.CQE_ILDATA 0) (e.words.getD 0 0)).wr (Rg.CQE_ILDATA 1) (e.words.getD 1 0)).wr (Rg.CQE_ILDATA 2) (e.words.getD 2 0)).wr (Rg.CQE_ILDATA 3) (e.words.getD 3 0)
    exec .interlockCapture s = .next { u with core := { u.core with rdata := u.rd (Rg.CQE_ILDATA 0) } }) ∧
  (∀ s : State, s.cqe.il.find? (fun e => e.index == s.fget F.CQE_ILSEL_INDEX) = none →
    let u := (((s.wr (Rg.CQE_ILDATA 0) 0).wr (Rg.CQE_ILDATA 1) 0).wr (Rg.CQE_ILDATA 2) 0).wr (Rg.CQE_ILDATA 3) 0
    exec .interlockCapture s = .next { u with core := { u.core with rdata := u.rd (Rg.CQE_ILDATA 0) } }) ∧
  (∀ s : State, (s.flag F.CQE_FWA_REQ = true → s.cqe.slots = [] → exec .activationReady s = .next (s.fsetB F.CQE_FWA_READY true)) ∧
    (s.flag F.CQE_FWA_REQ = false ∨ s.cqe.slots ≠ [] → exec .activationReady s = .next s)) ∧
  (∀ (s : State) (v : Word), (s.flag F.CQE_FWA_READY = false → exec (.activationDone v) s = .next s) ∧
    (s.flag F.CQE_FWA_READY = true →
      let u := (((s.fsetB F.CQE_FWA_REQ false).fsetB F.CQE_FWA_READY false).fsetB F.CQE_STS_FWACT false).quiesce
      u.cqe.fwCmd = none → u.cqe.entryWait = none → exec (.activationDone v) s = .next u)) ∧
  (∀ (s : State) (v : Word), (s.flag F.CQE_PSTS_ENTRY = false → F.CQE_PSCTL_TARGET.of v = 3 ∨ F.CQE_PSCTL_TARGET.of v = 4 →
      exec (.powerStateEntry v) s = .next (s.entryStart (F.CQE_PSCTL_TARGET.of v))) ∧
    (s.flag F.CQE_PSTS_ENTRY = true ∨ (F.CQE_PSCTL_TARGET.of v ≠ 3 ∧ F.CQE_PSCTL_TARGET.of v ≠ 4) → exec (.powerStateEntry v) s = .next s)) ∧
  (∀ s : State, (s.flag F.CQE_PSTS_ENTRY = false → exec .entryCheckpoint s = .next s) ∧
    (s.flag F.CQE_PSTS_ENTRY = true →
      (s.fget F.CQE_PSTS_CKPT = 0 → s.cqe.slots = [] → s.cqe.buffer = [] →
        exec .entryCheckpoint s = .next ((s.fset F.CQE_PSTS_CKPT 1).steMap (fun x => { x with cpPend := s.flag F.STE_STS_RUN }))) ∧
      (s.fget F.CQE_PSTS_CKPT = 1 → s.ste.cpPend = false → s.ste.cp = none → exec .entryCheckpoint s = .next (s.fset F.CQE_PSTS_CKPT 2)) ∧
      (s.fget F.CQE_PSTS_CKPT = 1 → s.ste.cpPend = true → exec .entryCheckpoint s = .next s) ∧
      (s.fget F.CQE_PSTS_CKPT = 2 → let u := s.fset F.CQE_PSTS_CKPT 3
        exec .entryCheckpoint s = .next (((u.unloadIfMay .zero).unloadIfMay .one).spcCtlWrite (setBits (u.rd Rg.SPC_CTL) 0 1 0))) ∧
      (s.fget F.CQE_PSTS_CKPT = 3 → (s.bothParked = true → exec .entryCheckpoint s = .next (s.fset F.CQE_PSTS_CKPT 4)) ∧
        (s.bothParked = false → exec .entryCheckpoint s = .next s)) ∧
      (s.fget F.CQE_PSTS_CKPT = 4 → s.spcIn SpcS.stopped = false → exec .entryCheckpoint s = .next s) ∧
      (5 ≤ s.fget F.CQE_PSTS_CKPT → exec .entryCheckpoint s = .next s))) ∧
  (∀ s : State,
    let up := s.flag F.CQE_PSTS_RETURN = true ∧ s.spcIn SpcS.run = true ∧ s.flag F.SPC_STS_INBAND = true ∧ s.flag (F.SAC_STS_PARKED .zero) = false ∧
      s.flag (F.SAC_STS_PARKED .one) = false
    let u := (s.fsetB F.CQE_PSTS_RETURN false).fset F.CQE_PSTS_CUR (s.fsetB F.CQE_PSTS_RETURN false).cqe.lastOp
    (up → exec .powerStateReturnEnd s = .next (if u.cqe.fwWait = true then u.fwStart else u)) ∧ (¬ up → exec .powerStateReturnEnd s = .next s)) ∧
  (∀ (s : State) (v : Word), let may := s.flag F.CQE_PSTS_ENTRY = true ∧ s.fget F.CQE_PSTS_CKPT = 5 ∧ s.fget F.CQE_PSTS_TARGET = 4
    (may → exec (.coresOff v) s = .next (((s.pwrMap (fun p => { p with ps4Off := true })).coreMap (fun c => { c with stopped := true })).entryEnd)) ∧
    (¬ may → exec (.coresOff v) s = .next s)) ∧
  (∀ s : State, (s.pwr.ps4Off = false → s.fget F.CQE_PSTS_CUR ≠ 4 → exec .ps4Wake s = .next s) ∧
    (s.pwr.ps4Off = false → s.fget F.CQE_PSTS_CUR = 4 → exec .ps4Wake s = .next s.returnStart) ∧
    (s.pwr.ps4Off = true → exec .ps4Wake s = .next ((((s.pwrMap (fun p => { p with ps4Off := false })).coreMap (fun c => { c with
      stopped := false, harts := [⟨true, 0, 0, none, 0, false, false⟩, ⟨false, 0, 0, none, 0, false, false⟩, ⟨false, 0, 0, none, 0, false, false⟩, ⟨false, 0, 0, none, 0, false, false⟩]
      wake := some ((s.pwrMap (fun p => { p with ps4Off := false })).rd Rg.PWR_WAKEVEC).toNat }))).returnStart)))

/-- The zone engine's commands (R195, R203, R204, R206 to R208, R212): it starts with its regions fixed or reports its code; a due chunk is queued for its surface; a retry, a
completed chunk write and a reclaim's copy go on; a spare is added, put off or refused. -/
def Obligations.ZoneEngine : Prop :=
  (∀ (s : State) (v : Word), F.ZNE_CTL_CLRCNT.on v = false →
    (s.flag F.ZNE_STS_RUN = true ∨ s.homeLost = true → exec (.zoneEngineEnable v) s = .next s) ∧
    (s.flag F.ZNE_STS_RUN = false → s.homeLost = false → s.zneCode ≠ 0 ∨ s.forced Blk.zne 0 4 = true → exec (.zoneEngineEnable v) s =
      .next (((s.fsetB F.ZNE_STS_CFGERR true).fset F.ZNE_STS_CODE s.zneCode).raiseFault Blk.zne 0 4 3 0 (s.zneCode != 0))) ∧
    (s.flag F.ZNE_STS_RUN = false → s.homeLost = false → s.zneCode = 0 → s.forced Blk.zne 0 4 = false →
      let u := (s.members 0).foldl (fun s i => (s.computeRegions i).foldl (fun s g => s.regionPut i g) s) s
      exec (.zoneEngineEnable v) s = .next ((((u.zneMap (fun z => { z with convMembers := u.members 0 })).fsetB F.ZNE_CTL_EN true).fsetB F.ZNE_STS_RUN true).fset F.ZNE_STS_CODE 0))) ∧
  (∀ (s : State) (v : Word), F.ZNE_CTL_EN.on v = false →
    exec (.zneCounterClear v) s = .next (((s.clearCount Rg.ZNE_RELOC_LO).clearCount Rg.ZNE_RCLMCNT_LO).clearCount Rg.ZNE_ZRESET_LO)) ∧
  (∀ (s : State) (z k : Nat), ∀ c ∈ [Instr.chunkCommit z k, .chunkIdleExpiry z k],
    let due := k % 18 < 16 ∧ k < 288 ∧ chunkStart k < (s.zdesc z).end_ ∧ s.chunkDirty z k = true ∧ s.chunkPending z k = false ∧
      s.zne.writes.any (fun w => w.zone == z && w.k == k && !w.copy) = false ∧ s.flag F.ZNE_STS_RUN = true ∧ s.locked = true
    let count := min 256 ((s.zdesc z).end_ - chunkStart k)
    (¬ due → exec c s = .next s) ∧ (due → s.chunkSurf z k = none → exec c s = .next s) ∧
    (due → ∀ i, s.chunkSurf z k = some i →
      (entryState (s.entry z k) ≠ 1 → exec c s = .next (s.queueWrite (freshWrite z k i count (s.entry z k)))) ∧
      (entryState (s.entry z k) = 1 → exec c s = .next ((s.count Rg.ZNE_RELOC_LO).queueWrite (freshWrite z k i count (s.entry z k)))))) ∧
  (∀ s : State, (s.zne.writes.filter (fun w => w.retry) = [] → exec .writeRetryTimer s = .next s) ∧
    (∀ w, s.zne.writes.filter (fun w => w.retry) = [w] → w.dead = false → exec .writeRetryTimer s =
      .next ((s.writeSet w (fun _ => { w with retry := false, refused := false })).writeOut { w with retry := false, refused := false }))) ∧
  (∀ (s : State) (r : CompletionIn), (s.zne.writes.find? (fun w => w.sent && w.tags.contains r.tag.toNat) = none → exec (.chunkWriteComplete r) s = .next s) ∧
    (∀ w, s.zne.writes.find? (fun w => w.sent && w.tags.contains r.tag.toNat) = some w →
      let u := s.chunkComplete r
      let more := u.zne.writes.any (fun x => x.reclaim && x.zone == w.zone && x.k == w.k)
      (w.reclaim = true → more = false → exec (.chunkWriteComplete r) s = .next ((u.reclaimStep w.surf false).reclaimStep w.surf true)) ∧
      (w.reclaim = false ∨ more = true → exec (.chunkWriteComplete r) s = .next (u.reclaimStep w.surf true)))) ∧
  (∀ (s : State) (ok : Bool), (s.zne.writes.find? (fun w => w.reclaim && w.sent) = none → exec (.reclaimCopyComplete ok) s = .next s) ∧
    (∀ w, s.zne.writes.find? (fun w => w.reclaim && w.sent) = some w → let u := (w.tags ++ w.reads.map (fun x => x.1)).foldl (fun s t => s.takeHwCpl (BitVec.ofNat 32 t)) s
      (ok = true → w.tags = [] → exec (.reclaimCopyComplete ok) s = .next s) ∧
      (ok = true → w.tags ≠ [] → u.journalRoom 3 = true → exec (.reclaimCopyComplete ok) s = .next ((u.writeGood w).reclaimStep w.surf false)) ∧
      (ok = false ∨ (w.tags ≠ [] ∧ u.journalRoom 3 = false) → exec (.reclaimCopyComplete ok) s = .next ((((u.writeDrop w).bandFull w.surf).sendNext w.surf).reclaimStep w.surf false)))) ∧
  (∀ (s : State) (v : Word), s.flag F.ZNE_SPSTS_BUSY = true ∨ (v.getLsbD 28 = true ∧ s.locked = true) → exec (.spareAdd v) s = .next s) ∧
  (∀ (s : State) (v : Word), s.flag F.ZNE_SPSTS_BUSY = false → v.getLsbD 28 = false ∨ s.locked = false → let w := setBits v 31 1 1
    (12 ≤ bitsOf w 23 5 % 16 ∨ s.surfOn (surfIndex (bitsOf w 23 5)) = false →
      exec (.spareAdd v) s = .next ((s.fsetB F.ZNE_SPSTS_DONE true).fset F.ZNE_SPSTS_RESULT 3)) ∧
    (bitsOf w 23 5 % 16 < 12 → s.surfOn (surfIndex (bitsOf w 23 5)) = true → s.journalRoom 2 = false →
      exec (.spareAdd v) s = .next ((s.fsetB F.ZNE_SPSTS_BUSY true).steMap (fun x => { x with deferred := x.deferred ++ [.spare w] }))) ∧
    (bitsOf w 23 5 % 16 < 12 → s.surfOn (surfIndex (bitsOf w 23 5)) = true → s.journalRoom 2 = true → let r := s.spareInsert (F.ZNE_SPADD_ENTRY.of w)
      exec (.spareAdd v) s = .next (((r.2.fsetB F.ZNE_SPSTS_BUSY false).fsetB F.ZNE_SPSTS_DONE true).fset F.ZNE_SPSTS_RESULT r.1)))

/-- STRIPE_ENGINE_ENABLE, STE_COUNTER_CLEAR, CHECKPOINT_REQUEST, CHECKPOINT_TIMER, CHECKPOINT_START, CHECKPOINT_WRITE_COMPLETE, REPLAY_LOAD_END, TAG_SCAN_END, PARITY_PENDING_WRITE,
JOURNAL_RATE_RELEASE (R218, R219, R221 to R224, R236): the engine starts into its replay or reports its code; a checkpoint begins, retries and ends; the replay ends in the
scan, in parity writes or in work. -/
def Obligations.StripeJournal : Prop :=
  (∀ (s : State) (v : Word), F.STE_CTL_CLRCNT.on v = false → F.STE_CTL_CPREQ.on v = false →
    (s.flag F.STE_STS_RUN = true ∨ s.homeLost = true → exec (.stripeEngineEnable v) s = .next s) ∧
    (s.flag F.STE_STS_RUN = false → s.homeLost = false →
      (s.flag F.ZNE_STS_RUN = false → exec (.stripeEngineEnable v) s = .next (s.steRefuse 1 true)) ∧
      (s.flag F.ZNE_STS_RUN = true → s.steCode ≠ 0 ∨ s.forced Blk.ste 0 7 = true → exec (.stripeEngineEnable v) s = .next (s.steRefuse s.steCode (s.steCode != 0))) ∧
      (s.flag F.ZNE_STS_RUN = true → s.steCode = 0 → s.forced Blk.ste 0 7 = false →
        let u := if s.vault.roles.all (fun r => r == 0) then s.vaultMap (fun v => { v with roles := [1, 2, 0, 0] }) else s
        let u := (List.range 4).foldl (fun u a =>
          (u.areaRoleSet a (u.areaRole a)).fset (F.STE_JAREA_W2_SEGS a) (if u.areaOn a then u.areaSegs a else 0)) u
        exec (.stripeEngineEnable v) s = .next ((((((u.steMap (fun x => { x with since := u.clock.toNat, second := 0, written := 0 })).fsetB F.STE_CTL_EN true).fsetB
          F.STE_STS_RUN true).fset F.STE_STS_CODE 0).fset F.STE_STS_RPHASE 1).journalRegs)))) ∧
  (∀ (s : State) (v : Word), F.STE_CTL_EN.on v = false → F.STE_CTL_CPREQ.on v = false → exec (.steCounterClear v) s =
    .next ((((((s.clearCount Rg.STE_SILENT_LO).clearCount Rg.STE_RECON_LO).clearCount Rg.STE_UNREC_LO).clearCount Rg.STE_MENDCNT_LO).clearCount Rg.STE_PMISM_LO).clearCount
      Rg.STE_CPCNT_LO)) ∧
  (∀ (s : State) (v : Word), F.STE_CTL_EN.on v = false → F.STE_CTL_CLRCNT.on v = false →
    (s.flag F.STE_STS_RUN = true → exec (.checkpointRequest v) s = .next (s.steMap (fun x => { x with cpPend := true }))) ∧
    (s.flag F.STE_STS_RUN = false → exec (.checkpointRequest v) s = .next s)) ∧
  (∀ s : State, (s.flag F.STE_STS_RUN = true → 0 < s.fget F.STE_JOCC_OCC → exec .checkpointTimer s = .next (s.steMap (fun x => { x with cpPend := true }))) ∧
    (s.flag F.STE_STS_RUN = false ∨ s.fget F.STE_JOCC_OCC = 0 → exec .checkpointTimer s = .next s)) ∧
  (∀ s : State,
    (s.flag F.STE_STS_RUN = false ∨ s.ste.cpPend = false ∨ s.ste.cp ≠ none ∨ s.fget F.STE_STS_RPHASE = 1 ∨ s.locked = false → exec .checkpointStart s = .next s) ∧
    (s.flag F.STE_STS_RUN = true → s.ste.cpPend = true → s.ste.cp = none → s.fget F.STE_STS_RPHASE ≠ 1 → s.locked = true →
      let c := s.vault.jseq
      let u := s.journal 6 0 s.roleKey (leBytes 8 c ++ leBytes 1 1 ++ leBytes 1 0) 0
      let areas := ([0, 1, 2, 3] : List (Fin 4)).filter (fun a => u.areaRole a.val == 1 || u.areaRole a.val == 2)
      let plan := areas.map (fun a => (a, segPlan a (max 1 (u.fget (F.STE_JAREA_W2_SEGS a.val))) (if u.ste.fresh.contains a then List.range 597 else u.dirtyPages) u.vault.dir
        (u.vault.segNext.getD a.val 0)))
      let writes := (plan.map (fun p => p.2.1)).flatten
      let w := writes.foldl (fun s w => s.segSubmit w c) (u.vaultMap (fun v => { v with segNext := plan.foldl (fun l p => l.set p.1.val p.2.2) v.segNext }))
      let cp : Checkpoint := ⟨c, w.zne.freeSoon, w.metaCells, writes, areas, writes, w.fget F.ZNE_SPCNT_COUNT, (w.rd Rg.ZNE_FAIL).toNat⟩
      exec .checkpointStart s = .next ((((w.steMap (fun x => { x with cp := some cp, cpPend := false })).zneMap (fun z => { z with freeSoon := [] })).fsetB
        F.STE_STS_CPBUSY true).checkpointEnd))) ∧
  (∀ (s : State) (area : Fin 4) (ok : Bool), s.ste.cp = none → exec (.checkpointWriteComplete area ok) s = .next s) ∧
  (∀ (s : State) (area : Fin 4) (c : Checkpoint) (w : SegWr), s.ste.cp = some c → c.todo.find? (fun w => w.area == area) = some w →
    let fails := look (fun _ => 0) area.val s.ste.fails
    (exec (.checkpointWriteComplete area true) s = .next (((s.steMap (fun x => { x with cp := some { c with todo := c.todo.erase w } })).steMap
      (fun x => { x with fails := put (fun _ => 0) area.val 0 x.fails })).checkpointEnd)) ∧
    (fails + 1 < max 1 (s.fget F.ZNE_CFG_WRETRY) → exec (.checkpointWriteComplete area false) s =
      .next ((s.steMap (fun x => { x with fails := put (fun _ => 0) area.val (fails + 1) x.fails })).segSubmit w c.c)) ∧
    (max 1 (s.fget F.ZNE_CFG_WRETRY) ≤ fails + 1 → exec (.checkpointWriteComplete area false) s =
      .next ((s.steMap (fun x => { x with fails := put (fun _ => 0) area.val 0 x.fails })).areaFail area))) ∧
  (∀ (s : State) (lost ue : Bool) (reads : List SectorRead) (conv : List CopyGood),
    (s.fget F.STE_STS_RPHASE ≠ 1 → exec (.replayLoadEnd lost ue reads conv) s = .next s) ∧
    (s.fget F.STE_STS_RPHASE = 1 →
      let l : State := { s with mem := s.mem.filter (fun c => (s.pageOf c.1).isNone) }
      let l := l.vault.cpCells.foldl (fun s c => s.setByte (s.pageAddr (c.1 / 0x100000) + c.1 % 0x100000) c.2) l
      let l := l.fset F.ZNE_SPCNT_COUNT l.vault.cpSpares
      let l := if s.vault.cpSeq = 0 then s else l.wr Rg.ZNE_FAIL (l.rd Rg.ZNE_FAIL ||| BitVec.ofNat 32 l.vault.cpFail)
      let r := l.applyRing 65536 l.cpBase []
      let u := (r.1.vaultMap (fun v => { v with jseq := r.2.1 })).journalRegs.restoredLeave
      let u := u.zones.foldl (fun s z => s.restoreWp z) u
      let u := (u.rebuildZne.mendResume.steMap (fun x => { x with accs := [], lost := lost })).rebuildAccs reads
      let w := r.2.2.foldl (fun s m => if s.cqe.buffer.any (fun b => b.early && b.nsid == s.convNsid false && b.lba / 256 == m) then s
        else match conv.find? (fun c => c.chunk == m) with
          | some c => s.convCopy false m (c.copy % 2)
          | none => s) u
      exec (.replayLoadEnd lost ue reads conv) s =
        .next (w.fset F.STE_STS_RPHASE (if lost || ue then 2 else if w.ste.accs.any (fun a => a.isSealed) then 3 else 0)))) ∧
  (∀ (s : State) (tags : List TagSeen), s.fget F.STE_STS_RPHASE ≠ 2 → exec (.tagScanEnd tags) s = .next s) ∧
  (∀ (s : State) (tags : List TagSeen), s.fget F.STE_STS_RPHASE = 2 →
    let u := ((tags.map (fun t => chunkKey t.zone t.k)).eraseDups.foldl (fun s key => match s.bestTag tags (key / 288) (key % 288) with
      | none => s
      | some t =>
        let new := mkEntry 1 (t.gen % 4) (surfCode t.surf) t.slot
        let s := s.journal 1 (psetFlag (key / 288)) (zoneTag (key / 288 % zoneSetBase) (key % 288))
          (leBytes 4 (s.entry (key / 288) (key % 288)).toNat ++ leBytes 4 new.toNat ++ leBytes 4 t.seq ++ leBytes 2 (s.zmptr (key / 288))) 0
        (s.entrySet (key / 288) (key % 288) new true).setBytes (s.descAddr (key / 288)) { s.zdesc (key / 288) with gen := t.gen / 4 }.bytes) s).rebuildZne
    let w := ((u.zones.filter (fun z => (u.zdesc z).isActive || tags.any (fun t => t.zone == z))).foldl (fun s z => s.zoneReadOnly z) u).raiseFault Blk.ste 0 5 2 0
    exec (.tagScanEnd tags) s = .next (w.fset F.STE_STS_RPHASE (if w.ste.accs.any (fun a => a.isSealed) then 3 else 0))) ∧
  (∀ s : State, (s.fget F.STE_STS_RPHASE = 3 → s.locked = true →
      exec .parityPendingWrite s = .next (s.ste.accs.foldl (fun s a => s.parityDue a) s).replayDone) ∧
    (s.fget F.STE_STS_RPHASE ≠ 3 ∨ s.locked = false → exec .parityPendingWrite s = .next s)) ∧
  (∀ s : State, exec .journalRateRelease s = .next ((s.steMap (fun x => { x with deferred := [] })).runDeferred s.ste.deferred))

/-- SURFACE_RETIRE, MEND_CHUNK, COMPLETION_POST, SECTOR_RECONSTRUCTION, RINSE_START, RINSE_STOP, RINSE_CHUNK_READ, RINSE_END, CONV_WRITE (R167, R210, R226 to R234): a surface is
retired; a lost chunk is rebuilt from its stripe and moved; a bad sector is reconstructed; a rinse runs over the chunks and reports itself; a conventional write goes to both
copies. -/
def Obligations.StripeRepair : Prop :=
  (∀ (s : State) (v : Word), let f := F.STE_RETIRE_SURF.of v
    (12 ≤ f % 16 ∨ s.surfOn (surfIndex f) = false → exec (.surfaceRetire v) s = .next s) ∧
    (f % 16 < 12 → s.surfOn (surfIndex f) = true → s.journalRoom 3 = true → exec (.surfaceRetire v) s = .next (s.retire (surfIndex f))) ∧
    (f % 16 < 12 → s.surfOn (surfIndex f) = true → s.journalRoom 3 = false →
      exec (.surfaceRetire v) s = .next (s.steMap (fun x => { x with deferred := x.deferred ++ [.retire (setBits v 31 1 1)] })))) ∧
  (∀ (s : State) (reads : List (List MemberRead)),
    (s.fget F.STE_MSTS_PEND = 0 ∨ s.cqe.paused = true ∨ s.moversRest = true ∨ s.locked = false → exec (.mendChunk reads) s = .next s.mendCheck) ∧
    (s.fget F.STE_MSTS_PEND ≠ 0 → s.cqe.paused = false → s.moversRest = false → s.locked = true →
      (∀ u, s.mendNext = (none, u) → exec (.mendChunk reads) s = .next u.mendCheck) ∧
      (∀ u key, s.mendNext = (some key, u) →
        let z := key / 288
        let k := key % 288
        let m := k % 18
        let n := if m < 16 then min 256 ((u.zdesc z).end_ - chunkStart k) else 256
        let rows := (List.range n).map (fun i => u.reconstruct z (k / 18) i (reads.getD i []) m)
        let bad := (List.range n).filter (fun i => (rows.getD i none).isNone)
        (¬ (bad.length = n ∧ 0 < n ∧ m < 16) →
          (u.chooseSurf z k = none → exec (.mendChunk reads) s = .next (u.zoneReadOnly z)) ∧
          (∀ i, u.chooseSurf z k = some i →
            (16 ≤ m → exec (.mendChunk reads) s = .next (u.rewriteChunk z k i rows)) ∧
            (m < 16 → exec (.mendChunk reads) s = .next ((u.poison z (k / 18) (bad.map (fun i => (i, reads.getD i []))) m false).rewriteChunk z k i rows)))) ∧
        (bad.length = n → 0 < n → m < 16 →
          let e := u.entry z k
          let new := mkEntry 2 (entryRgen e) (surfCode (entrySurf e)) (entrySlot e)
          let w := ((u.journal 1 (psetFlag z) (zoneTag (z % zoneSetBase) k) (leBytes 4 e.toNat ++ leBytes 4 new.toNat ++ leBytes 4 0 ++
            leBytes 2 (u.zmptr z)) 0))
          exec (.mendChunk reads) s = .next ((((w.killSlot (entrySurf e + surfBase z) (entrySlot e)).entrySet z k new true).unrecoverable
            (bad.filter (fun i => !w.unrecAt z k i)).length).mendCheck))))) ∧
  (∀ (s : State) (a : Act) (bad : List Nat), let u := s.postReady a 16
    let mine := (u.msqOf a).hwCpls.filter (fun r => u.cqe.parts.any (fun p => p.tag == r.extractLsb' 64 32))
    let copies := (u.msqOf a).hwCpls.filter (fun r => u.zne.writes.any (fun w => w.reads.any (fun x => x.1 == (r.extractLsb' 64 32).toNat)))
    exec (.completionPost a bad) s = .next (copies.foldl (fun s r => s.copyReadDone r bad) (mine.foldl (fun s r => s.partDone r bad)
      (u.msqMap a (fun m => { m with hwCpls := m.hwCpls.filter (fun r => !mine.contains r && !copies.contains r) }))))) ∧
  (∀ (s : State) (m : ReconIn), let k := 18 * m.stripe + m.member
    let find := s.cqe.parts.find? (fun p => p.zone == m.zone && p.k == k && decide (p.first ≤ m.sector) && p.waiting.contains (m.sector - p.first))
    let copy := s.zne.writes.find? (fun w => w.zone == m.zone && w.k == k && w.waiting.contains m.sector)
    (find = none → copy = none → exec (.sectorReconstruction m) s = .next s) ∧
    (find = none → ∀ w, copy = some w → exec (.sectorReconstruction m) s = .next (s.reconCopy m w)) ∧
    (∀ p, find = some p →
      let j := m.sector - p.first
      let drop := fun (s : State) => s.partSet p (fun x => { x with waiting := x.waiting.filter (fun y => y != j) })
      (s.reconGot m = none ∨ m.checkOk = false → exec (.sectorReconstruction m) s =
        .next ((((drop s).lostSector m true).slotMap p.stamp (fun x => { x with status := St.unrecovered })).readTry p.stamp)) ∧
      (∀ d, s.reconGot m = some d → m.checkOk = true →
        let u := ((drop (s.setBytes (p.addr + 4128 * j) (d.take 4112))).count Rg.STE_RECON_LO).silent (p.stale.contains j)
        (∀ i, u.chunkSurf m.zone k = some i → exec (.sectorReconstruction m) s = .next ((u.copyChunk m.zone k i false).readTry p.stamp)) ∧
        (u.chunkSurf m.zone k = none → exec (.sectorReconstruction m) s = .next (u.readTry p.stamp))))) ∧
  (∀ (s : State) (v : Word), F.STE_RCTL_STOP.on v = false →
    let u := (s.fset F.STE_RCTL_CHECKP (F.STE_RCTL_CHECKP.of v)).fset F.STE_RCTL_RELOCREV (F.STE_RCTL_RELOCREV.of v)
    let a := u.wide Rg.STE_RSADDR_LO
    (u.ste.rinse ≠ none → exec (.rinseStart v) s = .next u) ∧
    (u.ste.rinse = none → a % 64 ≠ 0 ∨ u.inDdrRw a 832 = false → exec (.rinseStart v) s = .next (u.rinseOver 2)) ∧
    (u.ste.rinse = none → a % 64 = 0 → u.inDdrRw a 832 = true → exec (.rinseStart v) s =
      .next (((u.steMap (fun x => { x with rinse := some { start := u.clock.toNat, stop := false, chunks := 0, stripes := 0, rows := List.replicate 24 noRinse } })).fsetB
        F.STE_STS_RINSE true).fsetB F.STE_RSTS_BUSY true))) ∧
  (∀ (s : State) (v : Word), F.STE_RCTL_GO.on v = false →
    let u := (s.fset F.STE_RCTL_CHECKP (F.STE_RCTL_CHECKP.of v)).fset F.STE_RCTL_RELOCREV (F.STE_RCTL_RELOCREV.of v)
    exec (.rinseStop v) s = .next (u.steMap (fun x => { x with rinse := x.rinse.map (fun r => { r with stop := true }) }))) ∧
  (∀ (s : State) (m : RinseIn), s.ste.rinse = none ∨ s.chunkSurf m.zone m.k = none → exec (.rinseChunkRead m) s = .next s) ∧
  (∀ (s : State) (m : RinseIn) (x : Rinse) (i : Nat), s.ste.rinse = some x → s.chunkSurf m.zone m.k = some i →
    (s.surfFailed i = true ∨ (s.rd Rg.STE_RMASK).getLsbD (surfBit i) = false ∨ entryState (s.entry m.zone m.k) ≠ 1 ∨ s.cqe.paused = true ∨
      s.moversRest = true →
      exec (.rinseChunkRead m) s = .next s) ∧
    (s.surfFailed i = false → (s.rd Rg.STE_RMASK).getLsbD (surfBit i) = true → entryState (s.entry m.zone m.k) = 1 → s.cqe.paused = false →
      s.moversRest = false →
      let move := decide (max 1 (s.fget F.STE_RCTL_RELOCREV) ≤ m.maxRevs) || decide (0 < m.reconstructed) || decide (0 < m.checkFails)
      let u := (s.steMap (fun x => { x with rinse := x.rinse.map (fun r => { r with chunks := r.chunks + 1 }) })).rinseRow i (fun r => { r with
        chunks := r.chunks + 1, recovered := r.recovered + m.recovered, reconstructed := r.reconstructed + m.reconstructed
        checkFails := r.checkFails + m.checkFails, rehomed := r.rehomed + move.toNat, unrecoverable := r.unrecoverable + m.unrecoverable.length
        maxRevs := max r.maxRevs m.maxRevs })
      let u := ((List.range m.checkFails).foldl (fun s _ => ((s.count Rg.STE_SILENT_LO).raiseFault Blk.ste 0 1 1 0).blockRecord Blk.ste 0 1 0) u)
      let w := if m.unrecoverable.isEmpty || decide (16 ≤ m.k % 18) then (if move then u.copyChunk m.zone m.k i false else u)
        else u.poison m.zone (m.k / 18) (m.unrecoverable.map (fun i => (i, m.members.getD i []))) (m.k % 18) true
      (w.flag F.STE_RCTL_CHECKP = false ∨ m.members = [] ∨ w.stripeClosed m.zone (m.k / 18) = false → exec (.rinseChunkRead m) s = .next w) ∧
      (w.flag F.STE_RCTL_CHECKP = true → m.members ≠ [] → w.stripeClosed m.zone (m.k / 18) = true →
        exec (.rinseChunkRead m) s = .next (w.parityCompare m.zone (m.k / 18) m.members)))) ∧
  (∀ s : State, (s.ste.rinse = none → exec .rinseEnd s = .next s) ∧
    (∀ r, s.ste.rinse = some r → exec .rinseEnd s =
      .next ((s.setBytes (s.wide Rg.STE_RSADDR_LO) (r.summary (if r.stop then 1 else 0) s.clock.toNat)).rinseOver (if r.stop then 1 else 0)))) ∧
  (∀ (s : State) (stamp : Nat), let bs := s.convBlocks stamp
    (bs = [] ∨ bs.any s.mediaRead = true ∨ bs.any s.olderWrite = true ∨ s.locked = false ∨ s.flag F.STE_STS_RUN = false → exec (.convWrite stamp) s = .next s) ∧
    (bs ≠ [] → bs.any s.mediaRead = false → bs.any s.olderWrite = false → s.locked = true → s.flag F.STE_STS_RUN = true →
      (s.journalRoom 10 = false → exec (.convWrite stamp) s = .next (s.steMap (fun x => { x with deferred := x.deferred ++ [.conv stamp] }))) ∧
      (s.journalRoom 10 = true →
        let one := fun (s : State) (partner : Bool) =>
          ((bs.filter (fun b => b.nsid == s.convNsid partner)).map (fun b => b.lba / 256)).eraseDups.foldl (fun s m => s.convChunk partner stamp m) s
        exec (.convWrite stamp) s = .next (((one (one s false) true).bufferSweep).mediaDone))))

/-- The Branch Line's frames and timers (R46, R360, R363 to R369, R371): with the link down a frame does nothing; a frame whose check or sequence is wrong is counted; a good frame
ends the partner's silence and has its packet's effect, a data packet that only asks is answered XRDY; the timers retrain, retry and give the line up. -/
def Obligations.BranchLineFrames : Prop :=
  (∀ (s : State) (f : FrameIn) (k : State → State), let u := (s.brlMap (fun x => { x with rxSeq := some f.seq })).silenceEnd
    (s.flag F.BRL_STS_LINK = false → s.onFrame f k = s ∧ s.onXrdy f k = s) ∧
    (s.flag F.BRL_STS_LINK = true → f.crcOk = false ∨ (∃ q, s.brl.rxSeq = some q ∧ f.seq ≠ q + 1) →
      s.onFrame f k = s.count Rg.BRL_CRCERR_LO ∧ s.onXrdy f k = s.count Rg.BRL_CRCERR_LO) ∧
    (s.flag F.BRL_STS_LINK = true → f.crcOk = true → (∀ q, s.brl.rxSeq = some q → f.seq = q + 1) →
      s.onFrame f k = k u ∧ (f.req = false → s.onXrdy f k = k u) ∧ (f.req = true → s.onXrdy f k = u.sendFrame f.tag.toNat false .xrdy))) ∧
  (∀ (s : State) (f : FrameIn) (id glb rev sts speed : Word) (side parked : Bool) (a b : Angle) (n m k : Nat) (bytes : List Byte) (ids : List BlockId) (e : FwdEntry) (c : FwdNotice)
      (msg : BitVec 64),
    exec (.invalidFrame f) s = .next (s.onFrame { f with crcOk := false } (fun u => u)) ∧
    exec (.idle f) s = .next (s.onFrame f (fun u => u)) ∧ exec (.fltm f msg) s = .next (s.onFrame f (fun u => u)) ∧ exec (.fencePacket f) s = .next (s.onFrame f (fun u => u)) ∧
    exec (.hello f id side glb rev a) s = .next (s.onFrame f (helloOp id side a)) ∧ exec (.sync f a b) s = .next (s.onFrame f (syncOp a b)) ∧
    exec (.spst f sts speed n m parked) s = .next (s.onFrame f (spstOp sts speed n m parked)) ∧ exec (.jrec f bytes) s = .next (s.onFrame f (jrecOp f.tag bytes)) ∧
    exec (.wrel f ids) s =
      .next (s.onFrame f (fun u => u.brlMap (fun x => { x with winMirror := x.winMirror.filter (fun y => !ids.contains ⟨y.nsid, y.lba⟩) }))) ∧
    exec (.xrdy f) s = .next (s.onFrame f (xrdyOp f.tag.toNat)) ∧ exec (.ack f) s = .next (s.onFrame f (ackOp f.tag.toNat)) ∧
    exec (.fwd f e) s = .next (s.onFrame f (fwdOp e)) ∧ exec (.fcpl f n m k) s = .next (s.onFrame f (fcplOp n m k)) ∧ exec (.fctl f c) s = .next (s.onFrame f (fctlOp c)) ∧
    exec (.win f n m k bytes) s = .next (s.onXrdy f (winOp f.tag n m k bytes)) ∧ exec (.mdcopy f n m bytes) s = .next (s.onXrdy f (mdcopyOp n m bytes)) ∧
    exec (.fdata f n bytes) s = .next (s.onXrdy f (fdataOp n bytes))) ∧
  (∀ (s : State) (id : Word) (side : Bool) (a : Angle),
    (id ≠ s.rd Rg.BRL_TWINID → helloOp id side a s = (s.fset F.BRL_STS_CODE 2).raiseFault Blk.brl 0 9 3 0) ∧
    (id = s.rd Rg.BRL_TWINID → side = s.flag F.GLB_CFG_SIDE → helloOp id side a s = (s.fset F.BRL_STS_CODE 3).raiseFault Blk.brl 0 9 3 0)) ∧
  (∀ (s : State) (cid st dw0 : Nat), s.brl.dropped.contains cid = false → ∀ u, s.brl.fwds.find? (fun u => u.slot == cid) = some u →
    fcplOp cid st dw0 s = (s.brlMap (fun b => { b with fwds := b.fwds.filter (fun v => v.slot != cid) })).complete u.hdr st dw0 u.data) ∧
  (∀ s : State, exec .idleTimer s = .next (s.sendPkt .idle) ∧ (s.twin = true → s.holdsSpindle = true → exec .syncSend s = .next ((s.sendPkt (.sync s.ttb.angle)).sendSpst)) ∧
    (s.twin = false ∨ s.holdsSpindle = false → exec .syncSend s = .next s)) ∧
  (∀ (s : State) (delay : Nat),
    (s.flag F.BRL_CTL_EN = true → s.flag F.BRL_STS_LINK = false → s.flag F.BRL_STS_FENCED = false →
      let u := (((s.fsetB F.BRL_STS_LINK true).fset F.BRL_DELAY_NS delay).raiseEvent 116).brlMap (fun b => { b with rxSeq := none })
      exec (.linkTrained delay) s =
        .next (((u.sendPkt (.hello (u.rd Rg.BRL_TWINID) (u.flag F.GLB_CFG_SIDE) (u.rd Rg.GLB_ID) (BitVec.ofNat 32 u.core.imgRev))).quiesce).anaUpdate)) ∧
    (s.flag F.BRL_CTL_EN = false ∨ s.flag F.BRL_STS_LINK = true ∨ s.flag F.BRL_STS_FENCED = true → exec (.linkTrained delay) s = .next s) ∧
    (s.flag F.BRL_STS_LINK = true → exec .branchLineLinkLoss s = .next (s.linkFall.raiseFault Blk.brl 0 3 2 0)) ∧
    (s.flag F.BRL_STS_LINK = false → exec .branchLineLinkLoss s = .next s)) ∧
  (∀ (s : State) (tag : Nat), (s.brl.waits.find? (fun w => w.tag == tag) = none → exec (.handshakeTimeout tag) s = .next s) ∧
    (∀ w, s.brl.waits.find? (fun w => w.tag == tag) = some w → let u := s.count Rg.BRL_XRDYTO_LO
      (w.again = true → exec (.handshakeTimeout tag) s = .next (((u.linkFall).brlMap (fun b => { b with late := b.late ++ [tag] })).raiseFault Blk.brl 0 4 3 tag)) ∧
      (w.again = false → exec (.handshakeTimeout tag) s =
        .next ((u.brlMap (fun b => { b with waits := b.waits.map (fun x => if x.tag = tag then { x with again := true } else x) })).sendFrame tag (!w.ack) w.pkt))))

/-- The twin's own commands (R354 to R361, R363, R366, R372 to R375, R377): enabling, fencing, counters, the heartbeat and its losses, the partner's silence and the guard time, the
tokens gained, lost and waited for, steering and the hand back. -/
def Obligations.TwinCommands : Prop :=
  (∀ (s : State) (v : Word), F.BRL_CTL_CLRCNT.on v = false → F.BRL_CTL_HANDBACK.on v = false → F.BRL_CTL_FENCE.on v = false →
    (s.flag F.BRL_CTL_EN = true → exec (.branchLineEnable v) s = .next s) ∧
    (s.flag F.BRL_CTL_EN = false → s.mirrorGood = true → exec (.branchLineEnable v) s = .next (s.fsetB F.BRL_CTL_EN true)) ∧
    (s.flag F.BRL_CTL_EN = false → s.mirrorGood = false → exec (.branchLineEnable v) s = .next ((s.fsetB F.BRL_STS_CFGERR true).fset F.BRL_STS_CODE 1))) ∧
  (∀ (s : State) (v : Word), F.BRL_CTL_CLRCNT.on v = false → F.BRL_CTL_EN.on v = false →
    (F.BRL_CTL_HANDBACK.on v = false → exec (.fence v) s = .next s.fence) ∧ (F.BRL_CTL_FENCE.on v = false → exec (.handBack v) s = .next s.handBackStart)) ∧
  (∀ (s : State) (v : Word), F.BRL_CTL_EN.on v = false → F.BRL_CTL_HANDBACK.on v = false → F.BRL_CTL_FENCE.on v = false →
    exec (.brlCounterClear v) s = .next (((s.clearCount Rg.BRL_LATE_CPL_LO).clearCount Rg.BRL_CRCERR_LO).clearCount Rg.BRL_XRDYTO_LO)) ∧
  (∀ (s : State) (v : Word), exec (.heartbeatKick v) s = .next (s.brlMap (fun b => { b with kicked := true }))) ∧
  (∀ (s : State) (pad : Bool),
    (s.twin = true → s.flag F.BRL_CTL_EN = true → s.flag F.BRL_STS_FENCED = false → s.brl.kicked = true →
      let u := s.brlMap (fun b => { b with hbo := !b.hbo, hbBad := if pad = !b.hbo then 0 else b.hbBad + 1 })
      (u.brl.hbBad < 2 → exec (.heartbeatToggle pad) s = .next u) ∧ (2 ≤ u.brl.hbBad → exec (.heartbeatToggle pad) s = .next u.fence)) ∧
    (s.twin = false ∨ s.flag F.BRL_CTL_EN = false ∨ s.flag F.BRL_STS_FENCED = true ∨ s.brl.kicked = false → exec (.heartbeatToggle pad) s = .next s)) ∧
  (∀ s : State,
    (s.twin = true → s.flag F.BRL_CTL_EN = true → exec .kickExpiry s = .next ((s.brlMap (fun b => { b with kicked := false })).fence)) ∧
    (s.twin = false ∨ s.flag F.BRL_CTL_EN = false → exec .kickExpiry s = .next s) ∧
    (s.twin = true → exec .heartbeatEdge s = .next (s.fsetB F.BRL_STS_HBLOSS false).silenceEnd) ∧ (s.twin = false → exec .heartbeatEdge s = .next s) ∧
    (s.twin = true → s.flag F.BRL_CTL_EN = true → s.flag F.BRL_STS_LINK = true → s.flag F.BRL_STS_HBLOSS = false →
      exec .partnerHeartbeatLoss s = .next ((s.fsetB F.BRL_STS_HBLOSS true).raiseFault Blk.brl 0 3 2 0)) ∧
    (s.twin = false ∨ s.flag F.BRL_CTL_EN = false ∨ s.flag F.BRL_STS_LINK = false ∨ s.flag F.BRL_STS_HBLOSS = true → exec .partnerHeartbeatLoss s = .next s) ∧
    (s.twin = false ∨ s.flag F.BRL_CTL_EN = false ∨ s.flag F.BRL_STS_FENCED = true ∨ s.flag F.BRL_STS_PSILENT = true → exec .partnerSilent s = .next s) ∧
    (s.twin = true → s.flag F.BRL_CTL_EN = true → s.flag F.BRL_STS_FENCED = false → s.flag F.BRL_STS_PSILENT = false →
      let u := ((((((s.fsetB F.BRL_STS_PSILENT true).fsetB F.BRL_STS_HBLOSS true).raiseEvent 117).raiseFault Blk.brl 0 2 2 0)).quiesce).anaUpdate
      (u.flag F.BRL_STS_SENIOR = true → exec .partnerSilent s = .next u) ∧
      (u.flag F.BRL_STS_SENIOR = false → exec .partnerSilent s = .next ((u.unloadIfMay .zero).unloadIfMay .one)))) ∧
  (∀ s : State,
    let due := s.twin = true ∧ s.flag F.BRL_STS_PSILENT = true ∧ s.flag F.BRL_STS_FENCED = false ∧ s.brl.synced = true ∧ s.flag F.BRL_STS_CARRY = false ∧ s.brl.tokWait = false
    let d := withBit (s.fget F.BRL_TKSTS_DRIVE) s.partToken true
    (¬ due → exec .guardExpiry s = .next s) ∧
    (due → s.flag F.BRL_STS_SENIOR = true → exec .guardExpiry s = .next (((s.fset F.BRL_TKSTS_DRIVE d).brlMap (fun b => { b with tokWait := true })).anaUpdate)) ∧
    (due → s.flag F.BRL_STS_SENIOR = false →
      exec .guardExpiry s = .next (((s.fset F.BRL_TKSTS_DRIVE (withBit d 2 true)).brlMap (fun b => { b with tokWait := true })).anaUpdate))) ∧
  (∀ (s : State) (net : TokenNet) (level : Bool),
    exec (.tokenNetChange net level) s = .next (s.fset F.BRL_TKSTS_LEVEL (withBit (s.fget F.BRL_TKSTS_LEVEL) (TokenBit net) level))) ∧
  (∀ (s : State) (net : TokenNet), let b := TokenBit net
    (s.twin = false ∨ (s.fget F.BRL_TKSTS_LEVEL).testBit b ≠ s.tokenLevel b ∨ s.held.testBit b = true → exec (.tokenGained net) s = .next s) ∧
    (s.twin = false ∨ (s.fget F.BRL_TKSTS_LEVEL).testBit b = s.tokenLevel b ∨ s.held.testBit b = false → exec (.tokenLost net) s = .next s) ∧
    (s.twin = true → (s.fget F.BRL_TKSTS_LEVEL).testBit b = s.tokenLevel b → s.held.testBit b = false →
      let u := s.fset F.BRL_TKSTS_HELD (withBit (s.fget F.BRL_TKSTS_HELD) b true)
      (b = 2 → let w := (((u.fsetB F.BRL_STS_SENIOR true).fsetB F.TTB_STS_TWINSYNC true).inhUpdate).henUpdate
        exec (.tokenGained net) s = .next (if (w.brl.tokWait && w.held.testBit w.partToken) = true then w.carryStart else w)) ∧
      (b ≠ 2 → b = u.ownToken → let w := (u.brlMap (fun x => { x with firstOwn := true })).permBoth
        exec (.tokenGained net) s = .next (if (w.flag F.BRL_STS_PAIRED && !w.flag F.BRL_STS_MIRSYNC) = true then w.copyStart false else w)) ∧
      (b ≠ 2 → b ≠ u.ownToken → exec (.tokenGained net) s =
        .next (if (u.brl.tokWait && (u.fget F.BRL_TKSTS_DRIVE).testBit 2 && !u.held.testBit 2) = true then u else u.carryStart))) ∧
    (s.twin = true → (s.fget F.BRL_TKSTS_LEVEL).testBit b ≠ s.tokenLevel b → s.held.testBit b = true →
      let active := b != 2 && b == (if s.flag F.BRL_STEER_SET then s.partToken else s.ownToken)
      let given := b == s.partToken && !(s.fget F.BRL_TKSTS_DRIVE).testBit b
      let u := s.fset F.BRL_TKSTS_HELD (withBit (s.fget F.BRL_TKSTS_HELD) b false)
      let u := if active then (u.portLost .zero).portLost .one else u
      let w := ((u.spcEnter SpcS.stopped).bridgeSet .gatesLow).fsetB F.BRL_STS_SENIOR false
      let u := if b = 2 then (({ w with ttb := { w.ttb with syncRun := 0, syncMiss := 0 } }).fsetB F.TTB_STS_TWINSYNC false).inhUpdate else u
      (given = true → exec (.tokenLost net) s = .next (u.raiseEvent 120)) ∧ (given = false → exec (.tokenLost net) s = .next (u.raiseEvent 120).fence))) ∧
  (∀ s : State, (s.brl.tokWait = false → exec .tokenWaitExpiry s = .next s) ∧ (s.brl.tokWait = true → exec .tokenWaitExpiry s =
    .next ((((s.fset F.BRL_TKSTS_DRIVE (s.fget F.BRL_TKSTS_DRIVE &&& s.fget F.BRL_TKSTS_HELD)).brlMap (fun b => { b with tokWait := false })).raiseFault Blk.brl 0 7 3 0).anaUpdate))) ∧
  (∀ (s : State) (v : Word), let set := F.BRL_STEER_SET.on v
    let u := if F.BRL_STEER_REJ.on v then s.fsetB F.BRL_STEER_REJ false else s
    let may := u.twin && u.held.testBit u.partToken && u.sacIn .zero SacS.parked && u.sacIn .one SacS.parked && (u.msqOf .zero).cur.isNone && (u.msqOf .one).cur.isNone
    (set = u.flag F.BRL_STEER_SET → exec (.steer v) s = .next u) ∧
    (set ≠ u.flag F.BRL_STEER_SET → may = false → exec (.steer v) s = .next (u.fsetB F.BRL_STEER_REJ true)) ∧
    (set ≠ u.flag F.BRL_STEER_SET → may = true → let w := (u.fsetB F.BRL_STEER_SET set).fsetB F.BRL_STEER_BUSY true
      exec (.steer v) s = .next (if (if set then u.brl.firstPartner else u.brl.firstOwn) = true then (w.sacEnter .zero SacS.unload).sacEnter .one SacS.unload else w))) ∧
  (∀ (s : State) (reads : List SectorRead), (s.flag F.BRL_STEER_BUSY = false → exec (.steeringDone reads) s = .next s) ∧
    (s.flag F.BRL_STEER_BUSY = true → s.flag F.BRL_STEER_SET = false →
      let u := (s.fsetB F.BRL_STEER_BUSY false).raiseEvent 121
      let u := if u.sacIn .zero SacS.unload then u.sacEnter .zero SacS.parked else u
      let u := if u.sacIn .one SacS.unload then u.sacEnter .one SacS.parked else u
      exec (.steeringDone reads) s = .next ((List.range 48).foldl (fun s i => s.sendNext i) (u.brlMap (fun b => { b with firstOwn := false }))).permBoth)) ∧
  (∀ s : State, (s.brl.handBack = .idle → exec .handBackEnd s = .next s) ∧
    (s.brl.handBack = .locks → (s.cqe.il.filter (fun e => e.req.owner == 5 && e.req.part && e.held)).length < 2 → exec .handBackEnd s = .next s) ∧
    (s.brl.handBack = .commit → s.cqe.buffer.any (fun b => b.early && s.isPartner b.nsid) = true → exec .handBackEnd s = .next s) ∧
    (s.brl.handBack = .checkpoint → s.ste.cpPend = true ∨ s.ste.cp ≠ none → exec .handBackEnd s = .next s) ∧
    (s.brl.handBack = .copy → s.brl.copyNext ≠ none → exec .handBackEnd s = .next s) ∧
    (s.brl.handBack = .park → s.flag F.BRL_STEER_SET = true → s.bothParked = false → exec .handBackEnd s = .next ((s.unloadIfMay .zero).unloadIfMay .one)) ∧
    (s.brl.handBack = .park → s.flag F.BRL_STEER_SET = false ∨ s.bothParked = true →
      let u := (s.fsetB F.BRL_STEER_SET false).fset F.BRL_TKSTS_DRIVE (withBit (s.fget F.BRL_TKSTS_DRIVE) s.partToken false)
      let w := ((u.cqe.il.filter (fun e => e.req.owner == 5)).map (fun e => e.index)).foldl (fun s i => interlockReleaseOp i s) u
      exec .handBackEnd s = .next ((((((((w.fsetB F.BRL_STS_HBACK false).fsetB F.BRL_STS_CARRY false).brlMap (fun b => { b with handBack := .idle, copySet := false })).dropSet).raiseEvent
        122).quiesce).anaUpdate).copyStart false)))

/-- POWER_ON_RESET_RELEASE, GLB_RST_WRITE, DEVICE_RESET, START, DDR5_TRAINING_END, CONFIG_LOCK and the boundary-scan instructions (R2, R20 to R24, R328, R339 to R345, R392, R393):
the resets, the start through its image slots and the memory, the lock and what each scan instruction drives. -/
def Obligations.ChipCommands : Prop :=
  (∀ (s : State) (straps : BitVec 3) (aux : Bool), (s.flt.fatalHold = true → exec (.powerOnResetRelease straps false) s = .next s) ∧
    (s.flt.fatalHold = false ∨ aux = true → exec (.powerOnResetRelease straps aux) s = .next ((s.restart 0 aux).fset F.GLB_CFG_STRAP straps.toNat))) ∧
  (∀ (s : State) (v : Word),
    let taken := F.GLB_RST_KEY.of v = 0x5A17 ∧ F.GLB_RST_DEVRST.on v = true ∧ s.core.resetDue = none ∧ s.ms.faultReset = false ∧ s.flt.fatalSeq = false ∧ s.pwr.saving = none ∧ s.pwr.held = false
    (taken → exec (.glbRstWrite v) s = .next (s.coreMap (fun c => { c with resetDue := some 2 }))) ∧ (¬ taken → exec (.glbRstWrite v) s = .next s)) ∧
  (∀ s : State, (s.core.resetDue = none → exec .deviceReset s = .next s) ∧ (∀ c, s.core.resetDue = some c →
    let u := (((s.haltMark .zero).haltMark .one).resetStop .zero).resetStop .one
    exec .deviceReset s = .next (((u.restart c false).fsetB F.FLT_MON_FALLBACK (u.flag F.FLT_MON_FALLBACK)).harvestKeep u c))) ∧
  (∀ (s : State) (flash : Option Flash), s.fget F.SEC_BOOTSTS_STEP ≠ 0 ∨ s.fget F.SEC_BOOTSTS_CODE ≠ 0 ∨ s.core.resetDue ≠ none ∨ s.pwr.held = true ∨ s.flt.fatalHold = true →
    exec (.start flash) s = .next s) ∧
  (∀ (s : State) (flash : Option Flash), s.fget F.SEC_BOOTSTS_STEP = 0 → s.fget F.SEC_BOOTSTS_CODE = 0 → s.core.resetDue = none → s.pwr.held = false → s.flt.fatalHold = false →
    let u := s.vaultLoads.markWord.startRecord.startLoads.bootStep 1
    let w := (u.flashPlaced flash).bootStep 2
    (u.fget F.GLB_CFG_STRAP = 2 → exec (.start flash) s = .next u) ∧
    (u.fget F.GLB_CFG_STRAP ≠ 2 → (w.flash = none → exec (.start flash) s = .next (w.startFail 0x11)) ∧
      (∀ f, w.flash = some f → (f.responds = false → exec (.start flash) s = .next (w.startFail 0x11)) ∧
        (f.responds = true → let x := w.bootStep 3
          let n := if u.fget F.GLB_CFG_STRAP = 1 then 2 else if flashActive f = 2 then 2 else 1
          (slotCheck (flashSlot f n) (x.fget F.SEC_SVN_SVNMIN) = none → exec (.start flash) s = .next (x.slotPass n (flashSlot f n))) ∧
          (∀ c, slotCheck (flashSlot f n) (x.fget F.SEC_SVN_SVNMIN) = some c →
            (u.fget F.GLB_CFG_STRAP = 1 → exec (.start flash) s = .next (x.startFail c)) ∧
            (u.fget F.GLB_CFG_STRAP ≠ 1 → (slotCheck (flashSlot f (3 - n)) (x.fget F.SEC_SVN_SVNMIN) = none → exec (.start flash) s =
                .next (((x.fsetB F.SEC_BOOTSTS_FALLBACK true).raiseFault Blk.sec 0 1 2 0).slotPass (3 - n) (flashSlot f (3 - n)))) ∧
              (∀ d, slotCheck (flashSlot f (3 - n)) (x.fget F.SEC_SVN_SVNMIN) = some d → exec (.start flash) s = .next (x.startFail d)))))))) ∧
  (∀ (s : State) (ok : Bool) (gib : Nat),
    (s.fget F.SEC_BOOTSTS_STEP ≠ 4 ∨ s.fget F.SEC_BOOTSTS_CODE ≠ 0 ∨ s.flag F.MEM_DDRSTS_TRAINED = true ∨ s.bootImage = none → exec (.ddr5TrainingEnd ok gib) s = .next s) ∧
    (∀ i, s.fget F.SEC_BOOTSTS_STEP = 4 → s.fget F.SEC_BOOTSTS_CODE = 0 → s.flag F.MEM_DDRSTS_TRAINED = false → s.bootImage = some i →
      let u := ((s.fsetB F.MEM_DDRSTS_TRAINED true).msMap (fun m => { m with fitted := gib * 2 ^ 30 })).bootStep 5
      (ok = false ∨ s.fget F.MEM_DDRCFG_SIZE = 3 → exec (.ddr5TrainingEnd ok gib) s = .next (s.startFail 0x20)) ∧
      (ok = true → s.fget F.MEM_DDRCFG_SIZE ≠ 3 →
        (gib < 2 ∨ (u.twin = true ∧ gib < 4) → exec (.ddr5TrainingEnd ok gib) s = .next (u.startFail 0x21)) ∧
        (2 ≤ gib → u.twin = false ∨ 4 ≤ gib → 524288 < imageZones i → exec (.ddr5TrainingEnd ok gib) s = .next (u.startFail 0x22)) ∧
        (2 ≤ gib → u.twin = false ∨ 4 ≤ gib → imageZones i ≤ 524288 →
          exec (.ddr5TrainingEnd ok gib) s = .next ((i.sections.foldl (fun s x => s.copySection x) (u.bootStep 6)).bootStep 7))))) ∧
  (∀ s : State, (s.locked = true → exec .configLock s = .next s) ∧
    (s.locked = false → exec .configLock s = .next (((((s.fsetB F.GLB_LOCK_LOCK true).armUpdate false).permBoth).readyTry .zero).readyTry .one))) ∧
  (∀ (s : State) (c : Cells),
    exec .bypass s = .next (s.pinMap (fun p => { p with instr := .bypass, dr := 0, driven := none })) ∧
    exec .idcode s = .next (s.pinMap (fun p => { p with instr := .idcode, dr := 0x18420D6B, driven := none })) ∧
    exec (.samplePreload c) s = .next (s.pinMap (fun p => { p with instr := .samplePreload, cells := c, driven := none })) ∧
    exec .extest s = .next (s.pinMap (fun p => { p with instr := .extest, driven := some s.scanDrive })) ∧
    exec .clamp s = .next (s.pinMap (fun p => { p with instr := .clamp, dr := 0, driven := some s.scanDrive })) ∧
    exec .highz s = .next (s.pinMap (fun p => { p with instr := .highz, dr := 0, driven := none })))

/-- REGISTER_WRITE, WIDE_LOW_READ, WIDE_HIGH_READ (R4, R10, R17, R18): an aligned word goes to its register or to a port's NVMe registers, a doubleword to two, low word first; any
other size changes nothing; the low half of a wide pair latches the high half, which the next read of it returns; an offset that holds no register reads 0 and keeps nothing. -/
def Obligations.RegisterCommands : Prop :=
  (∀ (s : State) (o : Nat) (v : BitVec 64),
    (o % 4 = 0 → (bar0Of o = none → exec (.registerWrite o 4 v) s = .next (s.write32 o (v.setWidth 32))) ∧
      (∀ p k, bar0Of o = some (p, k) → exec (.registerWrite o 4 v) s = .next (s.nvmeWrite p k (v.setWidth 32)))) ∧
    (o % 8 = 0 → exec (.registerWrite o 8 v) s = .next ((s.busWrite o (v.setWidth 32)).busWrite (o + 4) (v.extractLsb' 32 32)))) ∧
  (∀ (s : State) (o n : Nat) (v : BitVec 64), ¬ (n = 4 ∧ o % 4 = 0) → ¬ (n = 8 ∧ o % 8 = 0) → exec (.registerWrite o n v) s = .next s ∧ s.sizedRead o n = (0, s)) ∧
  (∀ (s : State) (o : Nat), (o % 4 = 0 → s.sizedRead o 4 = ((s.busRead o).1.setWidth 64, (s.busRead o).2)) ∧
    (o % 8 = 0 → let lo := s.busRead o
      s.sizedRead o 8 = ((lo.2.busRead (o + 4)).1 ++ lo.1, (lo.2.busRead (o + 4)).2))) ∧
  (∀ (s : State) (o : Nat) (v : BitVec 64), 0x160000 ≤ o → o < 0x2000000 → o % 4 = 0 →
    exec (.registerWrite o 4 v) s = .next s ∧ s.busRead o = (0, s)) ∧
  (∀ (s : State) (o : Nat) (v : Word), regRow o = none → s.codeWrite o v = s ∧ s.view o = 0) ∧
  (∀ (s : State) (o : Nat), o % 4 = 0 → bar0Of o = none → wideLow o = true → o ≠ Rg.FLT_MSG_LO → o ≠ Rg.CQE_ILDATA 0 →
    exec (.wideLowRead o) s = .next { s with shadows := insertKey o (s.view (o + 4)) (dropKey o s.shadows), core := { s.core with rdata := s.view o } }) ∧
  (∀ (s : State) (o : Nat), o % 4 = 0 → 4 ≤ o → bar0Of o = none → wideLow (o - 4) = true → wideLow o = false → o ≠ Rg.FLT_MSG_LO → o ≠ Rg.CQE_ILDATA 0 →
    (∀ p, s.shadows.find? (fun p => p.1 == o - 4) = some p →
      exec (.wideHighRead o) s = .next { s with shadows := dropKey (o - 4) s.shadows, core := { s.core with rdata := p.2 } }) ∧
    (s.shadows.find? (fun p => p.1 == o - 4) = none → exec (.wideHighRead o) s = .next { s with core := { s.core with rdata := s.view o } }))

/-- CORE_ACCESS, CORE_FENCE, GATHER_IDLE_WRITEBACK, EVENT_CLAIM, EVENT_COMPLETE, HART_RELEASE, MACHINE_TIMER_INTERRUPT (R19, R20, R25 to R27, R290): a hart that does not run does
nothing; an access outside Table 1.6 or against it raises its access fault; the CSRs read and write as Table 1.9 says, from machine mode only; claiming, completing and
releasing change exactly their bits. -/
def Obligations.ProcessorCluster : Prop :=
  (∀ (s : State) (h : Fin 4) (kind : AccessKind) (a n : Nat) (v : BitVec 64) (e : ArrErr) (m : Bool) (w : Word), s.hartRuns h = false →
    exec (.coreAccess h kind a n v e) s = .next s ∧ exec (.eventClaim h m) s = .next s ∧ exec (.eventComplete h m w) s = .next s ∧ exec (.hartRelease h m w) s = .next s) ∧
  (∀ (s : State) (h : Fin 4) (a n : Nat) (v : BitVec 64) (e : ArrErr), s.hartRuns h = true →
    (s.region a n = none → exec (.coreAccess h .fetch a n v e) s = .next (s.trap h 1) ∧ exec (.coreAccess h .load a n v e) s = .next (s.trap h 5) ∧
      exec (.coreAccess h .store a n v e) s = .next (s.trap h 7)) ∧
    (∀ g, s.region a n = some g → exec (.coreAccess h .load a n v e) s = .next (s.coreLoad h g a n e) ∧
      (g.fetches = true → exec (.coreAccess h .fetch a n v e) s = .next (s.coreLoad h g a n e)) ∧ (g.fetches = false → exec (.coreAccess h .fetch a n v e) s = .next (s.trap h 1)) ∧
      (g.stores = true → exec (.coreAccess h .store a n v e) s = .next (s.coreStore h g a n v e)) ∧
      (g.stores = false → exec (.coreAccess h .store a n v e) s = .next (s.trap h 7))) ∧
    (∀ m, exec (.coreAccess h (.csrRead m) a n v e) s = .next (s.csrRead h m a) ∧ exec (.coreAccess h (.csrWrite m) a n v e) s = .next (s.csrWrite h m a v)) ∧
    (∀ r, r ∈ [0x7C0, 0x7C1, 0x7C2, 0xFC0, 0xFC1] → exec (.coreAccess h (.csrRead false) r n v e) s = .next (s.trap h 2) ∧
      exec (.coreAccess h (.csrWrite false) r n v e) s = .next (s.trap h 2)) ∧
    exec (.coreAccess h (.csrRead true) 0x7C1 n v e) s = .next (s.give h (BitVec.ofNat 64 (s.hart h).thr)) ∧
    exec (.coreAccess h (.csrRead true) 0xFC0 n v e) s = .next (s.give h (s.near.setWidth 64)) ∧
    exec (.coreAccess h (.csrWrite true) 0x7C1 n v e) s = .next ((s.hartMap h (fun x => { x with thr := v.toNat % 16 })).done h)) ∧
  (∀ (s : State) (h : Fin 4), s.hartRuns h = true →
    exec (.eventClaim h false) s = .next (s.trap h 2) ∧ (s.claimNext h = none → exec (.eventClaim h true) s = .next (s.give h 0)) ∧
    (∀ n, s.claimNext h = some n → exec (.eventClaim h true) s =
      .next (({ s with evr := { s.evr with claimed := s.evr.claimed ||| bit640 n } }).give h (BitVec.ofNat 64 (2 ^ 31 + s.fget (F.EVR_ROUTE_PRIO n) * 2 ^ 10 + n))))) ∧
  (∀ (s : State) (h : Fin 4) (w : Word), s.hartRuns h = true → let k := ~~~ bit640 (bitsOf w 0 10)
    exec (.eventComplete h false w) s = .next (s.trap h 2) ∧
    exec (.eventComplete h true w) s = .next (({ s with evr := { s.evr with hart := s.evr.hart &&& k, claimed := s.evr.claimed &&& k } }).done h) ∧
    exec (.hartRelease h false w) s = .next (s.trap h 2) ∧
    (h ≠ 0 → exec (.hartRelease h true w) s = .next (s.trap h 2)) ∧
    (h = 0 → exec (.hartRelease h true w) s = .next ((((s.releaseHart w 1).releaseHart w 2).releaseHart w 3).done h))) ∧
  (∀ (s : State) (h : Fin 4), exec (.machineTimerInterrupt h) s =
    .next (({ s with ttb := { s.ttb with clkQ := max s.ttb.clkQ (4 * (s.hart h).mtimecmp.toNat) } }).hartMap h (fun x => { x with mtip := true })) ∧
    exec (.coreFence h) s = .next ((s.core.gather.filter (fun p => p.2.2 == h)).foldl (fun s p => s.gatherDrain p.1) s)) ∧
  (∀ (s : State) (a : Nat), (s.core.gather.any (fun p => p.1 == a / 8) = true → exec (.gatherIdleWriteback a) s = .next
    ((s.coreMap (fun c => { c with gather := c.gather.filter (fun p => p.1 != a / 8) })).checkBits (8 * (a / 8)) 8)) ∧
    (s.core.gather.any (fun p => p.1 == a / 8) = false → exec (.gatherIdleWriteback a) s = .next s))

/-- A step takes the command at the front of the queue and runs it with the rest of the queue in place; on an empty queue one cycle of the 800 MHz clock passes (the model's choice,
assumption 1). -/
def Obligations.StepTakesTheFront : Prop :=
  (∀ (c : Instr) (rest : List Instr) (s : State), step { s with pending := c :: rest } = exec c { s with pending := rest }) ∧
  (∀ (c : Instr) (rest : List Instr) (s : State), s.pending = c :: rest → step s = exec c { s with pending := rest }) ∧
  (∀ s : State, s.pending = [] → step s = .next s.cycle)

/-- After reset no command waits, memory lists nothing, every register reads the reset value of its table, and the forms are canonical (R5, R6). -/
def Obligations.ResetState : Prop :=
  State.reset.pending = [] ∧ State.reset.mem = [] ∧ State.reset.shadows = [] ∧ State.reset.canonical ∧ (∀ o, State.reset.rd o = regReset o) ∧ (∀ a, State.reset.byte a = memDefault a) ∧
  (∀ o, regRow o = none → State.reset.rd o = 0) ∧ State.reset.locked = false ∧ State.reset.rd Rg.GLB_ID = 0x84201000 ∧ State.reset.flag F.ZNE_STS_RUN = false

/-- Every step keeps the canonical forms of memory, registers and live copies, so that equal contents are equal data; it removes at most the command it takes, and it never gives a
free value back. -/
def Obligations.StepKeepsCanonicalForm : Prop :=
  ∀ s t : State, s.canonical → step s = .next t → t.canonical ∧ t.pending = s.pending.tail ∧ s.freeCtr ≤ t.freeCtr

/-- No command ends in a fault or a refusal, and no step does: whatever the state and the operands, a next state follows. -/
def Obligations.NoCommandStops : Prop :=
  (∀ (c : Instr) (s : State), ¬ stops (exec c s)) ∧ (∀ s : State, ¬ stops (step s))

/-- A plain register write (R5 to R8, Table 0.1): RW bits take the written value, RWL bits while GLB_LOCK is clear, W1C bits clear on a written 1, W1S bits set, every other bit of
the register and every other register stays; a field read back is the field written. -/
def Obligations.RegisterWriteCodes : Prop :=
  (∀ (s : State) (o : Nat) (v : Word) (r : RegRow), regRow o = some r → ∀ i, i < 32 → ((s.codeWrite o v).rd o).getLsbD i =
    (if r.w1s.testBit i = true ∧ v.getLsbD i = true then true
     else if r.w1c.testBit i = true ∧ v.getLsbD i = true then false
     else if r.rw.testBit i = true ∨ (r.rwl.testBit i = true ∧ s.locked = false) then v.getLsbD i
     else (s.rd o).getLsbD i)) ∧
  (∀ (s : State) (o p : Nat) (v : Word), p ≠ o → (s.codeWrite o v).rd p = s.rd p) ∧
  (∀ (s : State) (o : Nat) (v : Word), regRow o = none → s.codeWrite o v = s) ∧
  (∀ (s : State) (f g : Fld) (n : Nat), (f.lo + f.w ≤ 32 → (s.fset f n).fget f = n % 2 ^ f.w) ∧ (f.addr ≠ g.addr ∨ f.lo + f.w ≤ g.lo ∨ g.lo + g.w ≤ f.lo → (s.fset f n).fget g = s.fget g))

/-- R11: a counter counts up to 0xFFFF_FFFF_FFFF and stays there until it is cleared; other registers stay. -/
def Obligations.CountersSaturate : Prop :=
  (∀ (s : State) (o n : Nat), s.wide o ≤ 0xFFFFFFFFFFFF → (s.count o n).wide o = min 0xFFFFFFFFFFFF (s.wide o + n) ∧ (s.count o n).wide o ≤ 0xFFFFFFFFFFFF) ∧
  (∀ (s : State) (o n : Nat), s.wide o = 0xFFFFFFFFFFFF → (s.count o n).wide o = 0xFFFFFFFFFFFF) ∧
  (∀ (s : State) (o : Nat), (s.clearCount o).wide o = 0) ∧
  (∀ (s : State) (o p n : Nat), p ≠ o → p ≠ o + 4 → (s.count o n).rd p = s.rd p ∧ (s.clearCount o).rd p = s.rd p) ∧
  (∀ (s : State) (o n : Nat), (s.count o n).mem = s.mem ∧ (s.clearCount o).mem = s.mem)

/-- Events and fault messages (R324, R331, R333, Table 15.2): an event sets the latches its route enables and no other bit; a fault sends one message of its source, kind, class,
count and detail, and counts the source's messages modulo 32. -/
def Obligations.EventsAndFaultMessages : Prop :=
  (∀ (s : State) (n k : Nat), eventSource n = true → k < 640 → let t := s.raiseEvent n
    (t.evr.hart.getLsbD k = (s.evr.hart.getLsbD k || (decide (k = n) && decide (s.fget (F.EVR_ROUTE_HARTS n) ≠ 0)))) ∧
    (t.evr.msq.p0.getLsbD k = (s.evr.msq.p0.getLsbD k || (decide (k = n) && s.flag (F.EVR_ROUTE_M0EN n)))) ∧
    (t.evr.msq.p1.getLsbD k = (s.evr.msq.p1.getLsbD k || (decide (k = n) && s.flag (F.EVR_ROUTE_M1EN n))))) ∧
  (∀ (s : State) (n : Nat), (s.raiseEvent n).regs = s.regs ∧ (s.raiseEvent n).mem = s.mem ∧ (s.raiseEvent n).evr.claimed = s.evr.claimed) ∧
  (∀ (src kind cls seq info : Nat) (forced : Bool), let m := faultMsg src kind cls seq forced info
    msgField m 54 10 = src % 1024 ∧ msgField m 48 6 = kind % 64 ∧ msgField m 45 3 = cls % 8 ∧ msgField m 40 5 = seq % 32 ∧ msgField m 39 1 = forced.toNat ∧
    msgField m 36 3 = 0 ∧ msgField m 0 36 = info % 2 ^ 36) ∧
  (∀ (s : State) (b u k c info : Nat) (real : Bool), let t := s.raiseFault b u k c info real
    let seq := look (fun _ => 0) (faultSource b u) s.flt.seqs
    t.flt.inflight = s.flt.inflight ++ [faultMsg (faultSource b u) k c seq (s.forced b u k && !real) info] ∧
    look (fun _ => 0) (faultSource b u) t.flt.seqs = (seq + 1) % 32 ∧
    (∀ x, x ≠ faultSource b u → look (fun _ => 0) x t.flt.seqs = look (fun _ => 0) x s.flt.seqs) ∧
    (s.forced b u k = false → t.regs = s.regs) ∧ t.mem = s.mem)

/-- Memory (R3, R19): the bytes stored read back, little-endian; every byte outside them reads as before. -/
def Obligations.MemoryReadsBack : Prop :=
  (∀ (s : State) (a c : Nat) (l : List Byte), (s.setBytes a l).byte c = if a ≤ c ∧ c < a + l.length then (l[c - a]?).getD 0 else s.byte c) ∧
  (∀ (s : State) (a n v : Nat), (s.store a n v).load a n = v % 256 ^ n) ∧
  (∀ (s : State) (a n b m v : Nat), b + m ≤ a ∨ a + n ≤ b → (s.store a n v).load b m = s.load b m) ∧
  (∀ (s : State) (a : Nat) (l : List Byte), Memory.wf s.mem = true → Memory.wf (s.setBytes a l).mem = true)

/-- R30: the near angle is the low half of the full angle; the difference of two near angles is their difference modulo 2^32 as a two's-complement number; a near angle means the
full angle within 64 revolutions of now whose low half it is. -/
def Obligations.NearAngles : Prop :=
  (∀ x : Angle, (nearOf x).toNat = x.toNat % 2 ^ 32) ∧
  (∀ a b : Word, -(2 ^ 31) ≤ nearDiff a b ∧ nearDiff a b < 2 ^ 31 ∧ (nearDiff a b - ((a.toNat : Int) - b.toNat)) % 2 ^ 32 = 0 ∧ (nearDiff a b = 0 ↔ a = b)) ∧
  (∀ (now : Angle) (n : Word), nearOf (fullOf now n) = n ∧ ∃ d : Int, -(64 * 0x2000000) ≤ d ∧ d < 64 * 0x2000000 ∧ fullOf now n = now + BitVec.ofInt 64 d)
end

