-- ==== Sys2Proof/Laws/Ops.lean ====
section
/-! SUPPORT. What the named operations of Machine/Ops.lean do, once each: sparse maps answer what was put into them and keep their
canonical form; register words and fields read back as written; memory reads back as stored and keeps its canonical form. -/
namespace Sys2Proof.Machine

/-! Sparse maps -/

theorem look_dropKey {α : Type} (d : Nat → α) (j k : Nat) (l : List (Nat × α)) :
    look d j (dropKey k l) = if j = k then d j else look d j l := by
  induction l with
  | nil => simp [dropKey, look]
  | cons p t ih =>
    obtain ⟨i, v⟩ := p
    by_cases hik : i = k
    · subst hik
      by_cases hj : j = i
      · rw [if_pos hj] at ih ⊢; simpa [dropKey] using ih
      · simp [dropKey, look, ih, hj, Ne.symm hj]
    · by_cases hij : i = j
      · subst hij; simp [dropKey, look, hik]
      · simp [dropKey, look, ih, hik, hij]

theorem look_insertKey {α : Type} (d : Nat → α) (j k : Nat) (v : α) (l : List (Nat × α)) (h : ∀ p ∈ l, p.1 ≠ k) :
    look d j (insertKey k v l) = if j = k then v else look d j l := by
  induction l with
  | nil => simp [insertKey, look, eq_comm]
  | cons p t ih =>
    obtain ⟨i, w⟩ := p
    have hi : i ≠ k := h (i, w) (by simp)
    have ht := ih (fun p hp => h p (by simp [hp]))
    simp only [insertKey]
    split
    · simp [look, eq_comm]
    · by_cases hij : i = j
      · subst hij; simp [look, hi]
      · simp [look, hij, ht]

theorem mem_dropKey {α : Type} (k : Nat) (l : List (Nat × α)) (p : Nat × α) : p ∈ dropKey k l ↔ p ∈ l ∧ p.1 ≠ k := by
  induction l with
  | nil => simp [dropKey]
  | cons q t ih =>
    obtain ⟨i, w⟩ := q
    by_cases hik : i = k
    · simp only [dropKey, hik, if_true, ih, List.mem_cons]
      constructor
      · rintro ⟨a, b⟩; exact ⟨.inr a, b⟩
      · rintro ⟨rfl | a, b⟩
        · exact absurd rfl b
        · exact ⟨a, b⟩
    · simp only [dropKey, hik, if_false, List.mem_cons, ih]
      constructor
      · rintro (rfl | ⟨a, b⟩)
        · exact ⟨.inl rfl, hik⟩
        · exact ⟨.inr a, b⟩
      · rintro ⟨rfl | a, b⟩
        · exact .inl rfl
        · exact .inr ⟨a, b⟩

/-- Reading a map after a write: the value written, and every other key as before. -/
theorem look_put {α : Type} [DecidableEq α] (d : Nat → α) (j k : Nat) (v : α) (l : List (Nat × α)) :
    look d j (put d k v l) = if j = k then v else look d j l := by
  unfold put
  split
  · rename_i hv
    rw [look_dropKey]; split
    · rename_i hj; rw [hj, hv]
    · rfl
  · rw [look_insertKey _ _ _ _ _ (fun p hp => ((mem_dropKey _ _ _).1 hp).2), look_dropKey]
    split <;> rfl

/-- The canonical form, said of all entries at once. -/
theorem canon_iff {α : Type} [DecidableEq α] (d : Nat → α) (l : List (Nat × α)) :
    canon d l = true ↔ l.Pairwise (fun p q => p.1 < q.1) ∧ ∀ p ∈ l, p.2 ≠ d p.1 := by
  induction l with
  | nil => simp [canon]
  | cons p t ih =>
    obtain ⟨i, v⟩ := p
    cases t with
    | nil => simp [canon]
    | cons q u =>
      obtain ⟨j, w⟩ := q
      simp only [canon, Bool.and_eq_true, decide_eq_true_eq, ih, List.pairwise_cons, List.mem_cons]
      constructor
      · rintro ⟨⟨hv, hij⟩, ⟨hj, hu⟩, hd⟩
        refine ⟨⟨?_, hj, hu⟩, ?_⟩
        · rintro r (rfl | hr)
          · exact hij
          · exact lt_trans hij (hj r hr)
        · rintro r (rfl | hr)
          · exact hv
          · exact hd r hr
      · rintro ⟨⟨hi, hj, hu⟩, hd⟩
        exact ⟨⟨hd (i, v) (.inl rfl), hi (j, w) (.inl rfl)⟩, ⟨hj, hu⟩, fun r hr => hd r (.inr hr)⟩

theorem mem_insertKey {α : Type} (k : Nat) (v : α) (l : List (Nat × α)) (p : Nat × α) :
    p ∈ insertKey k v l ↔ p = (k, v) ∨ p ∈ l := by
  induction l with
  | nil => simp [insertKey]
  | cons q t ih =>
    obtain ⟨i, w⟩ := q
    simp only [insertKey]
    split
    · simp
    · simp only [List.mem_cons, ih]; tauto

theorem pairwise_insertKey {α : Type} (k : Nat) (v : α) (l : List (Nat × α)) (h : l.Pairwise (fun p q => p.1 < q.1))
    (hk : ∀ p ∈ l, p.1 ≠ k) : (insertKey k v l).Pairwise (fun p q => p.1 < q.1) := by
  induction l with
  | nil => simp [insertKey]
  | cons q t ih =>
    obtain ⟨i, w⟩ := q
    rw [List.pairwise_cons] at h
    simp only [insertKey]
    split
    · rename_i hki
      refine List.pairwise_cons.2 ⟨?_, List.pairwise_cons.2 h⟩
      intro r hr
      rcases List.mem_cons.1 hr with rfl | hr
      · exact hki
      · exact lt_trans hki (h.1 r hr)
    · rename_i hki
      refine List.pairwise_cons.2 ⟨?_, ih h.2 (fun p hp => hk p (by simp [hp]))⟩
      intro r hr
      have hik : i ≠ k := hk (i, w) (by simp)
      rcases (mem_insertKey k v t r).1 hr with rfl | hr
      · show i < k; omega
      · exact h.1 r hr

theorem dropKey_sublist {α : Type} (k : Nat) (l : List (Nat × α)) : (dropKey k l).Sublist l := by
  induction l with
  | nil => exact .slnil
  | cons q t ih =>
    obtain ⟨i, w⟩ := q
    simp only [dropKey]
    split
    · exact ih.cons _
    · exact ih.cons_cons _

/-- A write keeps the canonical form. -/
theorem canon_put {α : Type} [DecidableEq α] (d : Nat → α) (k : Nat) (v : α) (l : List (Nat × α)) (h : canon d l = true) :
    canon d (put d k v l) = true := by
  rw [canon_iff] at h ⊢
  have hs := h.1.sublist (dropKey_sublist k l)
  unfold put
  split
  · exact ⟨hs, fun p hp => h.2 p ((mem_dropKey _ _ _).1 hp).1⟩
  · rename_i hv
    refine ⟨pairwise_insertKey k v _ hs (fun p hp => ((mem_dropKey _ _ _).1 hp).2), fun p hp => ?_⟩
    rcases (mem_insertKey _ _ _ _).1 hp with rfl | hp
    · exact hv
    · exact h.2 p ((mem_dropKey _ _ _).1 hp).1

/-- Dropping entries keeps the canonical form. -/
theorem canon_filter {α : Type} [DecidableEq α] (d : Nat → α) (f : Nat × α → Bool) (l : List (Nat × α)) (h : canon d l = true) :
    canon d (l.filter f) = true := by
  rw [canon_iff] at h ⊢
  exact ⟨h.1.sublist List.filter_sublist, fun p hp => h.2 p (List.mem_filter.1 hp).1⟩

/-- Two canonical maps, the first below a bound and the second from it on, join to a canonical map. -/
theorem canon_append {α : Type} [DecidableEq α] (d : Nat → α) (b : Nat) (l m : List (Nat × α)) (hl : canon d l = true) (hm : canon d m = true)
    (hlb : ∀ p ∈ l, p.1 < b) (hmb : ∀ p ∈ m, b ≤ p.1) : canon d (l ++ m) = true := by
  rw [canon_iff] at hl hm ⊢
  refine ⟨List.pairwise_append.2 ⟨hl.1, hm.1, fun p hp q hq => lt_of_lt_of_le (hlb p hp) (hmb q hq)⟩, fun p hp => ?_⟩
  rcases List.mem_append.1 hp with h | h
  · exact hl.2 p h
  · exact hm.2 p h

/-! Register words and fields -/

@[simp] theorem rd_wr (s : State) (o p : Nat) (v : Word) : (s.wr o v).rd p = if p = o then v else s.rd p := by
  unfold State.rd State.wr; exact look_put _ _ _ _ _

@[simp] theorem liveRd_liveWr (s : State) (o p : Nat) (v : Word) : (s.liveWr o v).liveRd p = if p = o then v else s.liveRd p := by
  unfold State.liveRd State.liveWr; exact look_put _ _ _ _ _

/-- Whether two fields have no bit in common. -/
def Fld.apart (f g : Fld) : Bool := f.addr != g.addr || decide (f.lo + f.w ≤ g.lo) || decide (g.lo + g.w ≤ f.lo)

/-- Whether a field lies within its word. -/
def Fld.fitsWord (f : Fld) : Bool := decide (f.lo + f.w ≤ 32)

theorem getLsbD_setBits (x : Word) (lo w v i : Nat) (hi : i < 32) :
    (setBits x lo w v).getLsbD i = if lo ≤ i ∧ i < lo + w then v.testBit (i - lo) else x.getLsbD i := by
  have hm : (maskOf lo w).getLsbD i = decide (lo ≤ i ∧ i < lo + w) := by
    unfold maskOf
    rw [BitVec.getLsbD_ofNat, Nat.testBit_shiftLeft, Nat.testBit_two_pow_sub_one]
    by_cases h1 : lo ≤ i <;> simp [hi, h1]; omega
  simp only [setBits, BitVec.getLsbD_or, BitVec.getLsbD_and, BitVec.getLsbD_not, hm, BitVec.getLsbD_ofNat, Nat.testBit_shiftLeft, hi]
  by_cases h : lo ≤ i ∧ i < lo + w
  · simp [h]
  · simp [h]

theorem testBit_bitsOf (x : Word) (lo w i : Nat) : (bitsOf x lo w).testBit i = (decide (i < w) && x.getLsbD (lo + i)) := by
  unfold bitsOf
  rw [BitVec.testBit_toNat, BitVec.getLsbD_extractLsb']

theorem bitsOf_setBits_same (x : Word) (lo w v : Nat) (h : lo + w ≤ 32) : bitsOf (setBits x lo w v) lo w = v % 2 ^ w := by
  refine Nat.eq_of_testBit_eq fun i => ?_
  rw [testBit_bitsOf, Nat.testBit_mod_two_pow]
  by_cases hi : i < w
  · rw [getLsbD_setBits _ _ _ _ _ (by omega)]; simp [hi]
  · simp [hi]

theorem bitsOf_setBits_apart (x : Word) (lo w v lo' w' : Nat) (h : lo + w ≤ lo' ∨ lo' + w' ≤ lo) :
    bitsOf (setBits x lo w v) lo' w' = bitsOf x lo' w' := by
  refine Nat.eq_of_testBit_eq fun i => ?_
  rw [testBit_bitsOf, testBit_bitsOf]
  by_cases hi : i < w'
  · by_cases h32 : lo' + i < 32
    · rw [getLsbD_setBits _ _ _ _ _ h32, if_neg (by omega)]
    · simp [BitVec.getLsbD_of_ge _ _ (Nat.le_of_not_lt h32)]
  · simp [hi]

/-- A field reads back as written, cut to its width. -/
theorem fget_fset_same (s : State) (f : Fld) (v : Nat) (h : f.fitsWord = true) : (s.fset f v).fget f = v % 2 ^ f.w := by
  unfold State.fget State.fset
  rw [rd_wr, if_pos rfl]
  exact bitsOf_setBits_same _ _ _ _ (by simpa [Fld.fitsWord] using h)

/-- Writing a field leaves every field that has no bit in common with it as it was. -/
theorem fget_fset_apart (s : State) (f g : Fld) (v : Nat) (h : f.apart g = true) : (s.fset f v).fget g = s.fget g := by
  unfold State.fget State.fset
  rw [rd_wr]
  split
  · rename_i ha
    rw [← ha]
    simp only [Fld.apart, Bool.or_eq_true, bne_iff_ne, ne_eq, decide_eq_true_eq] at h
    exact bitsOf_setBits_apart _ _ _ _ _ _ (by rcases h with (h | h) | h <;> [exact absurd ha.symm h; exact .inl h; exact .inr h])
  · rfl

/-- A register word at another offset is as before. -/
theorem rd_fset_ne (s : State) (f : Fld) (v o : Nat) (h : o ≠ f.addr) : (s.fset f v).rd o = s.rd o := by
  unfold State.fset; rw [rd_wr, if_neg h]

/-- A field of another register is as before. -/
theorem fget_wr_ne (s : State) (o : Nat) (v : Word) (f : Fld) (h : f.addr ≠ o) : (s.wr o v).fget f = s.fget f := by
  unfold State.fget; rw [rd_wr, if_neg h]

/-- A field of the register written is the field of the word. -/
theorem fget_wr_same (s : State) (v : Word) (f : Fld) : (s.wr f.addr v).fget f = f.of v := by
  unfold State.fget Fld.of; rw [rd_wr, if_pos rfl]

/-! Memory -/

theorem byte_setByte (s : State) (a c : Nat) (b : Byte) : (s.setByte a b).byte c = if c = a then b else s.byte c := by
  unfold State.byte State.setByte; exact look_put _ _ _ _ _

theorem mem_runCells (a : Nat) (l : List Byte) (p : Host.Cell) (h : p ∈ runCells a l) :
    a ≤ p.1 ∧ p.1 < a + l.length ∧ p.2 ≠ memDefault p.1 := by
  induction l generalizing a with
  | nil => simp [runCells] at h
  | cons b t ih =>
    simp only [runCells] at h
    split at h
    · obtain ⟨h1, h2, h3⟩ := ih _ h; simp only [List.length_cons]; exact ⟨by omega, by omega, h3⟩
    · rename_i hb
      rcases List.mem_cons.1 h with rfl | h
      · simp [hb]
      · obtain ⟨h1, h2, h3⟩ := ih _ h; simp only [List.length_cons]; exact ⟨by omega, by omega, h3⟩

theorem canon_runCells (a : Nat) (l : List Byte) : canon memDefault (runCells a l) = true := by
  induction l generalizing a with
  | nil => rfl
  | cons b t ih =>
    simp only [runCells]
    split
    · exact ih _
    · rename_i hb
      exact canon_append memDefault (a + 1) [(a, b)] _ (by simp [canon, hb]) (ih _) (by simp) (fun p hp => (mem_runCells _ _ _ hp).1)

/-- Storing a run of bytes keeps memory's canonical form. -/
theorem putBytes_wf (s : State) (a : Nat) (l : List Byte) (h : Memory.wf s.mem = true) : Memory.wf (s.putBytes a l).mem = true := by
  unfold Memory.wf at h ⊢
  refine canon_append memDefault (a + l.length) _ _
    (canon_append memDefault a _ _ (canon_filter _ _ _ h) (canon_runCells a l) ?_ (fun p hp => (mem_runCells _ _ _ hp).1))
    (canon_filter _ _ _ h) ?_ ?_
  · intro p hp; simpa using (List.mem_filter.1 hp).2
  · intro p hp
    rcases List.mem_append.1 hp with hp | hp
    · have : p.1 < a := by simpa using (List.mem_filter.1 hp).2
      omega
    · exact (mem_runCells _ _ _ hp).2.1
  · intro p hp; simpa using (List.mem_filter.1 hp).2

/-- Storing a byte keeps memory's canonical form. -/
theorem setByte_wf (s : State) (a : Nat) (b : Byte) (h : Memory.wf s.mem = true) : Memory.wf (s.setByte a b).mem = true :=
  canon_put _ _ _ _ h

theorem look_append {α : Type} (d : Nat → α) (k : Nat) (l m : List (Nat × α)) (h : ∀ p ∈ l, p.1 ≠ k) :
    look d k (l ++ m) = look d k m := by
  induction l with
  | nil => rfl
  | cons p t ih =>
    obtain ⟨i, v⟩ := p
    have : i ≠ k := h (i, v) (by simp)
    simp [look, this, ih (fun p hp => h p (by simp [hp]))]

theorem look_append_absent {α : Type} (d : Nat → α) (k : Nat) (l m : List (Nat × α)) (h : ∀ p ∈ m, p.1 ≠ k) :
    look d k (l ++ m) = look d k l := by
  induction l with
  | nil =>
    induction m with
    | nil => rfl
    | cons p t ih =>
      obtain ⟨i, v⟩ := p
      have : i ≠ k := h (i, v) (by simp)
      simpa [look, this] using ih (fun p hp => h p (by simp [hp]))
  | cons p t ih => obtain ⟨i, v⟩ := p; simp [look]; split <;> simp_all

theorem look_filter {α : Type} (d : Nat → α) (f : Nat → Bool) (k : Nat) (l : List (Nat × α)) (hk : f k = true) :
    look d k (l.filter (fun c => f c.1)) = look d k l := by
  induction l with
  | nil => rfl
  | cons p t ih =>
    obtain ⟨i, v⟩ := p
    by_cases hik : i = k
    · subst hik; simp [look, hk]
    · by_cases hf : f i = true
      · simp [look, hf, hik, ih]
      · simp [look, hf, hik, ih]

theorem look_runCells (a k : Nat) (l : List Byte) :
    look memDefault k (runCells a l) = if a ≤ k then (l[k - a]?).getD (memDefault k) else memDefault k := by
  induction l generalizing a with
  | nil => simp [runCells, look]
  | cons b t ih =>
    simp only [runCells]
    by_cases hak : a = k
    · subst hak
      split
      · rename_i hb; rw [ih]; simp [hb]
      · simp [look]
    · have hstep : (if a ≤ k then ((b :: t)[k - a]?).getD (memDefault k) else memDefault k) =
          if a + 1 ≤ k then (t[k - (a + 1)]?).getD (memDefault k) else memDefault k := by
        by_cases h : a ≤ k
        · have : k - a = (k - (a + 1)) + 1 := by omega
          simp [h, show a + 1 ≤ k by omega, this]
        · simp [h, show ¬ a + 1 ≤ k by omega]
      split
      · rw [ih, hstep]
      · simp only [look, if_neg hak]; rw [ih, hstep]

/-- A byte of memory after a store: the byte stored where the run covers the address, and as before elsewhere. -/
theorem byte_putBytes (s : State) (a c : Nat) (l : List Byte) :
    (s.putBytes a l).byte c = if a ≤ c ∧ c < a + l.length then (l[c - a]?).getD 0 else s.byte c := by
  unfold State.byte State.putBytes
  by_cases h1 : c < a
  · rw [if_neg (by omega)]
    rw [look_append_absent _ _ _ _ (fun p hp => by have := (List.mem_filter.1 hp).2; simp at this; omega),
      look_append_absent _ _ _ _ (fun p hp => by have := (mem_runCells _ _ _ hp).1; omega)]
    exact look_filter memDefault (fun x => decide (x < a)) c _ (by simpa using h1)
  · by_cases h2 : c < a + l.length
    · rw [if_pos (by omega)]
      rw [look_append_absent _ _ _ _ (fun p hp => by have := (List.mem_filter.1 hp).2; simp at this; omega),
        look_append _ _ _ _ (fun p hp => by have := (List.mem_filter.1 hp).2; simp at this; omega),
        look_runCells, if_pos (by omega)]
      rfl
    · rw [if_neg (by omega)]
      rw [List.append_assoc,
        look_append _ _ _ _ (fun p hp => by have := (List.mem_filter.1 hp).2; simp at this; omega),
        look_append _ _ _ _ (fun p hp => by have := (mem_runCells _ _ _ hp).2.1; omega)]
      exact look_filter memDefault (fun x => decide (a + l.length ≤ x)) c _ (by simp; omega)

theorem wideSet_mem (s : State) (o n : Nat) : (s.wideSet o n).mem = s.mem := rfl

/-- Counting and clearing a counter leave memory alone. -/
theorem count_mem (s : State) (o n : Nat) : (s.count o n).mem = s.mem := by
  unfold State.count; exact wideSet_mem _ _ _

theorem clearCount_mem (s : State) (o : Nat) : (s.clearCount o).mem = s.mem := by
  unfold State.clearCount; exact wideSet_mem _ _ _

/-- A value put into a low and a high register reads back whole. -/
theorem wide_wideSet (s : State) (o n : Nat) (h : n < 2 ^ 64) : (s.wideSet o n).wide o = n := by
  have e1 : (s.wideSet o n).rd o = BitVec.ofNat 32 n := by
    simp [State.wideSet, State.wr, State.rd, look_put]
  have e2 : (s.wideSet o n).rd (o + 4) = BitVec.ofNat 32 (n / 2 ^ 32) := by
    simp [State.wideSet, State.wr, State.rd, look_put]
  rw [State.wide, e1, e2]; simp only [BitVec.toNat_ofNat]; omega

/-- What a write to Yard or Vault words does beside their contents leaves the contents alone. -/
theorem checkBits_mem (s : State) (a n : Nat) : (s.checkBits a n).mem = s.mem := by
  unfold State.checkBits; dsimp only; split <;> rfl

/-- A byte of memory after a store of bytes. -/
theorem byte_setBytes (s : State) (a c : Nat) (l : List Byte) :
    (s.setBytes a l).byte c = if a ≤ c ∧ c < a + l.length then (l[c - a]?).getD 0 else s.byte c := by
  rw [State.setBytes, ← byte_putBytes]; unfold State.byte; rw [checkBits_mem]

theorem length_leBytes (n v : Nat) : (leBytes n v).length = n := by
  induction n generalizing v with
  | zero => rfl
  | succ n ih => simp [leBytes, ih]

theorem ofLe_leBytes (n v : Nat) : ofLe (leBytes n v) = v % 256 ^ n := by
  induction n generalizing v with
  | zero => simp [leBytes, ofLe, Nat.mod_one]
  | succ n ih =>
    simp only [leBytes, ofLe, ih, BitVec.toNat_ofNat]
    rw [show 256 ^ (n + 1) = 256 * 256 ^ n from Nat.pow_succ', Nat.mod_mul]

theorem bytes_eq_map (s : State) (a n : Nat) : s.bytes a n = (List.range n).map (fun i => s.byte (a + i)) := by
  induction n generalizing a with
  | zero => rfl
  | succ n ih =>
    rw [State.bytes, ih, List.range_succ_eq_map]; simp [Nat.add_assoc, Nat.add_comm 1, Function.comp_def]

/-- The bytes stored read back. -/
theorem bytes_setBytes (s : State) (a : Nat) (l : List Byte) : (s.setBytes a l).bytes a l.length = l := by
  rw [bytes_eq_map]
  apply List.ext_getElem
  · simp
  · intro i h1 h2
    simp [byte_setBytes, h2]

/-- Bytes that a store does not meet read as before. -/
theorem bytes_setBytes_apart (s : State) (a b n : Nat) (l : List Byte) (h : b + n ≤ a ∨ a + l.length ≤ b) : (s.setBytes a l).bytes b n = s.bytes b n := by
  rw [bytes_eq_map, bytes_eq_map]
  apply List.map_congr_left
  intro i hi
  rw [byte_setBytes, if_neg]
  have := List.mem_range.1 hi; omega

end Sys2Proof.Machine
end

