-- ==== Sys2Proof/Laws/Keeps.lean ====
section
/-! SUPPORT. What every command leaves alone: the queue of waiting commands, the canonical forms, and the free values already taken.  `Keeps s t`
says so of two states; the lemmas here carry it through record updates, choices and folds, and the files Laws/Keeps*.lean through every operation. -/
namespace Sys2Proof.Machine

/-- `t` has the queue of `s`, is canonical if `s` is, and has taken every free value that `s` has. -/
def Keeps (s t : State) : Prop := t.pending = s.pending ∧ s.freeCtr ≤ t.freeCtr ∧ (s.canonical → t.canonical)

theorem Keeps.refl (s : State) : Keeps s s := ⟨rfl, le_refl _, id⟩

theorem keeps_upd {s0 s t : State} (h : Keeps s0 s) (hp : t.pending = s.pending) (hm : t.mem = s.mem) (hr : t.regs = s.regs)
    (hl : t.live = s.live) (hc : t.freeCtr = s.freeCtr) : Keeps s0 t := by
  refine ⟨hp.trans h.1, hc ▸ h.2.1, fun c => ?_⟩
  have := h.2.2 c
  unfold State.canonical at *
  rw [hm, hr, hl]; exact this

theorem keeps_filter {s0 s : State} {f : Host.Cell → Bool} (h : Keeps s0 s) : Keeps s0 { s with mem := s.mem.filter f } :=
  ⟨h.1, h.2.1, fun c => ⟨canon_filter _ _ _ (h.2.2 c).1, (h.2.2 c).2⟩⟩

theorem keeps_free {s0 s : State} {n : Nat} (h : Keeps s0 s) : Keeps s0 { s with freeCtr := s.freeCtr + n } :=
  ⟨h.1, Nat.le_add_right_of_le h.2.1, h.2.2⟩

theorem keeps_ite {s0 a b : State} {c : Prop} [Decidable c] (ha : Keeps s0 a) (hb : Keeps s0 b) : Keeps s0 (if c then a else b) := by
  split <;> assumption

theorem keeps_ite_fst {α : Type} {s0 : State} {a b : State × α} {c : Prop} [Decidable c] (ha : Keeps s0 a.1) (hb : Keeps s0 b.1) :
    Keeps s0 (if c then a else b).1 := by split <;> assumption

theorem keeps_ite_snd {α : Type} {s0 : State} {a b : α × State} {c : Prop} [Decidable c] (ha : Keeps s0 a.2) (hb : Keeps s0 b.2) :
    Keeps s0 (if c then a else b).2 := by split <;> assumption

theorem keeps_mk1 {α : Type} {s0 s : State} {a : α} (h : Keeps s0 s) : Keeps s0 (s, a).1 := h

theorem keeps_mk2 {α : Type} {s0 s : State} {a : α} (h : Keeps s0 s) : Keeps s0 (a, s).2 := h

theorem keeps_snd {α : Type} {s0 t : State} {a : α} {r : α × State} (h : r = (a, t)) (hk : Keeps s0 r.2) : Keeps s0 t := by
  rw [h] at hk; exact hk

theorem keeps_fst {α : Type} {s0 t : State} {a : α} {r : State × α} (h : r = (t, a)) (hk : Keeps s0 r.1) : Keeps s0 t := by
  rw [h] at hk; exact hk

theorem keeps_somesnd {α : Type} {s0 t : State} {a : α} {r : Option (α × State)} (h : r = some (a, t)) (hk : ∀ y, r = some y → Keeps s0 y.2) :
    Keeps s0 t := hk _ h

theorem keeps_somefst {α : Type} {s0 t : State} {a : α} {r : Option (State × α)} (h : r = some (t, a)) (hk : ∀ y, r = some y → Keeps s0 y.1) :
    Keeps s0 t := hk _ h

theorem keeps_some {s0 t : State} {r : Option State} (h : r = some t) (hk : ∀ y, r = some y → Keeps s0 y) : Keeps s0 t := hk t h

theorem keeps_foldl {α : Type} {s0 s : State} {f : State → α → State} {l : List α} (hf : ∀ t x, Keeps s0 t → Keeps s0 (f t x)) (h : Keeps s0 s) :
    Keeps s0 (l.foldl f s) := by
  induction l generalizing s with
  | nil => exact h
  | cons x t ih => exact ih (hf _ _ h)

theorem keeps_foldl_fst {α β : Type} {s0 : State} {s : State × β} {f : State × β → α → State × β} {l : List α}
    (hf : ∀ t x, Keeps s0 t.1 → Keeps s0 (f t x).1) (h : Keeps s0 s.1) : Keeps s0 (l.foldl f s).1 := by
  induction l generalizing s with
  | nil => exact h
  | cons x t ih => exact ih (hf _ _ h)

theorem keeps_foldl_snd {α β : Type} {s0 : State} {s : β × State} {f : β × State → α → β × State} {l : List α}
    (hf : ∀ t x, Keeps s0 t.2 → Keeps s0 (f t x).2) (h : Keeps s0 s.2) : Keeps s0 (l.foldl f s).2 := by
  induction l generalizing s with
  | nil => exact h
  | cons x t ih => exact ih (hf _ _ h)

theorem keeps_getD {s0 s : State} {r : Option State} (hr : ∀ y, r = some y → Keeps s0 y) (h : Keeps s0 s) : Keeps s0 (r.getD s) := by
  cases r with
  | none => exact h
  | some y => exact hr y rfl

theorem keeps_next {s0 t u : State} (h : (Host.Outcome.next t : Host.Outcome State Fault Refusal) = .next u) (k : Keeps s0 t) : Keeps s0 u := by
  injection h with h; rwa [← h]

end Sys2Proof.Machine
end

