-- ==== Sys2Proof/Laws/KeepsBase.lean ====
section
/-! SUPPORT. What the operations and meanings of Machine/Ops.lean, Machine/Flags.lean, Machine/Hpost.lean, Machine/Cross.lean leave alone: `Keeps` (Laws/Keeps.lean) of each, in the order of
their files. -/
namespace Sys2Proof.Machine

/-! Ops -/

theorem State.wr_keeps {s0 : State} {s : State} {x1 : Nat} {x2 : Word} (h : Keeps s0 s) :
    Keeps s0 (State.wr s x1 x2) := by
  exact ⟨h.1, h.2.1, fun c => ⟨(h.2.2 c).1, canon_put _ _ _ _ (h.2.2 c).2.1, (h.2.2 c).2.2⟩⟩

theorem State.fset_keeps {s0 : State} {s : State} {x1 : Fld} {x2 : Nat} (h : Keeps s0 s) :
    Keeps s0 (State.fset s x1 x2) :=
  State.wr_keeps h

theorem State.fsetB_keeps {s0 : State} {s : State} {x1 : Fld} {x2 : Bool} (h : Keeps s0 s) :
    Keeps s0 (State.fsetB s x1 x2) :=
  State.fset_keeps h

theorem State.checkBits_keeps {s0 : State} {s : State} {x1 : Nat} {x2 : Nat} (h : Keeps s0 s) :
    Keeps s0 (State.checkBits s x1 x2) := by
  unfold State.checkBits
  extract_lets -underBinder +onlyGivenNames z1 z2 z3
  clear_value z1 z2 z3
  extract_lets -underBinder +onlyGivenNames z4
  have h5 : Keeps s0 z4 := keeps_upd h rfl rfl rfl rfl rfl
  clear_value z4
  extract_lets -underBinder +onlyGivenNames z6
  clear_value z6
  refine keeps_ite ?_ ?_
  · extract_lets -underBinder +onlyGivenNames z7
    clear_value z7
    exact State.fsetB_keeps (keeps_upd h5 rfl rfl rfl rfl rfl)
  · exact h5

theorem State.wideSet_keeps {s0 : State} {s : State} {x1 : Nat} {x2 : Nat} (h : Keeps s0 s) :
    Keeps s0 (State.wideSet s x1 x2) :=
  State.wr_keeps (State.wr_keeps h)

theorem State.clearCount_keeps {s0 : State} {s : State} {x1 : Nat} (h : Keeps s0 s) :
    Keeps s0 (State.clearCount s x1) :=
  State.wideSet_keeps h

theorem State.count_keeps {s0 : State} {s : State} {x1 : Nat} {x2 : Nat} (h : Keeps s0 s) :
    Keeps s0 (State.count s x1 x2) :=
  State.wideSet_keeps h

theorem State.liveWr_keeps {s0 : State} {s : State} {x1 : Nat} {x2 : Word} (h : Keeps s0 s) :
    Keeps s0 (State.liveWr s x1 x2) := by
  exact ⟨h.1, h.2.1, fun c => ⟨(h.2.2 c).1, (h.2.2 c).2.1, canon_put _ _ _ _ (h.2.2 c).2.2⟩⟩

theorem State.msqSet_keeps {s0 : State} {s : State} {x1 : Act} {x2 : MsqSt} (h : Keeps s0 s) :
    Keeps s0 (State.msqSet s x1 x2) :=
  keeps_upd h rfl rfl rfl rfl rfl

theorem State.putBytes_keeps {s0 : State} {s : State} {x1 : Nat} {x2 : List Byte} (h : Keeps s0 s) :
    Keeps s0 (State.putBytes s x1 x2) := by
  exact ⟨h.1, h.2.1, fun c => ⟨putBytes_wf _ _ _ (h.2.2 c).1, (h.2.2 c).2⟩⟩

theorem State.rwcSet_keeps {s0 : State} {s : State} {x1 : Act} {x2 : RwcSt} (h : Keeps s0 s) :
    Keeps s0 (State.rwcSet s x1 x2) :=
  keeps_upd h rfl rfl rfl rfl rfl

theorem State.sacSet_keeps {s0 : State} {s : State} {x1 : Act} {x2 : SacSt} (h : Keeps s0 s) :
    Keeps s0 (State.sacSet s x1 x2) :=
  keeps_upd h rfl rfl rfl rfl rfl

theorem State.setByte_keeps {s0 : State} {s : State} {x1 : Nat} {x2 : Byte} (h : Keeps s0 s) :
    Keeps s0 (State.setByte s x1 x2) := by
  exact ⟨h.1, h.2.1, fun c => ⟨setByte_wf _ _ _ (h.2.2 c).1, (h.2.2 c).2⟩⟩

theorem State.setBytes_keeps {s0 : State} {s : State} {x1 : Nat} {x2 : List Byte} (h : Keeps s0 s) :
    Keeps s0 (State.setBytes s x1 x2) :=
  State.checkBits_keeps (State.putBytes_keeps h)

theorem State.sset_keeps {s0 : State} {s : State} {x1 : Fld} {x2 : Int} (h : Keeps s0 s) :
    Keeps s0 (State.sset s x1 x2) :=
  State.fset_keeps h

theorem State.store_keeps {s0 : State} {s : State} {x1 : Nat} {x2 : Nat} {x3 : Nat} (h : Keeps s0 s) :
    Keeps s0 (State.store s x1 x2 x3) :=
  State.setBytes_keeps h

theorem State.tick_keeps {s0 : State} {s : State} (h : Keeps s0 s) :
    Keeps s0 (State.tick s) := by
  exact ⟨h.1, Nat.le_succ_of_le h.2.1, h.2.2⟩

/-! Flags -/

theorem State.bokBusy_keeps {s0 : State} {s : State} (h : Keeps s0 s) :
    Keeps s0 (State.bokBusy s) :=
  State.fset_keeps (State.fsetB_keeps h)

theorem State.queueRecord_keeps {s0 : State} {s : State} {x1 : BokRec} (h : Keeps s0 s) :
    Keeps s0 (State.queueRecord s x1) := by
  unfold State.queueRecord
  refine keeps_ite ?_ ?_
  · exact State.count_keeps h
  · extract_lets -underBinder +onlyGivenNames z1 z2
    clear_value z1 z2
    exact State.bokBusy_keeps (keeps_upd h rfl rfl rfl rfl rfl)

theorem State.raiseFault_keeps {s0 : State} {s : State} {x1 : Nat} {x2 : Nat} {x3 : Nat} {x4 : Nat} {x5 : Nat} {x6 : Bool} (h : Keeps s0 s) :
    Keeps s0 (State.raiseFault s x1 x2 x3 x4 x5 x6) := by
  unfold State.raiseFault
  extract_lets -underBinder +onlyGivenNames z1 z2 z3 z4
  clear_value z1 z2 z3 z4
  extract_lets -underBinder +onlyGivenNames z5
  have h6 : Keeps s0 z5 := keeps_upd h rfl rfl rfl rfl rfl
  clear_value z5
  exact keeps_ite (State.fset_keeps h6) h6

theorem State.raiseEvent_keeps {s0 : State} {s : State} {x1 : Nat} (h : Keeps s0 s) :
    Keeps s0 (State.raiseEvent s x1) :=
  keeps_ite (keeps_upd h rfl rfl rfl rfl rfl) h

theorem State.offerRecord_keeps {s0 : State} {s : State} {x1 : BitVec 16} {x2 : BitVec 64} {x3 : Bool} {x4 : Bool} {x5 : Bool} (h : Keeps s0 s) :
    Keeps s0 (State.offerRecord s x1 x2 x3 x4 x5) := by
  unfold State.offerRecord
  extract_lets -underBinder +onlyGivenNames z1
  clear_value z1
  refine keeps_ite ?_ ?_
  · exact State.queueRecord_keeps h
  · extract_lets -underBinder +onlyGivenNames z2 z3 z4
    clear_value z2 z3 z4
    split
    · extract_lets -underBinder +onlyGivenNames z5
      clear_value z5
      exact keeps_ite (State.count_keeps (keeps_upd h rfl rfl rfl rfl rfl)) (State.queueRecord_keeps (keeps_upd h rfl rfl rfl rfl rfl))
    · extract_lets -underBinder +onlyGivenNames z6
      have h7 : ∀ b0, Keeps s0 (z6 b0) := fun _ => State.queueRecord_keeps (keeps_upd h rfl rfl rfl rfl rfl)
      clear_value z6
      refine keeps_ite ?_ ?_
      · exact h7 _
      · split
        · exact h7 _
        · exact State.raiseFault_keeps (State.raiseEvent_keeps (State.fset_keeps (State.queueRecord_keeps h)))

theorem State.blockRecord_keeps {s0 : State} {s : State} {x1 : Nat} {x2 : Nat} {x3 : Nat} {x4 : BitVec 64} (h : Keeps s0 s) :
    Keeps s0 (State.blockRecord s x1 x2 x3 x4) :=
  State.offerRecord_keeps h

theorem State.seqEvent_keeps {s0 : State} {s : State} {x1 : Act} {x2 : Nat} (h : Keeps s0 s) :
    Keeps s0 (State.seqEvent s x1 x2) :=
  State.msqSet_keeps h

theorem State.seqEvents_keeps {s0 : State} {s : State} {x1 : Nat} (h : Keeps s0 s) :
    Keeps s0 (State.seqEvents s x1) :=
  State.seqEvent_keeps (State.seqEvent_keeps h)

theorem State.ttbEnter_keeps {s0 : State} {s : State} {x1 : Nat} (h : Keeps s0 s) :
    Keeps s0 (State.ttbEnter s x1) :=
  keeps_ite h (State.seqEvents_keeps (State.raiseEvent_keeps (State.fset_keeps h)))

/-! Hpost -/

theorem State.brlMap_keeps {s0 : State} {s : State} {x1 : BrlSt → BrlSt} (h : Keeps s0 s) :
    Keeps s0 (State.brlMap s x1) :=
  keeps_upd h rfl rfl rfl rfl rfl

theorem State.sendFrame_keeps {s0 : State} {s : State} {x1 : Nat} {x2 : Bool} {x3 : TxPkt} (h : Keeps s0 s) :
    Keeps s0 (State.sendFrame s x1 x2 x3) :=
  State.brlMap_keeps h

theorem State.sendPkt_keeps {s0 : State} {s : State} {x1 : TxPkt} (h : Keeps s0 s) :
    Keeps s0 (State.sendPkt s x1) := by
  unfold State.sendPkt
  refine keeps_ite ?_ ?_
  · extract_lets -underBinder +onlyGivenNames z1
    clear_value z1
    extract_lets -underBinder +onlyGivenNames z2
    have h3 : Keeps s0 z2 := State.brlMap_keeps h
    clear_value z2
    exact State.sendFrame_keeps h3
  · exact h

theorem State.sendData_keeps {s0 : State} {s : State} {x1 : Nat} {x2 : Nat} {x3 : List Byte} (h : Keeps s0 s) :
    Keeps s0 (State.sendData s x1 x2 x3) := by
  induction x2 generalizing s x1 x3 with
  | zero =>
    unfold State.sendData
    exact h
  | succ n ih =>
    unfold State.sendData
    exact keeps_ite h (ih (State.sendPkt_keeps h))

theorem State.hepMap_keeps {s0 : State} {s : State} {x1 : HepSt → HepSt} (h : Keeps s0 s) :
    Keeps s0 (State.hepMap s x1) :=
  keeps_upd h rfl rfl rfl rfl rfl

theorem State.portMap_keeps {s0 : State} {s : State} {x1 : Port} {x2 : PortSt → PortSt} (h : Keeps s0 s) :
    Keeps s0 (State.portMap s x1 x2) :=
  State.hepMap_keeps h

theorem State.bmepUpdate_keeps {s0 : State} {s : State} {x1 : Port} (h : Keeps s0 s) :
    Keeps s0 (State.bmepUpdate s x1) := by
  unfold State.bmepUpdate
  extract_lets -underBinder +onlyGivenNames z1
  clear_value z1
  exact State.fsetB_keeps h

theorem State.postCompletion_keeps {s0 : State} {s : State} {x1 : Cpl} (h : Keeps s0 s) :
    Keeps s0 (State.postCompletion s x1) := by
  unfold State.postCompletion
  extract_lets -underBinder +onlyGivenNames z1
  clear_value z1
  split
  · exact h
  · refine keeps_ite ?_ ?_
    · exact State.bmepUpdate_keeps (State.portMap_keeps h)
    · extract_lets -underBinder +onlyGivenNames z2
      have h3 : Keeps s0 z2 := State.hepMap_keeps h
      clear_value z2
      extract_lets -underBinder +onlyGivenNames z4 z5
      clear_value z4 z5
      exact State.portMap_keeps h3

theorem State.complete_keeps {s0 : State} {s : State} {x1 : CmdHdr} {x2 : Nat} {x3 : Nat} {x4 : List Byte} (h : Keeps s0 s) :
    Keeps s0 (State.complete s x1 x2 x3 x4) := by
  unfold State.complete
  refine keeps_ite ?_ ?_
  · exact h
  · refine keeps_ite ?_ ?_
    · exact State.sendPkt_keeps (State.sendData_keeps h)
    · extract_lets -underBinder +onlyGivenNames z1
      have h2 : Keeps s0 z1 := keeps_ite h (State.portMap_keeps h)
      clear_value z1
      exact State.postCompletion_keeps h2

theorem State.aerPump_keeps {s0 : State} {s : State} {x1 : Port} (h : Keeps s0 s) :
    Keeps s0 (State.aerPump s x1) := by
  unfold State.aerPump
  split
  · exact State.complete_keeps (State.portMap_keeps h)
  · exact h

theorem State.asyncEvent_keeps {s0 : State} {s : State} {x1 : Nat} {x2 : Nat} {x3 : Nat} {x4 : Nat} (h : Keeps s0 s) :
    Keeps s0 (State.asyncEvent s x1 x2 x3 x4) := by
  unfold State.asyncEvent
  extract_lets -underBinder +onlyGivenNames z1
  have h2 : ∀ b0 b1, Keeps s0 b0 → Keeps s0 (z1 b0 b1) := fun _ _ h5 => keeps_ite (State.aerPump_keeps (State.portMap_keeps h5)) h5
  clear_value z1
  exact h2 _ _ (h2 _ _ h)

theorem State.anaUpdate_keeps {s0 : State} {s : State} (h : Keeps s0 s) :
    Keeps s0 (State.anaUpdate s) := by
  unfold State.anaUpdate
  extract_lets -underBinder +onlyGivenNames z1
  clear_value z1
  extract_lets -underBinder +onlyGivenNames z2
  have h3 : Keeps s0 z2 := keeps_ite (State.asyncEvent_keeps h) h
  clear_value z2
  exact State.hepMap_keeps h3

theorem State.cqeMap_keeps {s0 : State} {s : State} {x1 : CqeSt → CqeSt} (h : Keeps s0 s) :
    Keeps s0 (State.cqeMap s x1) :=
  keeps_upd h rfl rfl rfl rfl rfl

theorem State.fetchPump_keeps {s0 : State} {s : State} {x1 : Port} {x2 : Nat} (h : Keeps s0 s) :
    Keeps s0 (State.fetchPump s x1 x2) := by
  induction x2 generalizing s with
  | zero =>
    unfold State.fetchPump
    exact h
  | succ n ih =>
    unfold State.fetchPump
    extract_lets -underBinder +onlyGivenNames z1
    clear_value z1
    split
    · exact keeps_ite (ih (State.portMap_keeps h)) h
    · exact h

theorem State.fetchData_keeps {s0 : State} {s : State} {x1 : Port} {x2 : Nat} {x3 : Nat} (h : Keeps s0 s) :
    Keeps s0 (State.fetchData s x1 x2 x3) :=
  State.bmepUpdate_keeps (State.fetchPump_keeps (State.portMap_keeps h))

theorem State.fetchDone_keeps {s0 : State} {s : State} {x1 : Port} {x2 : Nat} (h : Keeps s0 s) :
    Keeps s0 (State.fetchDone s x1 x2) :=
  State.bmepUpdate_keeps (State.fetchPump_keeps (State.portMap_keeps h))

theorem State.fetchDrop_keeps {s0 : State} {s : State} {x1 : Port} {x2 : Nat} (h : Keeps s0 s) :
    Keeps s0 (State.fetchDrop s x1 x2) :=
  State.bmepUpdate_keeps (State.portMap_keeps h)

theorem State.slotCount_keeps {s0 : State} {s : State} (h : Keeps s0 s) :
    Keeps s0 (State.slotCount s) :=
  State.fsetB_keeps (State.fset_keeps h)

theorem State.shutTry_keeps {s0 : State} {s : State} {x1 : Port} (h : Keeps s0 s) :
    Keeps s0 (State.shutTry s x1) := by
  unfold State.shutTry
  extract_lets -underBinder +onlyGivenNames z1
  clear_value z1
  refine keeps_ite ?_ ?_
  · extract_lets -underBinder +onlyGivenNames z2
    have h3 : Keeps s0 z2 := State.portMap_keeps h
    clear_value z2
    exact keeps_upd h3 rfl rfl rfl rfl rfl
  · exact h

theorem State.freeSlot_keeps {s0 : State} {s : State} {x1 : Nat} (h : Keeps s0 s) :
    Keeps s0 (State.freeSlot s x1) := by
  unfold State.freeSlot
  extract_lets -underBinder +onlyGivenNames z1
  have h2 : Keeps s0 z1 := State.slotCount_keeps (State.cqeMap_keeps h)
  clear_value z1
  exact State.shutTry_keeps (State.shutTry_keeps (State.fetchDrop_keeps (State.fetchDrop_keeps h2)))

theorem State.finish_keeps {s0 : State} {s : State} {x1 : Slot} {x2 : Nat} {x3 : Nat} {x4 : List Byte} (h : Keeps s0 s) :
    Keeps s0 (State.finish s x1 x2 x3 x4) :=
  keeps_ite (State.freeSlot_keeps h) (State.complete_keeps (State.freeSlot_keeps h))

theorem State.heldPump_keeps {s0 : State} {s : State} {x1 : Port} (h : Keeps s0 s) :
    Keeps s0 (State.heldPump s x1) := by
  unfold State.heldPump
  extract_lets -underBinder +onlyGivenNames z1
  clear_value z1
  exact State.bmepUpdate_keeps (keeps_foldl (fun _ _ h4 => State.postCompletion_keeps h4) (State.portMap_keeps h))

theorem State.sendSpst_keeps {s0 : State} {s : State} (h : Keeps s0 s) :
    Keeps s0 (State.sendSpst s) :=
  State.sendPkt_keeps h

theorem State.slotMap_keeps {s0 : State} {s : State} {x1 : Nat} {x2 : Slot → Slot} (h : Keeps s0 s) :
    Keeps s0 (State.slotMap s x1 x2) :=
  State.cqeMap_keeps h

theorem State.warnUpdate_keeps {s0 : State} {s : State} (h : Keeps s0 s) :
    Keeps s0 (State.warnUpdate s) := by
  unfold State.warnUpdate
  extract_lets -underBinder +onlyGivenNames z1 z2
  clear_value z1 z2
  extract_lets -underBinder +onlyGivenNames z3
  have h4 : Keeps s0 z3 := keeps_ite (State.asyncEvent_keeps h) h
  clear_value z3
  extract_lets -underBinder +onlyGivenNames z5
  have h6 : Keeps s0 z5 := keeps_ite (State.asyncEvent_keeps h4) h4
  clear_value z5
  extract_lets -underBinder +onlyGivenNames z7
  have h8 : Keeps s0 z7 := keeps_ite (State.asyncEvent_keeps h6) h6
  clear_value z7
  exact State.hepMap_keeps h8

/-! Cross -/

theorem State.ddpStatus_keeps {s0 : State} {s : State} (h : Keeps s0 s) :
    Keeps s0 (State.ddpStatus s) := by
  unfold State.ddpStatus
  extract_lets -underBinder +onlyGivenNames z1 z2 z3
  clear_value z1 z2 z3
  exact State.fset_keeps (State.fset_keeps (State.fset_keeps h))

theorem State.opMap_keeps {s0 : State} {s : State} {x1 : Act} {x2 : MsqOp → Bool} {x3 : MsqOp → MsqOp} (h : Keeps s0 s) :
    Keeps s0 (State.opMap s x1 x2 x3) := by
  unfold State.opMap
  extract_lets -underBinder +onlyGivenNames z1 z2
  clear_value z1 z2
  exact State.msqSet_keeps h

theorem State.postJob_keeps {s0 : State} {s : State} {x1 : Job} {x2 : Nat} (h : Keeps s0 s) :
    Keeps s0 (State.postJob s x1 x2) := by
  unfold State.postJob
  extract_lets -underBinder +onlyGivenNames z1
  have h2 : Keeps s0 z1 := State.store_keeps h
  clear_value z1
  extract_lets -underBinder +onlyGivenNames z3
  have h4 : Keeps s0 z3 := State.opMap_keeps h2
  clear_value z3
  extract_lets -underBinder +onlyGivenNames z5
  have h6 : Keeps s0 z5 := keeps_ite (State.count_keeps h4) (keeps_ite (State.count_keeps h4) (keeps_ite (State.count_keeps h4) h4))
  clear_value z5
  exact State.seqEvent_keeps (State.raiseEvent_keeps h6)

theorem State.endJob_keeps {s0 : State} {s : State} {x1 : Job} {x2 : Nat} (h : Keeps s0 s) :
    Keeps s0 (State.endJob s x1 x2) := by
  unfold State.endJob
  extract_lets -underBinder +onlyGivenNames z1
  clear_value z1
  extract_lets -underBinder +onlyGivenNames z2
  have h3 : Keeps s0 z2 := keeps_upd h rfl rfl rfl rfl rfl
  clear_value z2
  extract_lets -underBinder +onlyGivenNames z4
  have h5 : Keeps s0 z4 := by
    subst z4
    split
    · exact State.wr_keeps h3
    · exact h3
  clear_value z4
  exact State.ddpStatus_keeps (State.postJob_keeps h5)

theorem State.abortJobs_keeps {s0 : State} {s : State} {x1 : Job → Bool} {x2 : List Job} (h : Keeps s0 s) :
    Keeps s0 (State.abortJobs s x1 x2) := by
  induction x2 generalizing s with
  | nil =>
    unfold State.abortJobs
    exact h
  | cons y ys ih =>
    unfold State.abortJobs
    refine keeps_ite ?_ ?_
    · split
      · extract_lets -underBinder +onlyGivenNames z1
        clear_value z1
        exact ih (keeps_upd h rfl rfl rfl rfl rfl)
      · exact ih (State.endJob_keeps h)
    · exact ih h

theorem State.brakeDrive_keeps {s0 : State} {s : State} (h : Keeps s0 s) :
    Keeps s0 (State.brakeDrive s) :=
  keeps_upd h rfl rfl rfl rfl rfl

theorem State.chDone_keeps {s0 : State} {s : State} {x1 : Act} (h : Keeps s0 s) :
    Keeps s0 (State.chDone s x1) := by
  unfold State.chDone
  extract_lets -underBinder +onlyGivenNames z1
  clear_value z1
  split
  · exact h
  · extract_lets -underBinder +onlyGivenNames z2
    clear_value z2
    extract_lets -underBinder +onlyGivenNames z3
    have h4 : Keeps s0 z3 := State.rwcSet_keeps h
    clear_value z3
    extract_lets -underBinder +onlyGivenNames z5
    have h6 : Keeps s0 z5 := State.fsetB_keeps (State.fsetB_keeps h4)
    clear_value z5
    extract_lets -underBinder +onlyGivenNames z7
    clear_value z7
    extract_lets -underBinder +onlyGivenNames z8
    have h9 : Keeps s0 z8 := keeps_ite (State.msqSet_keeps h6) (State.opMap_keeps h6)
    clear_value z8
    exact State.seqEvent_keeps h9

theorem State.handWord_keeps {s0 : State} {s : State} {x1 : Act} {x2 : Nat} {x3 : BitVec 64} (h : Keeps s0 s) :
    Keeps s0 (State.handWord s x1 x2 x3) := by
  unfold State.handWord
  extract_lets -underBinder +onlyGivenNames z1
  clear_value z1
  extract_lets -underBinder +onlyGivenNames z2
  have h3 : Keeps s0 z2 := State.count_keeps h
  clear_value z2
  extract_lets -underBinder +onlyGivenNames z4
  have h5 : Keeps s0 z4 := keeps_ite (State.count_keeps h3) h3
  clear_value z4
  extract_lets -underBinder +onlyGivenNames z6
  clear_value z6
  split
  · exact h5
  · exact State.opMap_keeps (State.store_keeps h5)

theorem State.handBlanks_keeps {s0 : State} {s : State} {x1 : Act} {x2 : Nat} {x3 : Nat} {x4 : Nat} (h : Keeps s0 s) :
    Keeps s0 (State.handBlanks s x1 x2 x3 x4) := by
  induction x4 generalizing s x2 x3 with
  | zero =>
    unfold State.handBlanks
    exact h
  | succ n ih =>
    unfold State.handBlanks
    exact ih (State.handWord_keeps h)

theorem State.settleTransfer_keeps {s0 : State} {s : State} {x1 : Act} (h : Keeps s0 s) :
    Keeps s0 (State.settleTransfer s x1) := by
  unfold State.settleTransfer
  extract_lets -underBinder +onlyGivenNames z1
  clear_value z1
  split
  · exact h
  · refine keeps_ite ?_ ?_
    · exact h
    · split
      · exact keeps_ite (State.chDone_keeps h) h
      · exact keeps_ite (State.chDone_keeps h) h
      · exact keeps_ite (keeps_ite (State.chDone_keeps (State.handBlanks_keeps h)) h) (keeps_ite (State.chDone_keeps h) h)

theorem State.stopTransfer_keeps {s0 : State} {s : State} {x1 : Act} (h : Keeps s0 s) :
    Keeps s0 (State.stopTransfer s x1) := by
  unfold State.stopTransfer
  extract_lets -underBinder +onlyGivenNames z1
  clear_value z1
  split
  · exact h
  · exact State.settleTransfer_keeps (State.rwcSet_keeps h)

theorem State.forceOff_keeps {s0 : State} {s : State} {x1 : Act} (h : Keeps s0 s) :
    Keeps s0 (State.forceOff s x1) := by
  unfold State.forceOff
  extract_lets -underBinder +onlyGivenNames z1
  clear_value z1
  split
  · exact keeps_ite (State.stopTransfer_keeps (State.fsetB_keeps (State.rwcSet_keeps h))) h
  · exact h

theorem State.spcParked_keeps {s0 : State} {s : State} (h : Keeps s0 s) :
    Keeps s0 (State.spcParked s) := by
  unfold State.spcParked
  refine keeps_ite ?_ ?_
  · extract_lets -underBinder +onlyGivenNames z1
    have h2 : Keeps s0 z1 := State.fsetB_keeps h
    clear_value z1
    exact keeps_ite (State.brakeDrive_keeps h2) h2
  · exact h

theorem State.permUpdate_keeps {s0 : State} {s : State} {x1 : Act} (h : Keeps s0 s) :
    Keeps s0 (State.permUpdate s x1) := by
  unfold State.permUpdate
  extract_lets -underBinder +onlyGivenNames z1
  clear_value z1
  extract_lets -underBinder +onlyGivenNames z2
  have h3 : Keeps s0 z2 := State.fsetB_keeps h
  clear_value z2
  exact keeps_ite h3 (State.forceOff_keeps h3)

theorem State.sacEnter_keeps {s0 : State} {s : State} {x1 : Act} {x2 : Nat} (h : Keeps s0 s) :
    Keeps s0 (State.sacEnter s x1 x2) := by
  unfold State.sacEnter
  refine keeps_ite ?_ ?_
  · exact h
  · extract_lets -underBinder +onlyGivenNames z1
    have h2 : Keeps s0 z1 := State.seqEvent_keeps (State.raiseEvent_keeps (State.fset_keeps h))
    clear_value z1
    extract_lets -underBinder +onlyGivenNames z3
    have h4 : Keeps s0 z3 := keeps_ite h2 (State.fsetB_keeps h2)
    clear_value z3
    extract_lets -underBinder +onlyGivenNames z5
    have h6 : Keeps s0 z5 := State.fsetB_keeps h4
    clear_value z5
    extract_lets -underBinder +onlyGivenNames z7
    have h8 : Keeps s0 z7 := keeps_ite (State.fsetB_keeps h6) h6
    clear_value z7
    exact State.spcParked_keeps (State.permUpdate_keeps h8)

theorem State.stopSoft_keeps {s0 : State} {s : State} {x1 : Act} {x2 : Bool} (h : Keeps s0 s) :
    Keeps s0 (State.stopSoft s x1 x2) := by
  unfold State.stopSoft
  extract_lets -underBinder +onlyGivenNames z1
  clear_value z1
  split
  · exact h
  · extract_lets -underBinder +onlyGivenNames z2 z3 z4 z5
    clear_value z2 z3 z4 z5
    exact State.settleTransfer_keeps (State.rwcSet_keeps h)

theorem State.msqCounts_keeps {s0 : State} {s : State} {x1 : Act} (h : Keeps s0 s) :
    Keeps s0 (State.msqCounts s x1) :=
  State.fset_keeps (State.fset_keeps h)

theorem State.postCpl_keeps {s0 : State} {s : State} {x1 : Act} {x2 : List Word} {x3 : Nat} {x4 : Nat} {x5 : Nat} {x6 : Nat} {x7 : Bool} {x8 : Word} (h : Keeps s0 s) :
    Keeps s0 (State.postCpl s x1 x2 x3 x4 x5 x6 x7 x8) := by
  unfold State.postCpl
  extract_lets -underBinder +onlyGivenNames z1 z2
  clear_value z1 z2
  extract_lets -underBinder +onlyGivenNames z3
  have h4 : Keeps s0 z3 := keeps_ite (State.msqSet_keeps h) (State.msqSet_keeps h)
  clear_value z3
  extract_lets -underBinder +onlyGivenNames z5
  have h6 : Keeps s0 z5 := State.count_keeps h4
  clear_value z5
  extract_lets -underBinder +onlyGivenNames z7
  have h8 : Keeps s0 z7 := keeps_ite (State.count_keeps h6) h6
  clear_value z7
  exact State.msqCounts_keeps h8

theorem State.haltOps_keeps {s0 : State} {s : State} {x1 : Act} {x2 : Nat} {x3 : Bool} {x4 : List MsqOp} (h : Keeps s0 s) :
    Keeps s0 (State.haltOps s x1 x2 x3 x4) := by
  induction x4 generalizing s x2 with
  | nil =>
    unfold State.haltOps
    exact h
  | cons y ys ih =>
    unfold State.haltOps
    exact ih (State.postCpl_keeps h)

theorem State.haltDrain_keeps {s0 : State} {s : State} {x1 : Act} {x2 : Nat} (h : Keeps s0 s) :
    Keeps s0 (State.haltDrain s x1 x2) := by
  induction x2 generalizing s with
  | zero =>
    unfold State.haltDrain
    exact h
  | succ n ih =>
    unfold State.haltDrain
    extract_lets -underBinder +onlyGivenNames z1
    clear_value z1
    split
    · exact h
    · exact keeps_ite (ih (State.postCpl_keeps (State.msqSet_keeps h))) h

theorem State.hardStop_keeps {s0 : State} {s : State} {x1 : Act} (h : Keeps s0 s) :
    Keeps s0 (State.hardStop s x1) := by
  unfold State.hardStop
  refine keeps_ite ?_ ?_
  · exact h
  · extract_lets -underBinder +onlyGivenNames z1 z2 z3
    clear_value z1 z2 z3
    extract_lets -underBinder +onlyGivenNames z4
    have h5 : Keeps s0 z4 := State.msqSet_keeps h
    clear_value z4
    extract_lets -underBinder +onlyGivenNames z6
    have h7 : Keeps s0 z6 := State.stopSoft_keeps (State.forceOff_keeps h5)
    clear_value z6
    extract_lets -underBinder +onlyGivenNames z8
    have h9 : Keeps s0 z8 := State.fsetB_keeps (State.fsetB_keeps (State.fsetB_keeps h7))
    clear_value z8
    extract_lets -underBinder +onlyGivenNames z10
    have h11 : Keeps s0 z10 := State.fsetB_keeps (State.fset_keeps h9)
    clear_value z10
    extract_lets -underBinder +onlyGivenNames z12
    clear_value z12
    extract_lets -underBinder +onlyGivenNames z13
    have h14 : Keeps s0 z13 := State.msqSet_keeps h11
    clear_value z13
    extract_lets -underBinder +onlyGivenNames z15
    have h16 : Keeps s0 z15 := State.haltOps_keeps h14
    clear_value z15
    exact State.haltDrain_keeps h16

theorem State.bufferStop_keeps {s0 : State} {s : State} {x1 : Act} (h : Keeps s0 s) :
    Keeps s0 (State.bufferStop s x1) := by
  unfold State.bufferStop
  refine keeps_ite ?_ ?_
  · exact h
  · extract_lets -underBinder +onlyGivenNames z1
    have h2 : Keeps s0 z1 := State.forceOff_keeps h
    clear_value z1
    extract_lets -underBinder +onlyGivenNames z3
    clear_value z3
    extract_lets -underBinder +onlyGivenNames z4
    have h5 : Keeps s0 z4 := State.sacSet_keeps h2
    clear_value z4
    extract_lets -underBinder +onlyGivenNames z6
    have h7 : Keeps s0 z6 := State.fsetB_keeps (State.sacEnter_keeps h5)
    clear_value z6
    extract_lets -underBinder +onlyGivenNames z8
    have h9 : Keeps s0 z8 := State.hardStop_keeps h7
    clear_value z8
    exact State.abortJobs_keeps h9

theorem State.bufferStopBoth_keeps {s0 : State} {s : State} (h : Keeps s0 s) :
    Keeps s0 (State.bufferStopBoth s) :=
  State.bufferStop_keeps (State.bufferStop_keeps h)

theorem State.dac_keeps {s0 : State} {s : State} {x1 : Act} {x2 : Int} {x3 : Int} (h : Keeps s0 s) :
    Keeps s0 (State.dac s x1 x2 x3) :=
  State.sset_keeps (State.sset_keeps h)

theorem State.setSpeed_keeps {s0 : State} {s : State} {x1 : Int} (h : Keeps s0 s) :
    Keeps s0 (State.setSpeed s x1) :=
  State.sset_keeps h

theorem State.readInhibit_keeps {s0 : State} {s : State} {x1 : Act} (h : Keeps s0 s) :
    Keeps s0 (State.readInhibit s x1) := by
  unfold State.readInhibit
  split
  · exact keeps_ite h (State.stopSoft_keeps h)
  · exact h

theorem State.permBoth_keeps {s0 : State} {s : State} (h : Keeps s0 s) :
    Keeps s0 (State.permBoth s) :=
  State.permUpdate_keeps (State.permUpdate_keeps h)

theorem State.inhUpdate_keeps {s0 : State} {s : State} (h : Keeps s0 s) :
    Keeps s0 (State.inhUpdate s) := by
  unfold State.inhUpdate
  extract_lets -underBinder +onlyGivenNames z1 z2 z3 z4 z5 z6
  clear_value z1 z2 z3 z4 z5 z6
  extract_lets -underBinder +onlyGivenNames z7
  have h8 : Keeps s0 z7 := State.fsetB_keeps (State.fsetB_keeps h)
  clear_value z7
  extract_lets -underBinder +onlyGivenNames z9
  have h10 : Keeps s0 z9 := keeps_ite (State.forceOff_keeps (State.forceOff_keeps h8)) h8
  clear_value z9
  extract_lets -underBinder +onlyGivenNames z11
  have h12 : Keeps s0 z11 := keeps_ite (State.readInhibit_keeps (State.readInhibit_keeps h10)) h10
  clear_value z11
  exact State.permBoth_keeps h12

theorem State.spcEnter_keeps {s0 : State} {s : State} {x1 : Nat} (h : Keeps s0 s) :
    Keeps s0 (State.spcEnter s x1) := by
  unfold State.spcEnter
  refine keeps_ite ?_ ?_
  · exact h
  · extract_lets -underBinder +onlyGivenNames z1
    have h2 : Keeps s0 z1 := State.raiseEvent_keeps (State.fset_keeps h)
    clear_value z1
    extract_lets -underBinder +onlyGivenNames z3
    clear_value z3
    extract_lets -underBinder +onlyGivenNames z4
    have h5 : Keeps s0 z4 := keeps_ite h2 (State.fsetB_keeps (keeps_upd h2 rfl rfl rfl rfl rfl))
    clear_value z4
    extract_lets -underBinder +onlyGivenNames z6
    clear_value z6
    extract_lets -underBinder +onlyGivenNames z7
    have h8 : Keeps s0 z7 := keeps_upd h5 rfl rfl rfl rfl rfl
    clear_value z7
    extract_lets -underBinder +onlyGivenNames z9
    have h10 : Keeps s0 z9 := keeps_ite (State.fsetB_keeps h8) h8
    clear_value z9
    extract_lets -underBinder +onlyGivenNames z11
    have h12 : Keeps s0 z11 := keeps_ite (State.setSpeed_keeps h10) h10
    clear_value z11
    extract_lets -underBinder +onlyGivenNames z13
    have h14 : Keeps s0 z13 := keeps_ite h12 (State.fsetB_keeps h12)
    clear_value z13
    extract_lets -underBinder +onlyGivenNames z15
    have h16 : Keeps s0 z15 := State.inhUpdate_keeps h14
    clear_value z15
    exact keeps_ite (State.sendSpst_keeps h16) h16

theorem State.fence_keeps {s0 : State} {s : State} (h : Keeps s0 s) :
    Keeps s0 (State.fence s) := by
  unfold State.fence
  refine keeps_ite ?_ ?_
  · exact h
  · extract_lets -underBinder +onlyGivenNames z1
    have h2 : Keeps s0 z1 := State.sendPkt_keeps (State.fsetB_keeps h)
    clear_value z1
    extract_lets -underBinder +onlyGivenNames z3
    have h4 : Keeps s0 z3 := State.brlMap_keeps (State.fsetB_keeps h2)
    clear_value z3
    extract_lets -underBinder +onlyGivenNames z5
    have h6 : Keeps s0 z5 := State.bufferStopBoth_keeps h4
    clear_value z5
    extract_lets -underBinder +onlyGivenNames z7
    have h8 : Keeps s0 z7 := State.spcEnter_keeps h6
    clear_value z7
    extract_lets -underBinder +onlyGivenNames z9
    clear_value z9
    extract_lets -underBinder +onlyGivenNames z10
    have h11 : Keeps s0 z10 := keeps_ite (keeps_upd h8 rfl rfl rfl rfl rfl) (State.fsetB_keeps (State.fset_keeps h6))
    clear_value z10
    extract_lets -underBinder +onlyGivenNames z12
    have h13 : Keeps s0 z12 := keeps_ite h11 (State.fset_keeps h11)
    clear_value z12
    exact State.anaUpdate_keeps (State.raiseEvent_keeps (State.raiseFault_keeps h13))

end Sys2Proof.Machine
end

