-- ==== Sys2Proof/Laws/KeepsMotion.lean ====
section
/-! SUPPORT. What the operations and meanings of Machine/Ttb.lean, Machine/Spc.lean, Machine/Sac.lean leave alone: `Keeps` (Laws/Keeps.lean) of each, in the order of
their files. -/
namespace Sys2Proof.Machine

/-! Ttb -/

theorem State.stepForward_keeps {s0 : State} {s : State} {x1 : Nat} (h : Keeps s0 s) :
    Keeps s0 (State.stepForward s x1) := by
  unfold State.stepForward
  refine keeps_ite ?_ ?_
  · exact h
  · extract_lets -underBinder +onlyGivenNames z1 z2
    clear_value z1 z2
    exact State.fsetB_keeps (keeps_upd h rfl rfl rfl rfl rfl)

theorem State.revIndex_keeps {s0 : State} {s : State} {x1 : Angle} (h : Keeps s0 s) :
    Keeps s0 (State.revIndex s x1) := by
  unfold State.revIndex
  split
  · exact keeps_ite h (State.stepForward_keeps (keeps_upd h rfl rfl rfl rfl rfl))
  · exact h

theorem State.angleTo_keeps {s0 : State} {s : State} {x1 : Angle} (h : Keeps s0 s) :
    Keeps s0 (State.angleTo s x1) :=
  keeps_ite h (State.revIndex_keeps (keeps_upd h rfl rfl rfl rfl rfl))

theorem State.autoSwitch_keeps {s0 : State} {s : State} (h : Keeps s0 s) :
    Keeps s0 (State.autoSwitch s) := by
  unfold State.autoSwitch
  extract_lets -underBinder +onlyGivenNames z1 z2 z3 z4
  clear_value z1 z2 z3 z4
  refine keeps_ite ?_ ?_
  · extract_lets -underBinder +onlyGivenNames z5
    clear_value z5
    exact State.fset_keeps (State.fset_keeps (keeps_upd h rfl rfl rfl rfl rfl))
  · exact h

theorem State.cycle_keeps {s0 : State} {s : State} (h : Keeps s0 s) :
    Keeps s0 (State.cycle s) := by
  unfold State.cycle
  extract_lets -underBinder +onlyGivenNames z1 z2 z3 z4 z5 z6 z7
  clear_value z1 z2 z3 z4 z5 z6 z7
  extract_lets -underBinder +onlyGivenNames z8
  have h9 : Keeps s0 z8 := keeps_upd h rfl rfl rfl rfl rfl
  clear_value z8
  extract_lets -underBinder +onlyGivenNames z10
  have h11 : Keeps s0 z10 := State.revIndex_keeps h9
  clear_value z10
  exact keeps_ite (State.fset_keeps h11) h11

theorem State.loopCorrect_keeps {s0 : State} {s : State} {x1 : Int} (h : Keeps s0 s) :
    Keeps s0 (State.loopCorrect s x1) := by
  unfold State.loopCorrect
  extract_lets -underBinder +onlyGivenNames z1 z2 z3 z4 z5
  clear_value z1 z2 z3 z4 z5
  exact State.fset_keeps (keeps_upd h rfl rfl rfl rfl rfl)

theorem State.samAccept_keeps {s0 : State} {s : State} {x1 : Int} (h : Keeps s0 s) :
    Keeps s0 (State.samAccept s x1) :=
  State.sset_keeps (keeps_upd h rfl rfl rfl rfl rfl)

theorem State.slewEnd_keeps {s0 : State} {s : State} (h : Keeps s0 s) :
    Keeps s0 (State.slewEnd s) :=
  keeps_ite h (State.fset_keeps (keeps_upd h rfl rfl rfl rfl rfl))

theorem State.setInc_keeps {s0 : State} {s : State} {x1 : Int} (h : Keeps s0 s) :
    Keeps s0 (State.setInc s x1) :=
  State.fset_keeps (keeps_upd h rfl rfl rfl rfl rfl)

theorem State.samAcquire_keeps {s0 : State} {s : State} {x1 : Int} {x2 : Bool} (h : Keeps s0 s) :
    Keeps s0 (State.samAcquire s x1 x2) := by
  unfold State.samAcquire
  refine keeps_ite ?_ ?_
  · extract_lets -underBinder +onlyGivenNames z1
    have h2 : Keeps s0 z1 := State.slewEnd_keeps (State.samAccept_keeps h)
    clear_value z1
    extract_lets -underBinder +onlyGivenNames z3 z4
    clear_value z3 z4
    extract_lets -underBinder +onlyGivenNames z5
    have h6 : Keeps s0 z5 := keeps_upd h2 rfl rfl rfl rfl rfl
    clear_value z5
    refine keeps_ite ?_ ?_
    · exact State.stepForward_keeps h6
    · refine keeps_ite ?_ ?_
      · extract_lets -underBinder +onlyGivenNames z7
        clear_value z7
        extract_lets -underBinder +onlyGivenNames z8
        have h9 : Keeps s0 z8 := keeps_upd h6 rfl rfl rfl rfl rfl
        clear_value z8
        exact State.setInc_keeps h9
      · exact State.stepForward_keeps h6
  · exact keeps_upd h rfl rfl rfl rfl rfl

theorem State.ttbRate_keeps {s0 : State} {s : State} (h : Keeps s0 s) :
    Keeps s0 (State.ttbRate s) := by
  unfold State.ttbRate
  extract_lets -underBinder +onlyGivenNames z1 z2
  clear_value z1 z2
  extract_lets -underBinder +onlyGivenNames z3
  have h4 : Keeps s0 z3 := keeps_ite h (keeps_upd h rfl rfl rfl rfl rfl)
  clear_value z3
  exact keeps_ite (State.setInc_keeps h4) (keeps_ite (State.setInc_keeps h4) h4)

theorem State.ttbCtlWrite_keeps {s0 : State} {s : State} {x1 : Word} (h : Keeps s0 s) :
    Keeps s0 (State.ttbCtlWrite s x1) := by
  unfold State.ttbCtlWrite
  extract_lets -underBinder +onlyGivenNames z1
  clear_value z1
  extract_lets -underBinder +onlyGivenNames z2
  have h3 : Keeps s0 z2 := State.fsetB_keeps h
  clear_value z2
  extract_lets -underBinder +onlyGivenNames z4
  clear_value z4
  extract_lets -underBinder +onlyGivenNames z5
  have h6 : Keeps s0 z5 := keeps_ite (State.fset_keeps (keeps_upd h3 rfl rfl rfl rfl rfl)) h3
  clear_value z5
  extract_lets -underBinder +onlyGivenNames z7
  have h8 : Keeps s0 z7 := State.fsetB_keeps h6
  clear_value z7
  exact keeps_ite (keeps_ite (State.ttbRate_keeps (State.inhUpdate_keeps (State.ttbEnter_keeps (keeps_upd h8 rfl rfl rfl rfl rfl)))) h8) (State.fset_keeps (State.inhUpdate_keeps (State.ttbEnter_keeps (keeps_upd h8 rfl rfl rfl rfl rfl))))

theorem State.ttbSnapWrite_keeps {s0 : State} {s : State} {x1 : Word} (h : Keeps s0 s) :
    Keeps s0 (State.ttbSnapWrite s x1) := by
  unfold State.ttbSnapWrite
  extract_lets -underBinder +onlyGivenNames z1
  have h2 : Keeps s0 z1 := keeps_ite (State.wideSet_keeps (State.wideSet_keeps h)) h
  clear_value z1
  exact keeps_ite (State.clearCount_keeps h2) h2

theorem State.ttbStepStart_keeps {s0 : State} {s : State} (h : Keeps s0 s) :
    Keeps s0 (State.ttbStepStart s) :=
  State.seqEvents_keeps (State.inhUpdate_keeps (State.fsetB_keeps (keeps_upd h rfl rfl rfl rfl rfl)))

theorem execAngleSourceSelect_keeps {s0 : State} {x0 : Word} {s : State} (h : Keeps s0 s) :
    ∀ t, execAngleSourceSelect x0 s = .next t → Keeps s0 t :=
  fun _ ht => keeps_next ht (State.ttbCtlWrite_keeps h)

theorem flywheelEntryOp_keeps {s0 : State} {s : State} (h : Keeps s0 s) :
    Keeps s0 (flywheelEntryOp s) := by
  unfold flywheelEntryOp
  extract_lets -underBinder +onlyGivenNames z1
  clear_value z1
  refine keeps_ite ?_ ?_
  · extract_lets -underBinder +onlyGivenNames z2
    clear_value z2
    extract_lets -underBinder +onlyGivenNames z3
    have h4 : Keeps s0 z3 := keeps_upd h rfl rfl rfl rfl rfl
    clear_value z3
    exact State.autoSwitch_keeps (State.raiseFault_keeps (State.inhUpdate_keeps (State.ttbEnter_keeps h4)))
  · exact h

theorem execFlywheelEntry_keeps {s0 : State} {s : State} (h : Keeps s0 s) :
    ∀ t, execFlywheelEntry s = .next t → Keeps s0 t :=
  fun _ ht => keeps_next ht (flywheelEntryOp_keeps h)

theorem lostEntryOp_keeps {s0 : State} {s : State} (h : Keeps s0 s) :
    Keeps s0 (lostEntryOp s) := by
  unfold lostEntryOp
  refine keeps_ite ?_ ?_
  · extract_lets -underBinder +onlyGivenNames z1
    have h2 : Keeps s0 z1 := keeps_ite h (State.angleTo_keeps h)
    clear_value z1
    extract_lets -underBinder +onlyGivenNames z3
    have h4 : Keeps s0 z3 := State.slewEnd_keeps h2
    clear_value z3
    extract_lets -underBinder +onlyGivenNames z5
    clear_value z5
    extract_lets -underBinder +onlyGivenNames z6
    have h7 : Keeps s0 z6 := keeps_upd h4 rfl rfl rfl rfl rfl
    clear_value z6
    exact State.ttbRate_keeps (State.raiseFault_keeps (State.inhUpdate_keeps (State.ttbEnter_keeps h7)))
  · exact h

theorem execLostEntry_keeps {s0 : State} {s : State} (h : Keeps s0 s) :
    ∀ t, execLostEntry s = .next t → Keeps s0 t :=
  fun _ ht => keeps_next ht (lostEntryOp_keeps h)

theorem execMissCounterClear_keeps {s0 : State} {x0 : Word} {s : State} (h : Keeps s0 s) :
    ∀ t, execMissCounterClear x0 s = .next t → Keeps s0 t :=
  fun _ ht => keeps_next ht (State.ttbSnapWrite_keeps h)

theorem samDetectedOp_keeps {s0 : State} {x0 : Act} {x1 : Angle} {x2 : Fin 512} {x3 : Bool} {s : State} (h : Keeps s0 s) :
    Keeps s0 (samDetectedOp x0 x1 x2 x3 s) := by
  unfold samDetectedOp
  refine keeps_ite ?_ ?_
  · exact h
  · extract_lets -underBinder +onlyGivenNames z1 z2
    clear_value z1 z2
    extract_lets -underBinder +onlyGivenNames z3
    have h4 : Keeps s0 z3 := State.fset_keeps (State.angleTo_keeps h)
    clear_value z3
    extract_lets -underBinder +onlyGivenNames z5 z6
    clear_value z5 z6
    extract_lets -underBinder +onlyGivenNames z7
    have h8 : Keeps s0 z7 := keeps_ite (State.inhUpdate_keeps (State.ttbRate_keeps (State.ttbEnter_keeps (keeps_upd h4 rfl rfl rfl rfl rfl)))) h4
    clear_value z7
    refine keeps_ite ?_ ?_
    · refine keeps_ite ?_ ?_
      · extract_lets -underBinder +onlyGivenNames z9
        have h10 : Keeps s0 z9 := State.loopCorrect_keeps (State.samAccept_keeps h8)
        clear_value z9
        exact keeps_upd h10 rfl rfl rfl rfl rfl
      · exact h8
    · exact keeps_ite h8 (State.samAcquire_keeps h8)

theorem execSamDetected_keeps {s0 : State} {x0 : Act} {x1 : Angle} {x2 : Fin 512} {x3 : Bool} {s : State} (h : Keeps s0 s) :
    ∀ t, execSamDetected x0 x1 x2 x3 s = .next t → Keeps s0 t :=
  fun _ ht => keeps_next ht (samDetectedOp_keeps h)

theorem samMissedOp_keeps {s0 : State} {s : State} (h : Keeps s0 s) :
    Keeps s0 (samMissedOp s) := by
  unfold samMissedOp
  refine keeps_ite ?_ ?_
  · exact h
  · refine keeps_ite ?_ ?_
    · exact keeps_upd h rfl rfl rfl rfl rfl
    · extract_lets -underBinder +onlyGivenNames z1
      clear_value z1
      extract_lets -underBinder +onlyGivenNames z2
      have h3 : Keeps s0 z2 := keeps_upd h rfl rfl rfl rfl rfl
      clear_value z2
      refine keeps_ite ?_ ?_
      · extract_lets -underBinder +onlyGivenNames z4
        clear_value z4
        extract_lets -underBinder +onlyGivenNames z5
        have h6 : Keeps s0 z5 := keeps_upd h3 rfl rfl rfl rfl rfl
        clear_value z5
        exact State.fset_keeps (State.count_keeps h6)
      · exact h3

theorem execSamMissed_keeps {s0 : State} {s : State} (h : Keeps s0 s) :
    ∀ t, execSamMissed s = .next t → Keeps s0 t :=
  fun _ ht => keeps_next ht (samMissedOp_keeps h)

theorem execSnapshotCapture_keeps {s0 : State} {x0 : Word} {s : State} (h : Keeps s0 s) :
    ∀ t, execSnapshotCapture x0 s = .next t → Keeps s0 t :=
  fun _ ht => keeps_next ht (State.ttbSnapWrite_keeps h)

theorem stepEndOp_keeps {s0 : State} {s : State} (h : Keeps s0 s) :
    Keeps s0 (stepEndOp s) :=
  keeps_ite (State.inhUpdate_keeps (State.fsetB_keeps (keeps_upd h rfl rfl rfl rfl rfl))) h

theorem execStepEnd_keeps {s0 : State} {s : State} (h : Keeps s0 s) :
    ∀ t, execStepEnd s = .next t → Keeps s0 t :=
  fun _ ht => keeps_next ht (stepEndOp_keeps h)

theorem execTimetableDisable_keeps {s0 : State} {x0 : Word} {s : State} (h : Keeps s0 s) :
    ∀ t, execTimetableDisable x0 s = .next t → Keeps s0 t :=
  fun _ ht => keeps_next ht (State.ttbCtlWrite_keeps h)

theorem execTimetableEnable_keeps {s0 : State} {x0 : Word} {s : State} (h : Keeps s0 s) :
    ∀ t, execTimetableEnable x0 s = .next t → Keeps s0 t :=
  fun _ ht => keeps_next ht (State.ttbCtlWrite_keeps h)

theorem timetableLockOp_keeps {s0 : State} {s : State} (h : Keeps s0 s) :
    Keeps s0 (timetableLockOp s) := by
  unfold timetableLockOp
  extract_lets -underBinder +onlyGivenNames z1
  clear_value z1
  refine keeps_ite ?_ ?_
  · extract_lets -underBinder +onlyGivenNames z2
    have h3 : Keeps s0 z2 := State.slewEnd_keeps h
    clear_value z2
    extract_lets -underBinder +onlyGivenNames z4
    clear_value z4
    extract_lets -underBinder +onlyGivenNames z5
    have h6 : Keeps s0 z5 := keeps_upd h3 rfl rfl rfl rfl rfl
    clear_value z5
    exact State.inhUpdate_keeps (State.ttbEnter_keeps h6)
  · exact h

theorem execTimetableLock_keeps {s0 : State} {s : State} (h : Keeps s0 s) :
    ∀ t, execTimetableLock s = .next t → Keeps s0 t :=
  fun _ ht => keeps_next ht (timetableLockOp_keeps h)

theorem twinsyncClearOp_keeps {s0 : State} {s : State} (h : Keeps s0 s) :
    Keeps s0 (twinsyncClearOp s) := by
  unfold twinsyncClearOp
  refine keeps_ite ?_ ?_
  · extract_lets -underBinder +onlyGivenNames z1
    clear_value z1
    extract_lets -underBinder +onlyGivenNames z2
    have h3 : Keeps s0 z2 := keeps_upd h rfl rfl rfl rfl rfl
    clear_value z2
    exact State.raiseFault_keeps (State.inhUpdate_keeps (State.fsetB_keeps h3))
  · exact h

theorem execTwinsyncClear_keeps {s0 : State} {s : State} (h : Keeps s0 s) :
    ∀ t, execTwinsyncClear s = .next t → Keeps s0 t :=
  fun _ ht => keeps_next ht (twinsyncClearOp_keeps h)

theorem twinsyncSetOp_keeps {s0 : State} {s : State} (h : Keeps s0 s) :
    Keeps s0 (twinsyncSetOp s) :=
  keeps_ite (State.inhUpdate_keeps (State.fsetB_keeps h)) h

theorem execTwinsyncSet_keeps {s0 : State} {s : State} (h : Keeps s0 s) :
    ∀ t, execTwinsyncSet s = .next t → Keeps s0 t :=
  fun _ ht => keeps_next ht (twinsyncSetOp_keeps h)

/-! Spc -/

theorem State.bankChange_keeps {s0 : State} {s : State} {x1 : Act} (h : Keeps s0 s) :
    Keeps s0 (State.bankChange s x1) := by
  unfold State.bankChange
  extract_lets -underBinder +onlyGivenNames z1 z2
  clear_value z1 z2
  refine keeps_ite ?_ ?_
  · extract_lets -underBinder +onlyGivenNames z3 z4
    clear_value z3 z4
    exact keeps_ite (State.fset_keeps h) h
  · exact keeps_ite (State.fset_keeps h) h

theorem State.bankCopy_keeps {s0 : State} {s : State} {x1 : Act} {x2 : Nat} (h : Keeps s0 s) :
    Keeps s0 (State.bankCopy s x1 x2) := by
  induction x2 generalizing s with
  | zero =>
    unfold State.bankCopy
    exact State.sacSet_keeps h
  | succ n ih =>
    unfold State.bankCopy
    exact ih (State.liveWr_keeps h)

theorem State.bankBoundary_keeps {s0 : State} {s : State} {x1 : Act} (h : Keeps s0 s) :
    Keeps s0 (State.bankBoundary s x1) :=
  State.bankChange_keeps (keeps_ite (State.bankCopy_keeps h) h)

theorem State.bankIdle_keeps {s0 : State} {s : State} {x1 : Act} (h : Keeps s0 s) :
    Keeps s0 (State.bankIdle s x1) :=
  keeps_ite h (State.bankChange_keeps h)

theorem State.bankIdleBoth_keeps {s0 : State} {s : State} (h : Keeps s0 s) :
    Keeps s0 (State.bankIdleBoth s) :=
  State.bankIdle_keeps (State.bankIdle_keeps h)

theorem State.spcMap_keeps {s0 : State} {s : State} {x1 : SpcSt → SpcSt} (h : Keeps s0 s) :
    Keeps s0 (State.spcMap s x1) :=
  keeps_upd h rfl rfl rfl rfl rfl

theorem State.bridgeSet_keeps {s0 : State} {s : State} {x1 : Bridge} (h : Keeps s0 s) :
    Keeps s0 (State.bridgeSet s x1) :=
  State.spcMap_keeps h

theorem State.enterBrake_keeps {s0 : State} {s : State} {x1 : BrakeExit} (h : Keeps s0 s) :
    Keeps s0 (State.enterBrake s x1) := by
  unfold State.enterBrake
  extract_lets -underBinder +onlyGivenNames z1
  have h2 : Keeps s0 z1 := State.spcMap_keeps (State.spcEnter_keeps h)
  clear_value z1
  extract_lets -underBinder +onlyGivenNames z3
  have h4 : Keeps s0 z3 := keeps_ite (State.spcMap_keeps (State.bridgeSet_keeps h2)) (State.brakeDrive_keeps h2)
  clear_value z3
  exact State.ttbRate_keeps h4

theorem State.brakeThreshold_keeps {s0 : State} {s : State} (h : Keeps s0 s) :
    Keeps s0 (State.brakeThreshold s) :=
  keeps_ite (keeps_ite (State.enterBrake_keeps h) (keeps_ite (State.bridgeSet_keeps h) h)) h

theorem State.stepStart_keeps {s0 : State} {s : State} (h : Keeps s0 s) :
    Keeps s0 (State.stepStart s) :=
  State.ttbStepStart_keeps (State.fsetB_keeps (State.spcMap_keeps h))

theorem State.targetSet_keeps {s0 : State} {s : State} {x1 : Nat} (h : Keeps s0 s) :
    Keeps s0 (State.targetSet s x1) := by
  unfold State.targetSet
  refine keeps_ite ?_ ?_
  · exact h
  · extract_lets -underBinder +onlyGivenNames z1
    have h2 : Keeps s0 z1 := State.fset_keeps h
    clear_value z1
    extract_lets -underBinder +onlyGivenNames z3
    have h4 : Keeps s0 z3 := State.spcMap_keeps h2
    clear_value z3
    exact keeps_ite (keeps_ite (keeps_upd h4 rfl rfl rfl rfl rfl) (State.stepStart_keeps h4)) h4

theorem State.ceilingUpdate_keeps {s0 : State} {s : State} (h : Keeps s0 s) :
    Keeps s0 (State.ceilingUpdate s) := by
  unfold State.ceilingUpdate
  extract_lets -underBinder +onlyGivenNames z1
  have h2 : Keeps s0 z1 := State.fset_keeps h
  clear_value z1
  refine keeps_ite ?_ ?_
  · extract_lets -underBinder +onlyGivenNames z3
    have h4 : Keeps s0 z3 := State.brlMap_keeps h2
    clear_value z3
    exact keeps_ite (State.targetSet_keeps h4) (State.sendSpst_keeps (State.fset_keeps h4))
  · exact keeps_ite (State.targetSet_keeps h2) h2

theorem State.enterStopped_keeps {s0 : State} {s : State} (h : Keeps s0 s) :
    Keeps s0 (State.enterStopped s) :=
  State.ttbRate_keeps (State.spcMap_keeps (State.bridgeSet_keeps (State.spcEnter_keeps h)))

theorem State.enterAlign_keeps {s0 : State} {s : State} (h : Keeps s0 s) :
    Keeps s0 (State.enterAlign s) :=
  keeps_ite (State.enterStopped_keeps h) (State.spcMap_keeps (State.bridgeSet_keeps (State.spcEnter_keeps h)))

theorem State.enterHarvest_keeps {s0 : State} {s : State} {x1 : Bridge} (h : Keeps s0 s) :
    Keeps s0 (State.enterHarvest s x1) :=
  State.ttbRate_keeps (State.bridgeSet_keeps (State.spcEnter_keeps (State.fsetB_keeps (State.fsetB_keeps h))))

theorem State.enterRun_keeps {s0 : State} {s : State} (h : Keeps s0 s) :
    Keeps s0 (State.enterRun s) := by
  unfold State.enterRun
  extract_lets -underBinder +onlyGivenNames z1
  have h2 : Keeps s0 z1 := State.spcMap_keeps (State.bridgeSet_keeps (State.spcEnter_keeps h))
  clear_value z1
  extract_lets -underBinder +onlyGivenNames z3
  clear_value z3
  extract_lets -underBinder +onlyGivenNames z4
  have h5 : Keeps s0 z4 := keeps_upd h2 rfl rfl rfl rfl rfl
  clear_value z4
  exact State.ttbRate_keeps (keeps_ite h5 (State.stepStart_keeps h5))

theorem State.flywheelRate_keeps {s0 : State} {s : State} (h : Keeps s0 s) :
    Keeps s0 (State.flywheelRate s) := by
  unfold State.flywheelRate
  extract_lets -underBinder +onlyGivenNames z1
  clear_value z1
  refine keeps_ite ?_ ?_
  · extract_lets -underBinder +onlyGivenNames z2
    clear_value z2
    exact State.setInc_keeps h
  · exact h

theorem State.harvestCommand_keeps {s0 : State} {s : State} (h : Keeps s0 s) :
    Keeps s0 (State.harvestCommand s) := by
  unfold State.harvestCommand
  extract_lets -underBinder +onlyGivenNames z1
  have h2 : Keeps s0 z1 := State.spcMap_keeps h
  clear_value z1
  exact keeps_ite (keeps_ite (State.enterHarvest_keeps h2) (State.enterBrake_keeps (State.fsetB_keeps h2))) (keeps_ite (keeps_ite (State.enterHarvest_keeps h2) (State.enterBrake_keeps h2)) (keeps_ite (State.enterBrake_keeps h2) h2))

theorem State.harvestEnd_keeps {s0 : State} {s : State} (h : Keeps s0 s) :
    Keeps s0 (State.harvestEnd s) :=
  keeps_ite (State.enterBrake_keeps (State.fsetB_keeps h)) h

theorem State.safeBrake_keeps {s0 : State} {s : State} {x1 : Nat} {x2 : Bool} (h : Keeps s0 s) :
    Keeps s0 (State.safeBrake s x1 x2) := by
  unfold State.safeBrake
  extract_lets -underBinder +onlyGivenNames z1
  have h2 : Keeps s0 z1 := State.raiseFault_keeps h
  clear_value z1
  extract_lets -underBinder +onlyGivenNames z3
  have h4 : Keeps s0 z3 := State.spcMap_keeps (State.bridgeSet_keeps (State.spcEnter_keeps h2))
  clear_value z3
  exact State.ttbRate_keeps (State.spcParked_keeps (State.bufferStopBoth_keeps (State.fsetB_keeps h4)))

theorem State.overspeed_keeps {s0 : State} {s : State} {x1 : Bool} (h : Keeps s0 s) :
    Keeps s0 (State.overspeed s x1) := by
  unfold State.overspeed
  extract_lets -underBinder +onlyGivenNames z1
  have h2 : Keeps s0 z1 := State.fsetB_keeps h
  clear_value z1
  exact keeps_ite (State.bufferStopBoth_keeps (State.raiseFault_keeps h2)) (keeps_ite (State.raiseFault_keeps h2) (State.safeBrake_keeps h2))

theorem State.revolution_keeps {s0 : State} {s : State} {x1 : Nat} (h : Keeps s0 s) :
    Keeps s0 (State.revolution s x1) := by
  unfold State.revolution
  extract_lets -underBinder +onlyGivenNames z1 z2
  clear_value z1 z2
  refine keeps_ite ?_ ?_
  · exact State.spcMap_keeps h
  · extract_lets -underBinder +onlyGivenNames z3 z4
    clear_value z3 z4
    extract_lets -underBinder +onlyGivenNames z5
    have h6 : Keeps s0 z5 := State.spcMap_keeps h
    clear_value z5
    exact keeps_ite (State.fsetB_keeps (keeps_upd h6 rfl rfl rfl rfl rfl)) h6

theorem State.spinUp_keeps {s0 : State} {s : State} {x1 : Bool} (h : Keeps s0 s) :
    Keeps s0 (State.spinUp s x1) := by
  unfold State.spinUp
  extract_lets -underBinder +onlyGivenNames z1
  have h2 : Keeps s0 z1 := State.spcMap_keeps h
  clear_value z1
  exact keeps_ite (State.fset_keeps (State.bridgeSet_keeps (State.spcEnter_keeps h2))) (State.enterAlign_keeps (State.fset_keeps h2))

theorem State.spcCtlWrite_keeps {s0 : State} {s : State} {x1 : Word} (h : Keeps s0 s) :
    Keeps s0 (State.spcCtlWrite s x1) := by
  unfold State.spcCtlWrite
  extract_lets -underBinder +onlyGivenNames z1
  clear_value z1
  extract_lets -underBinder +onlyGivenNames z2
  have h3 : Keeps s0 z2 := State.fsetB_keeps (State.fsetB_keeps h)
  clear_value z2
  extract_lets -underBinder +onlyGivenNames z4
  have h5 : Keeps s0 z4 := keeps_ite (State.clearCount_keeps h3) h3
  clear_value z4
  refine keeps_ite ?_ ?_
  · exact keeps_ite (State.spinUp_keeps h5) h5
  · extract_lets -underBinder +onlyGivenNames z6
    have h7 : Keeps s0 z6 := State.spcMap_keeps h5
    clear_value z6
    exact keeps_ite (State.spcEnter_keeps (State.fsetB_keeps (State.spcMap_keeps h7))) (keeps_ite (State.enterBrake_keeps h7) h7)

theorem State.speedLoop_keeps {s0 : State} {s : State} (h : Keeps s0 s) :
    Keeps s0 (State.speedLoop s) := by
  unfold State.speedLoop
  extract_lets -underBinder +onlyGivenNames z1 z2 z3 z4 z5 z6 z7 z8 z9 z10 z11
  clear_value z1 z2 z3 z4 z5 z6 z7 z8 z9 z10 z11
  extract_lets -underBinder +onlyGivenNames z12
  have h13 : Keeps s0 z12 := State.spcMap_keeps h
  clear_value z12
  exact State.fsetB_keeps h13

theorem State.targetAsk_keeps {s0 : State} {s : State} {x1 : Nat} (h : Keeps s0 s) :
    Keeps s0 (State.targetAsk s x1) := by
  unfold State.targetAsk
  refine keeps_ite ?_ ?_
  · extract_lets -underBinder +onlyGivenNames z1
    have h2 : Keeps s0 z1 := State.brlMap_keeps h
    clear_value z1
    exact keeps_ite (State.targetSet_keeps h2) (State.sendSpst_keeps (State.fset_keeps h2))
  · exact State.targetSet_keeps h

theorem State.targetWrite_keeps {s0 : State} {s : State} {x1 : Word} (h : Keeps s0 s) :
    Keeps s0 (State.targetWrite s x1) := by
  unfold State.targetWrite
  extract_lets -underBinder +onlyGivenNames z1
  clear_value z1
  exact keeps_ite (State.targetAsk_keeps h) h

theorem alignEndOp_keeps {s0 : State} {s : State} (h : Keeps s0 s) :
    Keeps s0 (alignEndOp s) :=
  keeps_ite (State.ttbRate_keeps (State.spcMap_keeps (State.spcEnter_keeps h))) h

theorem bridgeFaultOp_keeps {s0 : State} {s : State} (h : Keeps s0 s) :
    Keeps s0 (bridgeFaultOp s) := by
  unfold bridgeFaultOp
  extract_lets -underBinder +onlyGivenNames z1
  have h2 : Keeps s0 z1 := State.fsetB_keeps (State.spcMap_keeps h)
  clear_value z1
  extract_lets -underBinder +onlyGivenNames z3
  have h4 : Keeps s0 z3 := State.fsetB_keeps (State.bridgeSet_keeps (State.spcEnter_keeps h2))
  clear_value z3
  exact State.ttbRate_keeps (State.raiseFault_keeps h4)

theorem catchMeasurementEndOp_keeps {s0 : State} {x0 : RotorDir} {x1 : Nat} {s : State} (h : Keeps s0 s) :
    Keeps s0 (catchMeasurementEndOp x0 x1 s) := by
  unfold catchMeasurementEndOp
  refine keeps_ite ?_ ?_
  · extract_lets -underBinder +onlyGivenNames z1 z2
    clear_value z1 z2
    extract_lets -underBinder +onlyGivenNames z3
    have h4 : Keeps s0 z3 := State.setSpeed_keeps (State.fset_keeps h)
    clear_value z3
    split
    · exact State.enterAlign_keeps h4
    · exact keeps_ite (keeps_ite (keeps_ite (State.enterHarvest_keeps h4) (State.enterBrake_keeps h4)) (State.enterRun_keeps h4)) (State.enterBrake_keeps h4)
    · exact keeps_ite (State.enterBrake_keeps h4) (State.enterAlign_keeps h4)
  · exact h

theorem commutationEventOp_keeps {s0 : State} {x0 : Nat} {x1 : Nat} {x2 : Bool} {s : State} (h : Keeps s0 s) :
    Keeps s0 (commutationEventOp x0 x1 x2 s) := by
  unfold commutationEventOp
  extract_lets -underBinder +onlyGivenNames z1
  clear_value z1
  extract_lets -underBinder +onlyGivenNames z2
  have h3 : Keeps s0 z2 := State.spcMap_keeps h
  clear_value z2
  extract_lets -underBinder +onlyGivenNames z4 z5 z6
  clear_value z4 z5 z6
  extract_lets -underBinder +onlyGivenNames z7
  have h8 : Keeps s0 z7 := keeps_ite (State.setSpeed_keeps h3) h3
  clear_value z7
  extract_lets -underBinder +onlyGivenNames z9
  have h10 : Keeps s0 z9 := keeps_ite (State.revolution_keeps h8) h8
  clear_value z9
  extract_lets -underBinder +onlyGivenNames z11
  have h12 : Keeps s0 z11 := State.ttbRate_keeps (State.flywheelRate_keeps h10)
  clear_value z11
  extract_lets -underBinder +onlyGivenNames z13
  clear_value z13
  exact keeps_ite (State.overspeed_keeps h12) (State.harvestEnd_keeps h12)

theorem execAlignEnd_keeps {s0 : State} {s : State} (h : Keeps s0 s) :
    ∀ t, execAlignEnd s = .next t → Keeps s0 t :=
  fun _ ht => keeps_next ht (alignEndOp_keeps h)

theorem execBrakeHoldTimeout_keeps {s0 : State} {s : State} (h : Keeps s0 s) :
    ∀ t, execBrakeHoldTimeout s = .next t → Keeps s0 t :=
  fun _ ht => keeps_next ht (keeps_ite (State.brakeDrive_keeps h) h)

theorem execBridgeFault_keeps {s0 : State} {s : State} (h : Keeps s0 s) :
    ∀ t, execBridgeFault s = .next t → Keeps s0 t :=
  fun _ ht => keeps_next ht (bridgeFaultOp_keeps h)

theorem execCatchMeasurementEnd_keeps {s0 : State} {x0 : RotorDir} {x1 : Nat} {s : State} (h : Keeps s0 s) :
    ∀ t, execCatchMeasurementEnd x0 x1 s = .next t → Keeps s0 t :=
  fun _ ht => keeps_next ht (catchMeasurementEndOp_keeps h)

theorem execCommutationEvent_keeps {s0 : State} {x0 : Nat} {x1 : Nat} {x2 : Bool} {s : State} (h : Keeps s0 s) :
    ∀ t, execCommutationEvent x0 x1 x2 s = .next t → Keeps s0 t :=
  fun _ ht => keeps_next ht (commutationEventOp_keeps h)

theorem inbandRiseOp_keeps {s0 : State} {s : State} (h : Keeps s0 s) :
    Keeps s0 (inbandRiseOp s) := by
  unfold inbandRiseOp
  refine keeps_ite ?_ ?_
  · extract_lets -underBinder +onlyGivenNames z1
    have h2 : Keeps s0 z1 := State.fsetB_keeps h
    clear_value z1
    extract_lets -underBinder +onlyGivenNames z3
    clear_value z3
    extract_lets -underBinder +onlyGivenNames z4
    have h5 : Keeps s0 z4 := keeps_upd h2 rfl rfl rfl rfl rfl
    clear_value z4
    extract_lets -underBinder +onlyGivenNames z6
    clear_value z6
    extract_lets -underBinder +onlyGivenNames z7
    have h8 : Keeps s0 z7 := keeps_ite (State.fsetB_keeps (keeps_upd h5 rfl rfl rfl rfl rfl)) h5
    clear_value z7
    exact State.bankIdleBoth_keeps h8
  · exact h

theorem execInbandRise_keeps {s0 : State} {s : State} (h : Keeps s0 s) :
    ∀ t, execInbandRise s = .next t → Keeps s0 t :=
  fun _ ht => keeps_next ht (inbandRiseOp_keeps h)

theorem lockedRotorExpiryOp_keeps {s0 : State} {s : State} (h : Keeps s0 s) :
    Keeps s0 (lockedRotorExpiryOp s) := by
  unfold lockedRotorExpiryOp
  refine keeps_ite ?_ ?_
  · extract_lets -underBinder +onlyGivenNames z1
    have h2 : Keeps s0 z1 := State.enterStopped_keeps (State.fsetB_keeps h)
    clear_value z1
    extract_lets -underBinder +onlyGivenNames z3
    clear_value z3
    exact keeps_ite (State.raiseFault_keeps (State.spcMap_keeps h2)) (State.raiseFault_keeps (State.spcMap_keeps h2))
  · exact h

theorem execLockedRotorExpiry_keeps {s0 : State} {s : State} (h : Keeps s0 s) :
    ∀ t, execLockedRotorExpiry s = .next t → Keeps s0 t :=
  fun _ ht => keeps_next ht (lockedRotorExpiryOp_keeps h)

theorem lockedRotorRetryOp_keeps {s0 : State} {s : State} (h : Keeps s0 s) :
    Keeps s0 (lockedRotorRetryOp s) :=
  keeps_ite (State.spinUp_keeps h) h

theorem execLockedRotorRetry_keeps {s0 : State} {s : State} (h : Keeps s0 s) :
    ∀ t, execLockedRotorRetry s = .next t → Keeps s0 t :=
  fun _ ht => keeps_next ht (lockedRotorRetryOp_keeps h)

theorem execLossCounterClear_keeps {s0 : State} {x0 : Word} {s : State} (h : Keeps s0 s) :
    ∀ t, execLossCounterClear x0 s = .next t → Keeps s0 t :=
  fun _ ht => keeps_next ht (State.spcCtlWrite_keeps h)

theorem observerLossOp_keeps {s0 : State} {s : State} (h : Keeps s0 s) :
    Keeps s0 (observerLossOp s) := by
  unfold observerLossOp
  refine keeps_ite ?_ ?_
  · extract_lets -underBinder +onlyGivenNames z1
    have h2 : Keeps s0 z1 := State.bridgeSet_keeps (State.count_keeps (State.fsetB_keeps h))
    clear_value z1
    exact keeps_ite (State.ttbRate_keeps (State.inhUpdate_keeps (State.spcEnter_keeps (State.fsetB_keeps h2)))) (keeps_ite (State.inhUpdate_keeps (State.safeBrake_keeps h2)) (State.ttbRate_keeps (State.inhUpdate_keeps (State.spcMap_keeps h2))))
  · exact h

theorem execObserverLoss_keeps {s0 : State} {s : State} (h : Keeps s0 s) :
    ∀ t, execObserverLoss s = .next t → Keeps s0 t :=
  fun _ ht => keeps_next ht (observerLossOp_keeps h)

theorem openloopHandoffOp_keeps {s0 : State} {s : State} (h : Keeps s0 s) :
    Keeps s0 (openloopHandoffOp s) :=
  keeps_ite (State.enterRun_keeps (State.spcMap_keeps h)) h

theorem execOpenloopHandoff_keeps {s0 : State} {s : State} (h : Keeps s0 s) :
    ∀ t, execOpenloopHandoff s = .next t → Keeps s0 t :=
  fun _ ht => keeps_next ht (openloopHandoffOp_keeps h)

theorem pwmPeriodOp_keeps {s0 : State} {x0 : PwmIn} {s : State} (h : Keeps s0 s) :
    Keeps s0 (pwmPeriodOp x0 s) := by
  unfold pwmPeriodOp
  extract_lets -underBinder +onlyGivenNames z1
  clear_value z1
  extract_lets -underBinder +onlyGivenNames z2
  have h3 : Keeps s0 z2 := keeps_ite (State.spcMap_keeps h) h
  clear_value z2
  extract_lets -underBinder +onlyGivenNames z4
  have h5 : Keeps s0 z4 := keeps_ite (State.spcMap_keeps h3) h3
  clear_value z4
  extract_lets -underBinder +onlyGivenNames z6
  clear_value z6
  exact State.spcMap_keeps h5

theorem execPwmPeriod_keeps {s0 : State} {x0 : PwmIn} {s : State} (h : Keeps s0 s) :
    ∀ t, execPwmPeriod x0 s = .next t → Keeps s0 t :=
  fun _ ht => keeps_next ht (pwmPeriodOp_keeps h)

theorem reacquisitionOp_keeps {s0 : State} {s : State} (h : Keeps s0 s) :
    Keeps s0 (reacquisitionOp s) := by
  unfold reacquisitionOp
  refine keeps_ite ?_ ?_
  · extract_lets -underBinder +onlyGivenNames z1
    have h2 : Keeps s0 z1 := State.raiseFault_keeps (State.fsetB_keeps h)
    clear_value z1
    extract_lets -underBinder +onlyGivenNames z3
    have h4 : Keeps s0 z3 := State.spcMap_keeps h2
    clear_value z3
    exact keeps_ite (State.inhUpdate_keeps (State.enterRun_keeps h4)) (State.ttbRate_keeps (State.inhUpdate_keeps (State.bridgeSet_keeps (State.spcEnter_keeps (State.spcMap_keeps h4)))))
  · exact h

theorem execReacquisition_keeps {s0 : State} {s : State} (h : Keeps s0 s) :
    ∀ t, execReacquisition s = .next t → Keeps s0 t :=
  fun _ ht => keeps_next ht (reacquisitionOp_keeps h)

theorem reacquisitionTimeoutOp_keeps {s0 : State} {s : State} (h : Keeps s0 s) :
    Keeps s0 (reacquisitionTimeoutOp s) :=
  keeps_ite (State.safeBrake_keeps h) h

theorem execReacquisitionTimeout_keeps {s0 : State} {s : State} (h : Keeps s0 s) :
    ∀ t, execReacquisitionTimeout s = .next t → Keeps s0 t :=
  fun _ ht => keeps_next ht (reacquisitionTimeoutOp_keeps h)

theorem speedLoopPeriodOp_keeps {s0 : State} {x0 : Int} {s : State} (h : Keeps s0 s) :
    Keeps s0 (speedLoopPeriodOp x0 s) := by
  unfold speedLoopPeriodOp
  extract_lets -underBinder +onlyGivenNames z1
  have h2 : Keeps s0 z1 := keeps_ite (State.setSpeed_keeps h) h
  clear_value z1
  extract_lets -underBinder +onlyGivenNames z3
  have h4 : Keeps s0 z3 := keeps_ite (State.speedLoop_keeps h2) (keeps_ite (State.tick_keeps (State.spcMap_keeps h2)) h2)
  clear_value z3
  exact State.bankIdleBoth_keeps (State.harvestEnd_keeps (State.brakeThreshold_keeps (State.ttbRate_keeps h4)))

theorem execSpeedLoopPeriod_keeps {s0 : State} {x0 : Int} {s : State} (h : Keeps s0 s) :
    ∀ t, execSpeedLoopPeriod x0 s = .next t → Keeps s0 t :=
  fun _ ht => keeps_next ht (speedLoopPeriodOp_keeps h)

theorem execSpeedTargetWrite_keeps {s0 : State} {x0 : Word} {s : State} (h : Keeps s0 s) :
    ∀ t, execSpeedTargetWrite x0 s = .next t → Keeps s0 t :=
  fun _ ht => keeps_next ht (State.targetWrite_keeps h)

theorem execSpindleRun_keeps {s0 : State} {x0 : Word} {s : State} (h : Keeps s0 s) :
    ∀ t, execSpindleRun x0 s = .next t → Keeps s0 t :=
  fun _ ht => keeps_next ht (State.spcCtlWrite_keeps h)

theorem execSpindleStop_keeps {s0 : State} {x0 : Word} {s : State} (h : Keeps s0 s) :
    ∀ t, execSpindleStop x0 s = .next t → Keeps s0 t :=
  fun _ ht => keeps_next ht (State.spcCtlWrite_keeps h)

theorem standstillGapOp_keeps {s0 : State} {x0 : Nat} {x1 : Int} {s : State} (h : Keeps s0 s) :
    Keeps s0 (standstillGapOp x0 x1 s) := by
  unfold standstillGapOp
  refine keeps_ite ?_ ?_
  · extract_lets -underBinder +onlyGivenNames z1
    have h2 : Keeps s0 z1 := State.brakeThreshold_keeps (State.setSpeed_keeps h)
    clear_value z1
    extract_lets -underBinder +onlyGivenNames z3 z4
    clear_value z3 z4
    exact keeps_ite (keeps_ite (State.enterStopped_keeps h2) (State.ttbRate_keeps h2)) (keeps_ite (keeps_ite (State.enterAlign_keeps h2) (State.enterStopped_keeps h2)) (State.ttbRate_keeps h2))
  · exact h

theorem execStandstillGap_keeps {s0 : State} {x0 : Nat} {x1 : Int} {s : State} (h : Keeps s0 s) :
    ∀ t, execStandstillGap x0 x1 s = .next t → Keeps s0 t :=
  fun _ ht => keeps_next ht (standstillGapOp_keeps h)

/-! Sac -/

theorem State.accSet_keeps {s0 : State} {s : State} {x1 : Act} {x2 : Int} (h : Keeps s0 s) :
    Keeps s0 (State.accSet s x1 x2) :=
  State.wideSet_keeps h

theorem State.sacMap_keeps {s0 : State} {s : State} {x1 : Act} {x2 : SacSt → SacSt} (h : Keeps s0 s) :
    Keeps s0 (State.sacMap s x1 x2) :=
  State.sacSet_keeps h

theorem State.bstopStep_keeps {s0 : State} {s : State} {x1 : Act} {x2 : BstopPhase} {x3 : BstopPhase} {x4 : Nat} (h : Keeps s0 s) :
    Keeps s0 (State.bstopStep s x1 x2 x3 x4) :=
  keeps_ite (State.dac_keeps (State.sacMap_keeps h)) h

theorem State.engine_keeps {s0 : State} {s : State} {x1 : Act} {x2 : Int} {x3 : Int} {x4 : Int} (h : Keeps s0 s) :
    Keeps s0 (State.engine s x1 x2 x3 x4) := by
  unfold State.engine
  extract_lets -underBinder +onlyGivenNames z1 z2 z3 z4 z5 z6 z7 z8 z9 z10
  clear_value z1 z2 z3 z4 z5 z6 z7 z8 z9 z10
  exact State.dac_keeps (State.sacSet_keeps (State.accSet_keeps h))

theorem State.followCheck_keeps {s0 : State} {s : State} {x1 : Act} {x2 : Nat} {x3 : Bool} (h : Keeps s0 s) :
    Keeps s0 (State.followCheck s x1 x2 x3) := by
  unfold State.followCheck
  refine keeps_ite ?_ ?_
  · extract_lets -underBinder +onlyGivenNames z1 z2
    clear_value z1 z2
    exact State.sacMap_keeps h
  · exact State.sacMap_keeps h

theorem State.goSeek_keeps {s0 : State} {s : State} {x1 : Act} (h : Keeps s0 s) :
    Keeps s0 (State.goSeek s x1) := by
  unfold State.goSeek
  extract_lets -underBinder +onlyGivenNames z1
  have h2 : Keeps s0 z1 := keeps_ite h (State.accSet_keeps h)
  clear_value z1
  extract_lets -underBinder +onlyGivenNames z3
  have h4 : Keeps s0 z3 := State.sacMap_keeps h2
  clear_value z3
  exact State.sacEnter_keeps h4

theorem State.sacCctlWrite_keeps {s0 : State} {s : State} {x1 : Act} {x2 : Word} (h : Keeps s0 s) :
    Keeps s0 (State.sacCctlWrite s x1 x2) :=
  keeps_ite (keeps_ite (State.sacMap_keeps h) (State.bankCopy_keeps h)) h

theorem State.unloadPush_keeps {s0 : State} {s : State} {x1 : Act} (h : Keeps s0 s) :
    Keeps s0 (State.unloadPush s x1) :=
  State.dac_keeps (State.sacMap_keeps h)

theorem State.startUnload_keeps {s0 : State} {s : State} {x1 : Act} (h : Keeps s0 s) :
    Keeps s0 (State.startUnload s x1) := by
  unfold State.startUnload
  extract_lets -underBinder +onlyGivenNames z1
  clear_value z1
  extract_lets -underBinder +onlyGivenNames z2
  have h3 : Keeps s0 z2 := State.sacMap_keeps h
  clear_value z2
  extract_lets -underBinder +onlyGivenNames z4
  have h5 : Keeps s0 z4 := State.sacEnter_keeps h3
  clear_value z4
  exact keeps_ite (State.sacMap_keeps h5) (State.unloadPush_keeps h5)

theorem State.sacCommand_keeps {s0 : State} {s : State} {x1 : Act} {x2 : Nat} {x3 : Nat} (h : Keeps s0 s) :
    Keeps s0 (State.sacCommand s x1 x2 x3) := by
  unfold State.sacCommand
  refine keeps_ite ?_ ?_
  · split
    · exact keeps_ite (State.goSeek_keeps (State.sacMap_keeps h)) (State.sacMap_keeps (State.goSeek_keeps h))
    · extract_lets -underBinder +onlyGivenNames z1
      have h2 : Keeps s0 z1 := State.sacMap_keeps h
      clear_value z1
      exact State.dac_keeps (State.sacEnter_keeps (State.bankIdle_keeps h2))
    · exact keeps_ite (State.sacMap_keeps h) (State.startUnload_keeps h)
    · exact State.dac_keeps (State.sacEnter_keeps h)
    · exact State.dac_keeps (State.sacEnter_keeps h)
  · exact State.fsetB_keeps h

theorem State.sacCmdWrite_keeps {s0 : State} {s : State} {x1 : Act} {x2 : Word} (h : Keeps s0 s) :
    Keeps s0 (State.sacCmdWrite s x1 x2) :=
  State.sacCommand_keeps h

theorem State.sacCtlWrite_keeps {s0 : State} {s : State} {x1 : Act} {x2 : Word} (h : Keeps s0 s) :
    Keeps s0 (State.sacCtlWrite s x1 x2) := by
  unfold State.sacCtlWrite
  extract_lets -underBinder +onlyGivenNames z1
  clear_value z1
  extract_lets -underBinder +onlyGivenNames z2
  have h3 : Keeps s0 z2 := keeps_ite (State.fsetB_keeps h) h
  clear_value z2
  extract_lets -underBinder +onlyGivenNames z4
  have h5 : Keeps s0 z4 := keeps_ite (State.accSet_keeps h3) h3
  clear_value z4
  exact keeps_ite (State.clearCount_keeps (State.clearCount_keeps h5)) h5

theorem State.seekStep_keeps {s0 : State} {s : State} {x1 : Act} {x2 : Int} (h : Keeps s0 s) :
    Keeps s0 (State.seekStep s x1 x2).1 := by
  unfold State.seekStep
  extract_lets -underBinder +onlyGivenNames z1
  clear_value z1
  exact keeps_mk1 (State.sacSet_keeps h)

theorem State.servoCalRecord_keeps {s0 : State} {s : State} {x1 : Act} {x2 : Bool} {x3 : Int} {x4 : BitVec 32} (h : Keeps s0 s) :
    Keeps s0 (State.servoCalRecord s x1 x2 x3 x4) := by
  unfold State.servoCalRecord
  extract_lets -underBinder +onlyGivenNames z1
  clear_value z1
  split
  · exact h
  · refine keeps_ite ?_ ?_
    · extract_lets -underBinder +onlyGivenNames z2
      clear_value z2
      exact State.store_keeps (State.msqSet_keeps h)
    · exact h

theorem State.settleCheck_keeps {s0 : State} {s : State} {x1 : Act} {x2 : Bool} (h : Keeps s0 s) :
    Keeps s0 (State.settleCheck s x1 x2) := by
  unfold State.settleCheck
  extract_lets -underBinder +onlyGivenNames z1 z2
  clear_value z1 z2
  refine keeps_ite ?_ ?_
  · extract_lets -underBinder +onlyGivenNames z3
    clear_value z3
    extract_lets -underBinder +onlyGivenNames z4
    have h5 : Keeps s0 z4 := State.sacMap_keeps h
    clear_value z4
    exact keeps_ite (State.fsetB_keeps h5) (keeps_ite (State.fsetB_keeps h5) h5)
  · exact State.sacMap_keeps h

theorem State.wedgeMotion_keeps {s0 : State} {s : State} {x1 : Act} {x2 : Nat} {x3 : Bool} {x4 : Int} {x5 : Option Int} (h : Keeps s0 s) :
    Keeps s0 (State.wedgeMotion s x1 x2 x3 x4 x5) := by
  unfold State.wedgeMotion
  extract_lets -underBinder +onlyGivenNames z1
  clear_value z1
  refine keeps_ite ?_ ?_
  · exact State.startUnload_keeps h
  · refine keeps_ite ?_ ?_
    · exact State.sacMap_keeps h
    · refine keeps_ite ?_ ?_
      · refine keeps_ite ?_ ?_
        · extract_lets -underBinder +onlyGivenNames z2
          have h3 : Keeps s0 z2 := State.engine_keeps h
          clear_value z2
          exact keeps_ite (State.sacMap_keeps h3) h3
        · extract_lets -underBinder +onlyGivenNames z4
          have h5 : Keeps s0 z4.1 := State.seekStep_keeps h
          clear_value z4
          extract_lets -underBinder +onlyGivenNames z6
          have h7 : Keeps s0 z6 := State.engine_keeps h5
          clear_value z6
          exact keeps_ite (State.sacEnter_keeps (State.sacMap_keeps h7)) h7
      · refine keeps_ite ?_ ?_
        · exact State.settleCheck_keeps (State.engine_keeps h)
        · refine keeps_ite ?_ ?_
          · split
            · refine keeps_ite ?_ ?_
              · exact State.sacMap_keeps h
              · extract_lets -underBinder +onlyGivenNames z8
                have h9 : Keeps s0 z8.1 := State.seekStep_keeps h
                clear_value z8
                extract_lets -underBinder +onlyGivenNames z10
                have h11 : Keeps s0 z10 := State.engine_keeps h9
                clear_value z10
                exact keeps_ite (State.unloadPush_keeps h11) h11
            · exact State.unloadPush_keeps h
            · exact h
          · refine keeps_ite ?_ ?_
            · extract_lets -underBinder +onlyGivenNames z12
              clear_value z12
              extract_lets -underBinder +onlyGivenNames z13
              have h14 : Keeps s0 z13 := State.dac_keeps h
              clear_value z13
              exact State.sacMap_keeps h14
            · exact h

theorem State.writeFault_keeps {s0 : State} {s : State} {x1 : Act} {x2 : Bool} (h : Keeps s0 s) :
    Keeps s0 (State.writeFault s x1 x2) := by
  unfold State.writeFault
  extract_lets -underBinder +onlyGivenNames z1
  have h2 : Keeps s0 z1 := State.count_keeps (State.fsetB_keeps h)
  clear_value z1
  extract_lets -underBinder +onlyGivenNames z3
  have h4 : Keeps s0 z3 := State.sacMap_keeps h2
  clear_value z3
  extract_lets -underBinder +onlyGivenNames z5
  have h6 : Keeps s0 z5 := State.seqEvent_keeps (State.raiseEvent_keeps h4)
  clear_value z5
  extract_lets -underBinder +onlyGivenNames z7
  have h8 : Keeps s0 z7 := State.opMap_keeps h6
  clear_value z7
  extract_lets -underBinder +onlyGivenNames z9
  have h10 : Keeps s0 z9 := State.raiseFault_keeps h8
  clear_value z9
  exact State.permUpdate_keeps (State.stopTransfer_keeps (State.forceOff_keeps h10))

theorem State.wedgeWriteCheck_keeps {s0 : State} {s : State} {x1 : Act} {x2 : Bool} (h : Keeps s0 s) :
    Keeps s0 (State.wedgeWriteCheck s x1 x2) := by
  unfold State.wedgeWriteCheck
  extract_lets -underBinder +onlyGivenNames z1 z2
  clear_value z1 z2
  extract_lets -underBinder +onlyGivenNames z3
  have h4 : Keeps s0 z3 := State.sacMap_keeps h
  clear_value z3
  extract_lets -underBinder +onlyGivenNames z5
  clear_value z5
  exact keeps_ite (State.writeFault_keeps h4) (State.permUpdate_keeps h4)

theorem bufferStopEndOp_keeps {s0 : State} {x0 : Act} {s : State} (h : Keeps s0 s) :
    Keeps s0 (bufferStopEndOp x0 s) := by
  unfold bufferStopEndOp
  refine keeps_ite ?_ ?_
  · extract_lets -underBinder +onlyGivenNames z1
    clear_value z1
    extract_lets -underBinder +onlyGivenNames z2
    have h3 : Keeps s0 z2 := State.fsetB_keeps (State.dac_keeps (State.sacMap_keeps h))
    clear_value z2
    extract_lets -underBinder +onlyGivenNames z4
    have h5 : Keeps s0 z4 := State.fsetB_keeps h3
    clear_value z4
    extract_lets -underBinder +onlyGivenNames z6
    have h7 : Keeps s0 z6 := keeps_ite (State.fset_keeps h5) h5
    clear_value z6
    exact keeps_ite (State.sacEnter_keeps (State.sacMap_keeps h7)) (State.spcParked_keeps h7)
  · exact h

theorem currentPlausibilityTickOp_keeps {s0 : State} {x0 : Act} {x1 : Int} {s : State} (h : Keeps s0 s) :
    Keeps s0 (currentPlausibilityTickOp x0 x1 s) := by
  unfold currentPlausibilityTickOp
  extract_lets -underBinder +onlyGivenNames z1
  have h2 : Keeps s0 z1 := State.sset_keeps h
  clear_value z1
  refine keeps_ite ?_ ?_
  · exact h2
  · extract_lets -underBinder +onlyGivenNames z3 z4
    clear_value z3 z4
    exact State.sacMap_keeps h2

theorem estimateIntervalCloseOp_keeps {s0 : State} {x0 : Act} {x1 : Nat} {x2 : Nat} {s : State} (h : Keeps s0 s) :
    Keeps s0 (estimateIntervalCloseOp x0 x1 x2 s) := by
  unfold estimateIntervalCloseOp
  extract_lets -underBinder +onlyGivenNames z1 z2 z3
  clear_value z1 z2 z3
  refine keeps_ite ?_ ?_
  · refine keeps_ite ?_ ?_
    · extract_lets -underBinder +onlyGivenNames z4 z5 z6
      clear_value z4 z5 z6
      extract_lets -underBinder +onlyGivenNames z7
      have h8 : Keeps s0 z7 := State.fsetB_keeps (State.sset_keeps h)
      clear_value z7
      extract_lets -underBinder +onlyGivenNames z9
      clear_value z9
      exact keeps_ite (State.writeFault_keeps (State.sacMap_keeps h8)) h8
    · exact State.fsetB_keeps h
  · exact h

theorem execBankApplyRequest_keeps {s0 : State} {x0 : Act} {x1 : Word} {s : State} (h : Keeps s0 s) :
    ∀ t, execBankApplyRequest x0 x1 s = .next t → Keeps s0 t :=
  fun _ ht => keeps_next ht (State.sacCctlWrite_keeps h)

theorem execBufferStopEnd_keeps {s0 : State} {x0 : Act} {s : State} (h : Keeps s0 s) :
    ∀ t, execBufferStopEnd x0 s = .next t → Keeps s0 t :=
  fun _ ht => keeps_next ht (bufferStopEndOp_keeps h)

theorem execBufferStopHold_keeps {s0 : State} {x0 : Act} {s : State} (h : Keeps s0 s) :
    ∀ t, execBufferStopHold x0 s = .next t → Keeps s0 t :=
  fun _ ht => keeps_next ht (State.bstopStep_keeps h)

theorem execBufferStopRetract_keeps {s0 : State} {x0 : Act} {s : State} (h : Keeps s0 s) :
    ∀ t, execBufferStopRetract x0 s = .next t → Keeps s0 t :=
  fun _ ht => keeps_next ht (State.bstopStep_keeps h)

theorem execBufferStopSecondPhase_keeps {s0 : State} {x0 : Act} {s : State} (h : Keeps s0 s) :
    ∀ t, execBufferStopSecondPhase x0 s = .next t → Keeps s0 t :=
  fun _ ht => keeps_next ht (State.bstopStep_keeps h)

theorem execCurrentPlausibilityTick_keeps {s0 : State} {x0 : Act} {x1 : Int} {s : State} (h : Keeps s0 s) :
    ∀ t, execCurrentPlausibilityTick x0 x1 s = .next t → Keeps s0 t :=
  fun _ ht => keeps_next ht (currentPlausibilityTickOp_keeps h)

theorem execEstimateIntervalClose_keeps {s0 : State} {x0 : Act} {x1 : Nat} {x2 : Nat} {s : State} (h : Keeps s0 s) :
    ∀ t, execEstimateIntervalClose x0 x1 x2 s = .next t → Keeps s0 t :=
  fun _ ht => keeps_next ht (estimateIntervalCloseOp_keeps h)

theorem followingErrorExpiryOp_keeps {s0 : State} {x0 : Act} {s : State} (h : Keeps s0 s) :
    Keeps s0 (followingErrorExpiryOp x0 s) := by
  unfold followingErrorExpiryOp
  extract_lets -underBinder +onlyGivenNames z1
  clear_value z1
  refine keeps_ite ?_ ?_
  · extract_lets -underBinder +onlyGivenNames z2
    have h3 : Keeps s0 z2 := State.raiseFault_keeps (State.fsetB_keeps h)
    clear_value z2
    exact State.bufferStop_keeps h3
  · exact h

theorem execFollowingErrorExpiry_keeps {s0 : State} {x0 : Act} {s : State} (h : Keeps s0 s) :
    ∀ t, execFollowingErrorExpiry x0 s = .next t → Keeps s0 t :=
  fun _ ht => keeps_next ht (followingErrorExpiryOp_keeps h)

theorem implausibleOp_keeps {s0 : State} {x0 : Act} {s : State} (h : Keeps s0 s) :
    Keeps s0 (implausibleOp x0 s) := by
  unfold implausibleOp
  extract_lets -underBinder +onlyGivenNames z1
  clear_value z1
  refine keeps_ite ?_ ?_
  · extract_lets -underBinder +onlyGivenNames z2
    have h3 : Keeps s0 z2 := State.raiseFault_keeps (State.fsetB_keeps h)
    clear_value z2
    exact State.bufferStop_keeps (State.sacMap_keeps h3)
  · exact h

theorem execImplausible_keeps {s0 : State} {x0 : Act} {s : State} (h : Keeps s0 s) :
    ∀ t, execImplausible x0 s = .next t → Keeps s0 t :=
  fun _ ht => keeps_next ht (implausibleOp_keeps h)

theorem execIntegratorClear_keeps {s0 : State} {x0 : Act} {x1 : Word} {s : State} (h : Keeps s0 s) :
    ∀ t, execIntegratorClear x0 x1 s = .next t → Keeps s0 t :=
  fun _ ht => keeps_next ht (State.sacCtlWrite_keeps h)

theorem loadServoFoundOp_keeps {s0 : State} {x0 : Act} {s : State} (h : Keeps s0 s) :
    Keeps s0 (loadServoFoundOp x0 s) := by
  unfold loadServoFoundOp
  refine keeps_ite ?_ ?_
  · extract_lets -underBinder +onlyGivenNames z1
    have h2 : Keeps s0 z1 := State.sacMap_keeps (State.accSet_keeps h)
    clear_value z1
    exact State.goSeek_keeps (State.engine_keeps h2)
  · exact h

theorem execLoadServoFound_keeps {s0 : State} {x0 : Act} {s : State} (h : Keeps s0 s) :
    ∀ t, execLoadServoFound x0 s = .next t → Keeps s0 t :=
  fun _ ht => keeps_next ht (loadServoFoundOp_keeps h)

theorem loadTimeoutOp_keeps {s0 : State} {x0 : Act} {s : State} (h : Keeps s0 s) :
    Keeps s0 (loadTimeoutOp x0 s) :=
  keeps_ite (State.startUnload_keeps (State.raiseFault_keeps h)) h

theorem execLoadTimeout_keeps {s0 : State} {x0 : Act} {s : State} (h : Keeps s0 s) :
    ∀ t, execLoadTimeout x0 s = .next t → Keeps s0 t :=
  fun _ ht => keeps_next ht (loadTimeoutOp_keeps h)

theorem recoverEntryOp_keeps {s0 : State} {x0 : Act} {s : State} (h : Keeps s0 s) :
    Keeps s0 (recoverEntryOp x0 s) := by
  unfold recoverEntryOp
  extract_lets -underBinder +onlyGivenNames z1 z2
  clear_value z1 z2
  refine keeps_ite ?_ ?_
  · extract_lets -underBinder +onlyGivenNames z3
    have h4 : Keeps s0 z3 := State.raiseFault_keeps h
    clear_value z3
    extract_lets -underBinder +onlyGivenNames z5
    have h6 : Keeps s0 z5 := State.sacMap_keeps h4
    clear_value z5
    exact State.dac_keeps (State.sacEnter_keeps h6)
  · exact h

theorem execRecoverEntry_keeps {s0 : State} {x0 : Act} {s : State} (h : Keeps s0 s) :
    ∀ t, execRecoverEntry x0 s = .next t → Keeps s0 t :=
  fun _ ht => keeps_next ht (recoverEntryOp_keeps h)

theorem recoverSeekOp_keeps {s0 : State} {x0 : Act} {s : State} (h : Keeps s0 s) :
    Keeps s0 (recoverSeekOp x0 s) :=
  keeps_ite (State.goSeek_keeps h) h

theorem execRecoverSeek_keeps {s0 : State} {x0 : Act} {s : State} (h : Keeps s0 s) :
    ∀ t, execRecoverSeek x0 s = .next t → Keeps s0 t :=
  fun _ ht => keeps_next ht (recoverSeekOp_keeps h)

theorem recoverTimeoutOp_keeps {s0 : State} {x0 : Act} {s : State} (h : Keeps s0 s) :
    Keeps s0 (recoverTimeoutOp x0 s) := by
  unfold recoverTimeoutOp
  extract_lets -underBinder +onlyGivenNames z1
  clear_value z1
  exact keeps_ite (State.startUnload_keeps (State.raiseFault_keeps h)) h

theorem execRecoverTimeout_keeps {s0 : State} {x0 : Act} {s : State} (h : Keeps s0 s) :
    ∀ t, execRecoverTimeout x0 s = .next t → Keeps s0 t :=
  fun _ ht => keeps_next ht (recoverTimeoutOp_keeps h)

theorem execSacCounterClear_keeps {s0 : State} {x0 : Act} {x1 : Word} {s : State} (h : Keeps s0 s) :
    ∀ t, execSacCounterClear x0 x1 s = .next t → Keeps s0 t :=
  fun _ ht => keeps_next ht (State.sacCtlWrite_keeps h)

theorem execSacDisable_keeps {s0 : State} {x0 : Act} {x1 : Word} {s : State} (h : Keeps s0 s) :
    ∀ t, execSacDisable x0 x1 s = .next t → Keeps s0 t :=
  fun _ ht => keeps_next ht (State.sacCtlWrite_keeps h)

theorem execSacEnable_keeps {s0 : State} {x0 : Act} {x1 : Word} {s : State} (h : Keeps s0 s) :
    ∀ t, execSacEnable x0 x1 s = .next t → Keeps s0 t :=
  fun _ ht => keeps_next ht (State.sacCtlWrite_keeps h)

theorem execSacEndtest_keeps {s0 : State} {x0 : Act} {x1 : Word} {s : State} (h : Keeps s0 s) :
    ∀ t, execSacEndtest x0 x1 s = .next t → Keeps s0 t :=
  fun _ ht => keeps_next ht (State.sacCmdWrite_keeps h)

theorem execSacLoad_keeps {s0 : State} {x0 : Act} {x1 : Word} {s : State} (h : Keeps s0 s) :
    ∀ t, execSacLoad x0 x1 s = .next t → Keeps s0 t :=
  fun _ ht => keeps_next ht (State.sacCmdWrite_keeps h)

theorem execSacSeek_keeps {s0 : State} {x0 : Act} {x1 : Word} {s : State} (h : Keeps s0 s) :
    ∀ t, execSacSeek x0 x1 s = .next t → Keeps s0 t :=
  fun _ ht => keeps_next ht (State.sacCmdWrite_keeps h)

theorem execSacSelftest_keeps {s0 : State} {x0 : Act} {x1 : Word} {s : State} (h : Keeps s0 s) :
    ∀ t, execSacSelftest x0 x1 s = .next t → Keeps s0 t :=
  fun _ ht => keeps_next ht (State.sacCmdWrite_keeps h)

theorem execSacUnload_keeps {s0 : State} {x0 : Act} {x1 : Word} {s : State} (h : Keeps s0 s) :
    ∀ t, execSacUnload x0 x1 s = .next t → Keeps s0 t :=
  fun _ ht => keeps_next ht (State.sacCmdWrite_keeps h)

theorem settleCompleteOp_keeps {s0 : State} {x0 : Act} {s : State} (h : Keeps s0 s) :
    Keeps s0 (settleCompleteOp x0 s) :=
  keeps_ite (State.permUpdate_keeps (State.fsetB_keeps (State.sacEnter_keeps h))) h

theorem execSettleComplete_keeps {s0 : State} {x0 : Act} {s : State} (h : Keeps s0 s) :
    ∀ t, execSettleComplete x0 s = .next t → Keeps s0 t :=
  fun _ ht => keeps_next ht (settleCompleteOp_keeps h)

theorem unloadHoldEndOp_keeps {s0 : State} {x0 : Act} {s : State} (h : Keeps s0 s) :
    Keeps s0 (unloadHoldEndOp x0 s) :=
  keeps_ite (State.sacEnter_keeps (State.dac_keeps (State.sacMap_keeps h))) h

theorem execUnloadHoldEnd_keeps {s0 : State} {x0 : Act} {s : State} (h : Keeps s0 s) :
    ∀ t, execUnloadHoldEnd x0 s = .next t → Keeps s0 t :=
  fun _ ht => keeps_next ht (unloadHoldEndOp_keeps h)

theorem unloadPushEndOp_keeps {s0 : State} {x0 : Act} {s : State} (h : Keeps s0 s) :
    Keeps s0 (unloadPushEndOp x0 s) :=
  keeps_ite (State.dac_keeps (State.sacMap_keeps h)) h

theorem execUnloadPushEnd_keeps {s0 : State} {x0 : Act} {s : State} (h : Keeps s0 s) :
    ∀ t, execUnloadPushEnd x0 s = .next t → Keeps s0 t :=
  fun _ ht => keeps_next ht (unloadPushEndOp_keeps h)

theorem wedgeDemodulatedOp_keeps {s0 : State} {x0 : Act} {x1 : WedgeIn} {s : State} (h : Keeps s0 s) :
    Keeps s0 (wedgeDemodulatedOp x0 x1 s) := by
  unfold wedgeDemodulatedOp
  extract_lets -underBinder +onlyGivenNames z1
  clear_value z1
  refine keeps_ite ?_ ?_
  · exact h
  · extract_lets -underBinder +onlyGivenNames z2
    have h3 : Keeps s0 z2 := keeps_ite (State.angleTo_keeps h) h
    clear_value z2
    extract_lets -underBinder +onlyGivenNames z4
    clear_value z4
    extract_lets -underBinder +onlyGivenNames z5
    have h6 : Keeps s0 z5 := State.sacMap_keeps h3
    clear_value z5
    extract_lets -underBinder +onlyGivenNames z7
    clear_value z7
    extract_lets -underBinder +onlyGivenNames z8
    have h9 : Keeps s0 z8 := keeps_ite (State.bankBoundary_keeps h6) h6
    clear_value z8
    extract_lets -underBinder +onlyGivenNames z10 z11
    clear_value z10 z11
    extract_lets -underBinder +onlyGivenNames z12
    have h13 : Keeps s0 z12 := State.wideSet_keeps h9
    clear_value z12
    extract_lets -underBinder +onlyGivenNames z14
    have h15 : Keeps s0 z14 := State.sacMap_keeps h13
    clear_value z14
    extract_lets -underBinder +onlyGivenNames z16
    have h17 : Keeps s0 z16 := State.fsetB_keeps h15
    clear_value z16
    extract_lets -underBinder +onlyGivenNames z18
    have h19 : Keeps s0 z18 := keeps_ite (keeps_ite h17 (State.count_keeps h17)) h13
    clear_value z18
    extract_lets -underBinder +onlyGivenNames z20
    clear_value z20
    extract_lets -underBinder +onlyGivenNames z21
    have h22 : Keeps s0 z21 := keeps_ite (State.sacMap_keeps h19) h19
    clear_value z21
    extract_lets -underBinder +onlyGivenNames z23
    have h24 : Keeps s0 z23 := State.wedgeMotion_keeps h22
    clear_value z23
    extract_lets -underBinder +onlyGivenNames z25
    have h26 : Keeps s0 z25 := keeps_ite h24 (State.sacMap_keeps h24)
    clear_value z25
    extract_lets -underBinder +onlyGivenNames z27
    have h28 : Keeps s0 z27 := State.servoCalRecord_keeps (State.wedgeWriteCheck_keeps (State.followCheck_keeps h26))
    clear_value z27
    exact keeps_ite (State.autoSwitch_keeps h28) h28

theorem execWedgeDemodulated_keeps {s0 : State} {x0 : Act} {x1 : WedgeIn} {s : State} (h : Keeps s0 s) :
    ∀ t, execWedgeDemodulated x0 x1 s = .next t → Keeps s0 t :=
  fun _ ht => keeps_next ht (wedgeDemodulatedOp_keeps h)

end Sys2Proof.Machine
end

