-- ==== Sys2Proof/Laws/KeepsMedia.lean ====
section
/-! SUPPORT. What the operations and meanings of Machine/Ddp.lean, Machine/Rwc.lean, Machine/Asc.lean, Machine/Msq.lean, Machine/Slots.lean leave alone: `Keeps` (Laws/Keeps.lean) of each, in the order of
their files. -/
namespace Sys2Proof.Machine

/-! Ddp -/

theorem State.accumulate_keeps {s0 : State} {s : State} {x1 : Nat} {x2 : Bool} {x3 : List Byte} (h : Keeps s0 s) :
    Keeps s0 (State.accumulate s x1 x2 x3) := by
  induction x3 generalizing s x1 with
  | nil =>
    unfold State.accumulate
    exact h
  | cons y ys ih =>
    unfold State.accumulate
    extract_lets -underBinder +onlyGivenNames z1
    clear_value z1
    exact ih (State.store_keeps h)

theorem State.ddpMap_keeps {s0 : State} {s : State} {x1 : DdpSt → DdpSt} (h : Keeps s0 s) :
    Keeps s0 (State.ddpMap s x1) :=
  keeps_upd h rfl rfl rfl rfl rfl

theorem State.jobMap_keeps {s0 : State} {s : State} {x1 : Nat} {x2 : Job → Job} (h : Keeps s0 s) :
    Keeps s0 (State.jobMap s x1 x2) :=
  State.ddpMap_keeps h

theorem State.askPass_keeps {s0 : State} {s : State} {x1 : Job} (h : Keeps s0 s) :
    Keeps s0 (State.askPass s x1) := by
  unfold State.askPass
  extract_lets -underBinder +onlyGivenNames z1 z2 z3
  clear_value z1 z2 z3
  extract_lets -underBinder +onlyGivenNames z4
  have h5 : Keeps s0 z4 := State.jobMap_keeps h
  clear_value z4
  extract_lets -underBinder +onlyGivenNames z6
  have h7 : Keeps s0 z6 := State.ddpMap_keeps h5
  clear_value z6
  exact State.ddpStatus_keeps (State.seqEvent_keeps h7)

theorem State.turnPick_keeps {s0 : State} {s : State} (h : Keeps s0 s) :
    ∀ t, State.turnPick s = some t → Keeps s0 t.1 := by
  intro t ht
  simp only [State.turnPick] at ht
  split at ht
  · injection ht with ht; subst ht; exact State.ddpMap_keeps h
  · split at ht
    · injection ht with ht; subst ht; exact State.ddpMap_keeps h
    · cases ht

theorem State.placeJob_keeps {s0 : State} {s : State} {x1 : Landing} (h : Keeps s0 s) :
    Keeps s0 (State.placeJob s x1) := by
  unfold State.placeJob
  split
  · exact State.endJob_keeps h
  · exact State.ddpStatus_keeps (State.jobMap_keeps h)
  · exact State.askPass_keeps h
  · split
    · exact State.ddpStatus_keeps (State.jobMap_keeps h)
    · extract_lets -underBinder +onlyGivenNames z1 z2
      clear_value z1 z2
      refine keeps_ite ?_ ?_
      · extract_lets -underBinder +onlyGivenNames z3
        have h4 : Keeps s0 z3 := State.accumulate_keeps h
        clear_value z3
        extract_lets -underBinder +onlyGivenNames z5
        have h6 : Keeps s0 z5 := State.accumulate_keeps h4
        clear_value z5
        exact State.askPass_keeps h6
      · exact State.askPass_keeps h

theorem State.grantEngines_keeps {s0 : State} {s : State} {x1 : Nat} (h : Keeps s0 s) :
    Keeps s0 (State.grantEngines s x1) := by
  induction x1 generalizing s with
  | zero =>
    unfold State.grantEngines
    exact h
  | succ n ih =>
    unfold State.grantEngines
    split
    · exact h
    · split
      · exact h
      · rename_i heq
        have h1 := State.turnPick_keeps h _ heq
        clear heq
        extract_lets -underBinder +onlyGivenNames z1 z2 z3
        clear_value z3
        split
        · exact ih (State.ddpStatus_keeps (State.wr_keeps (State.jobMap_keeps h1)))
        · exact ih (State.placeJob_keeps h1)

theorem State.grants_keeps {s0 : State} {s : State} (h : Keeps s0 s) :
    Keeps s0 (State.grants s) :=
  State.grantEngines_keeps h

theorem State.createJob_keeps {s0 : State} {s : State} {x1 : Act} {x2 : MsqOp} {x3 : Nat} {x4 : JobSync} {x5 : List Byte} {x6 : List Byte} (h : Keeps s0 s) :
    Keeps s0 (State.createJob s x1 x2 x3 x4 x5 x6) := by
  unfold State.createJob
  extract_lets -underBinder +onlyGivenNames z1 z2 z3 z4
  clear_value z1 z2 z3 z4
  extract_lets -underBinder +onlyGivenNames z5
  have h6 : Keeps s0 z5 := State.opMap_keeps h
  clear_value z5
  refine keeps_ite ?_ ?_
  · exact State.postJob_keeps h6
  · refine keeps_ite ?_ ?_
    · extract_lets -underBinder +onlyGivenNames z7
      clear_value z7
      exact State.postJob_keeps (State.raiseFault_keeps (State.fsetB_keeps h6))
    · extract_lets -underBinder +onlyGivenNames z8
      have h9 : Keeps s0 z8 := State.setBytes_keeps (State.setBytes_keeps h6)
      clear_value z8
      exact State.grants_keeps (State.ddpStatus_keeps (State.count_keeps (State.ddpMap_keeps h9)))

theorem State.ddpCtlWrite_keeps {s0 : State} {s : State} {x1 : Word} (h : Keeps s0 s) :
    Keeps s0 (State.ddpCtlWrite s x1) := by
  unfold State.ddpCtlWrite
  extract_lets -underBinder +onlyGivenNames z1
  clear_value z1
  extract_lets -underBinder +onlyGivenNames z2
  have h3 : Keeps s0 z2 := State.fsetB_keeps h
  clear_value z2
  extract_lets -underBinder +onlyGivenNames z4
  have h5 : Keeps s0 z4 := keeps_ite (State.clearCount_keeps (State.clearCount_keeps (State.clearCount_keeps (State.clearCount_keeps (State.clearCount_keeps h3))))) h3
  clear_value z4
  exact keeps_ite h5 (State.abortJobs_keeps h5)

theorem State.passArrives_keeps {s0 : State} {s : State} {x1 : Nat} {x2 : PassIn} (h : Keeps s0 s) :
    Keeps s0 (State.passArrives s x1 x2) := by
  unfold State.passArrives
  split
  · exact h
  · refine keeps_ite ?_ ?_
    · exact h
    · extract_lets -underBinder +onlyGivenNames z1
      have h2 : Keeps s0 z1 := State.count_keeps h
      clear_value z1
      extract_lets -underBinder +onlyGivenNames z3
      extract_lets -underBinder +onlyGivenNames z4
      extract_lets -underBinder +onlyGivenNames z5
      have h6 : ∀ b0 b1, Keeps s0 b0 → Keeps s0 (z5 b0 b1) := fun _ _ h9 => State.ddpStatus_keeps (State.jobMap_keeps h9)
      clear_value z5
      extract_lets -underBinder +onlyGivenNames z10
      clear_value z10
      extract_lets -underBinder +onlyGivenNames z11
      extract_lets -underBinder +onlyGivenNames z12
      clear_value z12
      extract_lets -underBinder +onlyGivenNames z13
      have h14 : Keeps s0 z13 := keeps_ite h2 (State.accumulate_keeps (State.accumulate_keeps h2))
      clear_value z13
      extract_lets -underBinder +onlyGivenNames z15
      extract_lets -underBinder +onlyGivenNames z16
      have h17 : Keeps s0 z16 := keeps_ite (State.askPass_keeps h2) (keeps_ite (keeps_ite (State.placeJob_keeps h2) (h6 _ _ h2)) (keeps_ite (h6 _ _ h14) (keeps_ite (State.askPass_keeps h14) (keeps_ite (h6 _ _ h14) (State.placeJob_keeps h14)))))
      clear_value z16
      exact State.grants_keeps h17

theorem State.putRecovered_keeps {s0 : State} {s : State} {x1 : Job} {x2 : List Byte} (h : Keeps s0 s) :
    Keeps s0 (State.putRecovered s x1 x2) := by
  unfold State.putRecovered
  split
  · exact State.setBytes_keeps h
  · exact h

theorem accumulatorGrantOp_keeps {s0 : State} {s : State} (h : Keeps s0 s) :
    Keeps s0 (accumulatorGrantOp s) := by
  unfold accumulatorGrantOp
  split
  · exact keeps_ite (State.placeJob_keeps h) h
  · exact h

theorem execAccumulatorGrant_keeps {s0 : State} {s : State} (h : Keeps s0 s) :
    ∀ t, execAccumulatorGrant s = .next t → Keeps s0 t :=
  fun _ ht => keeps_next ht (accumulatorGrantOp_keeps h)

theorem jobAgeLimitOp_keeps {s0 : State} {x0 : Nat} {s : State} (h : Keeps s0 s) :
    Keeps s0 (jobAgeLimitOp x0 s) := by
  unfold jobAgeLimitOp
  split
  · exact h
  · extract_lets -underBinder +onlyGivenNames z1
    have h2 : Keeps s0 z1 := State.angleTo_keeps h
    clear_value z1
    split
    · exact State.jobMap_keeps h2
    · exact State.grants_keeps (State.endJob_keeps h2)

theorem execJobAgeLimit_keeps {s0 : State} {x0 : Nat} {s : State} (h : Keeps s0 s) :
    ∀ t, execJobAgeLimit x0 s = .next t → Keeps s0 t :=
  fun _ ht => keeps_next ht (jobAgeLimitOp_keeps h)

theorem execPoolCounterClear_keeps {s0 : State} {x0 : Word} {s : State} (h : Keeps s0 s) :
    ∀ t, execPoolCounterClear x0 s = .next t → Keeps s0 t :=
  fun _ ht => keeps_next ht (State.ddpCtlWrite_keeps h)

theorem poolDecodeCompleteOp_keeps {s0 : State} {x0 : Fin 4} {x1 : PoolDecode} {s : State} (h : Keeps s0 s) :
    Keeps s0 (poolDecodeCompleteOp x0 x1 s) := by
  unfold poolDecodeCompleteOp
  split
  · exact h
  · extract_lets -underBinder +onlyGivenNames z1
    clear_value z1
    extract_lets -underBinder +onlyGivenNames z2
    have h3 : Keeps s0 z2 := State.wr_keeps h
    clear_value z2
    extract_lets -underBinder +onlyGivenNames z4
    have h5 : Keeps s0 z4 := keeps_ite (State.endJob_keeps (State.putRecovered_keeps h3)) (keeps_ite (State.endJob_keeps h3) (keeps_ite (State.endJob_keeps h3) (keeps_ite (keeps_ite (State.askPass_keeps h3) (State.placeJob_keeps h3)) (State.placeJob_keeps h3))))
    clear_value z4
    exact State.grants_keeps h5

theorem execPoolDecodeComplete_keeps {s0 : State} {x0 : Fin 4} {x1 : PoolDecode} {s : State} (h : Keeps s0 s) :
    ∀ t, execPoolDecodeComplete x0 x1 s = .next t → Keeps s0 t :=
  fun _ ht => keeps_next ht (poolDecodeCompleteOp_keeps h)

theorem execPoolDisable_keeps {s0 : State} {x0 : Word} {s : State} (h : Keeps s0 s) :
    ∀ t, execPoolDisable x0 s = .next t → Keeps s0 t :=
  fun _ ht => keeps_next ht (State.ddpCtlWrite_keeps h)

theorem execPoolEnable_keeps {s0 : State} {x0 : Word} {s : State} (h : Keeps s0 s) :
    ∀ t, execPoolEnable x0 s = .next t → Keeps s0 t :=
  fun _ ht => keeps_next ht (State.ddpCtlWrite_keeps h)

/-! Rwc -/

theorem State.angleToPos_keeps {s0 : State} {s : State} {x1 : Nat} {x2 : Nat} (h : Keeps s0 s) :
    Keeps s0 (State.angleToPos s x1 x2) := by
  unfold State.angleToPos
  extract_lets -underBinder +onlyGivenNames z1 z2
  clear_value z1 z2
  exact State.angleTo_keeps h

theorem State.portStatus_keeps {s0 : State} {s : State} {x1 : Act} (h : Keeps s0 s) :
    Keeps s0 (State.portStatus s x1) := by
  unfold State.portStatus
  extract_lets -underBinder +onlyGivenNames z1
  clear_value z1
  extract_lets -underBinder +onlyGivenNames z2
  have h3 : Keeps s0 z2 := State.fsetB_keeps h
  clear_value z2
  exact State.fsetB_keeps h3

theorem State.rwcMap_keeps {s0 : State} {s : State} {x1 : Act} {x2 : RwcSt → RwcSt} (h : Keeps s0 s) :
    Keeps s0 (State.rwcMap s x1 x2) :=
  State.rwcSet_keeps h

theorem State.frameEnd_keeps {s0 : State} {s : State} {x1 : Act} (h : Keeps s0 s) :
    Keeps s0 (State.frameEnd s x1) :=
  State.portStatus_keeps (State.rwcMap_keeps h)

theorem State.frameDone_keeps {s0 : State} {s : State} {x1 : Act} {x2 : SerFrame} {x3 : BitVec 16} (h : Keeps s0 s) :
    Keeps s0 (State.frameDone s x1 x2 x3) := by
  unfold State.frameDone
  extract_lets -underBinder +onlyGivenNames z1
  have h2 : Keeps s0 z1 := State.frameEnd_keeps h
  clear_value z1
  split
  · exact State.raiseEvent_keeps (keeps_ite (State.fset_keeps h2) h2)
  · exact State.seqEvent_keeps (State.msqSet_keeps h2)
  · exact h2

theorem State.holdUpdate_keeps {s0 : State} {s : State} {x1 : Act} (h : Keeps s0 s) :
    Keeps s0 (State.holdUpdate s x1) := by
  unfold State.holdUpdate
  extract_lets -underBinder +onlyGivenNames z1
  clear_value z1
  extract_lets -underBinder +onlyGivenNames z2
  have h3 : Keeps s0 z2 := State.fsetB_keeps h
  clear_value z2
  exact keeps_ite (State.stopSoft_keeps h3) h3

theorem State.holdBoth_keeps {s0 : State} {s : State} (h : Keeps s0 s) :
    Keeps s0 (State.holdBoth s) :=
  State.holdUpdate_keeps (State.holdUpdate_keeps h)

theorem State.loadRefused_keeps {s0 : State} {s : State} {x1 : Act} {x2 : Bool} (h : Keeps s0 s) :
    Keeps s0 (State.loadRefused s x1 x2) := by
  unfold State.loadRefused
  extract_lets -underBinder +onlyGivenNames z1
  have h2 : Keeps s0 z1 := State.rwcMap_keeps h
  clear_value z1
  extract_lets -underBinder +onlyGivenNames z3
  clear_value z3
  extract_lets -underBinder +onlyGivenNames z4
  have h5 : Keeps s0 z4 := keeps_ite (State.opMap_keeps h2) (State.msqSet_keeps h2)
  clear_value z4
  exact State.seqEvent_keeps h5

theorem State.pscmdWrite_keeps {s0 : State} {s : State} {x1 : Act} {x2 : Word} (h : Keeps s0 s) :
    Keeps s0 (State.pscmdWrite s x1 x2) := by
  unfold State.pscmdWrite
  refine keeps_ite ?_ ?_
  · extract_lets -underBinder +onlyGivenNames z1
    clear_value z1
    exact State.portStatus_keeps (State.rwcMap_keeps h)
  · exact h

theorem State.rwcAbort_keeps {s0 : State} {s : State} {x1 : Act} (h : Keeps s0 s) :
    Keeps s0 (State.rwcAbort s x1) := by
  unfold State.rwcAbort
  split
  · exact h
  · exact keeps_ite (State.stopSoft_keeps h) (State.stopTransfer_keeps h)

theorem State.rwcCtlWrite_keeps {s0 : State} {s : State} {x1 : Act} {x2 : Word} (h : Keeps s0 s) :
    Keeps s0 (State.rwcCtlWrite s x1 x2) := by
  unfold State.rwcCtlWrite
  extract_lets -underBinder +onlyGivenNames z1
  clear_value z1
  extract_lets -underBinder +onlyGivenNames z2
  have h3 : Keeps s0 z2 := State.fsetB_keeps h
  clear_value z2
  extract_lets -underBinder +onlyGivenNames z4
  have h5 : Keeps s0 z4 := keeps_ite (State.clearCount_keeps (State.clearCount_keeps (State.clearCount_keeps (State.clearCount_keeps h3)))) h3
  clear_value z4
  exact keeps_ite h5 (State.stopTransfer_keeps (State.fsetB_keeps (State.rwcMap_keeps (State.forceOff_keeps h5))))

theorem State.rwcLoad_keeps {s0 : State} {s : State} {x1 : Act} {x2 : TransferKind} {x3 : Nat} {x4 : Nat} {x5 : Nat} {x6 : Nat} {x7 : Nat} {x8 : Nat} (h : Keeps s0 s) :
    Keeps s0 (State.rwcLoad s x1 x2 x3 x4 x5 x6 x7 x8) := by
  unfold State.rwcLoad
  extract_lets -underBinder +onlyGivenNames z1 z2
  clear_value z1 z2
  refine keeps_ite ?_ ?_
  · exact h
  · extract_lets -underBinder +onlyGivenNames z3
    have h4 : Keeps s0 z3 := State.opMap_keeps h
    clear_value z3
    extract_lets -underBinder +onlyGivenNames z5 z6
    clear_value z5 z6
    extract_lets -underBinder +onlyGivenNames z7
    have h8 : Keeps s0 z7 := keeps_ite (State.msqSet_keeps h4) h4
    clear_value z7
    refine keeps_ite ?_ ?_
    · exact State.loadRefused_keeps h8
    · refine keeps_ite ?_ ?_
      · extract_lets -underBinder +onlyGivenNames z9
        clear_value z9
        extract_lets -underBinder +onlyGivenNames z10
        have h11 : Keeps s0 z10 := State.raiseFault_keeps (State.fsetB_keeps h8)
        clear_value z10
        extract_lets -underBinder +onlyGivenNames z12
        have h13 : Keeps s0 z12 := keeps_ite (State.handBlanks_keeps h11) (keeps_ite (State.count_keeps (State.count_keeps h11)) h11)
        clear_value z12
        exact State.loadRefused_keeps h13
      · extract_lets -underBinder +onlyGivenNames z14 z15 z16 z17
        clear_value z14 z15 z16 z17
        exact State.rwcMap_keeps h8

theorem State.rwcStart_keeps {s0 : State} {s : State} {x1 : Act} (h : Keeps s0 s) :
    Keeps s0 (State.rwcStart s x1) := by
  unfold State.rwcStart
  split
  · exact h
  · refine keeps_ite ?_ ?_
    · exact h
    · extract_lets -underBinder +onlyGivenNames z1
      have h2 : Keeps s0 z1 := State.fsetB_keeps (State.rwcMap_keeps h)
      clear_value z1
      extract_lets -underBinder +onlyGivenNames z3
      have h4 : Keeps s0 z3 := State.opMap_keeps h2
      clear_value z3
      exact keeps_ite (State.writeFault_keeps h4) h4

theorem State.seqFrame_keeps {s0 : State} {s : State} {x1 : Act} {x2 : SerFrame} (h : Keeps s0 s) :
    Keeps s0 (State.seqFrame s x1 x2) :=
  State.portStatus_keeps (State.rwcMap_keeps h)

theorem State.telMap_keeps {s0 : State} {s : State} {x1 : Act} {x2 : TelSt → TelSt} (h : Keeps s0 s) :
    Keeps s0 (State.telMap s x1 x2) :=
  keeps_upd h rfl rfl rfl rfl rfl

theorem State.trimUpdate_keeps {s0 : State} {s : State} {x1 : Act} (h : Keeps s0 s) :
    Keeps s0 (State.trimUpdate s x1) := by
  unfold State.trimUpdate
  extract_lets -underBinder +onlyGivenNames z1
  clear_value z1
  extract_lets -underBinder +onlyGivenNames z2
  have h3 : Keeps s0 z2 := by
    subst z2
    split
    · refine keeps_ite ?_ ?_
      · extract_lets -underBinder +onlyGivenNames z4 z5 z6 z7
        clear_value z4 z5 z6 z7
        exact State.sset_keeps h
      · exact h
    · exact h
  clear_value z2
  exact State.telMap_keeps h3

theorem execChannelCounterClear_keeps {s0 : State} {x0 : Act} {x1 : Word} {s : State} (h : Keeps s0 s) :
    ∀ t, execChannelCounterClear x0 x1 s = .next t → Keeps s0 t :=
  fun _ ht => keeps_next ht (State.rwcCtlWrite_keeps h)

theorem execChannelEnable_keeps {s0 : State} {x0 : Act} {x1 : Word} {s : State} (h : Keeps s0 s) :
    ∀ t, execChannelEnable x0 x1 s = .next t → Keeps s0 t :=
  fun _ ht => keeps_next ht (State.rwcCtlWrite_keeps h)

theorem gatePeriodCloseOp_keeps {s0 : State} {x0 : Act} {s : State} (h : Keeps s0 s) :
    Keeps s0 (gatePeriodCloseOp x0 s) := by
  unfold gatePeriodCloseOp
  extract_lets -underBinder +onlyGivenNames z1
  clear_value z1
  split
  · extract_lets -underBinder +onlyGivenNames z2
    clear_value z2
    extract_lets -underBinder +onlyGivenNames z3
    have h4 : Keeps s0 z3 := State.angleToPos_keeps h
    clear_value z3
    extract_lets -underBinder +onlyGivenNames z5
    clear_value z5
    extract_lets -underBinder +onlyGivenNames z6
    have h7 : Keeps s0 z6 := State.rwcMap_keeps h4
    clear_value z6
    extract_lets -underBinder +onlyGivenNames z8
    have h9 : Keeps s0 z8 := keeps_ite (State.trimUpdate_keeps (State.fsetB_keeps h7)) h7
    clear_value z8
    exact State.settleTransfer_keeps h9
  · exact h

theorem execGatePeriodClose_keeps {s0 : State} {x0 : Act} {s : State} (h : Keeps s0 s) :
    ∀ t, execGatePeriodClose x0 s = .next t → Keeps s0 t :=
  fun _ ht => keeps_next ht (gatePeriodCloseOp_keeps h)

theorem gatePeriodOpenOp_keeps {s0 : State} {x0 : Act} {x1 : Nat} {s : State} (h : Keeps s0 s) :
    Keeps s0 (gatePeriodOpenOp x0 x1 s) := by
  unfold gatePeriodOpenOp
  extract_lets -underBinder +onlyGivenNames z1
  clear_value z1
  split
  · exact h
  · split
    · exact h
    · refine keeps_ite ?_ ?_
      · exact h
      · extract_lets -underBinder +onlyGivenNames z2
        have h3 : Keeps s0 z2 := State.angleToPos_keeps h
        clear_value z2
        refine keeps_ite ?_ ?_
        · exact State.stopTransfer_keeps h3
        · refine keeps_ite ?_ ?_
          · extract_lets -underBinder +onlyGivenNames z4 z5 z6 z7 z8
            clear_value z4 z5 z6 z7 z8
            extract_lets -underBinder +onlyGivenNames z9
            have h10 : Keeps s0 z9 := keeps_ite (State.raiseFault_keeps (State.fsetB_keeps h3)) h3
            clear_value z9
            extract_lets -underBinder +onlyGivenNames z11 z12 z13 z14
            clear_value z11 z12 z13 z14
            extract_lets -underBinder +onlyGivenNames z15
            have h16 : Keeps s0 z15 := State.rwcMap_keeps h10
            clear_value z15
            refine keeps_ite ?_ ?_
            · exact State.settleTransfer_keeps h16
            · extract_lets -underBinder +onlyGivenNames z17
              have h18 : Keeps s0 z17 := State.rwcMap_keeps h16
              clear_value z17
              exact State.telMap_keeps (State.fsetB_keeps h18)
          · exact State.rwcMap_keeps h3

theorem execGatePeriodOpen_keeps {s0 : State} {x0 : Act} {x1 : Nat} {s : State} (h : Keeps s0 s) :
    ∀ t, execGatePeriodOpen x0 x1 s = .next t → Keeps s0 t :=
  fun _ ht => keeps_next ht (gatePeriodOpenOp_keeps h)

theorem latePreampReplyOp_keeps {s0 : State} {x0 : Act} {s : State} (h : Keeps s0 s) :
    Keeps s0 (latePreampReplyOp x0 s) :=
  keeps_ite (State.raiseFault_keeps (State.count_keeps h)) h

theorem execLatePreampReply_keeps {s0 : State} {x0 : Act} {s : State} (h : Keeps s0 s) :
    ∀ t, execLatePreampReply x0 s = .next t → Keeps s0 t :=
  fun _ ht => keeps_next ht (latePreampReplyOp_keeps h)

theorem preampFaultOp_keeps {s0 : State} {x0 : Act} {s : State} (h : Keeps s0 s) :
    Keeps s0 (preampFaultOp x0 s) := by
  unfold preampFaultOp
  refine keeps_ite ?_ ?_
  · exact h
  · extract_lets -underBinder +onlyGivenNames z1
    have h2 : Keeps s0 z1 := State.raiseFault_keeps (State.fsetB_keeps h)
    clear_value z1
    exact keeps_ite (State.writeFault_keeps h2) (State.permUpdate_keeps h2)

theorem execPreampFault_keeps {s0 : State} {x0 : Act} {s : State} (h : Keeps s0 s) :
    ∀ t, execPreampFault x0 s = .next t → Keeps s0 t :=
  fun _ ht => keeps_next ht (preampFaultOp_keeps h)

theorem execPreampFaultClear_keeps {s0 : State} {x0 : Act} {s : State} (h : Keeps s0 s) :
    ∀ t, execPreampFaultClear x0 s = .next t → Keeps s0 t :=
  fun _ ht => keeps_next ht (State.permUpdate_keeps (State.fsetB_keeps h))

theorem rereadPassOp_keeps {s0 : State} {x0 : Nat} {x1 : PassIn} {s : State} (h : Keeps s0 s) :
    Keeps s0 (rereadPassOp x0 x1 s) := by
  unfold rereadPassOp
  split
  · exact h
  · extract_lets -underBinder +onlyGivenNames z1 z2
    refine keeps_ite ?_ ?_
    · extract_lets -underBinder +onlyGivenNames z3
      have h4 : Keeps s0 z3 := State.count_keeps h
      clear_value z3
      extract_lets -underBinder +onlyGivenNames z5
      have h6 : Keeps s0 z5 := keeps_ite (State.count_keeps h4) h4
      clear_value z5
      extract_lets -underBinder +onlyGivenNames z7
      have h8 : Keeps s0 z7 := State.passArrives_keeps h6
      clear_value z7
      exact keeps_ite (State.chDone_keeps h8) h8
    · exact h

theorem execRereadPass_keeps {s0 : State} {x0 : Nat} {x1 : PassIn} {s : State} (h : Keeps s0 s) :
    ∀ t, execRereadPass x0 x1 s = .next t → Keeps s0 t :=
  fun _ ht => keeps_next ht (rereadPassOp_keeps h)

theorem sectorDecodedOp_keeps {s0 : State} {x0 : Act} {x1 : DecodeIn} {s : State} (h : Keeps s0 s) :
    Keeps s0 (sectorDecodedOp x0 x1 s) := by
  unfold sectorDecodedOp
  extract_lets -underBinder +onlyGivenNames z1
  clear_value z1
  split
  · exact h
  · extract_lets -underBinder +onlyGivenNames z2 z3
    clear_value z2 z3
    refine keeps_ite ?_ ?_
    · exact h
    · extract_lets -underBinder +onlyGivenNames z4 z5 z6 z7 z8 z9 z10 z11 z12 z13 z14
      clear_value z4 z5 z6 z7 z8 z9 z10 z11 z12 z13 z14
      extract_lets -underBinder +onlyGivenNames z15
      have h16 : Keeps s0 z15 := State.rwcMap_keeps h
      clear_value z15
      extract_lets -underBinder +onlyGivenNames z17
      have h18 : Keeps s0 z17 := State.handWord_keeps h16
      clear_value z17
      extract_lets -underBinder +onlyGivenNames z19
      have h20 : Keeps s0 z19 := by
        subst z19
        split
        · exact h18
        · extract_lets -underBinder +onlyGivenNames z21
          have h22 : Keeps s0 z21 := keeps_ite (State.setBytes_keeps h18) h18
          clear_value z21
          extract_lets -underBinder +onlyGivenNames z23
          clear_value z23
          exact keeps_ite (State.createJob_keeps h22) h22
      clear_value z19
      exact State.settleTransfer_keeps h20

theorem execSectorDecoded_keeps {s0 : State} {x0 : Act} {x1 : DecodeIn} {s : State} (h : Keeps s0 s) :
    ∀ t, execSectorDecoded x0 x1 s = .next t → Keeps s0 t :=
  fun _ ht => keeps_next ht (sectorDecodedOp_keeps h)

theorem execSerialFrameCommand_keeps {s0 : State} {x0 : Act} {x1 : Word} {s : State} (h : Keeps s0 s) :
    ∀ t, execSerialFrameCommand x0 x1 s = .next t → Keeps s0 t :=
  fun _ ht => keeps_next ht (State.pscmdWrite_keeps h)

theorem serialFrameStartOp_keeps {s0 : State} {x0 : Act} {s : State} (h : Keeps s0 s) :
    Keeps s0 (serialFrameStartOp x0 s) := by
  unfold serialFrameStartOp
  extract_lets -underBinder +onlyGivenNames z1
  clear_value z1
  refine keeps_ite ?_ ?_
  · exact h
  · split
    · exact State.portStatus_keeps (State.rwcMap_keeps h)
    · split
      · exact State.portStatus_keeps (State.rwcMap_keeps h)
      · exact h

theorem execSerialFrameStart_keeps {s0 : State} {x0 : Act} {s : State} (h : Keeps s0 s) :
    ∀ t, execSerialFrameStart x0 s = .next t → Keeps s0 t :=
  fun _ ht => keeps_next ht (serialFrameStartOp_keeps h)

theorem serialTimeoutOp_keeps {s0 : State} {x0 : Act} {s : State} (h : Keeps s0 s) :
    Keeps s0 (serialTimeoutOp x0 s) := by
  unfold serialTimeoutOp
  split
  · refine keeps_ite ?_ ?_
    · extract_lets -underBinder +onlyGivenNames z1
      have h2 : Keeps s0 z1 := State.rwcMap_keeps h
      clear_value z1
      exact State.raiseFault_keeps (State.fsetB_keeps h2)
    · exact h
  · exact h

theorem execSerialTimeout_keeps {s0 : State} {x0 : Act} {s : State} (h : Keeps s0 s) :
    ∀ t, execSerialTimeout x0 s = .next t → Keeps s0 t :=
  fun _ ht => keeps_next ht (serialTimeoutOp_keeps h)

theorem syncWindowCloseOp_keeps {s0 : State} {x0 : Act} {x1 : List SyncCand} {s : State} (h : Keeps s0 s) :
    Keeps s0 (syncWindowCloseOp x0 x1 s) := by
  unfold syncWindowCloseOp
  extract_lets -underBinder +onlyGivenNames z1
  clear_value z1
  split
  · refine keeps_ite ?_ ?_
    · exact h
    · extract_lets -underBinder +onlyGivenNames z2 z3 z4 z5 z6
      clear_value z2 z3 z4 z5 z6
      extract_lets -underBinder +onlyGivenNames z7
      have h8 : ∀ b0 b1 b2, Keeps s0 b0 → Keeps s0 (z7 b0 b1 b2) := by
        subst z7
        intro y9 y10 y11 h12
        beta_reduce
        extract_lets -underBinder +onlyGivenNames z13
        have h14 : Keeps s0 z13 := State.rwcMap_keeps h12
        clear_value z13
        exact keeps_ite (State.count_keeps h14) h14
      clear_value z7
      split
      · refine keeps_ite ?_ ?_
        · extract_lets -underBinder +onlyGivenNames z15
          clear_value z15
          exact h8 _ _ _ h
        · refine keeps_ite ?_ ?_
          · extract_lets -underBinder +onlyGivenNames z16
            clear_value z16
            exact h8 _ _ _ h
          · exact h
      · refine keeps_ite ?_ ?_
        · extract_lets -underBinder +onlyGivenNames z17
          clear_value z17
          exact h8 _ _ _ h
        · exact h
  · exact h

theorem execSyncWindowClose_keeps {s0 : State} {x0 : Act} {x1 : List SyncCand} {s : State} (h : Keeps s0 s) :
    ∀ t, execSyncWindowClose x0 x1 s = .next t → Keeps s0 t :=
  fun _ ht => keeps_next ht (syncWindowCloseOp_keeps h)

/-! Asc -/

theorem State.ageAll_keeps {s0 : State} {s : State} {x1 : Nat} {x2 : List Int} (h : Keeps s0 s) :
    Keeps s0 (State.ageAll s x1 x2) := by
  induction x2 generalizing s x1 with
  | nil =>
    unfold State.ageAll
    exact h
  | cons y ys ih =>
    unfold State.ageAll
    exact keeps_ite h (ih (State.fset_keeps h))

theorem State.ascFrame_keeps {s0 : State} {s : State} {x1 : Act} {x2 : Nat} {x3 : Int} (h : Keeps s0 s) :
    Keeps s0 (State.ascFrame s x1 x2 x3) :=
  State.seqFrame_keeps h

theorem State.ascAction_keeps {s0 : State} {s : State} {x1 : Act} {x2 : Nat} {x3 : Nat} (h : Keeps s0 s) :
    Keeps s0 (State.ascAction s x1 x2 x3) := by
  unfold State.ascAction
  extract_lets -underBinder +onlyGivenNames z1 z2 z3
  clear_value z1 z2 z3
  extract_lets -underBinder +onlyGivenNames z4
  have h5 : Keeps s0 z4 := keeps_ite (State.ascFrame_keeps (State.ascFrame_keeps h)) (keeps_ite h (keeps_ite (State.ascFrame_keeps h) (keeps_ite (State.ascFrame_keeps h) (State.ascFrame_keeps (State.ascFrame_keeps h)))))
  clear_value z4
  extract_lets -underBinder +onlyGivenNames z6
  clear_value z6
  exact State.holdUpdate_keeps (State.telMap_keeps h5)

theorem State.ascCctlWrite_keeps {s0 : State} {s : State} {x1 : Word} (h : Keeps s0 s) :
    Keeps s0 (State.ascCctlWrite s x1) := by
  unfold State.ascCctlWrite
  extract_lets -underBinder +onlyGivenNames z1
  have h2 : Keeps s0 z1 := keeps_ite (State.fsetB_keeps h) h
  clear_value z1
  exact keeps_ite (State.fsetB_keeps h2) h2

theorem State.ascCtlWrite_keeps {s0 : State} {s : State} {x1 : Word} (h : Keeps s0 s) :
    Keeps s0 (State.ascCtlWrite s x1) := by
  unfold State.ascCtlWrite
  extract_lets -underBinder +onlyGivenNames z1
  have h2 : Keeps s0 z1 := State.fset_keeps h
  clear_value z1
  extract_lets -underBinder +onlyGivenNames z3
  have h4 : Keeps s0 z3 := keeps_ite h2 (State.fset_keeps (State.fset_keeps h2))
  clear_value z3
  exact keeps_ite (State.clearCount_keeps h4) h4

theorem State.spCopy_keeps {s0 : State} {s : State} {x1 : Act} {x2 : Nat} (h : Keeps s0 s) :
    Keeps s0 (State.spCopy s x1 x2) := by
  induction x2 generalizing s with
  | zero =>
    unfold State.spCopy
    exact h
  | succ n ih =>
    unfold State.spCopy
    extract_lets -underBinder +onlyGivenNames z1
    clear_value z1
    exact ih (State.liveWr_keeps (State.liveWr_keeps (State.liveWr_keeps (State.liveWr_keeps (State.liveWr_keeps (State.liveWr_keeps (State.liveWr_keeps h)))))))

theorem State.calCrc_keeps {s0 : State} {s : State} (h : Keeps s0 s) :
    Keeps s0 (State.calCrc s) :=
  State.wr_keeps h

theorem State.calLive_keeps {s0 : State} {s : State} {x1 : Nat} {x2 : Int} (h : Keeps s0 s) :
    Keeps s0 (State.calLive s x1 x2) :=
  State.calCrc_keeps (State.sset_keeps (State.fset_keeps h))

theorem State.ascStrobe_keeps {s0 : State} {s : State} (h : Keeps s0 s) :
    Keeps s0 (State.ascStrobe s) := by
  unfold State.ascStrobe
  extract_lets -underBinder +onlyGivenNames z1
  have h2 : Keeps s0 z1 := keeps_ite (State.fsetB_keeps (State.spCopy_keeps h)) h
  clear_value z1
  extract_lets -underBinder +onlyGivenNames z3
  have h4 : Keeps s0 z3 := keeps_ite (State.fsetB_keeps (State.spCopy_keeps h2)) h2
  clear_value z3
  split
  · exact State.fsetB_keeps (State.calLive_keeps (keeps_upd h4 rfl rfl rfl rfl rfl))
  · exact h4

theorem State.windowEval_keeps {s0 : State} {s : State} (h : Keeps s0 s) :
    Keeps s0 (State.windowEval s) := by
  unfold State.windowEval
  extract_lets -underBinder +onlyGivenNames z1 z2 z3
  clear_value z1 z2 z3
  exact keeps_ite (State.holdBoth_keeps (State.raiseFault_keeps (State.raiseEvent_keeps (State.fsetB_keeps h)))) (State.holdBoth_keeps (State.fsetB_keeps h))

theorem State.ascTchk_keeps {s0 : State} {s : State} {x1 : Act} (h : Keeps s0 s) :
    Keeps s0 (State.ascTchk s x1) := by
  unfold State.ascTchk
  extract_lets -underBinder +onlyGivenNames z1
  have h2 : Keeps s0 z1 := State.windowEval_keeps h
  clear_value z1
  exact State.msqSet_keeps h2

theorem State.calBufWrite_keeps {s0 : State} {s : State} {x1 : Nat} {x2 : Word} (h : Keeps s0 s) :
    Keeps s0 (State.calBufWrite s x1 x2) :=
  keeps_ite h (keeps_upd h rfl rfl rfl rfl rfl)

theorem State.calStart_keeps {s0 : State} {s : State} (h : Keeps s0 s) :
    Keeps s0 (State.calStart s) :=
  keeps_ite (State.fset_keeps h) (State.fset_keeps (State.fsetB_keeps h))

theorem State.calCtlWrite_keeps {s0 : State} {s : State} {x1 : Word} (h : Keeps s0 s) :
    Keeps s0 (State.calCtlWrite s x1) := by
  unfold State.calCtlWrite
  extract_lets -underBinder +onlyGivenNames z1
  have h2 : Keeps s0 z1 := State.fset_keeps (State.fset_keeps (State.fset_keeps h))
  clear_value z1
  extract_lets -underBinder +onlyGivenNames z3
  clear_value z3
  extract_lets -underBinder +onlyGivenNames z4
  have h5 : Keeps s0 z4 := State.wr_keeps (State.fset_keeps (State.wr_keeps (State.wr_keeps h2)))
  clear_value z4
  extract_lets -underBinder +onlyGivenNames z6
  clear_value z6
  extract_lets -underBinder +onlyGivenNames z7
  have h8 : Keeps s0 z7 := keeps_upd h5 rfl rfl rfl rfl rfl
  clear_value z7
  extract_lets -underBinder +onlyGivenNames z9
  have h10 : Keeps s0 z9 := keeps_ite (keeps_ite (State.fset_keeps h2) (keeps_ite (State.wideSet_keeps (State.fset_keeps (State.fset_keeps h8))) (State.fset_keeps h2))) h2
  clear_value z9
  exact keeps_ite (State.calStart_keeps h10) h10

theorem State.unloadIfMay_keeps {s0 : State} {s : State} {x1 : Act} (h : Keeps s0 s) :
    Keeps s0 (State.unloadIfMay s x1) :=
  keeps_ite (State.sacCommand_keeps h) h

theorem State.criticalCheck_keeps {s0 : State} {s : State} {x1 : Int} (h : Keeps s0 s) :
    Keeps s0 (State.criticalCheck s x1) := by
  unfold State.criticalCheck
  extract_lets -underBinder +onlyGivenNames z1
  clear_value z1
  refine keeps_ite ?_ ?_
  · extract_lets -underBinder +onlyGivenNames z2
    have h3 : Keeps s0 z2 := State.holdBoth_keeps (State.raiseFault_keeps (State.fsetB_keeps h))
    clear_value z2
    extract_lets -underBinder +onlyGivenNames z4
    have h5 : Keeps s0 z4 := State.unloadIfMay_keeps (State.unloadIfMay_keeps h3)
    clear_value z4
    exact State.spcCtlWrite_keeps h5
  · exact h

theorem State.hctmUpdate_keeps {s0 : State} {s : State} (h : Keeps s0 s) :
    Keeps s0 (State.hctmUpdate s) := by
  unfold State.hctmUpdate
  extract_lets -underBinder +onlyGivenNames z1 z2 z3 z4
  clear_value z1 z2 z3 z4
  extract_lets -underBinder +onlyGivenNames z5
  have h6 : Keeps s0 z5 := State.hepMap_keeps h
  clear_value z5
  exact State.ceilingUpdate_keeps (keeps_upd h6 rfl rfl rfl rfl rfl)

theorem State.overPower_keeps {s0 : State} {s : State} {x1 : Act} {x2 : Bool} (h : Keeps s0 s) :
    Keeps s0 (State.overPower s x1 x2) := by
  unfold State.overPower
  extract_lets -underBinder +onlyGivenNames z1
  clear_value z1
  extract_lets -underBinder +onlyGivenNames z2
  have h3 : Keeps s0 z2 := State.forceOff_keeps h
  clear_value z2
  extract_lets -underBinder +onlyGivenNames z4
  clear_value z4
  extract_lets -underBinder +onlyGivenNames z5
  have h6 : Keeps s0 z5 := State.fset_keeps (State.fsetB_keeps h3)
  clear_value z5
  extract_lets -underBinder +onlyGivenNames z7
  have h8 : Keeps s0 z7 := State.telMap_keeps h6
  clear_value z7
  exact State.holdUpdate_keeps (State.raiseFault_keeps (State.count_keeps h8))

theorem State.recalCheck_keeps {s0 : State} {s : State} (h : Keeps s0 s) :
    Keeps s0 (State.recalCheck s) := by
  unfold State.recalCheck
  refine keeps_ite ?_ ?_
  · extract_lets -underBinder +onlyGivenNames z1 z2
    clear_value z1 z2
    exact keeps_ite (State.calStart_keeps (State.raiseEvent_keeps (State.fsetB_keeps h))) h
  · exact h

theorem State.scanOne_keeps {s0 : State} {s : State} {x1 : Nat} {x2 : Option Int} (h : Keeps s0 s) :
    Keeps s0 (State.scanOne s x1 x2) := by
  unfold State.scanOne
  extract_lets -underBinder +onlyGivenNames z1
  clear_value z1
  extract_lets -underBinder +onlyGivenNames z2
  have h3 : Keeps s0 z2 := by
    subst z2
    split
    · exact State.sset_keeps h
    · exact h
  clear_value z2
  extract_lets -underBinder +onlyGivenNames z4 z5
  clear_value z4 z5
  extract_lets -underBinder +onlyGivenNames z6
  have h7 : Keeps s0 z6 := State.fsetB_keeps h3
  clear_value z6
  exact keeps_ite (State.raiseFault_keeps h7) h7

theorem State.scanAll_keeps {s0 : State} {s : State} {x1 : Nat} {x2 : List (Option Int)} (h : Keeps s0 s) :
    Keeps s0 (State.scanAll s x1 x2) := by
  induction x2 generalizing s x1 with
  | nil =>
    unfold State.scanAll
    exact h
  | cons y ys ih =>
    unfold State.scanAll
    exact keeps_ite h (ih (State.scanOne_keeps h))

theorem State.throttleCheck_keeps {s0 : State} {s : State} {x1 : Int} (h : Keeps s0 s) :
    Keeps s0 (State.throttleCheck s x1) := by
  unfold State.throttleCheck
  extract_lets -underBinder +onlyGivenNames z1 z2 z3
  clear_value z1 z2 z3
  exact keeps_ite (State.raiseFault_keeps (State.raiseEvent_keeps (State.fsetB_keeps (keeps_upd h rfl rfl rfl rfl rfl)))) (keeps_ite (State.ceilingUpdate_keeps (State.fsetB_keeps (State.fsetB_keeps (keeps_upd h rfl rfl rfl rfl rfl)))) h)

theorem ageingMeasurementOp_keeps {s0 : State} {x0 : List Int} {s : State} (h : Keeps s0 s) :
    Keeps s0 (ageingMeasurementOp x0 s) := by
  unfold ageingMeasurementOp
  refine keeps_ite ?_ ?_
  · extract_lets -underBinder +onlyGivenNames z1
    have h2 : Keeps s0 z1 := State.ageAll_keeps h
    clear_value z1
    extract_lets -underBinder +onlyGivenNames z3
    clear_value z3
    exact State.fset_keeps h2
  · exact h

theorem calibrationEndOp_keeps {s0 : State} {x0 : List CalTry} {s : State} (h : Keeps s0 s) :
    Keeps s0 (calibrationEndOp x0 s) := by
  unfold calibrationEndOp
  refine keeps_ite ?_ ?_
  · exact h
  · extract_lets -underBinder +onlyGivenNames z1 z2 z3
    clear_value z1 z2 z3
    extract_lets -underBinder +onlyGivenNames z4
    have h5 : Keeps s0 z4 := State.fsetB_keeps (State.tick_keeps h)
    clear_value z4
    extract_lets -underBinder +onlyGivenNames z6
    have h7 : ∀ b0 b1 b2, Keeps s0 b0 → Keeps s0 (z6 b0 b1 b2) := fun _ _ _ h11 => State.raiseFault_keeps (State.fset_keeps (State.fset_keeps h11))
    clear_value z6
    split
    · exact h7 _ _ _ h5
    · exact h7 _ _ _ h5
    · refine keeps_ite ?_ ?_
      · exact State.raiseFault_keeps (State.fset_keeps (State.fset_keeps h5))
      · extract_lets -underBinder +onlyGivenNames z12 z13
        clear_value z12 z13
        extract_lets -underBinder +onlyGivenNames z14
        have h15 : Keeps s0 z14 := State.fset_keeps (State.fset_keeps (State.fset_keeps h5))
        clear_value z14
        extract_lets -underBinder +onlyGivenNames z16
        have h17 : Keeps s0 z16 := State.wr_keeps h15
        clear_value z16
        extract_lets -underBinder +onlyGivenNames z18
        have h19 : Keeps s0 z18 := State.wideSet_keeps (State.sset_keeps h17)
        clear_value z18
        extract_lets -underBinder +onlyGivenNames z20
        clear_value z20
        extract_lets -underBinder +onlyGivenNames z21
        have h22 : Keeps s0 z21 := keeps_upd h19 rfl rfl rfl rfl rfl
        clear_value z21
        exact keeps_ite (State.calLive_keeps (State.fsetB_keeps (keeps_upd h22 rfl rfl rfl rfl rfl))) (State.calCrc_keeps (State.fsetB_keeps (keeps_upd h22 rfl rfl rfl rfl rfl)))

theorem execAgeingMeasurement_keeps {s0 : State} {x0 : List Int} {s : State} (h : Keeps s0 s) :
    ∀ t, execAgeingMeasurement x0 s = .next t → Keeps s0 t :=
  fun _ ht => keeps_next ht (ageingMeasurementOp_keeps h)

theorem execAscCounterClear_keeps {s0 : State} {x0 : Word} {s : State} (h : Keeps s0 s) :
    ∀ t, execAscCounterClear x0 s = .next t → Keeps s0 t :=
  fun _ ht => keeps_next ht (State.ascCtlWrite_keeps h)

theorem execAscEnable_keeps {s0 : State} {x0 : Word} {s : State} (h : Keeps s0 s) :
    ∀ t, execAscEnable x0 s = .next t → Keeps s0 t :=
  fun _ ht => keeps_next ht (State.ascCtlWrite_keeps h)

theorem execCalibrationEnd_keeps {s0 : State} {x0 : List CalTry} {s : State} (h : Keeps s0 s) :
    ∀ t, execCalibrationEnd x0 s = .next t → Keeps s0 t :=
  fun _ ht => keeps_next ht (calibrationEndOp_keeps h)

theorem execCalibrationRestore_keeps {s0 : State} {x0 : Word} {s : State} (h : Keeps s0 s) :
    ∀ t, execCalibrationRestore x0 s = .next t → Keeps s0 t :=
  fun _ ht => keeps_next ht (State.calCtlWrite_keeps h)

theorem execCalibrationStart_keeps {s0 : State} {x0 : Word} {s : State} (h : Keeps s0 s) :
    ∀ t, execCalibrationStart x0 s = .next t → Keeps s0 t :=
  fun _ ht => keeps_next ht (State.calCtlWrite_keeps h)

theorem execSetpointApplyArm_keeps {s0 : State} {x0 : Word} {s : State} (h : Keeps s0 s) :
    ∀ t, execSetpointApplyArm x0 s = .next t → Keeps s0 t :=
  fun _ ht => keeps_next ht (State.ascCctlWrite_keeps h)

theorem telemetryFrameOp_keeps {s0 : State} {x0 : Act} {x1 : BitVec 20} {s : State} (h : Keeps s0 s) :
    Keeps s0 (telemetryFrameOp x0 x1 s) := by
  unfold telemetryFrameOp
  refine keeps_ite ?_ ?_
  · exact h
  · extract_lets -underBinder +onlyGivenNames z1 z2 z3 z4 z5 z6 z7 z8
    clear_value z1 z2 z3 z4 z5 z6 z7 z8
    extract_lets -underBinder +onlyGivenNames z9
    have h10 : Keeps s0 z9 := State.telMap_keeps h
    clear_value z9
    refine keeps_ite ?_ ?_
    · extract_lets -underBinder +onlyGivenNames z11 z12 z13 z14 z15 z16 z17 z18
      clear_value z11 z12 z13 z14 z15 z16 z17 z18
      extract_lets -underBinder +onlyGivenNames z19
      have h20 : Keeps s0 z19 := State.telMap_keeps h10
      clear_value z19
      extract_lets -underBinder +onlyGivenNames z21 z22
      clear_value z21 z22
      exact keeps_ite (State.overPower_keeps h20) h20
    · exact h10

theorem execTelemetryFrame_keeps {s0 : State} {x0 : Act} {x1 : BitVec 20} {s : State} (h : Keeps s0 s) :
    ∀ t, execTelemetryFrame x0 x1 s = .next t → Keeps s0 t :=
  fun _ ht => keeps_next ht (telemetryFrameOp_keeps h)

theorem telemetryLossOp_keeps {s0 : State} {x0 : Act} {s : State} (h : Keeps s0 s) :
    Keeps s0 (telemetryLossOp x0 s) :=
  keeps_ite (State.overPower_keeps h) h

theorem execTelemetryLoss_keeps {s0 : State} {x0 : Act} {s : State} (h : Keeps s0 s) :
    ∀ t, execTelemetryLoss x0 s = .next t → Keeps s0 t :=
  fun _ ht => keeps_next ht (telemetryLossOp_keeps h)

theorem temperatureScanOp_keeps {s0 : State} {x0 : List (Option Int)} {s : State} (h : Keeps s0 s) :
    Keeps s0 (temperatureScanOp x0 s) := by
  unfold temperatureScanOp
  refine keeps_ite ?_ ?_
  · exact h
  · extract_lets -underBinder +onlyGivenNames z1
    have h2 : Keeps s0 z1 := State.scanAll_keeps h
    clear_value z1
    extract_lets -underBinder +onlyGivenNames z3
    clear_value z3
    extract_lets -underBinder +onlyGivenNames z4
    have h5 : Keeps s0 z4 := by
      subst z4
      split
      · exact State.fset_keeps (State.sset_keeps h2)
      · exact h2
    clear_value z4
    extract_lets -underBinder +onlyGivenNames z6
    clear_value z6
    extract_lets -underBinder +onlyGivenNames z7
    have h8 : Keeps s0 z7 := by
      subst z7
      split
      · exact State.fsetB_keeps (State.fset_keeps (State.sset_keeps h5))
      · exact State.fsetB_keeps h5
    clear_value z7
    extract_lets -underBinder +onlyGivenNames z9
    have h10 : Keeps s0 z9 := by
      subst z9
      split
      · exact State.criticalCheck_keeps (State.throttleCheck_keeps h8)
      · exact h8
    clear_value z9
    exact State.warnUpdate_keeps (State.hctmUpdate_keeps (State.recalCheck_keeps h10))

theorem execTemperatureScan_keeps {s0 : State} {x0 : List (Option Int)} {s : State} (h : Keeps s0 s) :
    ∀ t, execTemperatureScan x0 s = .next t → Keeps s0 t :=
  fun _ ht => keeps_next ht (temperatureScanOp_keeps h)

theorem throttleGraceExpiryOp_keeps {s0 : State} {s : State} (h : Keeps s0 s) :
    Keeps s0 (throttleGraceExpiryOp s) :=
  keeps_ite (State.ceilingUpdate_keeps (State.raiseFault_keeps (State.fsetB_keeps (keeps_upd h rfl rfl rfl rfl rfl)))) h

theorem execThrottleGraceExpiry_keeps {s0 : State} {s : State} (h : Keeps s0 s) :
    ∀ t, execThrottleGraceExpiry s = .next t → Keeps s0 t :=
  fun _ ht => keeps_next ht (throttleGraceExpiryOp_keeps h)

theorem execWindowEvaluation_keeps {s0 : State} {s : State} (h : Keeps s0 s) :
    ∀ t, execWindowEvaluation s = .next t → Keeps s0 t :=
  fun _ ht => keeps_next ht (keeps_ite (State.windowEval_keeps h) h)

/-! Msq -/

theorem State.ldsRead_keeps {s0 : State} {s : State} {x1 : Act} {x2 : Nat} (h : Keeps s0 s) :
    Keeps s0 (State.ldsRead s x1 x2).2 := by
  unfold State.ldsRead
  extract_lets -underBinder +onlyGivenNames z1
  clear_value z1
  split
  · exact keeps_mk2 h
  · exact keeps_mk2 h
  · exact keeps_mk2 h
  · split
    · exact keeps_mk2 h
    · extract_lets -underBinder +onlyGivenNames z2
      have h3 : Keeps s0 z2 := State.ddpMap_keeps h
      clear_value z2
      extract_lets -underBinder +onlyGivenNames z4
      clear_value z4
      exact keeps_mk2 (State.msqSet_keeps h3)
  · exact keeps_mk2 h
  · exact keeps_mk2 h
  · exact keeps_mk2 h
  · exact keeps_mk2 (State.tick_keeps h)

theorem State.aluResult_keeps {s0 : State} {s : State} {x1 : Act} {x2 : Nat} {x3 : Word} {x4 : Word} (h : Keeps s0 s) :
    Keeps s0 (State.aluResult s x1 x2 x3 x4).2.2 := by
  unfold State.aluResult
  split
  · dsimp -zeta only
    exact h
  · dsimp -zeta only
    exact h
  · dsimp -zeta only
    exact h
  · dsimp -zeta only
    exact h
  · dsimp -zeta only
    exact h
  · dsimp -zeta only
    exact h
  · dsimp -zeta only
    exact h
  · dsimp -zeta only
    exact h
  · dsimp -zeta only
    exact h
  · extract_lets -underBinder +onlyGivenNames z1
    have h2 : Keeps s0 z1.2 := State.ldsRead_keeps h
    clear_value z1
    dsimp -zeta only
    exact h2
  · dsimp -zeta only
    exact h
  · dsimp -zeta only
    exact h

theorem State.msqMap_keeps {s0 : State} {s : State} {x1 : Act} {x2 : MsqSt → MsqSt} (h : Keeps s0 s) :
    Keeps s0 (State.msqMap s x1 x2) :=
  State.msqSet_keeps h

theorem State.aluStep_keeps {s0 : State} {s : State} {x1 : Act} {x2 : Microword} (h : Keeps s0 s) :
    Keeps s0 (State.aluStep s x1 x2) := by
  unfold State.aluStep
  extract_lets -underBinder +onlyGivenNames z1 z2 z3 z4
  clear_value z1 z2 z3 z4
  extract_lets -underBinder +onlyGivenNames z5
  have h6 : Keeps s0 z5.2.2 := State.aluResult_keeps h
  clear_value z5
  extract_lets -underBinder +onlyGivenNames z7
  have h8 : Keeps s0 z7 := h6
  clear_value z7
  extract_lets -underBinder +onlyGivenNames z9
  have h10 : Keeps s0 z9 := by
    subst z9
    split
    · extract_lets -underBinder +onlyGivenNames z11
      have h12 : Keeps s0 z11 := keeps_ite h8 (State.msqMap_keeps h8)
      clear_value z11
      exact keeps_ite (State.msqMap_keeps h12) h12
    · exact keeps_ite (State.msqMap_keeps h8) h8
  clear_value z9
  exact keeps_ite (State.msqMap_keeps h10) h10

theorem State.loadReread_keeps {s0 : State} {s : State} {x1 : Act} {x2 : MsqSt} (h : Keeps s0 s) :
    Keeps s0 (State.loadReread s x1 x2) := by
  unfold State.loadReread
  extract_lets -underBinder +onlyGivenNames z1
  clear_value z1
  split
  · exact State.rwcLoad_keeps h
  · exact h

theorem State.chanStep_keeps {s0 : State} {s : State} {x1 : Act} {x2 : MsqSt} {x3 : Nat} (h : Keeps s0 s) :
    Keeps s0 (State.chanStep s x1 x2 x3) := by
  unfold State.chanStep
  extract_lets -underBinder +onlyGivenNames z1
  clear_value z1
  split
  · exact State.rwcLoad_keeps h
  · exact State.rwcStart_keeps h
  · exact State.rwcAbort_keeps h
  · exact State.loadReread_keeps h
  · exact h

theorem State.postReady_keeps {s0 : State} {s : State} {x1 : Act} {x2 : Nat} (h : Keeps s0 s) :
    Keeps s0 (State.postReady s x1 x2) := by
  induction x2 generalizing s with
  | zero =>
    unfold State.postReady
    exact h
  | succ n ih =>
    unfold State.postReady
    extract_lets -underBinder +onlyGivenNames z1 z2
    clear_value z1 z2
    split
    · exact h
    · extract_lets -underBinder +onlyGivenNames z3 z4
      clear_value z3 z4
      extract_lets -underBinder +onlyGivenNames z5
      have h6 : Keeps s0 z5 := State.msqSet_keeps h
      clear_value z5
      exact ih (State.postCpl_keeps h6)

theorem State.cplpopWrite_keeps {s0 : State} {s : State} {x1 : Act} {x2 : Word} (h : Keeps s0 s) :
    Keeps s0 (State.cplpopWrite s x1 x2) :=
  keeps_ite (State.haltDrain_keeps (State.postReady_keeps (State.msqCounts_keeps (State.msqMap_keeps h)))) h

theorem State.endStep_keeps {s0 : State} {s : State} {x1 : Act} {x2 : Nat} (h : Keeps s0 s) :
    Keeps s0 (State.endStep s x1 x2) := by
  unfold State.endStep
  extract_lets -underBinder +onlyGivenNames z1
  clear_value z1
  split
  · exact h
  · exact State.postReady_keeps (State.msqSet_keeps h)

theorem State.enqueue_keeps {s0 : State} {s : State} {x1 : Act} {x2 : List Word} (h : Keeps s0 s) :
    Keeps s0 (State.enqueue s x1 x2) := by
  unfold State.enqueue
  extract_lets -underBinder +onlyGivenNames z1
  have h2 : ∀ b0, Keeps s0 (z1 b0) := fun _ => State.postReady_keeps (State.msqMap_keeps h)
  clear_value z1
  refine keeps_ite ?_ ?_
  · exact h2 _
  · refine keeps_ite ?_ ?_
    · exact h2 _
    · extract_lets -underBinder +onlyGivenNames z4
      have h5 : Keeps s0 z4 := State.msqMap_keeps h
      clear_value z4
      exact State.haltDrain_keeps (State.msqCounts_keeps (State.seqEvent_keeps h5))

theorem State.gateStep_keeps {s0 : State} {s : State} {x1 : Act} {x2 : Nat} (h : Keeps s0 s) :
    Keeps s0 (State.gateStep s x1 x2) := by
  unfold State.gateStep
  extract_lets -underBinder +onlyGivenNames z1
  have h2 : Keeps s0 z1 := by
    subst z1
    split
    · exact State.msqMap_keeps h
    · exact keeps_ite (State.msqMap_keeps h) h
    · exact State.msqMap_keeps h
    · exact h
  clear_value z1
  split
  · exact keeps_ite (keeps_ite h2 (State.stopSoft_keeps h2)) (keeps_ite h2 (State.stopSoft_keeps h2))
  · exact h2

theorem State.machineCheck_keeps {s0 : State} {s : State} {x1 : Act} {x2 : Nat} {x3 : Nat} {x4 : Bool} (h : Keeps s0 s) :
    Keeps s0 (State.machineCheck s x1 x2 x3 x4) := by
  unfold State.machineCheck
  extract_lets -underBinder +onlyGivenNames z1
  have h2 : Keeps s0 z1 := State.fset_keeps (State.fset_keeps h)
  clear_value z1
  extract_lets -underBinder +onlyGivenNames z3
  have h4 : Keeps s0 z3 := State.raiseFault_keeps (State.hardStop_keeps h2)
  clear_value z3
  exact State.bufferStop_keeps h4

theorem State.seqStop_keeps {s0 : State} {s : State} {x1 : Act} (h : Keeps s0 s) :
    Keeps s0 (State.seqStop s x1) :=
  State.fsetB_keeps (State.fsetB_keeps (State.msqMap_keeps h))

theorem State.msqCtlWrite_keeps {s0 : State} {s : State} {x1 : Act} {x2 : Word} (h : Keeps s0 s) :
    Keeps s0 (State.msqCtlWrite s x1 x2) := by
  unfold State.msqCtlWrite
  extract_lets -underBinder +onlyGivenNames z1
  clear_value z1
  extract_lets -underBinder +onlyGivenNames z2
  have h3 : Keeps s0 z2 := State.fsetB_keeps h
  clear_value z2
  extract_lets -underBinder +onlyGivenNames z4
  have h5 : Keeps s0 z4 := keeps_ite (State.clearCount_keeps (State.clearCount_keeps h3)) h3
  clear_value z4
  refine keeps_ite ?_ ?_
  · refine keeps_ite ?_ ?_
    · exact State.msqMap_keeps h5
    · refine keeps_ite ?_ ?_
      · exact h5
      · extract_lets -underBinder +onlyGivenNames z6
        have h7 : Keeps s0 z6 := State.msqMap_keeps h5
        clear_value z6
        exact State.fsetB_keeps (State.fsetB_keeps (State.fset_keeps h7))
  · refine keeps_ite ?_ ?_
    · extract_lets -underBinder +onlyGivenNames z8
      have h9 : Keeps s0 z8 := State.msqMap_keeps h5
      clear_value z8
      exact keeps_ite (State.seqStop_keeps h9) h9
    · exact h5

theorem State.opsubWrite_keeps {s0 : State} {s : State} {x1 : Act} {x2 : Word} (h : Keeps s0 s) :
    Keeps s0 (State.opsubWrite s x1 x2) :=
  keeps_ite (keeps_ite (State.fsetB_keeps h) (State.enqueue_keeps h)) h

theorem State.patchEnd_keeps {s0 : State} {s : State} {x1 : Act} {x2 : Nat} {x3 : Bool} (h : Keeps s0 s) :
    Keeps s0 (State.patchEnd s x1 x2 x3) := by
  unfold State.patchEnd
  extract_lets -underBinder +onlyGivenNames z1
  have h2 : Keeps s0 z1 := State.fset_keeps (State.fsetB_keeps (State.fsetB_keeps h))
  clear_value z1
  exact keeps_ite h2 (State.raiseFault_keeps h2)

theorem State.patchWrite_keeps {s0 : State} {s : State} {x1 : Act} {x2 : PatchSection} {x3 : Nat} {x4 : Nat} (h : Keeps s0 s) :
    Keeps s0 (State.patchWrite s x1 x2 x3 x4) := by
  induction x4 generalizing s x3 with
  | zero =>
    unfold State.patchWrite
    exact h
  | succ n ih =>
    unfold State.patchWrite
    extract_lets -underBinder +onlyGivenNames z1
    clear_value z1
    extract_lets -underBinder +onlyGivenNames z2
    have h3 : Keeps s0 z2 := keeps_ite (State.msqMap_keeps h) (keeps_ite (State.wr_keeps h) (State.fset_keeps h))
    clear_value z2
    exact ih h3

theorem State.patchWriteAll_keeps {s0 : State} {s : State} {x1 : Act} {x2 : List PatchSection} (h : Keeps s0 s) :
    Keeps s0 (State.patchWriteAll s x1 x2) := by
  induction x2 generalizing s with
  | nil =>
    unfold State.patchWriteAll
    exact h
  | cons y ys ih =>
    unfold State.patchWriteAll
    exact ih (State.patchWrite_keeps h)

theorem State.pldctlWrite_keeps {s0 : State} {s : State} {x1 : Act} {x2 : Word} (h : Keeps s0 s) :
    Keeps s0 (State.pldctlWrite s x1 x2) :=
  keeps_ite (keeps_ite (State.patchEnd_keeps h) (keeps_ite (State.patchEnd_keeps h) (State.fsetB_keeps h))) h

theorem State.preStep_keeps {s0 : State} {s : State} {x1 : Act} {x2 : List Word} {x3 : Nat} {x4 : Word} {x5 : Word} (h : Keeps s0 s) :
    Keeps s0 (State.preStep s x1 x2 x3 x4 x5) := by
  unfold State.preStep
  split
  · extract_lets -underBinder +onlyGivenNames z1
    clear_value z1
    exact State.seqFrame_keeps h
  · exact State.seqFrame_keeps h
  · exact State.seqFrame_keeps h
  · exact h

theorem State.servoStep_keeps {s0 : State} {s : State} {x1 : Act} {x2 : List Word} {x3 : Nat} {x4 : Word} (h : Keeps s0 s) :
    Keeps s0 (State.servoStep s x1 x2 x3 x4) := by
  unfold State.servoStep
  split
  · extract_lets -underBinder +onlyGivenNames z1
    have h2 : Keeps s0 z1 := State.fset_keeps (State.fset_keeps h)
    clear_value z1
    extract_lets -underBinder +onlyGivenNames z3
    clear_value z3
    exact State.msqMap_keeps (State.sacCommand_keeps h2)
  · extract_lets -underBinder +onlyGivenNames z4
    clear_value z4
    exact State.msqMap_keeps (State.sacCommand_keeps h)
  · exact h

theorem State.seqStep_keeps {s0 : State} {s : State} {x1 : Act} {x2 : Microword} {x3 : Bool} (h : Keeps s0 s) :
    Keeps s0 (State.seqStep s x1 x2 x3) := by
  unfold State.seqStep
  extract_lets -underBinder +onlyGivenNames z1 z2 z3
  clear_value z1 z2 z3
  extract_lets -underBinder +onlyGivenNames z4
  have h5 : ∀ b0 b1, Keeps s0 b0 → Keeps s0 (z4 b0 b1) := fun _ _ h8 => State.fset_keeps h8
  clear_value z4
  split
  · exact h5 _ _ h
  · exact h5 _ _ h
  · exact h5 _ _ h
  · exact h5 _ _ (State.msqSet_keeps h)
  · exact h5 _ _ (State.msqSet_keeps h)
  · split
    · refine keeps_ite ?_ ?_
      · extract_lets -underBinder +onlyGivenNames z9
        have h10 : Keeps s0 z9 := State.msqSet_keeps h
        clear_value z9
        extract_lets -underBinder +onlyGivenNames z11
        have h12 : Keeps s0 z11 := State.rwcMap_keeps h10
        clear_value z11
        exact h5 _ _ (State.msqCounts_keeps h12)
      · exact h5 _ _ h
    · exact h5 _ _ h
  · exact h5 _ _ (State.fsetB_keeps (State.msqSet_keeps h))
  · exact h

theorem State.takeEvent_keeps {s0 : State} {s : State} {x1 : Act} (h : Keeps s0 s) :
    Keeps s0 (State.takeEvent s x1) := by
  unfold State.takeEvent
  split
  · exact h
  · extract_lets -underBinder +onlyGivenNames z1
    clear_value z1
    refine keeps_ite ?_ ?_
    · exact State.machineCheck_keeps h
    · extract_lets -underBinder +onlyGivenNames z2
      have h3 : Keeps s0 z2 := State.msqSet_keeps h
      clear_value z2
      extract_lets -underBinder +onlyGivenNames z4 z5 z6
      clear_value z4 z5 z6
      extract_lets -underBinder +onlyGivenNames z7
      have h8 : Keeps s0 z7 := keeps_ite h3 (keeps_upd h3 rfl rfl rfl rfl rfl)
      clear_value z7
      exact State.fset_keeps (State.fsetB_keeps h8)

theorem State.yieldPoint_keeps {s0 : State} {s : State} {x1 : Act} (h : Keeps s0 s) :
    Keeps s0 (State.yieldPoint s x1) := by
  unfold State.yieldPoint
  extract_lets -underBinder +onlyGivenNames z1
  have h2 : Keeps s0 z1 := State.msqMap_keeps h
  clear_value z1
  exact keeps_ite (State.seqStop_keeps h2) (State.takeEvent_keeps h2)

theorem State.runFields_keeps {s0 : State} {s : State} {x1 : Act} {x2 : Microword} (h : Keeps s0 s) :
    Keeps s0 (State.runFields s x1 x2) := by
  unfold State.runFields
  extract_lets -underBinder +onlyGivenNames z1 z2 z3
  clear_value z1 z2 z3
  refine keeps_ite ?_ ?_
  · exact State.machineCheck_keeps h
  · refine keeps_ite ?_ ?_
    · exact State.fsetB_keeps (State.msqMap_keeps h)
    · extract_lets -underBinder +onlyGivenNames z4 z5 z6
      clear_value z4 z5 z6
      extract_lets -underBinder +onlyGivenNames z7
      have h8 : Keeps s0 z7 := State.msqMap_keeps h
      clear_value z7
      extract_lets -underBinder +onlyGivenNames z9
      have h10 : Keeps s0 z9 := State.aluStep_keeps (State.fsetB_keeps h8)
      clear_value z9
      extract_lets -underBinder +onlyGivenNames z11
      have h12 : Keeps s0 z11 := State.gateStep_keeps h10
      clear_value z11
      extract_lets -underBinder +onlyGivenNames z13
      have h14 : Keeps s0 z13 := State.chanStep_keeps h12
      clear_value z13
      extract_lets -underBinder +onlyGivenNames z15
      have h16 : Keeps s0 z15 := State.servoStep_keeps h14
      clear_value z15
      extract_lets -underBinder +onlyGivenNames z17
      have h18 : Keeps s0 z17 := State.preStep_keeps h16
      clear_value z17
      extract_lets -underBinder +onlyGivenNames z19
      have h20 : Keeps s0 z19 := by
        subst z19
        split
        · exact h18
        · exact State.ascTchk_keeps h18
        · exact State.ascAction_keeps h18
      clear_value z19
      extract_lets -underBinder +onlyGivenNames z21
      have h22 : Keeps s0 z21 := keeps_ite (State.endStep_keeps h20) h20
      clear_value z21
      extract_lets -underBinder +onlyGivenNames z23
      have h24 : Keeps s0 z23 := keeps_ite (State.raiseEvent_keeps h22) h22
      clear_value z23
      extract_lets -underBinder +onlyGivenNames z25
      have h26 : Keeps s0 z25 := State.seqStep_keeps h24
      clear_value z25
      exact keeps_ite (State.yieldPoint_keeps h26) (State.msqMap_keeps h26)

theorem State.releaseHold_keeps {s0 : State} {s : State} {x1 : Act} (h : Keeps s0 s) :
    Keeps s0 (State.releaseHold s x1) := by
  unfold State.releaseHold
  split
  · exact State.runFields_keeps h
  · exact h

theorem State.waitEnd_keeps {s0 : State} {s : State} {x1 : Act} {x2 : Microword} {x3 : Bool} {x4 : Bool} {x5 : Bool} (h : Keeps s0 s) :
    Keeps s0 (State.waitEnd s x1 x2 x3 x4 x5) := by
  unfold State.waitEnd
  extract_lets -underBinder +onlyGivenNames z1
  have h2 : Keeps s0 z1 := State.msqMap_keeps h
  clear_value z1
  extract_lets -underBinder +onlyGivenNames z3
  have h4 : Keeps s0 z3 := keeps_ite (State.fsetB_keeps h2) h2
  clear_value z3
  extract_lets -underBinder +onlyGivenNames z5
  have h6 : Keeps s0 z5 := keeps_ite (State.fsetB_keeps (State.fsetB_keeps h4)) h4
  clear_value z5
  exact State.runFields_keeps h6

theorem State.waitStart_keeps {s0 : State} {s : State} {x1 : Act} {x2 : Microword} (h : Keeps s0 s) :
    Keeps s0 (State.waitStart s x1 x2) := by
  unfold State.waitStart
  extract_lets -underBinder +onlyGivenNames z1
  clear_value z1
  refine keeps_ite ?_ ?_
  · exact State.waitEnd_keeps h
  · refine keeps_ite ?_ ?_
    · exact State.waitEnd_keeps h
    · refine keeps_ite ?_ ?_
      · exact State.waitEnd_keeps h
      · extract_lets -underBinder +onlyGivenNames z2
        have h3 : Keeps s0 z2 := State.msqMap_keeps h
        clear_value z2
        refine keeps_ite ?_ ?_
        · exact State.seqStop_keeps h3
        · split
          · exact State.takeEvent_keeps h3
          · exact State.fsetB_keeps (State.msqMap_keeps h3)

theorem State.runFetched_keeps {s0 : State} {s : State} {x1 : Act} {x2 : Microword} (h : Keeps s0 s) :
    Keeps s0 (State.runFetched s x1 x2) :=
  keeps_ite (State.machineCheck_keeps h) (keeps_ite (State.machineCheck_keeps h) (keeps_ite (State.runFields_keeps h) (State.waitStart_keeps h)))

theorem State.waitCycle_keeps {s0 : State} {s : State} {x1 : Act} {x2 : Microword} (h : Keeps s0 s) :
    Keeps s0 (State.waitCycle s x1 x2) := by
  unfold State.waitCycle
  refine keeps_ite ?_ ?_
  · exact State.waitEnd_keeps h
  · refine keeps_ite ?_ ?_
    · exact State.seqStop_keeps h
    · split
      · exact State.takeEvent_keeps (State.fsetB_keeps (State.msqMap_keeps h))
      · exact h

theorem State.seqCycle_keeps {s0 : State} {s : State} {x1 : Act} {x2 : Microword} (h : Keeps s0 s) :
    Keeps s0 (State.seqCycle s x1 x2) := by
  unfold State.seqCycle
  extract_lets -underBinder +onlyGivenNames z1
  clear_value z1
  refine keeps_ite ?_ ?_
  · exact h
  · split
    · exact State.runFields_keeps h
    · split
      · exact State.waitCycle_keeps h
      · split
        · exact keeps_ite (State.runFetched_keeps h) (State.machineCheck_keeps h)
        · exact State.runFetched_keeps h

theorem State.seqStrobe_keeps {s0 : State} {s : State} {x1 : Act} (h : Keeps s0 s) :
    Keeps s0 (State.seqStrobe s x1) :=
  State.seqEvent_keeps (State.fsetB_keeps h)

theorem execAdd_keeps {s0 : State} {x0 : Act} {x1 : Microword} {s : State} (h : Keeps s0 s) :
    ∀ t, execAdd x0 x1 s = .next t → Keeps s0 t :=
  fun _ ht => keeps_next ht (State.seqCycle_keeps h)

theorem execAnd_keeps {s0 : State} {x0 : Act} {x1 : Microword} {s : State} (h : Keeps s0 s) :
    ∀ t, execAnd x0 x1 s = .next t → Keeps s0 t :=
  fun _ ht => keeps_next ht (State.seqCycle_keeps h)

theorem execAngleWait_keeps {s0 : State} {x0 : Act} {x1 : Microword} {s : State} (h : Keeps s0 s) :
    ∀ t, execAngleWait x0 x1 s = .next t → Keeps s0 t :=
  fun _ ht => keeps_next ht (State.seqCycle_keeps h)

theorem execAscIdle_keeps {s0 : State} {x0 : Act} {x1 : Microword} {s : State} (h : Keeps s0 s) :
    ∀ t, execAscIdle x0 x1 s = .next t → Keeps s0 t :=
  fun _ ht => keeps_next ht (State.seqCycle_keeps h)

theorem execAscReadHeat_keeps {s0 : State} {x0 : Act} {x1 : Microword} {s : State} (h : Keeps s0 s) :
    ∀ t, execAscReadHeat x0 x1 s = .next t → Keeps s0 t :=
  fun _ ht => keeps_next ht (State.seqCycle_keeps h)

theorem execAscWriteHeat_keeps {s0 : State} {x0 : Act} {x1 : Microword} {s : State} (h : Keeps s0 s) :
    ∀ t, execAscWriteHeat x0 x1 s = .next t → Keeps s0 t :=
  fun _ ht => keeps_next ht (State.seqCycle_keeps h)

theorem execBr_keeps {s0 : State} {x0 : Act} {x1 : Microword} {s : State} (h : Keeps s0 s) :
    ∀ t, execBr x0 x1 s = .next t → Keeps s0 t :=
  fun _ ht => keeps_next ht (State.seqCycle_keeps h)

theorem execCall_keeps {s0 : State} {x0 : Act} {x1 : Microword} {s : State} (h : Keeps s0 s) :
    ∀ t, execCall x0 x1 s = .next t → Keeps s0 t :=
  fun _ ht => keeps_next ht (State.seqCycle_keeps h)

theorem execChanAbort_keeps {s0 : State} {x0 : Act} {x1 : Microword} {s : State} (h : Keeps s0 s) :
    ∀ t, execChanAbort x0 x1 s = .next t → Keeps s0 t :=
  fun _ ht => keeps_next ht (State.seqCycle_keeps h)

theorem execChanLoad_keeps {s0 : State} {x0 : Act} {x1 : Microword} {s : State} (h : Keeps s0 s) :
    ∀ t, execChanLoad x0 x1 s = .next t → Keeps s0 t :=
  fun _ ht => keeps_next ht (State.seqCycle_keeps h)

theorem execChanLoadr_keeps {s0 : State} {x0 : Act} {x1 : Microword} {s : State} (h : Keeps s0 s) :
    ∀ t, execChanLoadr x0 x1 s = .next t → Keeps s0 t :=
  fun _ ht => keeps_next ht (State.seqCycle_keeps h)

theorem execChanStart_keeps {s0 : State} {x0 : Act} {x1 : Microword} {s : State} (h : Keeps s0 s) :
    ∀ t, execChanStart x0 x1 s = .next t → Keeps s0 t :=
  fun _ ht => keeps_next ht (State.seqCycle_keeps h)

theorem execCmp_keeps {s0 : State} {x0 : Act} {x1 : Microword} {s : State} (h : Keeps s0 s) :
    ∀ t, execCmp x0 x1 s = .next t → Keeps s0 t :=
  fun _ ht => keeps_next ht (State.seqCycle_keeps h)

theorem execCompletionPop_keeps {s0 : State} {x0 : Act} {x1 : Word} {s : State} (h : Keeps s0 s) :
    ∀ t, execCompletionPop x0 x1 s = .next t → Keeps s0 t :=
  fun _ ht => keeps_next ht (State.cplpopWrite_keeps h)

theorem execCondWait_keeps {s0 : State} {x0 : Act} {x1 : Microword} {s : State} (h : Keeps s0 s) :
    ∀ t, execCondWait x0 x1 s = .next t → Keeps s0 t :=
  fun _ ht => keeps_next ht (State.seqCycle_keeps h)

theorem execCont_keeps {s0 : State} {x0 : Act} {x1 : Microword} {s : State} (h : Keeps s0 s) :
    ∀ t, execCont x0 x1 s = .next t → Keeps s0 t :=
  fun _ ht => keeps_next ht (State.seqCycle_keeps h)

theorem execDisp_keeps {s0 : State} {x0 : Act} {x1 : Microword} {s : State} (h : Keeps s0 s) :
    ∀ t, execDisp x0 x1 s = .next t → Keeps s0 t :=
  fun _ ht => keeps_next ht (State.seqCycle_keeps h)

theorem execEndOp_keeps {s0 : State} {x0 : Act} {x1 : Microword} {s : State} (h : Keeps s0 s) :
    ∀ t, execEndOp x0 x1 s = .next t → Keeps s0 t :=
  fun _ ht => keeps_next ht (State.seqCycle_keeps h)

theorem execEret_keeps {s0 : State} {x0 : Act} {x1 : Microword} {s : State} (h : Keeps s0 s) :
    ∀ t, execEret x0 x1 s = .next t → Keeps s0 t :=
  fun _ ht => keeps_next ht (State.seqCycle_keeps h)

theorem execGateClear_keeps {s0 : State} {x0 : Act} {x1 : Microword} {s : State} (h : Keeps s0 s) :
    ∀ t, execGateClear x0 x1 s = .next t → Keeps s0 t :=
  fun _ ht => keeps_next ht (State.seqCycle_keeps h)

theorem execGateRead_keeps {s0 : State} {x0 : Act} {x1 : Microword} {s : State} (h : Keeps s0 s) :
    ∀ t, execGateRead x0 x1 s = .next t → Keeps s0 t :=
  fun _ ht => keeps_next ht (State.seqCycle_keeps h)

theorem execGateWrite_keeps {s0 : State} {x0 : Act} {x1 : Microword} {s : State} (h : Keeps s0 s) :
    ∀ t, execGateWrite x0 x1 s = .next t → Keeps s0 t :=
  fun _ ht => keeps_next ht (State.seqCycle_keeps h)

theorem hardwareSubmitOp_keeps {s0 : State} {x0 : Act} {s : State} (h : Keeps s0 s) :
    Keeps s0 (hardwareSubmitOp x0 s) := by
  unfold hardwareSubmitOp
  split
  · exact h
  · exact keeps_ite (State.enqueue_keeps (State.msqMap_keeps h)) h

theorem execHardwareSubmit_keeps {s0 : State} {x0 : Act} {s : State} (h : Keeps s0 s) :
    ∀ t, execHardwareSubmit x0 s = .next t → Keeps s0 t :=
  fun _ ht => keeps_next ht (hardwareSubmitOp_keeps h)

theorem execJump_keeps {s0 : State} {x0 : Act} {x1 : Microword} {s : State} (h : Keeps s0 s) :
    ∀ t, execJump x0 x1 s = .next t → Keeps s0 t :=
  fun _ ht => keeps_next ht (State.seqCycle_keeps h)

theorem execLdd_keeps {s0 : State} {x0 : Act} {x1 : Microword} {s : State} (h : Keeps s0 s) :
    ∀ t, execLdd x0 x1 s = .next t → Keeps s0 t :=
  fun _ ht => keeps_next ht (State.seqCycle_keeps h)

theorem execLds_keeps {s0 : State} {x0 : Act} {x1 : Microword} {s : State} (h : Keeps s0 s) :
    ∀ t, execLds x0 x1 s = .next t → Keeps s0 t :=
  fun _ ht => keeps_next ht (State.seqCycle_keeps h)

theorem machineCheckOp_keeps {s0 : State} {x0 : Act} {x1 : MckCause} {x2 : BitVec 16} {s : State} (h : Keeps s0 s) :
    Keeps s0 (machineCheckOp x0 x1 x2 s) :=
  keeps_ite (State.machineCheck_keeps h) h

theorem execMachineCheck_keeps {s0 : State} {x0 : Act} {x1 : MckCause} {x2 : BitVec 16} {s : State} (h : Keeps s0 s) :
    ∀ t, execMachineCheck x0 x1 x2 s = .next t → Keeps s0 t :=
  fun _ ht => keeps_next ht (machineCheckOp_keeps h)

theorem execMicrocodeEvent_keeps {s0 : State} {x0 : Act} {x1 : Microword} {s : State} (h : Keeps s0 s) :
    ∀ t, execMicrocodeEvent x0 x1 s = .next t → Keeps s0 t :=
  fun _ ht => keeps_next ht (State.seqCycle_keeps h)

theorem execMov_keeps {s0 : State} {x0 : Act} {x1 : Microword} {s : State} (h : Keeps s0 s) :
    ∀ t, execMov x0 x1 s = .next t → Keeps s0 t :=
  fun _ ht => keeps_next ht (State.seqCycle_keeps h)

theorem execNop_keeps {s0 : State} {x0 : Act} {x1 : Microword} {s : State} (h : Keeps s0 s) :
    ∀ t, execNop x0 x1 s = .next t → Keeps s0 t :=
  fun _ ht => keeps_next ht (State.seqCycle_keeps h)

theorem operationCancelOp_keeps {s0 : State} {x0 : Act} {x1 : Nat} {x2 : Word} {s : State} (h : Keeps s0 s) :
    Keeps s0 (operationCancelOp x0 x1 x2 s) := by
  unfold operationCancelOp
  extract_lets -underBinder +onlyGivenNames z1 z2
  clear_value z1 z2
  split
  · extract_lets -underBinder +onlyGivenNames z3
    clear_value z3
    exact State.msqCounts_keeps (State.postReady_keeps (State.msqSet_keeps h))
  · split
    · refine keeps_ite ?_ ?_
      · extract_lets -underBinder +onlyGivenNames z4
        have h5 : Keeps s0 z4 := State.seqEvent_keeps (State.msqSet_keeps h)
        clear_value z4
        exact State.abortJobs_keeps h5
      · exact h
    · exact h

theorem execOperationCancel_keeps {s0 : State} {x0 : Act} {x1 : Nat} {x2 : Word} {s : State} (h : Keeps s0 s) :
    ∀ t, execOperationCancel x0 x1 x2 s = .next t → Keeps s0 t :=
  fun _ ht => keeps_next ht (operationCancelOp_keeps h)

theorem execOperationSubmit_keeps {s0 : State} {x0 : Act} {x1 : Word} {s : State} (h : Keeps s0 s) :
    ∀ t, execOperationSubmit x0 x1 s = .next t → Keeps s0 t :=
  fun _ ht => keeps_next ht (State.opsubWrite_keeps h)

theorem execOr_keeps {s0 : State} {x0 : Act} {x1 : Microword} {s : State} (h : Keeps s0 s) :
    ∀ t, execOr x0 x1 s = .next t → Keeps s0 t :=
  fun _ ht => keeps_next ht (State.seqCycle_keeps h)

theorem execPatchLoad_keeps {s0 : State} {x0 : Act} {x1 : Word} {s : State} (h : Keeps s0 s) :
    ∀ t, execPatchLoad x0 x1 s = .next t → Keeps s0 t :=
  fun _ ht => keeps_next ht (State.pldctlWrite_keeps h)

theorem patchLoadCompleteOp_keeps {s0 : State} {x0 : Act} {x1 : Bool} {x2 : Bool} {x3 : List Byte} {s : State} (h : Keeps s0 s) :
    Keeps s0 (patchLoadCompleteOp x0 x1 x2 x3 s) := by
  unfold patchLoadCompleteOp
  refine keeps_ite ?_ ?_
  · exact h
  · extract_lets -underBinder +onlyGivenNames z1
    clear_value z1
    refine keeps_ite ?_ ?_
    · exact State.patchEnd_keeps h
    · refine keeps_ite ?_ ?_
      · exact State.patchEnd_keeps h
      · extract_lets -underBinder +onlyGivenNames z2
        clear_value z2
        refine keeps_ite ?_ ?_
        · exact State.patchEnd_keeps h
        · refine keeps_ite ?_ ?_
          · exact State.patchEnd_keeps h
          · extract_lets -underBinder +onlyGivenNames z3
            clear_value z3
            exact keeps_ite (State.patchEnd_keeps h) (keeps_ite (State.patchEnd_keeps h) (State.patchEnd_keeps (State.fset_keeps (State.patchWriteAll_keeps h))))

theorem execPatchLoadComplete_keeps {s0 : State} {x0 : Act} {x1 : Bool} {x2 : Bool} {x3 : List Byte} {s : State} (h : Keeps s0 s) :
    ∀ t, execPatchLoadComplete x0 x1 x2 x3 s = .next t → Keeps s0 t :=
  fun _ ht => keeps_next ht (patchLoadCompleteOp_keeps h)

theorem execPreHeadSelect_keeps {s0 : State} {x0 : Act} {x1 : Microword} {s : State} (h : Keeps s0 s) :
    ∀ t, execPreHeadSelect x0 x1 s = .next t → Keeps s0 t :=
  fun _ ht => keeps_next ht (State.seqCycle_keeps h)

theorem execPreReadFrame_keeps {s0 : State} {x0 : Act} {x1 : Microword} {s : State} (h : Keeps s0 s) :
    ∀ t, execPreReadFrame x0 x1 s = .next t → Keeps s0 t :=
  fun _ ht => keeps_next ht (State.seqCycle_keeps h)

theorem execPreWriteFrame_keeps {s0 : State} {x0 : Act} {x1 : Microword} {s : State} (h : Keeps s0 s) :
    ∀ t, execPreWriteFrame x0 x1 s = .next t → Keeps s0 t :=
  fun _ ht => keeps_next ht (State.seqCycle_keeps h)

theorem execRet_keeps {s0 : State} {x0 : Act} {x1 : Microword} {s : State} (h : Keeps s0 s) :
    ∀ t, execRet x0 x1 s = .next t → Keeps s0 t :=
  fun _ ht => keeps_next ht (State.seqCycle_keeps h)

theorem execSequencerCounterClear_keeps {s0 : State} {x0 : Act} {x1 : Word} {s : State} (h : Keeps s0 s) :
    ∀ t, execSequencerCounterClear x0 x1 s = .next t → Keeps s0 t :=
  fun _ ht => keeps_next ht (State.msqCtlWrite_keeps h)

theorem execSequencerEnable_keeps {s0 : State} {x0 : Act} {x1 : Word} {s : State} (h : Keeps s0 s) :
    ∀ t, execSequencerEnable x0 x1 s = .next t → Keeps s0 t :=
  fun _ ht => keeps_next ht (State.msqCtlWrite_keeps h)

theorem execSequencerStop_keeps {s0 : State} {x0 : Act} {x1 : Word} {s : State} (h : Keeps s0 s) :
    ∀ t, execSequencerStop x0 x1 s = .next t → Keeps s0 t :=
  fun _ ht => keeps_next ht (State.msqCtlWrite_keeps h)

theorem serialFrameDoneOp_keeps {s0 : State} {x0 : Act} {x1 : BitVec 16} {s : State} (h : Keeps s0 s) :
    Keeps s0 (serialFrameDoneOp x0 x1 s) := by
  unfold serialFrameDoneOp
  split
  · exact keeps_ite h (State.releaseHold_keeps (State.frameDone_keeps h))
  · exact h

theorem execSerialFrameDone_keeps {s0 : State} {x0 : Act} {x1 : BitVec 16} {s : State} (h : Keeps s0 s) :
    ∀ t, execSerialFrameDone x0 x1 s = .next t → Keeps s0 t :=
  fun _ ht => keeps_next ht (serialFrameDoneOp_keeps h)

theorem serialTrailerEndOp_keeps {s0 : State} {x0 : Act} {s : State} (h : Keeps s0 s) :
    Keeps s0 (serialTrailerEndOp x0 s) := by
  unfold serialTrailerEndOp
  split
  · refine keeps_ite ?_ ?_
    · extract_lets -underBinder +onlyGivenNames z1
      have h2 : Keeps s0 z1 := State.frameEnd_keeps h
      clear_value z1
      extract_lets -underBinder +onlyGivenNames z3
      have h4 : Keeps s0 z3 := keeps_ite (State.seqEvent_keeps (State.msqMap_keeps h2)) h2
      clear_value z3
      exact State.releaseHold_keeps h4
    · exact h
  · exact h

theorem execSerialTrailerEnd_keeps {s0 : State} {x0 : Act} {s : State} (h : Keeps s0 s) :
    ∀ t, execSerialTrailerEnd x0 s = .next t → Keeps s0 t :=
  fun _ ht => keeps_next ht (serialTrailerEndOp_keeps h)

theorem execServoSeek_keeps {s0 : State} {x0 : Act} {x1 : Microword} {s : State} (h : Keeps s0 s) :
    ∀ t, execServoSeek x0 x1 s = .next t → Keeps s0 t :=
  fun _ ht => keeps_next ht (State.seqCycle_keeps h)

theorem execServoUnload_keeps {s0 : State} {x0 : Act} {x1 : Microword} {s : State} (h : Keeps s0 s) :
    ∀ t, execServoUnload x0 x1 s = .next t → Keeps s0 t :=
  fun _ ht => keeps_next ht (State.seqCycle_keeps h)

theorem execShl_keeps {s0 : State} {x0 : Act} {x1 : Microword} {s : State} (h : Keeps s0 s) :
    ∀ t, execShl x0 x1 s = .next t → Keeps s0 t :=
  fun _ ht => keeps_next ht (State.seqCycle_keeps h)

theorem execShr_keeps {s0 : State} {x0 : Act} {x1 : Microword} {s : State} (h : Keeps s0 s) :
    ∀ t, execShr x0 x1 s = .next t → Keeps s0 t :=
  fun _ ht => keeps_next ht (State.seqCycle_keeps h)

theorem execStd_keeps {s0 : State} {x0 : Act} {x1 : Microword} {s : State} (h : Keeps s0 s) :
    ∀ t, execStd x0 x1 s = .next t → Keeps s0 t :=
  fun _ ht => keeps_next ht (State.seqCycle_keeps h)

theorem execStrobeWait_keeps {s0 : State} {x0 : Act} {x1 : Microword} {s : State} (h : Keeps s0 s) :
    ∀ t, execStrobeWait x0 x1 s = .next t → Keeps s0 t :=
  fun _ ht => keeps_next ht (State.seqCycle_keeps h)

theorem execSub_keeps {s0 : State} {x0 : Act} {x1 : Microword} {s : State} (h : Keeps s0 s) :
    ∀ t, execSub x0 x1 s = .next t → Keeps s0 t :=
  fun _ ht => keeps_next ht (State.seqCycle_keeps h)

theorem execTchk_keeps {s0 : State} {x0 : Act} {x1 : Microword} {s : State} (h : Keeps s0 s) :
    ∀ t, execTchk x0 x1 s = .next t → Keeps s0 t :=
  fun _ ht => keeps_next ht (State.seqCycle_keeps h)

theorem waitEndOp_keeps {s0 : State} {x0 : Act} {s : State} (h : Keeps s0 s) :
    Keeps s0 (waitEndOp x0 s) := by
  unfold waitEndOp
  split
  · extract_lets -underBinder +onlyGivenNames z1
    have h2 : Keeps s0 z1 := keeps_ite (State.angleTo_keeps h) h
    clear_value z1
    exact State.waitCycle_keeps h2
  · exact h

theorem execWaitEnd_keeps {s0 : State} {x0 : Act} {s : State} (h : Keeps s0 s) :
    ∀ t, execWaitEnd x0 s = .next t → Keeps s0 t :=
  fun _ ht => keeps_next ht (waitEndOp_keeps h)

theorem waitLimitExpiryOp_keeps {s0 : State} {x0 : Act} {s : State} (h : Keeps s0 s) :
    Keeps s0 (waitLimitExpiryOp x0 s) := by
  unfold waitLimitExpiryOp
  split
  · refine keeps_ite ?_ ?_
    · extract_lets -underBinder +onlyGivenNames z1
      have h2 : Keeps s0 z1 := State.angleTo_keeps h
      clear_value z1
      exact State.waitEnd_keeps h2
    · exact h
  · exact h

theorem execWaitLimitExpiry_keeps {s0 : State} {x0 : Act} {s : State} (h : Keeps s0 s) :
    ∀ t, execWaitLimitExpiry x0 s = .next t → Keeps s0 t :=
  fun _ ht => keeps_next ht (waitLimitExpiryOp_keeps h)

theorem execXor_keeps {s0 : State} {x0 : Act} {x1 : Microword} {s : State} (h : Keeps s0 s) :
    ∀ t, execXor x0 x1 s = .next t → Keeps s0 t :=
  fun _ ht => keeps_next ht (State.seqCycle_keeps h)

theorem execYield_keeps {s0 : State} {x0 : Act} {x1 : Microword} {s : State} (h : Keeps s0 s) :
    ∀ t, execYield x0 x1 s = .next t → Keeps s0 t :=
  fun _ ht => keeps_next ht (State.seqCycle_keeps h)

/-! Slots -/

theorem State.slotReject_keeps {s0 : State} {s : State} {x1 : Nat} (h : Keeps s0 s) :
    Keeps s0 (State.slotReject s x1) :=
  State.fsetB_keeps (State.fsetB_keeps h)

theorem State.slotSet_keeps {s0 : State} {s : State} {x1 : Nat} {x2 : Option SlotLatch} (h : Keeps s0 s) :
    Keeps s0 (State.slotSet s x1 x2) := by
  unfold State.slotSet
  extract_lets -underBinder +onlyGivenNames z1 z2
  clear_value z1 z2
  extract_lets -underBinder +onlyGivenNames z3
  have h4 : Keeps s0 z3 := keeps_upd h rfl rfl rfl rfl rfl
  clear_value z3
  exact State.fsetB_keeps h4

theorem State.slotCtlWrite_keeps {s0 : State} {s : State} {x1 : Nat} {x2 : Word} (h : Keeps s0 s) :
    Keeps s0 (State.slotCtlWrite s x1 x2) := by
  unfold State.slotCtlWrite
  extract_lets -underBinder +onlyGivenNames z1 z2
  clear_value z1 z2
  extract_lets -underBinder +onlyGivenNames z3
  have h4 : ∀ b0, Keeps s0 b0 → Keeps s0 (z3 b0) := fun _ h6 => State.fset_keeps (State.fsetB_keeps h6)
  clear_value z3
  refine keeps_ite ?_ ?_
  · exact h4 _ h
  · refine keeps_ite ?_ ?_
    · extract_lets -underBinder +onlyGivenNames z7 z8 z9 z10 z11
      clear_value z7 z8 z9 z10 z11
      refine keeps_ite ?_ ?_
      · exact State.slotReject_keeps h
      · extract_lets -underBinder +onlyGivenNames z12
        have h13 : Keeps s0 z12 := keeps_ite (State.slotSet_keeps h) h
        clear_value z12
        extract_lets -underBinder +onlyGivenNames z14
        have h15 : Keeps s0 z14 := State.fsetB_keeps (State.fsetB_keeps (h4 _ h13))
        clear_value z14
        exact State.fsetB_keeps (State.slotSet_keeps h15)
    · exact State.fsetB_keeps (State.slotSet_keeps (h4 _ h))

theorem State.slotFired_keeps {s0 : State} {s : State} {x1 : Nat} (h : Keeps s0 s) :
    Keeps s0 (State.slotFired s x1) := by
  unfold State.slotFired
  extract_lets -underBinder +onlyGivenNames z1
  clear_value z1
  exact State.raiseEvent_keeps (State.fsetB_keeps h)

theorem State.slotNext_keeps {s0 : State} {s : State} {x1 : Nat} {x2 : SlotLatch} (h : Keeps s0 s) :
    Keeps s0 (State.slotNext s x1 x2) := by
  unfold State.slotNext
  extract_lets -underBinder +onlyGivenNames z1
  clear_value z1
  refine keeps_ite ?_ ?_
  · exact State.slotSet_keeps h
  · extract_lets -underBinder +onlyGivenNames z2
    clear_value z2
    exact State.slotSet_keeps h

theorem State.strobe_keeps {s0 : State} {s : State} {x1 : Nat} (h : Keeps s0 s) :
    Keeps s0 (State.strobe s x1) :=
  keeps_ite (State.ascStrobe_keeps h) (keeps_ite (State.seqStrobe_keeps h) (keeps_ite (State.seqStrobe_keeps h) h))

theorem execSlotArm_keeps {s0 : State} {x0 : Fin 64} {x1 : Word} {s : State} (h : Keeps s0 s) :
    ∀ t, execSlotArm x0 x1 s = .next t → Keeps s0 t :=
  fun _ ht => keeps_next ht (State.slotCtlWrite_keeps h)

theorem execSlotDisarm_keeps {s0 : State} {x0 : Fin 64} {x1 : Word} {s : State} (h : Keeps s0 s) :
    ∀ t, execSlotDisarm x0 x1 s = .next t → Keeps s0 t :=
  fun _ ht => keeps_next ht (State.slotCtlWrite_keeps h)

theorem slotFireOp_keeps {s0 : State} {x0 : Fin 64} {s : State} (h : Keeps s0 s) :
    Keeps s0 (slotFireOp x0 s) := by
  unfold slotFireOp
  split
  · exact h
  · extract_lets -underBinder +onlyGivenNames z1
    have h2 : Keeps s0 z1 := State.angleTo_keeps h
    clear_value z1
    exact keeps_ite h (State.slotNext_keeps (State.strobe_keeps (State.slotFired_keeps (State.fsetB_keeps h2))))

theorem execSlotFire_keeps {s0 : State} {x0 : Fin 64} {s : State} (h : Keeps s0 s) :
    ∀ t, execSlotFire x0 s = .next t → Keeps s0 t :=
  fun _ ht => keeps_next ht (slotFireOp_keeps h)

theorem windowCloseOp_keeps {s0 : State} {x0 : Fin 64} {s : State} (h : Keeps s0 s) :
    Keeps s0 (windowCloseOp x0 s) := by
  unfold windowCloseOp
  split
  · exact h
  · extract_lets -underBinder +onlyGivenNames z1
    have h2 : Keeps s0 z1 := State.angleTo_keeps h
    clear_value z1
    exact keeps_ite h (State.slotNext_keeps (State.slotFired_keeps (State.fsetB_keeps h2)))

theorem execWindowClose_keeps {s0 : State} {x0 : Fin 64} {s : State} (h : Keeps s0 s) :
    ∀ t, execWindowClose x0 s = .next t → Keeps s0 t :=
  fun _ ht => keeps_next ht (windowCloseOp_keeps h)

theorem windowOpenOp_keeps {s0 : State} {x0 : Fin 64} {s : State} (h : Keeps s0 s) :
    Keeps s0 (windowOpenOp x0 s) := by
  unfold windowOpenOp
  split
  · exact h
  · extract_lets -underBinder +onlyGivenNames z1
    have h2 : Keeps s0 z1 := State.angleTo_keeps h
    clear_value z1
    refine keeps_ite ?_ ?_
    · exact h
    · extract_lets -underBinder +onlyGivenNames z3
      have h4 : Keeps s0 z3 := State.slotFired_keeps (State.fsetB_keeps h2)
      clear_value z3
      exact keeps_ite (State.slotNext_keeps (State.slotFired_keeps h4)) (State.strobe_keeps (State.fsetB_keeps (State.slotSet_keeps h4)))

theorem execWindowOpen_keeps {s0 : State} {x0 : Fin 64} {s : State} (h : Keeps s0 s) :
    ∀ t, execWindowOpen x0 s = .next t → Keeps s0 t :=
  fun _ ht => keeps_next ht (windowOpenOp_keeps h)

end Sys2Proof.Machine
end

