-- ==== Sys2Proof/Laws/KeepsCore.lean ====
section
/-! SUPPORT. What the operations and meanings of Machine/Bok.lean, Machine/Flt.lean, Machine/Mem.lean, Machine/Pwr.lean leave alone: `Keeps` (Laws/Keeps.lean) of each, in the order of
their files. -/
namespace Sys2Proof.Machine

/-! Bok -/

theorem State.bokMap_keeps {s0 : State} {s : State} {x1 : BokSt → BokSt} (h : Keeps s0 s) :
    Keeps s0 (State.bokMap s x1) :=
  keeps_upd h rfl rfl rfl rfl rfl

theorem State.bokCtlWrite_keeps {s0 : State} {s : State} {x1 : Word} (h : Keeps s0 s) :
    Keeps s0 (State.bokCtlWrite s x1) := by
  unfold State.bokCtlWrite
  extract_lets -underBinder +onlyGivenNames z1
  have h2 : Keeps s0 z1 := keeps_ite (State.clearCount_keeps (State.clearCount_keeps h)) h
  clear_value z1
  exact keeps_ite (State.bokBusy_keeps (State.bokMap_keeps h2)) h2

theorem State.bokHead_keeps {s0 : State} {s : State} (h : Keeps s0 s) :
    Keeps s0 (State.bokHead s) :=
  State.fsetB_keeps (State.fset_keeps (State.wr_keeps h))

theorem State.clearCirculating_keeps {s0 : State} {s : State} (h : Keeps s0 s) :
    Keeps s0 (State.clearCirculating s) := by
  exact ⟨h.1, h.2.1, fun c => ⟨canon_filter _ _ _ (h.2.2 c).1, (h.2.2 c).2⟩⟩

theorem State.fwrecWrite_keeps {s0 : State} {s : State} {x1 : Word} (h : Keeps s0 s) :
    Keeps s0 (State.fwrecWrite s x1) := by
  unfold State.fwrecWrite
  extract_lets -underBinder +onlyGivenNames z1 z2
  clear_value z1 z2
  exact keeps_ite (State.offerRecord_keeps h) h

theorem State.vaultMap_keeps {s0 : State} {s : State} {x1 : VaultSt → VaultSt} (h : Keeps s0 s) :
    Keeps s0 (State.vaultMap s x1) :=
  keeps_upd h rfl rfl rfl rfl rfl

theorem State.writeRecord_keeps {s0 : State} {s : State} {x1 : BokRec} (h : Keeps s0 s) :
    Keeps s0 (State.writeRecord s x1) := by
  unfold State.writeRecord
  extract_lets -underBinder +onlyGivenNames z1
  clear_value z1
  exact State.bokHead_keeps (State.vaultMap_keeps (State.setBytes_keeps h))

theorem State.recordNow_keeps {s0 : State} {s : State} {x1 : BitVec 16} (h : Keeps s0 s) :
    Keeps s0 (State.recordNow s x1) := by
  unfold State.recordNow
  split
  · exact State.bokBusy_keeps (State.writeRecord_keeps (State.bokMap_keeps h))
  · split
    · exact State.writeRecord_keeps (State.bokMap_keeps h)
    · exact h

theorem bucketRefillOp_keeps {s0 : State} {x0 : BitVec 16} {s : State} (h : Keeps s0 s) :
    Keeps s0 (bucketRefillOp x0 s) := by
  unfold bucketRefillOp
  extract_lets -underBinder +onlyGivenNames z1
  clear_value z1
  exact State.bokMap_keeps h

theorem execBokCounterClear_keeps {s0 : State} {x0 : Word} {s : State} (h : Keeps s0 s) :
    ∀ t, execBokCounterClear x0 s = .next t → Keeps s0 t :=
  fun _ ht => keeps_next ht (State.bokCtlWrite_keeps h)

theorem execBucketRefill_keeps {s0 : State} {x0 : BitVec 16} {s : State} (h : Keeps s0 s) :
    ∀ t, execBucketRefill x0 s = .next t → Keeps s0 t :=
  fun _ ht => keeps_next ht (bucketRefillOp_keeps h)

theorem execFirmwareRecord_keeps {s0 : State} {x0 : Word} {s : State} (h : Keeps s0 s) :
    ∀ t, execFirmwareRecord x0 s = .next t → Keeps s0 t :=
  fun _ ht => keeps_next ht (State.fwrecWrite_keeps h)

theorem recordWriteOp_keeps {s0 : State} {s : State} (h : Keeps s0 s) :
    Keeps s0 (recordWriteOp s) := by
  unfold recordWriteOp
  extract_lets -underBinder +onlyGivenNames z1
  have h2 : Keeps s0 z1 := keeps_ite h (State.bokMap_keeps h)
  clear_value z1
  split
  · exact h2
  · exact keeps_ite h2 (State.bokBusy_keeps (State.writeRecord_keeps (State.bokMap_keeps h2)))

theorem execRecordWrite_keeps {s0 : State} {s : State} (h : Keeps s0 s) :
    ∀ t, execRecordWrite s = .next t → Keeps s0 t :=
  fun _ ht => keeps_next ht (recordWriteOp_keeps h)

theorem execStationBookClear_keeps {s0 : State} {x0 : Word} {s : State} (h : Keeps s0 s) :
    ∀ t, execStationBookClear x0 s = .next t → Keeps s0 t :=
  fun _ ht => keeps_next ht (State.bokCtlWrite_keeps h)

theorem stationBookClearEndOp_keeps {s0 : State} {s : State} (h : Keeps s0 s) :
    Keeps s0 (stationBookClearEndOp s) := by
  unfold stationBookClearEndOp
  refine keeps_ite ?_ ?_
  · extract_lets -underBinder +onlyGivenNames z1
    have h2 : Keeps s0 z1 := State.clearCirculating_keeps h
    clear_value z1
    extract_lets -underBinder +onlyGivenNames z3
    have h4 : Keeps s0 z3 := State.writeRecord_keeps h2
    clear_value z3
    extract_lets -underBinder +onlyGivenNames z5
    have h6 : Keeps s0 z5 := State.bokBusy_keeps (State.bokMap_keeps h4)
    clear_value z5
    exact State.raiseEvent_keeps (State.raiseFault_keeps h6)
  · exact h

theorem execStationBookClearEnd_keeps {s0 : State} {s : State} (h : Keeps s0 s) :
    ∀ t, execStationBookClearEnd s = .next t → Keeps s0 t :=
  fun _ ht => keeps_next ht (stationBookClearEndOp_keeps h)

/-! Flt -/

theorem State.beginSave_keeps {s0 : State} {s : State} {x1 : Nat} (h : Keeps s0 s) :
    Keeps s0 (State.beginSave s x1) :=
  keeps_ite h (keeps_upd h rfl rfl rfl rfl rfl)

theorem State.earlyUpdate_keeps {s0 : State} {s : State} (h : Keeps s0 s) :
    Keeps s0 (State.earlyUpdate s) :=
  State.fsetB_keeps h

theorem State.fltCount_keeps {s0 : State} {s : State} (h : Keeps s0 s) :
    Keeps s0 (State.fltCount s) :=
  State.fset_keeps h

theorem State.messageQueued_keeps {s0 : State} {s : State} {x1 : BitVec 64} (h : Keeps s0 s) :
    Keeps s0 (State.messageQueued s x1) := by
  unfold State.messageQueued
  extract_lets -underBinder +onlyGivenNames z1
  clear_value z1
  extract_lets -underBinder +onlyGivenNames z2
  have h3 : Keeps s0 z2 := State.raiseEvent_keeps (State.fltCount_keeps h)
  clear_value z2
  exact keeps_ite (State.bokMap_keeps h3) (keeps_ite h3 (State.offerRecord_keeps h3))

theorem State.fltMap_keeps {s0 : State} {s : State} {x1 : FltSt → FltSt} (h : Keeps s0 s) :
    Keeps s0 (State.fltMap s x1) :=
  keeps_upd h rfl rfl rfl rfl rfl

theorem State.enqueueMessage_keeps {s0 : State} {s : State} {x1 : BitVec 64} (h : Keeps s0 s) :
    Keeps s0 (State.enqueueMessage s x1) := by
  unfold State.enqueueMessage
  extract_lets -underBinder +onlyGivenNames z1
  clear_value z1
  refine keeps_ite ?_ ?_
  · exact State.messageQueued_keeps (State.fltMap_keeps h)
  · extract_lets -underBinder +onlyGivenNames z2
    have h3 : Keeps s0 z2 := State.count_keeps h
    clear_value z2
    refine keeps_ite ?_ ?_
    · split
      · exact State.messageQueued_keeps (State.fltMap_keeps h3)
      · exact h3
    · exact h3

theorem State.stopAll_keeps {s0 : State} {s : State} (h : Keeps s0 s) :
    Keeps s0 (State.stopAll s) :=
  keeps_upd h rfl rfl rfl rfl rfl

theorem State.pinsHeld_keeps {s0 : State} {s : State} (h : Keeps s0 s) :
    Keeps s0 (State.pinsHeld s) := by
  unfold State.pinsHeld
  extract_lets -underBinder +onlyGivenNames z1
  have h2 : Keeps s0 z1 := State.fsetB_keeps (State.fset_keeps h)
  clear_value z1
  extract_lets -underBinder +onlyGivenNames z3
  have h4 : Keeps s0 z3 := State.wr_keeps (State.brlMap_keeps h2)
  clear_value z3
  extract_lets -underBinder +onlyGivenNames z5
  have h6 : Keeps s0 z5 := State.wr_keeps h4
  clear_value z5
  exact keeps_upd h6 rfl rfl rfl rfl rfl

theorem State.fatalHoldStart_keeps {s0 : State} {s : State} (h : Keeps s0 s) :
    Keeps s0 (State.fatalHoldStart s) := by
  unfold State.fatalHoldStart
  extract_lets -underBinder +onlyGivenNames z1 z2
  clear_value z1 z2
  extract_lets -underBinder +onlyGivenNames z3
  have h4 : Keeps s0 z3 := State.recordNow_keeps h
  clear_value z3
  extract_lets -underBinder +onlyGivenNames z5
  have h6 : Keeps s0 z5 := State.fsetB_keeps (State.fset_keeps (State.fset_keeps h4))
  clear_value z5
  extract_lets -underBinder +onlyGivenNames z7
  clear_value z7
  extract_lets -underBinder +onlyGivenNames z8
  have h9 : Keeps s0 z8 := keeps_upd h6 rfl rfl rfl rfl rfl
  clear_value z8
  exact State.fltMap_keeps (State.pinsHeld_keeps h9)

theorem State.fatal_keeps {s0 : State} {s : State} {x1 : Nat} {x2 : Nat} (h : Keeps s0 s) :
    Keeps s0 (State.fatal s x1 x2) := by
  unfold State.fatal
  extract_lets -underBinder +onlyGivenNames z1
  have h2 : Keeps s0 z1 := State.fsetB_keeps h
  clear_value z1
  refine keeps_ite ?_ ?_
  · exact h2
  · extract_lets -underBinder +onlyGivenNames z3
    have h4 : Keeps s0 z3 := State.fltMap_keeps h2
    clear_value z3
    extract_lets -underBinder +onlyGivenNames z5
    clear_value z5
    extract_lets -underBinder +onlyGivenNames z6
    have h7 : Keeps s0 z6 := keeps_upd h4 rfl rfl rfl rfl rfl
    clear_value z6
    extract_lets -underBinder +onlyGivenNames z8
    have h9 : Keeps s0 z8 := State.bridgeSet_keeps (State.spcEnter_keeps h7)
    clear_value z8
    extract_lets -underBinder +onlyGivenNames z10
    have h11 : Keeps s0 z10 := State.beginSave_keeps (State.stopAll_keeps (State.fence_keeps (State.bufferStopBoth_keeps (State.ttbRate_keeps h9))))
    clear_value z10
    exact keeps_ite (State.fatalHoldStart_keeps h11) h11

theorem State.fieldBit_keeps {s0 : State} {s : State} {x1 : Fld} {x2 : Nat} {x3 : Bool} (h : Keeps s0 s) :
    Keeps s0 (State.fieldBit s x1 x2 x3) :=
  State.fsetB_keeps h

theorem State.fltTouched_keeps {s0 : State} {s : State} (h : Keeps s0 s) :
    Keeps s0 (State.fltTouched s) :=
  State.fltMap_keeps h

theorem State.fltCtlWrite_keeps {s0 : State} {s : State} {x1 : Word} (h : Keeps s0 s) :
    Keeps s0 (State.fltCtlWrite s x1) := by
  unfold State.fltCtlWrite
  extract_lets -underBinder +onlyGivenNames z1
  have h2 : Keeps s0 z1 := State.fltTouched_keeps h
  clear_value z1
  exact keeps_ite (State.clearCount_keeps h2) h2

theorem State.forceWrite_keeps {s0 : State} {s : State} {x1 : Word} (h : Keeps s0 s) :
    Keeps s0 (State.forceWrite s x1) := by
  unfold State.forceWrite
  extract_lets -underBinder +onlyGivenNames z1
  have h2 : Keeps s0 z1 := State.fltTouched_keeps h
  clear_value z1
  extract_lets -underBinder +onlyGivenNames z3 z4
  clear_value z3 z4
  exact keeps_ite h2 (keeps_ite (State.fset_keeps h2) (State.fset_keeps (State.fltMap_keeps h2)))

theorem State.powerLoss_keeps {s0 : State} {s : State} {x1 : Bool} (h : Keeps s0 s) :
    Keeps s0 (State.powerLoss s x1) := by
  unfold State.powerLoss
  refine keeps_ite ?_ ?_
  · exact h
  · extract_lets -underBinder +onlyGivenNames z1
    have h2 : Keeps s0 z1 := keeps_ite (State.raiseFault_keeps (State.raiseEvent_keeps (State.fsetB_keeps h))) h
    clear_value z1
    extract_lets -underBinder +onlyGivenNames z3
    have h4 : Keeps s0 z3 := State.bufferStopBoth_keeps (State.earlyUpdate_keeps h2)
    clear_value z3
    extract_lets -underBinder +onlyGivenNames z5
    have h6 : Keeps s0 z5 := keeps_ite h4 (State.ttbRate_keeps (State.harvestCommand_keeps h4))
    clear_value z5
    exact State.raiseFault_keeps (State.beginSave_keeps (State.stopAll_keeps h6))

theorem State.routeWrite_keeps {s0 : State} {s : State} {x1 : Nat} {x2 : Word} (h : Keeps s0 s) :
    Keeps s0 (State.routeWrite s x1 x2) :=
  keeps_ite (State.wr_keeps h) h

theorem State.safeStopSet_keeps {s0 : State} {s : State} {x1 : Nat} (h : Keeps s0 s) :
    Keeps s0 (State.safeStopSet s x1) := by
  unfold State.safeStopSet
  split
  · exact State.fsetB_keeps h
  · exact State.fsetB_keeps h
  · exact State.fence_keeps (State.fsetB_keeps h)

theorem State.swsetWrite_keeps {s0 : State} {s : State} {x1 : Word} (h : Keeps s0 s) :
    Keeps s0 (State.swsetWrite s x1) :=
  keeps_ite (State.raiseEvent_keeps h) h

theorem State.takeMessage_keeps {s0 : State} {s : State} (h : Keeps s0 s) :
    Keeps s0 (State.takeMessage s).2 := by
  unfold State.takeMessage
  extract_lets -underBinder +onlyGivenNames z1
  clear_value z1
  exact keeps_mk2 (State.fltCount_keeps (keeps_upd h rfl rfl rfl rfl rfl))

theorem State.unlockWrite_keeps {s0 : State} {s : State} {x1 : Word} (h : Keeps s0 s) :
    Keeps s0 (State.unlockWrite s x1) := by
  unfold State.unlockWrite
  extract_lets -underBinder +onlyGivenNames z1
  clear_value z1
  exact keeps_ite (State.tick_keeps (State.offerRecord_keeps (State.fsetB_keeps (State.fltTouched_keeps h)))) (State.fsetB_keeps (State.fltMap_keeps h))

theorem clockFailureOp_keeps {s0 : State} {x0 : Bool} {x1 : Nat} {s : State} (h : Keeps s0 s) :
    Keeps s0 (clockFailureOp x0 x1 s) := by
  unfold clockFailureOp
  extract_lets -underBinder +onlyGivenNames z1
  have h2 : Keeps s0 z1 := State.fsetB_keeps (State.fsetB_keeps h)
  clear_value z1
  extract_lets -underBinder +onlyGivenNames z3
  clear_value z3
  exact State.permBoth_keeps (State.raiseFault_keeps h2)

theorem execClockFailure_keeps {s0 : State} {x0 : Bool} {x1 : Nat} {s : State} (h : Keeps s0 s) :
    ∀ t, execClockFailure x0 x1 s = .next t → Keeps s0 t :=
  fun _ ht => keeps_next ht (clockFailureOp_keeps h)

theorem fatalHoldEndOp_keeps {s0 : State} {s : State} (h : Keeps s0 s) :
    Keeps s0 (fatalHoldEndOp s) :=
  keeps_ite (State.fltMap_keeps h) h

theorem execFatalHoldEnd_keeps {s0 : State} {s : State} (h : Keeps s0 s) :
    ∀ t, execFatalHoldEnd s = .next t → Keeps s0 t :=
  fun _ ht => keeps_next ht (fatalHoldEndOp_keeps h)

theorem faultMessageOp_keeps {s0 : State} {s : State} (h : Keeps s0 s) :
    Keeps s0 (faultMessageOp s) := by
  unfold faultMessageOp
  split
  · exact h
  · extract_lets -underBinder +onlyGivenNames z1 z2
    clear_value z1 z2
    extract_lets -underBinder +onlyGivenNames z3
    have h4 : Keeps s0 z3 := State.enqueueMessage_keeps (State.fltMap_keeps h)
    clear_value z3
    extract_lets -underBinder +onlyGivenNames z5
    have h6 : Keeps s0 z5 := keeps_ite (State.fset_keeps h4) h4
    clear_value z5
    exact keeps_ite (State.safeStopSet_keeps h6) (keeps_ite (State.fatal_keeps h6) h6)

theorem execFaultMessage_keeps {s0 : State} {s : State} (h : Keeps s0 s) :
    ∀ t, execFaultMessage s = .next t → Keeps s0 t :=
  fun _ ht => keeps_next ht (faultMessageOp_keeps h)

theorem faultMessageReadOp_keeps {s0 : State} {s : State} (h : Keeps s0 s) :
    Keeps s0 (faultMessageReadOp s) := by
  unfold faultMessageReadOp
  extract_lets -underBinder +onlyGivenNames z1
  have h2 : Keeps s0 z1.2 := State.takeMessage_keeps h
  clear_value z1
  extract_lets -underBinder +onlyGivenNames z3
  have h4 : Keeps s0 z3 := h2
  clear_value z3
  exact keeps_upd h4 rfl rfl rfl rfl rfl

theorem execFaultMessageRead_keeps {s0 : State} {s : State} (h : Keeps s0 s) :
    ∀ t, execFaultMessageRead s = .next t → Keeps s0 t :=
  fun _ ht => keeps_next ht (faultMessageReadOp_keeps h)

theorem execFltCounterClear_keeps {s0 : State} {x0 : Word} {s : State} (h : Keeps s0 s) :
    ∀ t, execFltCounterClear x0 s = .next t → Keeps s0 t :=
  fun _ ht => keeps_next ht (State.fltCtlWrite_keeps h)

theorem execForceFault_keeps {s0 : State} {x0 : Word} {s : State} (h : Keeps s0 s) :
    ∀ t, execForceFault x0 s = .next t → Keeps s0 t :=
  fun _ ht => keeps_next ht (State.forceWrite_keeps h)

theorem forceLapseOp_keeps {s0 : State} {s : State} (h : Keeps s0 s) :
    Keeps s0 (forceLapseOp s) :=
  keeps_ite (State.fset_keeps (State.fltMap_keeps h)) h

theorem execForceLapse_keeps {s0 : State} {s : State} (h : Keeps s0 s) :
    ∀ t, execForceLapse s = .next t → Keeps s0 t :=
  fun _ ht => keeps_next ht (forceLapseOp_keeps h)

theorem gpioEdgeOp_keeps {s0 : State} {x0 : Fin 16} {x1 : Bool} {s : State} (h : Keeps s0 s) :
    Keeps s0 (gpioEdgeOp x0 x1 s) :=
  State.raiseEvent_keeps (keeps_upd h rfl rfl rfl rfl rfl)

theorem execGpioEdge_keeps {s0 : State} {x0 : Fin 16} {x1 : Bool} {s : State} (h : Keeps s0 s) :
    ∀ t, execGpioEdge x0 x1 s = .next t → Keeps s0 t :=
  fun _ ht => keeps_next ht (gpioEdgeOp_keeps h)

theorem railBackInRangeOp_keeps {s0 : State} {x0 : Fin 6} {s : State} (h : Keeps s0 s) :
    Keeps s0 (railBackInRangeOp x0 s) :=
  State.fieldBit_keeps (State.fieldBit_keeps h)

theorem execRailBackInRange_keeps {s0 : State} {x0 : Fin 6} {s : State} (h : Keeps s0 s) :
    ∀ t, execRailBackInRange x0 s = .next t → Keeps s0 t :=
  fun _ ht => keeps_next ht (railBackInRangeOp_keeps h)

theorem railOutOfRangeOp_keeps {s0 : State} {x0 : Fin 6} {x1 : Bool} {x2 : Nat} {s : State} (h : Keeps s0 s) :
    Keeps s0 (railOutOfRangeOp x0 x1 x2 s) := by
  unfold railOutOfRangeOp
  extract_lets -underBinder +onlyGivenNames z1
  clear_value z1
  extract_lets -underBinder +onlyGivenNames z2
  have h3 : Keeps s0 z2 := State.fieldBit_keeps h
  clear_value z2
  refine keeps_ite ?_ ?_
  · exact State.raiseFault_keeps h3
  · extract_lets -underBinder +onlyGivenNames z4
    have h5 : Keeps s0 z4 := State.raiseFault_keeps h3
    clear_value z4
    exact keeps_ite h5 (State.powerLoss_keeps h5)

theorem execRailOutOfRange_keeps {s0 : State} {x0 : Fin 6} {x1 : Bool} {x2 : Nat} {s : State} (h : Keeps s0 s) :
    ∀ t, execRailOutOfRange x0 x1 x2 s = .next t → Keeps s0 t :=
  fun _ ht => keeps_next ht (railOutOfRangeOp_keeps h)

theorem execRouteWrite_keeps {s0 : State} {x0 : Fin 640} {x1 : Word} {s : State} (h : Keeps s0 s) :
    ∀ t, execRouteWrite x0 x1 s = .next t → Keeps s0 t :=
  fun _ ht => keeps_next ht (State.routeWrite_keeps h)

theorem execSoftwareEvent_keeps {s0 : State} {x0 : Word} {s : State} (h : Keeps s0 s) :
    ∀ t, execSoftwareEvent x0 s = .next t → Keeps s0 t :=
  fun _ ht => keeps_next ht (State.swsetWrite_keeps h)

theorem execTestUnlock_keeps {s0 : State} {x0 : Word} {s : State} (h : Keeps s0 s) :
    ∀ t, execTestUnlock x0 s = .next t → Keeps s0 t :=
  fun _ ht => keeps_next ht (State.unlockWrite_keeps h)

/-! Mem -/

theorem State.msMap_keeps {s0 : State} {s : State} {x1 : MemSt → MemSt} (h : Keeps s0 s) :
    Keeps s0 (State.msMap s x1) :=
  keeps_upd h rfl rfl rfl rfl rfl

theorem State.unbad_keeps {s0 : State} {s : State} {x1 : Nat} (h : Keeps s0 s) :
    Keeps s0 (State.unbad s x1) :=
  State.msMap_keeps h

theorem State.effInterval_keeps {s0 : State} {s : State} (h : Keeps s0 s) :
    Keeps s0 (State.effInterval s) := by
  unfold State.effInterval
  extract_lets -underBinder +onlyGivenNames z1 z2
  clear_value z1 z2
  exact State.fset_keeps h

theorem State.hardWord_keeps {s0 : State} {s : State} {x1 : Nat} (h : Keeps s0 s) :
    Keeps s0 (State.hardWord s x1) := by
  unfold State.hardWord
  extract_lets -underBinder +onlyGivenNames z1 z2
  clear_value z1 z2
  split
  · extract_lets -underBinder +onlyGivenNames z3
    clear_value z3
    extract_lets -underBinder +onlyGivenNames z4
    have h5 : Keeps s0 z4 := keeps_upd h rfl rfl rfl rfl rfl
    clear_value z4
    exact keeps_ite (State.wr_keeps h5) h5
  · extract_lets -underBinder +onlyGivenNames z6
    have h7 : Keeps s0 z6 := State.raiseFault_keeps h
    clear_value z6
    refine keeps_ite ?_ ?_
    · exact h7
    · split
      · exact State.msMap_keeps h7
      · exact State.effInterval_keeps (State.msMap_keeps h7)

theorem State.coreMap_keeps {s0 : State} {s : State} {x1 : CoreSt → CoreSt} (h : Keeps s0 s) :
    Keeps s0 (State.coreMap s x1) :=
  keeps_upd h rfl rfl rfl rfl rfl

theorem State.faultReset_keeps {s0 : State} {s : State} {x1 : Nat} {x2 : Nat} {x3 : Bool} (h : Keeps s0 s) :
    Keeps s0 (State.faultReset s x1 x2 x3) := by
  unfold State.faultReset
  refine keeps_ite ?_ ?_
  · exact State.fsetB_keeps h
  · refine keeps_ite ?_ ?_
    · exact h
    · extract_lets -underBinder +onlyGivenNames z1
      have h2 : Keeps s0 z1 := State.fset_keeps (State.wideSet_keeps h)
      clear_value z1
      extract_lets -underBinder +onlyGivenNames z3
      have h4 : Keeps s0 z3 := State.coreMap_keeps (State.msMap_keeps h2)
      clear_value z3
      exact State.raiseFault_keeps (State.beginSave_keeps (State.stopAll_keeps (State.bufferStopBoth_keeps h4)))

theorem State.yardRead_keeps {s0 : State} {s : State} {x1 : Nat} {x2 : ArrErr} (h : Keeps s0 s) :
    Keeps s0 (State.yardRead s x1 x2).2 := by
  unfold State.yardRead
  extract_lets -underBinder +onlyGivenNames z1 z2 z3 z4
  clear_value z1 z2 z3 z4
  refine keeps_ite_snd ?_ ?_
  · exact keeps_mk2 h
  · refine keeps_ite_snd ?_ ?_
    · extract_lets -underBinder +onlyGivenNames z5
      have h6 : Keeps s0 z5 := State.raiseFault_keeps (State.unbad_keeps h)
      clear_value z5
      extract_lets -underBinder +onlyGivenNames z7
      have h8 : Keeps s0 z7 := keeps_ite (State.wr_keeps h6) h6
      clear_value z7
      exact keeps_mk2 (keeps_ite (State.hardWord_keeps h8) (State.count_keeps h8))
    · exact keeps_mk2 (State.faultReset_keeps h)

theorem State.vaultRead_keeps {s0 : State} {s : State} {x1 : Nat} {x2 : ArrErr} (h : Keeps s0 s) :
    Keeps s0 (State.vaultRead s x1 x2).2 := by
  unfold State.vaultRead
  extract_lets -underBinder +onlyGivenNames z1 z2
  clear_value z1 z2
  refine keeps_ite_snd ?_ ?_
  · exact keeps_mk2 h
  · refine keeps_ite_snd ?_ ?_
    · extract_lets -underBinder +onlyGivenNames z3
      have h4 : Keeps s0 z3 := keeps_ite (State.unbad_keeps h) h
      clear_value z3
      extract_lets -underBinder +onlyGivenNames z5
      have h6 : Keeps s0 z5 := keeps_ite (State.wr_keeps h4) h4
      clear_value z5
      exact keeps_mk2 (State.raiseFault_keeps (State.count_keeps h6))
    · exact keeps_mk2 (State.faultReset_keeps h)

theorem State.arrayRead_keeps {s0 : State} {s : State} {x1 : Nat} {x2 : ArrErr} (h : Keeps s0 s) :
    Keeps s0 (State.arrayRead s x1 x2).2 :=
  keeps_ite_snd (State.yardRead_keeps h) (keeps_ite_snd (State.vaultRead_keeps h) (keeps_mk2 h))

theorem State.bankMap_keeps {s0 : State} {s : State} (h : Keeps s0 s) :
    Keeps s0 (State.bankMap s) := by
  unfold State.bankMap
  extract_lets -underBinder +onlyGivenNames z1
  clear_value z1
  exact State.fset_keeps (State.fset_keeps (State.fset_keeps h))

theorem State.wayPut_keeps {s0 : State} {s : State} {x1 : Nat} {x2 : CLine} (h : Keeps s0 s) :
    Keeps s0 (State.wayPut s x1 x2) :=
  State.msMap_keeps h

theorem State.victim_keeps {s0 : State} {s : State} {x1 : Nat} (h : Keeps s0 s) :
    ∀ t, State.victim s x1 = some t → Keeps s0 t.2 := by
  intro t ht
  simp only [State.victim] at ht
  split at ht
  · injection ht with ht; subst ht; exact h
  · split at ht
    · injection ht with ht; subst ht; exact keeps_ite h (State.msMap_keeps h)
    · cases ht

theorem State.cacheInstall_keeps {s0 : State} {s : State} {x1 : Nat} {x2 : Nat} {x3 : Bool} (h : Keeps s0 s) :
    Keeps s0 (State.cacheInstall s x1 x2 x3) := by
  unfold State.cacheInstall
  split
  · exact State.wayPut_keeps h
  · split
    · exact State.wayPut_keeps (keeps_somesnd (by assumption) (State.victim_keeps h))
    · exact h

theorem State.hartMap_keeps {s0 : State} {s : State} {x1 : Fin 4} {x2 : Hart → Hart} (h : Keeps s0 s) :
    Keeps s0 (State.hartMap s x1 x2) :=
  State.coreMap_keeps h

theorem State.mergeLine_keeps {s0 : State} {s : State} {x1 : Nat} {x2 : Nat} (h : Keeps s0 s) :
    Keeps s0 (State.mergeLine s x1 x2) := by
  unfold State.mergeLine
  extract_lets -underBinder +onlyGivenNames z1 z2 z3
  clear_value z1 z2 z3
  exact State.msMap_keeps h

theorem State.mergeWrite_keeps {s0 : State} {s : State} {x1 : Nat} {x2 : Nat} (h : Keeps s0 s) :
    Keeps s0 (State.mergeWrite s x1 x2) := by
  unfold State.mergeWrite
  extract_lets -underBinder +onlyGivenNames z1
  clear_value z1
  extract_lets -underBinder +onlyGivenNames z2
  have h3 : Keeps s0 z2 := State.mergeLine_keeps h
  clear_value z2
  exact keeps_ite h3 (State.mergeLine_keeps h3)

theorem State.ddrPut_keeps {s0 : State} {s : State} {x1 : Waiter} (h : Keeps s0 s) :
    Keeps s0 (State.ddrPut s x1) := by
  unfold State.ddrPut
  split
  · exact h
  · exact State.hartMap_keeps (State.mergeWrite_keeps (State.store_keeps h))

theorem State.mergeFlush_keeps {s0 : State} {s : State} {x1 : Nat} (h : Keeps s0 s) :
    Keeps s0 (State.mergeFlush s x1) :=
  keeps_ite (State.msMap_keeps h) h

theorem State.deliver_keeps {s0 : State} {s : State} {x1 : Waiter} (h : Keeps s0 s) :
    Keeps s0 (State.deliver s x1) := by
  unfold State.deliver
  split
  · exact State.hartMap_keeps h
  · exact h

theorem State.ddrAccess_keeps {s0 : State} {s : State} {x1 : Waiter} {x2 : ArrErr} (h : Keeps s0 s) :
    Keeps s0 (State.ddrAccess s x1 x2) := by
  unfold State.ddrAccess
  extract_lets -underBinder +onlyGivenNames z1 z2
  clear_value z1 z2
  extract_lets -underBinder +onlyGivenNames z3
  have h4 : ∀ b0, Keeps s0 b0 → Keeps s0 (z3 b0) := fun _ h6 => State.msMap_keeps h6
  clear_value z3
  refine keeps_ite ?_ ?_
  · exact h4 _ h
  · refine keeps_ite ?_ ?_
    · exact keeps_ite (State.ddrPut_keeps h) (State.msMap_keeps (State.mergeFlush_keeps h))
    · extract_lets -underBinder +onlyGivenNames z7
      have h8 : ∀ b0 b1, Keeps s0 b0 → Keeps s0 (z7 b0 b1) := by
        subst z7
        intro y9 y10 h11
        beta_reduce
        extract_lets -underBinder +onlyGivenNames z12
        have h13 : Keeps s0 z12 := State.count_keeps h11
        clear_value z12
        exact keeps_ite (keeps_ite (State.ddrPut_keeps (State.msMap_keeps h13)) (h4 _ h13)) (keeps_ite (State.ddrPut_keeps (State.msMap_keeps (State.mergeFlush_keeps h13))) (h4 _ h13))
      clear_value z7
      split
      · refine keeps_ite ?_ ?_
        · extract_lets -underBinder +onlyGivenNames z14
          have h15 : Keeps s0 z14 := keeps_ite (State.raiseFault_keeps h) h
          clear_value z14
          exact State.ddrPut_keeps (State.deliver_keeps (State.wayPut_keeps (State.count_keeps h15)))
        · exact h8 _ _ (State.msMap_keeps h)
      · exact h8 _ _ h

theorem State.poisonBlocks_keeps {s0 : State} {s : State} {x1 : List Nat} (h : Keeps s0 s) :
    Keeps s0 (State.poisonBlocks s x1) := by
  unfold State.poisonBlocks
  extract_lets -underBinder +onlyGivenNames z1
  clear_value z1
  exact State.count_keeps (keeps_upd h rfl rfl rfl rfl rfl)

theorem State.retryStalled_keeps {s0 : State} {s : State} (h : Keeps s0 s) :
    Keeps s0 (State.retryStalled s) := by
  unfold State.retryStalled
  extract_lets -underBinder +onlyGivenNames z1
  clear_value z1
  exact keeps_foldl (fun _ _ h4 => State.ddrAccess_keeps h4) (State.msMap_keeps h)

theorem State.ddrUncorrectable_keeps {s0 : State} {s : State} {x1 : Nat} {x2 : Bool} {x3 : DdrPlace} {x4 : Bool} (h : Keeps s0 s) :
    Keeps s0 (State.ddrUncorrectable s x1 x2 x3 x4) := by
  unfold State.ddrUncorrectable
  extract_lets -underBinder +onlyGivenNames z1
  clear_value z1
  extract_lets -underBinder +onlyGivenNames z2
  have h3 : Keeps s0 z2 := State.count_keeps h
  clear_value z2
  extract_lets -underBinder +onlyGivenNames z4
  clear_value z4
  extract_lets -underBinder +onlyGivenNames z5
  have h6 : Keeps s0 z5 := keeps_ite (State.msMap_keeps h3) h3
  clear_value z5
  refine keeps_ite ?_ ?_
  · exact State.faultReset_keeps h6
  · extract_lets -underBinder +onlyGivenNames z7
    have h8 : Keeps s0 z7 := State.raiseFault_keeps h6
    clear_value z7
    extract_lets -underBinder +onlyGivenNames z9
    have h10 : Keeps s0 z9 := by
      subst z9
      split
      · exact State.poisonBlocks_keeps h8
      · exact h8
      · exact h8
    clear_value z9
    exact State.retryStalled_keeps (keeps_foldl (fun _ _ h13 => keeps_foldl (fun _ _ h16 => keeps_ite h16 (State.hartMap_keeps h16)) h13) h10)

theorem State.lockLine_keeps {s0 : State} {s : State} {x1 : Nat} (h : Keeps s0 s) :
    Keeps s0 (State.lockLine s x1) := by
  unfold State.lockLine
  split
  · exact keeps_ite h (keeps_ite (State.fsetB_keeps h) (State.wayPut_keeps h))
  · extract_lets -underBinder +onlyGivenNames z1
    have h2 : Keeps s0 z1 := State.cacheInstall_keeps h
    clear_value z1
    split
    · exact keeps_ite (State.fsetB_keeps h2) (State.wayPut_keeps h2)
    · exact h2

theorem State.lockLines_keeps {s0 : State} {s : State} {x1 : Nat} {x2 : Nat} (h : Keeps s0 s) :
    Keeps s0 (State.lockLines s x1 x2) := by
  induction x2 generalizing s x1 with
  | zero =>
    unfold State.lockLines
    exact h
  | succ n ih =>
    unfold State.lockLines
    exact ih (State.lockLine_keeps h)

theorem State.mapTouch_keeps {s0 : State} {s : State} {x1 : Nat} {x2 : Bool} (h : Keeps s0 s) :
    Keeps s0 (State.mapTouch s x1 x2) := by
  unfold State.mapTouch
  refine keeps_ite ?_ ?_
  · exact h
  · extract_lets -underBinder +onlyGivenNames z1
    clear_value z1
    split
    · exact State.wayPut_keeps (State.count_keeps h)
    · exact State.cacheInstall_keeps (State.mergeFlush_keeps (State.count_keeps h))

theorem State.mccCtlWrite_keeps {s0 : State} {s : State} {x1 : Word} (h : Keeps s0 s) :
    Keeps s0 (State.mccCtlWrite s x1) := by
  unfold State.mccCtlWrite
  extract_lets -underBinder +onlyGivenNames z1
  clear_value z1
  extract_lets -underBinder +onlyGivenNames z2
  have h3 : Keeps s0 z2 := State.fsetB_keeps h
  clear_value z2
  exact keeps_ite (keeps_ite (State.msMap_keeps h3) (State.fsetB_keeps h3)) (keeps_ite (State.msMap_keeps h3) (keeps_ite h3 (State.fsetB_keeps (State.msMap_keeps h3))))

theorem State.mccOpWrite_keeps {s0 : State} {s : State} {x1 : Word} (h : Keeps s0 s) :
    Keeps s0 (State.mccOpWrite s x1) := by
  unfold State.mccOpWrite
  extract_lets -underBinder +onlyGivenNames z1
  clear_value z1
  refine keeps_ite ?_ ?_
  · exact h
  · extract_lets -underBinder +onlyGivenNames z2 z3 z4
    clear_value z2 z3 z4
    extract_lets -underBinder +onlyGivenNames z5
    have h6 : Keeps s0 z5 := State.msMap_keeps (State.fsetB_keeps h)
    clear_value z5
    refine keeps_ite ?_ ?_
    · exact State.lockLines_keeps h6
    · refine keeps_ite ?_ ?_
      · exact State.msMap_keeps h6
      · extract_lets -underBinder +onlyGivenNames z7
        clear_value z7
        extract_lets -underBinder +onlyGivenNames z8
        have h9 : Keeps s0 z8 := State.msMap_keeps h6
        clear_value z8
        exact keeps_ite (State.raiseFault_keeps (State.raiseEvent_keeps (State.fsetB_keeps h9))) h9

theorem State.memCtlWrite_keeps {s0 : State} {s : State} {x1 : Word} (h : Keeps s0 s) :
    Keeps s0 (State.memCtlWrite s x1) :=
  keeps_ite (State.clearCount_keeps (State.clearCount_keeps (State.clearCount_keeps (State.clearCount_keeps (State.clearCount_keeps (State.clearCount_keeps (State.clearCount_keeps h))))))) h

theorem State.memTestWrite_keeps {s0 : State} {s : State} {x1 : Word} (h : Keeps s0 s) :
    Keeps s0 (State.memTestWrite s x1) := by
  unfold State.memTestWrite
  extract_lets -underBinder +onlyGivenNames z1
  have h2 : Keeps s0 z1 := State.fset_keeps h
  clear_value z1
  exact keeps_ite (keeps_ite (State.fsetB_keeps h2) h2) (State.fsetB_keeps h2)

theorem State.scrubWords_keeps {s0 : State} {s : State} {x1 : Nat → Bool} {x2 : List FoundErr} (h : Keeps s0 s) :
    Keeps s0 (State.scrubWords s x1 x2) := by
  induction x2 generalizing s with
  | nil =>
    unfold State.scrubWords
    exact h
  | cons y ys ih =>
    unfold State.scrubWords
    refine keeps_ite ?_ ?_
    · extract_lets -underBinder +onlyGivenNames z1
      have h2 : Keeps s0 z1.2 := State.arrayRead_keeps h
      clear_value z1
      exact keeps_ite (ih h2) h2
    · exact ih h

theorem State.scrubPass_keeps {s0 : State} {s : State} {x1 : Nat} {x2 : Nat} {x3 : Bool} {x4 : List FoundErr} (h : Keeps s0 s) :
    Keeps s0 (State.scrubPass s x1 x2 x3 x4) := by
  unfold State.scrubPass
  extract_lets -underBinder +onlyGivenNames z1
  have h2 : Keeps s0 z1 := State.wr_keeps (State.wr_keeps (State.wr_keeps (State.fsetB_keeps h)))
  clear_value z1
  extract_lets -underBinder +onlyGivenNames z3 z4
  clear_value z3 z4
  exact State.scrubWords_keeps h2

theorem State.scrctlWrite_keeps {s0 : State} {s : State} {x1 : Word} {x2 : List FoundErr} (h : Keeps s0 s) :
    Keeps s0 (State.scrctlWrite s x1 x2) := by
  unfold State.scrctlWrite
  extract_lets -underBinder +onlyGivenNames z1
  have h2 : Keeps s0 z1 := State.fset_keeps (State.fset_keeps (State.fset_keeps h))
  clear_value z1
  extract_lets -underBinder +onlyGivenNames z3
  have h4 : Keeps s0 z3 := keeps_ite h2 (State.effInterval_keeps (State.fset_keeps h2))
  clear_value z3
  refine keeps_ite ?_ ?_
  · extract_lets -underBinder +onlyGivenNames z5 z6 z7
    clear_value z5 z6 z7
    exact State.scrubPass_keeps h4
  · exact h4

theorem bankCopyEndOp_keeps {s0 : State} {s : State} (h : Keeps s0 s) :
    Keeps s0 (bankCopyEndOp s) := by
  unfold bankCopyEndOp
  split
  · exact h
  · extract_lets -underBinder +onlyGivenNames z1
    have h2 : Keeps s0 z1 := State.msMap_keeps h
    clear_value z1
    exact State.bankMap_keeps (State.vaultMap_keeps h2)

theorem ddr5ReadCompleteOp_keeps {s0 : State} {x0 : Nat} {x1 : Bool} {x2 : DdrErr} {x3 : DdrPlace} {s : State} (h : Keeps s0 s) :
    Keeps s0 (ddr5ReadCompleteOp x0 x1 x2 x3 s) := by
  unfold ddr5ReadCompleteOp
  extract_lets -underBinder +onlyGivenNames z1
  clear_value z1
  refine keeps_ite ?_ ?_
  · exact h
  · extract_lets -underBinder +onlyGivenNames z2
    have h3 : ∀ b0, Keeps s0 b0 → Keeps s0 (z2 b0) := by
      subst z2
      intro y4 h5
      beta_reduce
      refine keeps_ite ?_ ?_
      · extract_lets -underBinder +onlyGivenNames z6
        clear_value z6
        extract_lets -underBinder +onlyGivenNames z7
        have h8 : Keeps s0 z7 := State.msMap_keeps h5
        clear_value z7
        exact keeps_foldl (fun _ _ h11 => keeps_foldl (fun _ _ h14 => State.deliver_keeps h14) h11) h8
      · exact h5
    clear_value z2
    split
    · exact h3 _ h
    · exact h3 _ (State.raiseFault_keeps (State.count_keeps h))
    · exact State.ddrUncorrectable_keeps h

theorem ddr5ReadTimeoutOp_keeps {s0 : State} {x0 : Nat} {x1 : Bool} {x2 : DdrPlace} {s : State} (h : Keeps s0 s) :
    Keeps s0 (ddr5ReadTimeoutOp x0 x1 x2 s) :=
  keeps_ite h (State.ddrUncorrectable_keeps (State.msMap_keeps h))

theorem execBankCopyEnd_keeps {s0 : State} {s : State} (h : Keeps s0 s) :
    ∀ t, execBankCopyEnd s = .next t → Keeps s0 t :=
  fun _ ht => keeps_next ht (bankCopyEndOp_keeps h)

theorem execCacheInvalidate_keeps {s0 : State} {x0 : Word} {s : State} (h : Keeps s0 s) :
    ∀ t, execCacheInvalidate x0 s = .next t → Keeps s0 t :=
  fun _ ht => keeps_next ht (State.mccOpWrite_keeps h)

theorem execCacheLock_keeps {s0 : State} {x0 : Word} {s : State} (h : Keeps s0 s) :
    ∀ t, execCacheLock x0 s = .next t → Keeps s0 t :=
  fun _ ht => keeps_next ht (State.mccOpWrite_keeps h)

theorem execCacheUnlock_keeps {s0 : State} {x0 : Word} {s : State} (h : Keeps s0 s) :
    ∀ t, execCacheUnlock x0 s = .next t → Keeps s0 t :=
  fun _ ht => keeps_next ht (State.mccOpWrite_keeps h)

theorem execCheckbitTestArm_keeps {s0 : State} {x0 : Word} {s : State} (h : Keeps s0 s) :
    ∀ t, execCheckbitTestArm x0 s = .next t → Keeps s0 t :=
  fun _ ht => keeps_next ht (State.memTestWrite_keeps h)

theorem execDdr5ReadComplete_keeps {s0 : State} {x0 : Nat} {x1 : Bool} {x2 : DdrErr} {x3 : DdrPlace} {s : State} (h : Keeps s0 s) :
    ∀ t, execDdr5ReadComplete x0 x1 x2 x3 s = .next t → Keeps s0 t :=
  fun _ ht => keeps_next ht (ddr5ReadCompleteOp_keeps h)

theorem execDdr5ReadTimeout_keeps {s0 : State} {x0 : Nat} {x1 : Bool} {x2 : DdrPlace} {s : State} (h : Keeps s0 s) :
    ∀ t, execDdr5ReadTimeout x0 x1 x2 s = .next t → Keeps s0 t :=
  fun _ ht => keeps_next ht (ddr5ReadTimeoutOp_keeps h)

theorem lateDdr5DataOp_keeps {s0 : State} {x0 : Nat} {s : State} (h : Keeps s0 s) :
    Keeps s0 (lateDdr5DataOp x0 s) :=
  keeps_ite (State.raiseFault_keeps (State.count_keeps (State.msMap_keeps h))) h

theorem execLateDdr5Data_keeps {s0 : State} {x0 : Nat} {s : State} (h : Keeps s0 s) :
    ∀ t, execLateDdr5Data x0 s = .next t → Keeps s0 t :=
  fun _ ht => keeps_next ht (lateDdr5DataOp_keeps h)

theorem execMapCacheDisable_keeps {s0 : State} {x0 : Word} {s : State} (h : Keeps s0 s) :
    ∀ t, execMapCacheDisable x0 s = .next t → Keeps s0 t :=
  fun _ ht => keeps_next ht (State.mccCtlWrite_keeps h)

theorem mapCacheDisableEndOp_keeps {s0 : State} {s : State} (h : Keeps s0 s) :
    Keeps s0 (mapCacheDisableEndOp s) := by
  unfold mapCacheDisableEndOp
  refine keeps_ite ?_ ?_
  · extract_lets -underBinder +onlyGivenNames z1
    clear_value z1
    extract_lets -underBinder +onlyGivenNames z2
    have h3 : Keeps s0 z2 := State.msMap_keeps h
    clear_value z2
    exact State.retryStalled_keeps (State.fsetB_keeps (State.fsetB_keeps h3))
  · exact h

theorem execMapCacheDisableEnd_keeps {s0 : State} {s : State} (h : Keeps s0 s) :
    ∀ t, execMapCacheDisableEnd s = .next t → Keeps s0 t :=
  fun _ ht => keeps_next ht (mapCacheDisableEndOp_keeps h)

theorem execMapCacheEnable_keeps {s0 : State} {x0 : Word} {s : State} (h : Keeps s0 s) :
    ∀ t, execMapCacheEnable x0 s = .next t → Keeps s0 t :=
  fun _ ht => keeps_next ht (State.mccCtlWrite_keeps h)

theorem mapCacheFillOp_keeps {s0 : State} {x0 : Nat} {s : State} (h : Keeps s0 s) :
    Keeps s0 (mapCacheFillOp x0 s) := by
  unfold mapCacheFillOp
  split
  · exact h
  · extract_lets -underBinder +onlyGivenNames z1
    have h2 : Keeps s0 z1 := State.msMap_keeps h
    clear_value z1
    extract_lets -underBinder +onlyGivenNames z3
    have h4 : Keeps s0 z3 := keeps_ite (State.cacheInstall_keeps h2) h2
    clear_value z3
    exact State.retryStalled_keeps (keeps_foldl (fun _ _ h7 => State.deliver_keeps h7) h4)

theorem execMapCacheFill_keeps {s0 : State} {x0 : Nat} {s : State} (h : Keeps s0 s) :
    ∀ t, execMapCacheFill x0 s = .next t → Keeps s0 t :=
  fun _ ht => keeps_next ht (mapCacheFillOp_keeps h)

theorem execMemCounterClear_keeps {s0 : State} {x0 : Word} {s : State} (h : Keeps s0 s) :
    ∀ t, execMemCounterClear x0 s = .next t → Keeps s0 t :=
  fun _ ht => keeps_next ht (State.memCtlWrite_keeps h)

theorem execMergeDrain_keeps {s0 : State} {s : State} (h : Keeps s0 s) :
    ∀ t, execMergeDrain s = .next t → Keeps s0 t :=
  fun _ ht => keeps_next ht (State.msMap_keeps h)

theorem rangeOperationEndOp_keeps {s0 : State} {s : State} (h : Keeps s0 s) :
    Keeps s0 (rangeOperationEndOp s) := by
  unfold rangeOperationEndOp
  refine keeps_ite ?_ ?_
  · extract_lets -underBinder +onlyGivenNames z1
    have h2 : Keeps s0 z1 := State.msMap_keeps h
    clear_value z1
    exact State.fsetB_keeps h2
  · exact h

theorem execRangeOperationEnd_keeps {s0 : State} {s : State} (h : Keeps s0 s) :
    ∀ t, execRangeOperationEnd s = .next t → Keeps s0 t :=
  fun _ ht => keeps_next ht (rangeOperationEndOp_keeps h)

theorem execRefreshRatePoll_keeps {s0 : State} {x0 : Bool} {s : State} (h : Keeps s0 s) :
    ∀ t, execRefreshRatePoll x0 s = .next t → Keeps s0 t :=
  fun _ ht => keeps_next ht (State.fsetB_keeps h)

theorem scrubEndOp_keeps {s0 : State} {s : State} (h : Keeps s0 s) :
    Keeps s0 (scrubEndOp s) :=
  keeps_ite (State.raiseEvent_keeps (State.fsetB_keeps (State.fsetB_keeps h))) h

theorem execScrubEnd_keeps {s0 : State} {s : State} (h : Keeps s0 s) :
    ∀ t, execScrubEnd s = .next t → Keeps s0 t :=
  fun _ ht => keeps_next ht (scrubEndOp_keeps h)

theorem execScrubStart_keeps {s0 : State} {x0 : Word} {x1 : List FoundErr} {s : State} (h : Keeps s0 s) :
    ∀ t, execScrubStart x0 x1 s = .next t → Keeps s0 t :=
  fun _ ht => keeps_next ht (State.scrctlWrite_keeps h)

theorem scrubTimerOp_keeps {s0 : State} {x0 : List FoundErr} {s : State} (h : Keeps s0 s) :
    Keeps s0 (scrubTimerOp x0 s) :=
  keeps_ite h (State.scrubPass_keeps h)

theorem execScrubTimer_keeps {s0 : State} {x0 : List FoundErr} {s : State} (h : Keeps s0 s) :
    ∀ t, execScrubTimer x0 s = .next t → Keeps s0 t :=
  fun _ ht => keeps_next ht (scrubTimerOp_keeps h)

/-! Pwr -/

theorem State.armUpdate_keeps {s0 : State} {s : State} {x1 : Bool} (h : Keeps s0 s) :
    Keeps s0 (State.armUpdate s x1) := by
  unfold State.armUpdate
  extract_lets -underBinder +onlyGivenNames z1 z2 z3
  clear_value z1 z2 z3
  exact keeps_ite (State.warnUpdate_keeps (State.earlyUpdate_keeps (State.raiseFault_keeps (State.raiseEvent_keeps (State.fsetB_keeps h))))) (State.warnUpdate_keeps (State.earlyUpdate_keeps (State.fsetB_keeps h)))

theorem State.henUpdate_keeps {s0 : State} {s : State} (h : Keeps s0 s) :
    Keeps s0 (State.henUpdate s) :=
  State.fset_keeps (State.fset_keeps h)

theorem State.pwrMap_keeps {s0 : State} {s : State} {x1 : PwrSt → PwrSt} (h : Keeps s0 s) :
    Keeps s0 (State.pwrMap s x1) :=
  keeps_upd h rfl rfl rfl rfl rfl

theorem State.measAsk_keeps {s0 : State} {s : State} (h : Keeps s0 s) :
    Keeps s0 (State.measAsk s) :=
  State.pwrMap_keeps h

theorem State.pwrCtlWrite_keeps {s0 : State} {s : State} {x1 : Word} (h : Keeps s0 s) :
    Keeps s0 (State.pwrCtlWrite s x1) := by
  unfold State.pwrCtlWrite
  extract_lets -underBinder +onlyGivenNames z1
  have h2 : Keeps s0 z1 := keeps_ite h (State.armUpdate_keeps (State.fsetB_keeps h))
  clear_value z1
  extract_lets -underBinder +onlyGivenNames z3
  have h4 : Keeps s0 z3 := keeps_ite (State.measAsk_keeps h2) h2
  clear_value z3
  refine keeps_ite ?_ ?_
  · refine keeps_ite ?_ ?_
    · extract_lets -underBinder +onlyGivenNames z5 z6 z7
      clear_value z5 z6 z7
      exact State.fset_keeps (State.fset_keeps (State.vaultMap_keeps h4))
    · exact keeps_ite (State.fset_keeps (State.fset_keeps h4)) (keeps_ite (State.fset_keeps (State.fset_keeps h4)) (keeps_ite (State.fset_keeps (State.fset_keeps h4)) (State.raiseFault_keeps (State.fset_keeps (State.fset_keeps h4)))))
  · exact h4

theorem State.saveData_keeps {s0 : State} {s : State} {x1 : Nat} {x2 : List WinBlk} (h : Keeps s0 s) :
    Keeps s0 (State.saveData s x1 x2) := by
  induction x2 generalizing s x1 with
  | nil =>
    unfold State.saveData
    exact h
  | cons y ys ih =>
    unfold State.saveData
    exact ih (State.setBytes_keeps h)

theorem State.saveWindow_keeps {s0 : State} {s : State} {x1 : Nat} (h : Keeps s0 s) :
    Keeps s0 (State.saveWindow s x1) := by
  unfold State.saveWindow
  refine keeps_ite ?_ ?_
  · exact h
  · extract_lets -underBinder +onlyGivenNames z1 z2 z3 z4
    clear_value z1 z2 z3 z4
    extract_lets -underBinder +onlyGivenNames z5
    have h6 : Keeps s0 z5 := State.saveData_keeps h
    clear_value z5
    extract_lets -underBinder +onlyGivenNames z7
    have h8 : Keeps s0 z7 := keeps_ite (State.vaultMap_keeps h6) h6
    clear_value z7
    exact State.vaultMap_keeps h8

theorem State.winUpdate_keeps {s0 : State} {s : State} (h : Keeps s0 s) :
    Keeps s0 (State.winUpdate s) := by
  unfold State.winUpdate
  extract_lets -underBinder +onlyGivenNames z1 z2
  clear_value z1 z2
  extract_lets -underBinder +onlyGivenNames z3
  have h4 : Keeps s0 z3 := State.fset_keeps h
  clear_value z3
  refine keeps_ite ?_ ?_
  · extract_lets -underBinder +onlyGivenNames z5 z6 z7
    clear_value z5 z6 z7
    exact State.fsetB_keeps (State.vaultMap_keeps h4)
  · exact h4

theorem governorPeriodOp_keeps {s0 : State} {x0 : Nat} {s : State} (h : Keeps s0 s) :
    Keeps s0 (governorPeriodOp x0 s) := by
  unfold governorPeriodOp
  refine keeps_ite ?_ ?_
  · extract_lets -underBinder +onlyGivenNames z1
    have h2 : Keeps s0 z1 := State.fset_keeps h
    clear_value z1
    extract_lets -underBinder +onlyGivenNames z3 z4 z5 z6 z7
    clear_value z3 z4 z5 z6 z7
    extract_lets -underBinder +onlyGivenNames z8
    have h9 : Keeps s0 z8 := State.pwrMap_keeps h2
    clear_value z8
    refine keeps_ite ?_ ?_
    · exact h9
    · refine keeps_ite ?_ ?_
      · exact keeps_ite (State.targetAsk_keeps h9) h9
      · refine keeps_ite ?_ ?_
        · extract_lets -underBinder +onlyGivenNames z10
          have h11 : Keeps s0 z10 := State.pwrMap_keeps h9
          clear_value z10
          exact keeps_ite h11 (State.targetAsk_keeps h11)
        · exact h9
  · exact h

theorem execGovernorPeriod_keeps {s0 : State} {x0 : Nat} {s : State} (h : Keeps s0 s) :
    ∀ t, execGovernorPeriod x0 s = .next t → Keeps s0 t :=
  fun _ ht => keeps_next ht (governorPeriodOp_keeps h)

theorem holdRailBelowVminOp_keeps {s0 : State} {x0 : Nat} {s : State} (h : Keeps s0 s) :
    Keeps s0 (holdRailBelowVminOp x0 s) :=
  keeps_ite (State.armUpdate_keeps (State.pwrMap_keeps h)) h

theorem execHoldRailBelowVmin_keeps {s0 : State} {x0 : Nat} {s : State} (h : Keeps s0 s) :
    ∀ t, execHoldRailBelowVmin x0 s = .next t → Keeps s0 t :=
  fun _ ht => keeps_next ht (holdRailBelowVminOp_keeps h)

theorem keUpdateOp_keeps {s0 : State} {s : State} (h : Keeps s0 s) :
    Keeps s0 (keUpdateOp s) :=
  State.armUpdate_keeps (State.henUpdate_keeps (State.tick_keeps (State.fset_keeps h)))

theorem execKeUpdate_keeps {s0 : State} {s : State} (h : Keeps s0 s) :
    ∀ t, execKeUpdate s = .next t → Keeps s0 t :=
  fun _ ht => keeps_next ht (keUpdateOp_keeps h)

theorem measurementEndOp_keeps {s0 : State} {x0 : Nat} {x1 : Nat} {s : State} (h : Keeps s0 s) :
    Keeps s0 (measurementEndOp x0 x1 s) := by
  unfold measurementEndOp
  refine keeps_ite ?_ ?_
  · extract_lets -underBinder +onlyGivenNames z1
    have h2 : Keeps s0 z1 := State.pwrMap_keeps h
    clear_value z1
    extract_lets -underBinder +onlyGivenNames z3 z4 z5
    clear_value z3 z4 z5
    extract_lets -underBinder +onlyGivenNames z6
    have h7 : Keeps s0 z6 := State.fset_keeps (State.fset_keeps h2)
    clear_value z6
    extract_lets -underBinder +onlyGivenNames z8 z9 z10 z11 z12
    clear_value z8 z9 z10 z11 z12
    extract_lets -underBinder +onlyGivenNames z13
    have h14 : Keeps s0 z13 := State.pwrMap_keeps h7
    clear_value z13
    extract_lets -underBinder +onlyGivenNames z15
    have h16 : Keeps s0 z15 := keeps_ite (State.raiseFault_keeps (State.fsetB_keeps h14)) (State.wr_keeps h14)
    clear_value z15
    exact State.armUpdate_keeps (State.henUpdate_keeps h16)
  · exact h

theorem execMeasurementEnd_keeps {s0 : State} {x0 : Nat} {x1 : Nat} {s : State} (h : Keeps s0 s) :
    ∀ t, execMeasurementEnd x0 x1 s = .next t → Keeps s0 t :=
  fun _ ht => keeps_next ht (measurementEndOp_keeps h)

theorem execMeasurementRequest_keeps {s0 : State} {x0 : Word} {s : State} (h : Keeps s0 s) :
    ∀ t, execMeasurementRequest x0 s = .next t → Keeps s0 t :=
  fun _ ht => keeps_next ht (State.pwrCtlWrite_keeps h)

theorem execMeasurementTimer_keeps {s0 : State} {s : State} (h : Keeps s0 s) :
    ∀ t, execMeasurementTimer s = .next t → Keeps s0 t :=
  fun _ ht => keeps_next ht (State.measAsk_keeps h)

theorem powerFailFallOp_keeps {s0 : State} {s : State} (h : Keeps s0 s) :
    Keeps s0 (powerFailFallOp s) :=
  State.armUpdate_keeps (State.pwrMap_keeps (State.fsetB_keeps h))

theorem execPowerFailFall_keeps {s0 : State} {s : State} (h : Keeps s0 s) :
    ∀ t, execPowerFailFall s = .next t → Keeps s0 t :=
  fun _ ht => keeps_next ht (powerFailFallOp_keeps h)

theorem execPowerFailRise_keeps {s0 : State} {s : State} (h : Keeps s0 s) :
    ∀ t, execPowerFailRise s = .next t → Keeps s0 t :=
  fun _ ht => keeps_next ht (State.fsetB_keeps h)

theorem powerLossOp_keeps {s0 : State} {s : State} (h : Keeps s0 s) :
    Keeps s0 (powerLossOp s) :=
  keeps_ite (State.powerLoss_keeps h) h

theorem execPowerLoss_keeps {s0 : State} {s : State} (h : Keeps s0 s) :
    ∀ t, execPowerLoss s = .next t → Keeps s0 t :=
  fun _ ht => keeps_next ht (powerLossOp_keeps h)

theorem powerOnHourOp_keeps {s0 : State} {s : State} (h : Keeps s0 s) :
    Keeps s0 (powerOnHourOp s) := by
  unfold powerOnHourOp
  extract_lets -underBinder +onlyGivenNames z1
  clear_value z1
  exact State.wr_keeps (State.vaultMap_keeps h)

theorem execPowerOnHour_keeps {s0 : State} {s : State} (h : Keeps s0 s) :
    ∀ t, execPowerOnHour s = .next t → Keeps s0 t :=
  fun _ ht => keeps_next ht (powerOnHourOp_keeps h)

theorem powerReturnOp_keeps {s0 : State} {s : State} (h : Keeps s0 s) :
    Keeps s0 (powerReturnOp s) :=
  keeps_ite (State.coreMap_keeps h) h

theorem execPowerReturn_keeps {s0 : State} {s : State} (h : Keeps s0 s) :
    ∀ t, execPowerReturn s = .next t → Keeps s0 t :=
  fun _ ht => keeps_next ht (powerReturnOp_keeps h)

theorem restoreEndOp_keeps {s0 : State} {s : State} (h : Keeps s0 s) :
    Keeps s0 (restoreEndOp s) := by
  unfold restoreEndOp
  refine keeps_ite ?_ ?_
  · extract_lets -underBinder +onlyGivenNames z1 z2
    clear_value z1 z2
    extract_lets -underBinder +onlyGivenNames z3
    have h4 : Keeps s0 z3 := keeps_upd h rfl rfl rfl rfl rfl
    clear_value z3
    exact State.winUpdate_keeps (State.fset_keeps (State.fset_keeps h4))
  · exact h

theorem execRestoreEnd_keeps {s0 : State} {s : State} (h : Keeps s0 s) :
    ∀ t, execRestoreEnd s = .next t → Keeps s0 t :=
  fun _ ht => keeps_next ht (restoreEndOp_keeps h)

theorem execRestoreRequest_keeps {s0 : State} {x0 : Word} {s : State} (h : Keeps s0 s) :
    ∀ t, execRestoreRequest x0 s = .next t → Keeps s0 t :=
  fun _ ht => keeps_next ht (State.pwrCtlWrite_keeps h)

theorem windowSaveEndOp_keeps {s0 : State} {s : State} (h : Keeps s0 s) :
    Keeps s0 (windowSaveEndOp s) := by
  unfold windowSaveEndOp
  split
  · exact h
  · extract_lets -underBinder +onlyGivenNames z1
    have h2 : Keeps s0 z1 := State.pwrMap_keeps (State.saveWindow_keeps h)
    clear_value z1
    exact keeps_ite (State.fatalHoldStart_keeps h2) (keeps_ite (State.coreMap_keeps (State.recordNow_keeps h2)) (State.pinsHeld_keeps (State.pwrMap_keeps (State.recordNow_keeps h2))))

theorem execWindowSaveEnd_keeps {s0 : State} {s : State} (h : Keeps s0 s) :
    ∀ t, execWindowSaveEnd s = .next t → Keeps s0 t :=
  fun _ ht => keeps_next ht (windowSaveEndOp_keeps h)

end Sys2Proof.Machine
end

