-- ==== Sys2Proof/Laws/KeepsZone.lean ====
section
/-! SUPPORT. What the operations and meanings of Machine/Journal.lean, Machine/Layout.lean, Machine/Member.lean, Machine/Zne.lean, Machine/Ste.lean leave alone: `Keeps` (Laws/Keeps.lean) of each, in the order of
their files. -/
namespace Sys2Proof.Machine

/-! Journal -/

theorem State.entrySet_keeps {s0 : State} {s : State} {x1 : Nat} {x2 : Nat} {x3 : Word} {x4 : Bool} (h : Keeps s0 s) :
    Keeps s0 (State.entrySet s x1 x2 x3 x4) :=
  State.setBytes_keeps (State.mapTouch_keeps h)

theorem State.hwSubmit_keeps {s0 : State} {s : State} {x1 : Act} {x2 : List Word} (h : Keeps s0 s) :
    Keeps s0 (State.hwSubmit s x1 x2) :=
  State.msqMap_keeps h

theorem State.jstallUpdate_keeps {s0 : State} {s : State} (h : Keeps s0 s) :
    Keeps s0 (State.jstallUpdate s) := by
  unfold State.jstallUpdate
  extract_lets -underBinder +onlyGivenNames z1 z2
  clear_value z1 z2
  extract_lets -underBinder +onlyGivenNames z3
  have h4 : Keeps s0 z3 := State.fsetB_keeps h
  clear_value z3
  exact keeps_ite (State.raiseFault_keeps h4) h4

theorem State.journalRegs_keeps {s0 : State} {s : State} (h : Keeps s0 s) :
    Keeps s0 (State.journalRegs s) := by
  unfold State.journalRegs
  extract_lets -underBinder +onlyGivenNames z1
  clear_value z1
  extract_lets -underBinder +onlyGivenNames z2
  have h3 : Keeps s0 z2 := State.fset_keeps (State.wideSet_keeps (State.wideSet_keeps h))
  clear_value z2
  exact State.jstallUpdate_keeps (State.fsetB_keeps h3)

theorem State.steMap_keeps {s0 : State} {s : State} {x1 : SteSt → SteSt} (h : Keeps s0 s) :
    Keeps s0 (State.steMap s x1) :=
  keeps_upd h rfl rfl rfl rfl rfl

theorem State.journal_keeps {s0 : State} {s : State} {x1 : Nat} {x2 : Nat} {x3 : Nat} {x4 : List Byte} {x5 : Nat} (h : Keeps s0 s) :
    Keeps s0 (State.journal s x1 x2 x3 x4 x5) := by
  unfold State.journal
  extract_lets -underBinder +onlyGivenNames z1 z2 z3 z4
  clear_value z1 z2 z3 z4
  extract_lets -underBinder +onlyGivenNames z5
  have h6 : Keeps s0 z5 := State.vaultMap_keeps (State.setBytes_keeps h)
  clear_value z5
  extract_lets -underBinder +onlyGivenNames z7
  have h8 : Keeps s0 z7 := State.journalRegs_keeps (State.steMap_keeps h6)
  clear_value z7
  extract_lets -underBinder +onlyGivenNames z9
  have h10 : Keeps s0 z9 := keeps_ite (State.steMap_keeps h8) h8
  clear_value z9
  exact keeps_ite (State.sendPkt_keeps h10) h10

theorem State.zneMap_keeps {s0 : State} {s : State} {x1 : ZneSt → ZneSt} (h : Keeps s0 s) :
    Keeps s0 (State.zneMap s x1) :=
  keeps_upd h rfl rfl rfl rfl rfl

theorem State.zoneSet_keeps {s0 : State} {s : State} {x1 : Nat} {x2 : ZoneDesc} {x3 : Nat} (h : Keeps s0 s) :
    Keeps s0 (State.zoneSet s x1 x2 x3) := by
  unfold State.zoneSet
  extract_lets -underBinder +onlyGivenNames z1
  clear_value z1
  extract_lets -underBinder +onlyGivenNames z2
  have h3 : Keeps s0 z2 := State.journal_keeps h
  clear_value z2
  extract_lets -underBinder +onlyGivenNames z4
  have h5 : Keeps s0 z4 := State.setBytes_keeps h3
  clear_value z4
  extract_lets -underBinder +onlyGivenNames z6 z7
  clear_value z6 z7
  exact State.fset_keeps (State.fset_keeps h5)

/-! Layout -/

theorem State.bandSet_keeps {s0 : State} {s : State} {x1 : Nat} {x2 : Nat} {x3 : Nat} (h : Keeps s0 s) :
    Keeps s0 (State.bandSet s x1 x2 x3) := by
  unfold State.bandSet
  extract_lets -underBinder +onlyGivenNames z1
  clear_value z1
  refine keeps_ite ?_ ?_
  · exact h
  · extract_lets -underBinder +onlyGivenNames z2
    have h3 : Keeps s0 z2 := State.journal_keeps h
    clear_value z2
    exact State.setBytes_keeps (State.mapTouch_keeps h3)

theorem State.freshBuf_keeps {s0 : State} {s : State} (h : Keeps s0 s) :
    Keeps s0 (State.freshBuf s).2 :=
  keeps_mk2 (State.tick_keeps h)

theorem State.openLowest_keeps {s0 : State} {s : State} {x1 : Nat} (h : Keeps s0 s) :
    Keeps s0 (State.openLowest s x1) := by
  unfold State.openLowest
  split
  · exact State.zneMap_keeps (State.bandSet_keeps h)
  · exact h

theorem State.place_keeps {s0 : State} {s : State} {x1 : Nat} {x2 : Nat} (h : Keeps s0 s) :
    ∀ t, State.place s x1 x2 = some t → Keeps s0 t := by
  intro t ht
  unfold State.place at ht
  split at ht
  · injection ht with ht; subst ht; exact h
  · obtain ⟨i, -, rfl⟩ := Option.map_eq_some_iff.1 ht
    exact State.zneMap_keeps h

theorem State.submitPieces_keeps {s0 : State} {s : State} {x1 : Nat} {x2 : Nat} {x3 : Nat} {x4 : Nat} {x5 : Nat} {x6 : Bool} {x7 : Nat} {x8 : Nat} {x9 : List Piece} (h : Keeps s0 s) :
    Keeps s0 (State.submitPieces s x1 x2 x3 x4 x5 x6 x7 x8 x9).2 := by
  induction x9 generalizing s x1 x2 x3 x4 x5 x7 x8 with
  | nil =>
    unfold State.submitPieces
    exact keeps_mk2 h
  | cons y ys ih =>
    unfold State.submitPieces
    extract_lets -underBinder +onlyGivenNames z1
    clear_value z1
    extract_lets -underBinder +onlyGivenNames z2
    have h3 : Keeps s0 z2 := keeps_ite (State.zneMap_keeps h) h
    clear_value z2
    extract_lets -underBinder +onlyGivenNames z4
    clear_value z4
    extract_lets -underBinder +onlyGivenNames z5
    have h6 : Keeps s0 z5 := State.hwSubmit_keeps h3
    clear_value z5
    exact ih h6

theorem State.unplace_keeps {s0 : State} {s : State} {x1 : Nat} {x2 : Nat} (h : Keeps s0 s) :
    Keeps s0 (State.unplace s x1 x2) :=
  State.zneMap_keeps h

/-! Member -/

theorem State.areaRoleSet_keeps {s0 : State} {s : State} {x1 : Nat} {x2 : Nat} (h : Keeps s0 s) :
    Keeps s0 (State.areaRoleSet s x1 x2) :=
  State.fset_keeps (State.vaultMap_keeps h)

theorem State.checkpointEnd_keeps {s0 : State} {s : State} (h : Keeps s0 s) :
    Keeps s0 (State.checkpointEnd s) := by
  unfold State.checkpointEnd
  split
  · exact h
  · refine keeps_ite ?_ ?_
    · exact h
    · extract_lets -underBinder +onlyGivenNames z1
      clear_value z1
      extract_lets -underBinder +onlyGivenNames z2
      have h3 : Keeps s0 z2 := State.journal_keeps h
      clear_value z2
      extract_lets -underBinder +onlyGivenNames z4
      clear_value z4
      extract_lets -underBinder +onlyGivenNames z5
      have h6 : Keeps s0 z5 := State.vaultMap_keeps h3
      clear_value z5
      extract_lets -underBinder +onlyGivenNames z7
      have h8 : Keeps s0 z7 := State.count_keeps (State.journalRegs_keeps (State.fsetB_keeps (State.steMap_keeps h6)))
      clear_value z7
      extract_lets -underBinder +onlyGivenNames z9
      clear_value z9
      extract_lets -underBinder +onlyGivenNames z10
      have h11 : Keeps s0 z10 := keeps_ite (State.fsetB_keeps h8) h8
      clear_value z10
      extract_lets -underBinder +onlyGivenNames z12
      have h13 : Keeps s0 z12 := State.brlMap_keeps h11
      clear_value z12
      extract_lets -underBinder +onlyGivenNames z14 z15
      clear_value z14 z15
      extract_lets -underBinder +onlyGivenNames z16
      have h17 : Keeps s0 z16 := keeps_foldl (fun _ _ h20 => State.bandSet_keeps h20) h13
      clear_value z16
      exact State.zneMap_keeps h17

theorem State.areaFail_keeps {s0 : State} {s : State} {x1 : Fin 4} (h : Keeps s0 s) :
    Keeps s0 (State.areaFail s x1) := by
  unfold State.areaFail
  extract_lets -underBinder +onlyGivenNames z1
  clear_value z1
  refine keeps_ite ?_ ?_
  · extract_lets -underBinder +onlyGivenNames z2
    have h3 : Keeps s0 z2 := State.raiseFault_keeps (State.fsetB_keeps (State.areaRoleSet_keeps h))
    clear_value z2
    extract_lets -underBinder +onlyGivenNames z4
    clear_value z4
    extract_lets -underBinder +onlyGivenNames z5
    have h6 : Keeps s0 z5 := keeps_ite (State.steMap_keeps (State.areaRoleSet_keeps h3)) h3
    clear_value z5
    extract_lets -underBinder +onlyGivenNames z7
    have h8 : Keeps s0 z7 := State.steMap_keeps h6
    clear_value z7
    exact State.checkpointEnd_keeps (State.warnUpdate_keeps h8)
  · exact h

theorem State.failSurf_keeps {s0 : State} {s : State} {x1 : Nat} (h : Keeps s0 s) :
    Keeps s0 (State.failSurf s x1) :=
  keeps_ite (State.wr_keeps h) (State.brlMap_keeps h)

theorem State.mendCheck_keeps {s0 : State} {s : State} (h : Keeps s0 s) :
    Keeps s0 (State.mendCheck s) := by
  unfold State.mendCheck
  extract_lets -underBinder +onlyGivenNames z1
  clear_value z1
  extract_lets -underBinder +onlyGivenNames z2
  have h3 : Keeps s0 z2 := keeps_foldl (fun _ _ h6 => keeps_ite (State.fset_keeps (State.journal_keeps h6)) h6) h
  clear_value z2
  exact State.fsetB_keeps h3

theorem State.retireSurface_keeps {s0 : State} {s : State} {x1 : Nat} (h : Keeps s0 s) :
    Keeps s0 (State.retireSurface s x1) := by
  unfold State.retireSurface
  refine keeps_ite ?_ ?_
  · exact h
  · extract_lets -underBinder +onlyGivenNames z1
    have h2 : Keeps s0 z1 := State.journal_keeps h
    clear_value z1
    extract_lets -underBinder +onlyGivenNames z3
    have h4 : Keeps s0 z3 := State.fset_keeps (State.failSurf_keeps h2)
    clear_value z3
    extract_lets -underBinder +onlyGivenNames z5
    have h6 : Keeps s0 z5 := State.raiseFault_keeps (State.wr_keeps (State.fsetB_keeps h4))
    clear_value z5
    extract_lets -underBinder +onlyGivenNames z7
    have h8 : Keeps s0 z7 := State.steMap_keeps h6
    clear_value z7
    extract_lets -underBinder +onlyGivenNames z9
    have h10 : Keeps s0 z9 := keeps_ite (keeps_foldl (fun _ _ h13 => State.areaFail_keeps h13) h8) h8
    clear_value z9
    exact State.mendCheck_keeps (State.warnUpdate_keeps h10)

theorem State.stripeSet_keeps {s0 : State} {s : State} {x1 : Acc} (h : Keeps s0 s) :
    Keeps s0 (State.stripeSet s x1) :=
  State.steMap_keeps h

theorem State.stripeAdd_keeps {s0 : State} {s : State} {x1 : Nat} {x2 : Nat} {x3 : List Byte} {x4 : Bool} (h : Keeps s0 s) :
    Keeps s0 (State.stripeAdd s x1 x2 x3 x4) := by
  unfold State.stripeAdd
  extract_lets -underBinder +onlyGivenNames z1 z2
  clear_value z1 z2
  split
  · extract_lets -underBinder +onlyGivenNames z3 z4
    clear_value z3 z4
    exact State.stripeSet_keeps h

theorem State.stripeDrop_keeps {s0 : State} {s : State} {x1 : Nat} {x2 : Nat} (h : Keeps s0 s) :
    Keeps s0 (State.stripeDrop s x1 x2) :=
  State.steMap_keeps h

theorem State.zoneReadOnly_keeps {s0 : State} {s : State} {x1 : Nat} (h : Keeps s0 s) :
    Keeps s0 (State.zoneReadOnly s x1) := by
  unfold State.zoneReadOnly
  extract_lets -underBinder +onlyGivenNames z1
  clear_value z1
  refine keeps_ite ?_ ?_
  · exact h
  · extract_lets -underBinder +onlyGivenNames z2
    have h3 : Keeps s0 z2 := State.hepMap_keeps (State.raiseFault_keeps (State.zoneSet_keeps h))
    clear_value z2
    exact State.asyncEvent_keeps h3

/-! Zne -/

theorem State.bandFull_keeps {s0 : State} {s : State} {x1 : Nat} (h : Keeps s0 s) :
    Keeps s0 (State.bandFull s x1) := by
  unfold State.bandFull
  split
  · exact h
  · refine keeps_ite ?_ ?_
    · extract_lets -underBinder +onlyGivenNames z1
      clear_value z1
      extract_lets -underBinder +onlyGivenNames z2
      have h3 : Keeps s0 z2 := State.bandSet_keeps h
      clear_value z2
      extract_lets -underBinder +onlyGivenNames z4
      have h5 : Keeps s0 z4 := State.zneMap_keeps h3
      clear_value z4
      exact State.openLowest_keeps h5
    · exact h

theorem State.bufferSweep_keeps {s0 : State} {s : State} (h : Keeps s0 s) :
    Keeps s0 (State.bufferSweep s) :=
  State.winUpdate_keeps (State.cqeMap_keeps h)

theorem State.writeSet_keeps {s0 : State} {s : State} {x1 : ChunkWr} {x2 : ChunkWr → ChunkWr} (h : Keeps s0 s) :
    Keeps s0 (State.writeSet s x1 x2) :=
  State.zneMap_keeps h

theorem State.takeHwCpl_keeps {s0 : State} {s : State} {x1 : Word} (h : Keeps s0 s) :
    Keeps s0 (State.takeHwCpl s x1) := by
  unfold State.takeHwCpl
  extract_lets -underBinder +onlyGivenNames z1
  have h2 : ∀ b0 b1, Keeps s0 b0 → Keeps s0 (z1 b0 b1) := fun _ _ h5 => State.msqMap_keeps h5
  clear_value z1
  exact h2 _ _ (h2 _ _ h)

theorem State.writeDrop_keeps {s0 : State} {s : State} {x1 : ChunkWr} (h : Keeps s0 s) :
    Keeps s0 (State.writeDrop s x1) :=
  State.zneMap_keeps h

theorem State.killSlot_keeps {s0 : State} {s : State} {x1 : Nat} {x2 : Nat} (h : Keeps s0 s) :
    Keeps s0 (State.killSlot s x1 x2) := by
  unfold State.killSlot
  split
  · exact h
  · extract_lets -underBinder +onlyGivenNames z1 z2
    clear_value z1 z2
    extract_lets -underBinder +onlyGivenNames z3
    have h4 : Keeps s0 z3 := State.zneMap_keeps h
    clear_value z3
    exact keeps_ite (State.zneMap_keeps h4) h4

theorem State.liveSlot_keeps {s0 : State} {s : State} {x1 : Nat} {x2 : Nat} {x3 : Nat} {x4 : Nat} (h : Keeps s0 s) :
    Keeps s0 (State.liveSlot s x1 x2 x3 x4) := by
  unfold State.liveSlot
  split
  · exact h
  · extract_lets -underBinder +onlyGivenNames z1
    clear_value z1
    exact State.zneMap_keeps h

theorem State.sendWrel_keeps {s0 : State} {s : State} {x1 : Nat} {x2 : List BlockId} (h : Keeps s0 s) :
    Keeps s0 (State.sendWrel s x1 x2) := by
  induction x1 generalizing s x2 with
  | zero =>
    unfold State.sendWrel
    exact h
  | succ n ih =>
    unfold State.sendWrel
    exact keeps_ite h (ih (State.sendPkt_keeps h))

theorem State.leaveWindow_keeps {s0 : State} {s : State} {x1 : WinBlk → Bool} (h : Keeps s0 s) :
    Keeps s0 (State.leaveWindow s x1) := by
  unfold State.leaveWindow
  extract_lets -underBinder +onlyGivenNames z1
  clear_value z1
  extract_lets -underBinder +onlyGivenNames z2
  have h3 : Keeps s0 z2 := State.cqeMap_keeps h
  clear_value z2
  extract_lets -underBinder +onlyGivenNames z4
  have h5 : Keeps s0 z4 := keeps_ite (State.sendWrel_keeps h3) h3
  clear_value z4
  exact State.shutTry_keeps (State.shutTry_keeps h5)

theorem State.replayDone_keeps {s0 : State} {s : State} (h : Keeps s0 s) :
    Keeps s0 (State.replayDone s) :=
  keeps_ite (State.fset_keeps h) h

theorem State.takeSlot_keeps {s0 : State} {s : State} {x1 : Nat} (h : Keeps s0 s) :
    ∀ t, State.takeSlot s x1 = some t → Keeps s0 t.2 := by
  intro t ht
  simp only [State.takeSlot] at ht
  split at ht
  · cases ht
  · split at ht
    · injection ht with ht; subst ht; exact State.zneMap_keeps (State.openLowest_keeps h)
    · cases ht

theorem State.rePlace_keeps {s0 : State} {s : State} {x1 : ChunkWr} {x2 : Nat} (h : Keeps s0 s) :
    Keeps s0 (State.rePlace s x1 x2) :=
  State.zneMap_keeps (State.writeSet_keeps h)

theorem State.stagePatch_keeps {s0 : State} {s : State} {x1 : ChunkWr} {x2 : List (Nat × Option (List Byte))} (h : Keeps s0 s) :
    Keeps s0 (State.stagePatch s x1 x2) := by
  induction x2 generalizing s with
  | nil =>
    unfold State.stagePatch
    exact h
  | cons y ys ih =>
    unfold State.stagePatch
    exact ih (State.setBytes_keeps h)

theorem State.submitReads_keeps {s0 : State} {s : State} {x1 : ChunkWr} {x2 : List (Nat × Nat)} (h : Keeps s0 s) :
    Keeps s0 (State.submitReads s x1 x2).2 := by
  induction x2 generalizing s with
  | nil =>
    unfold State.submitReads
    exact keeps_mk2 h
  | cons y ys ih =>
    unfold State.submitReads
    extract_lets -underBinder +onlyGivenNames z1 z2
    clear_value z1 z2
    exact ih (State.submitPieces_keeps h)

theorem State.writeOut_keeps {s0 : State} {s : State} {x1 : ChunkWr} (h : Keeps s0 s) :
    Keeps s0 (State.writeOut s x1) := by
  unfold State.writeOut
  split
  · exact State.writeSet_keeps (keeps_snd (by assumption) (State.submitPieces_keeps h))

theorem State.stage_keeps {s0 : State} {s : State} {x1 : ChunkWr} {x2 : Nat} {x3 : Nat} {x4 : Nat} (h : Keeps s0 s) :
    Keeps s0 (State.stage s x1 x2 x3 x4) := by
  induction x4 generalizing s x2 x3 with
  | zero =>
    unfold State.stage
    exact h
  | succ n ih =>
    unfold State.stage
    exact ih (State.setBytes_keeps h)

theorem State.startWrite_keeps {s0 : State} {s : State} {x1 : ChunkWr} (h : Keeps s0 s) :
    Keeps s0 (State.startWrite s x1) := by
  unfold State.startWrite
  split
  · split
    · extract_lets -underBinder +onlyGivenNames z1
      clear_value z1
      extract_lets -underBinder +onlyGivenNames z2
      have h3 : Keeps s0 z2 := State.writeSet_keeps (keeps_snd (by assumption) (State.freshBuf_keeps (keeps_snd (by assumption) (State.freshBuf_keeps h))))
      clear_value z2
      refine keeps_ite ?_ ?_
      · extract_lets -underBinder +onlyGivenNames z4
        have h5 : Keeps s0 z4 := State.stagePatch_keeps h3
        clear_value z4
        split
        · exact keeps_ite (State.writeOut_keeps (keeps_snd (by assumption) (State.submitReads_keeps h5))) (State.writeSet_keeps (keeps_snd (by assumption) (State.submitReads_keeps h5)))
      · exact State.writeOut_keeps (State.stage_keeps h3)

theorem State.sendFrom_keeps {s0 : State} {s : State} {x1 : Nat} {x2 : Nat} (h : Keeps s0 s) :
    Keeps s0 (State.sendFrom s x1 x2) := by
  induction x1 generalizing s x2 with
  | zero =>
    unfold State.sendFrom
    exact h
  | succ n ih =>
    unfold State.sendFrom
    refine keeps_ite ?_ ?_
    · exact h
    · split
      · exact h
      · split
        · extract_lets -underBinder +onlyGivenNames z1
          have h2 : Keeps s0 z1 := State.unplace_keeps h
          clear_value z1
          split
          · exact ih (State.rePlace_keeps h2)
          · exact State.zoneReadOnly_keeps (State.writeDrop_keeps h2)
        · extract_lets -underBinder +onlyGivenNames z3
          clear_value z3
          extract_lets -underBinder +onlyGivenNames z4
          have h5 : Keeps s0 z4 := State.vaultMap_keeps (keeps_somesnd (by assumption) (State.takeSlot_keeps h))
          clear_value z4
          extract_lets -underBinder +onlyGivenNames z6
          clear_value z6
          exact State.startWrite_keeps (State.writeSet_keeps h5)

theorem State.sendNext_keeps {s0 : State} {s : State} {x1 : Nat} (h : Keeps s0 s) :
    Keeps s0 (State.sendNext s x1) :=
  State.sendFrom_keeps h

theorem State.queueWrite_keeps {s0 : State} {s : State} {x1 : ChunkWr} (h : Keeps s0 s) :
    Keeps s0 (State.queueWrite s x1) :=
  State.sendNext_keeps (State.zneMap_keeps h)

theorem State.parityDue_keeps {s0 : State} {s : State} {x1 : Acc} (h : Keeps s0 s) :
    Keeps s0 (State.parityDue s x1) := by
  unfold State.parityDue
  extract_lets -underBinder +onlyGivenNames z1
  clear_value z1
  refine keeps_ite ?_ ?_
  · exact h
  · split
    · exact h
    · exact State.queueWrite_keeps h

theorem State.sealTry_keeps {s0 : State} {s : State} {x1 : Nat} {x2 : Nat} (h : Keeps s0 s) :
    Keeps s0 (State.sealTry s x1 x2) := by
  unfold State.sealTry
  extract_lets -underBinder +onlyGivenNames z1
  clear_value z1
  split
  · exact h
  · extract_lets -underBinder +onlyGivenNames z2
    clear_value z2
    refine keeps_ite ?_ ?_
    · exact h
    · extract_lets -underBinder +onlyGivenNames z3
      clear_value z3
      extract_lets -underBinder +onlyGivenNames z4
      have h5 : Keeps s0 z4 := State.stripeSet_keeps h
      clear_value z4
      exact keeps_ite (State.parityDue_keeps h5) h5

theorem State.mediaDone_keeps {s0 : State} {s : State} (h : Keeps s0 s) :
    Keeps s0 (State.mediaDone s) := by
  unfold State.mediaDone
  extract_lets -underBinder +onlyGivenNames z1
  clear_value z1
  refine keeps_foldl ?_ ?_
  · intro y2 y3 h4
    split
    · exact State.finish_keeps h4
    · exact State.finish_keeps h4
  · exact h

theorem State.settleUnrec_keeps {s0 : State} {s : State} {x1 : ChunkWr} (h : Keeps s0 s) :
    Keeps s0 (State.settleUnrec s x1) := by
  unfold State.settleUnrec
  extract_lets -underBinder +onlyGivenNames z1 z2 z3
  clear_value z1 z2 z3
  exact State.steMap_keeps h

theorem State.writeGood_keeps {s0 : State} {s : State} {x1 : ChunkWr} (h : Keeps s0 s) :
    Keeps s0 (State.writeGood s x1) := by
  unfold State.writeGood
  extract_lets -underBinder +onlyGivenNames z1
  have h2 : Keeps s0 z1 := State.writeDrop_keeps h
  clear_value z1
  extract_lets -underBinder +onlyGivenNames z3 z4 z5
  clear_value z3 z4 z5
  extract_lets -underBinder +onlyGivenNames z6
  extract_lets -underBinder +onlyGivenNames z7 z8 z9 z10 z11
  clear_value z7 z8 z9 z10 z11
  extract_lets -underBinder +onlyGivenNames z12
  have h13 : Keeps s0 z12 := State.cqeMap_keeps h2
  clear_value z12
  extract_lets -underBinder +onlyGivenNames z14
  clear_value z14
  extract_lets -underBinder +onlyGivenNames z15
  have h16 : Keeps s0 z15 := State.journal_keeps h2
  clear_value z15
  extract_lets -underBinder +onlyGivenNames z17
  have h18 : Keeps s0 z17 := State.entrySet_keeps h16
  clear_value z17
  extract_lets -underBinder +onlyGivenNames z19
  clear_value z19
  extract_lets -underBinder +onlyGivenNames z20
  have h21 : Keeps s0 z20 := State.setBytes_keeps h18
  clear_value z20
  extract_lets -underBinder +onlyGivenNames z22
  have h23 : Keeps s0 z22 := keeps_ite (State.killSlot_keeps h21) h21
  clear_value z22
  extract_lets -underBinder +onlyGivenNames z24
  have h25 : Keeps s0 z24 := State.unplace_keeps (State.liveSlot_keeps h23)
  clear_value z24
  extract_lets -underBinder +onlyGivenNames z26
  have h27 : Keeps s0 z26 := State.leaveWindow_keeps h25
  clear_value z26
  extract_lets -underBinder +onlyGivenNames z28
  clear_value z28
  extract_lets -underBinder +onlyGivenNames z29
  have h30 : Keeps s0 z29 := State.cqeMap_keeps h27
  clear_value z29
  extract_lets -underBinder +onlyGivenNames z31
  have h32 : Keeps s0 z31 := keeps_ite (State.count_keeps h30) h30
  clear_value z31
  extract_lets -underBinder +onlyGivenNames z33
  have h34 : Keeps s0 z33 := keeps_ite (State.mendCheck_keeps (State.count_keeps h32)) h32
  clear_value z33
  extract_lets -underBinder +onlyGivenNames z35
  have h36 : Keeps s0 z35 := by
    subst z35
    split
    · refine keeps_ite ?_ ?_
      · extract_lets -underBinder +onlyGivenNames z37
        clear_value z37
        exact keeps_ite (State.replayDone_keeps (State.stripeDrop_keeps h34)) (State.parityDue_keeps (State.stripeSet_keeps h34))
      · exact State.sealTry_keeps h34
    · exact h34
  clear_value z35
  extract_lets -underBinder +onlyGivenNames z38
  have h39 : Keeps s0 z38 := keeps_ite h2 (State.mediaDone_keeps (State.bufferSweep_keeps (State.settleUnrec_keeps h36)))
  clear_value z38
  exact State.sendNext_keeps (State.bandFull_keeps h39)

theorem State.retire_keeps {s0 : State} {s : State} {x1 : Nat} (h : Keeps s0 s) :
    Keeps s0 (State.retire s x1) := by
  unfold State.retire
  extract_lets -underBinder +onlyGivenNames z1
  have h2 : Keeps s0 z1 := State.retireSurface_keeps h
  clear_value z1
  extract_lets -underBinder +onlyGivenNames z3 z4
  clear_value z3 z4
  extract_lets -underBinder +onlyGivenNames z5
  have h6 : Keeps s0 z5 := State.zneMap_keeps h2
  clear_value z5
  extract_lets -underBinder +onlyGivenNames z7
  have h8 : Keeps s0 z7 := keeps_foldl (fun _ _ h11 => keeps_getD (State.place_keeps h11) h11) h6
  clear_value z7
  refine keeps_foldl ?_ ?_
  · intro y12 y13 h14
    split
    · exact State.sendNext_keeps (State.rePlace_keeps h14)
    · exact State.zoneReadOnly_keeps (State.writeDrop_keeps h14)
  · exact h8

theorem State.writeBad_keeps {s0 : State} {s : State} {x1 : ChunkWr} (h : Keeps s0 s) :
    Keeps s0 (State.writeBad s x1) := by
  unfold State.writeBad
  extract_lets -underBinder +onlyGivenNames z1 z2
  clear_value z1 z2
  refine keeps_ite ?_ ?_
  · exact State.writeSet_keeps h
  · extract_lets -underBinder +onlyGivenNames z3
    have h4 : Keeps s0 z3 := State.writeSet_keeps h
    clear_value z3
    extract_lets -underBinder +onlyGivenNames z5
    have h6 : Keeps s0 z5 := State.raiseFault_keeps h4
    clear_value z5
    extract_lets -underBinder +onlyGivenNames z7
    have h8 : Keeps s0 z7 := keeps_ite (State.writeDrop_keeps h) (keeps_ite (State.writeSet_keeps h) (keeps_ite (State.retire_keeps h6) h6))
    clear_value z7
    exact State.sendNext_keeps (State.bandFull_keeps h8)

theorem State.chunkComplete_keeps {s0 : State} {s : State} {x1 : CompletionIn} (h : Keeps s0 s) :
    Keeps s0 (State.chunkComplete s x1) := by
  unfold State.chunkComplete
  split
  · exact h
  · extract_lets -underBinder +onlyGivenNames z1 z2 z3
    clear_value z1 z2 z3
    refine keeps_ite ?_ ?_
    · exact State.steMap_keeps h
    · extract_lets -underBinder +onlyGivenNames z4
      have h5 : Keeps s0 z4 := State.writeSet_keeps (State.takeHwCpl_keeps h)
      clear_value z4
      exact keeps_ite h5 (keeps_ite (State.writeGood_keeps h5) (State.writeBad_keeps h5))

theorem State.commitChunk_keeps {s0 : State} {s : State} {x1 : Nat} {x2 : Nat} (h : Keeps s0 s) :
    Keeps s0 (State.commitChunk s x1 x2) := by
  unfold State.commitChunk
  extract_lets -underBinder +onlyGivenNames z1 z2
  clear_value z1 z2
  refine keeps_ite ?_ ?_
  · split
    · exact h
    · extract_lets -underBinder +onlyGivenNames z3
      clear_value z3
      extract_lets -underBinder +onlyGivenNames z4
      have h5 : Keeps s0 z4 := keeps_ite (State.count_keeps h) h
      clear_value z4
      exact State.queueWrite_keeps h5
  · exact h

theorem State.copyChunk_keeps {s0 : State} {s : State} {x1 : Nat} {x2 : Nat} {x3 : Nat} {x4 : Bool} (h : Keeps s0 s) :
    Keeps s0 (State.copyChunk s x1 x2 x3 x4) := by
  unfold State.copyChunk
  extract_lets -underBinder +onlyGivenNames z1
  clear_value z1
  refine keeps_ite ?_ ?_
  · exact h
  · extract_lets -underBinder +onlyGivenNames z2
    clear_value z2
    exact State.queueWrite_keeps h

theorem State.stageTags_keeps {s0 : State} {s : State} {x1 : ChunkWr} {x2 : List Nat} (h : Keeps s0 s) :
    Keeps s0 (State.stageTags s x1 x2) := by
  induction x2 generalizing s with
  | nil =>
    unfold State.stageTags
    exact h
  | cons y ys ih =>
    unfold State.stageTags
    exact keeps_ite (ih h) (ih (State.setBytes_keeps h))

theorem State.copyRead_keeps {s0 : State} {s : State} {x1 : ChunkWr} (h : Keeps s0 s) :
    Keeps s0 (State.copyRead s x1) :=
  keeps_ite (State.writeOut_keeps (State.stageTags_keeps h)) h

theorem State.openRoom_keeps {s0 : State} {s : State} {x1 : ZoneDesc} {x2 : Nat} (h : Keeps s0 s) :
    Keeps s0 (State.openRoom s x1 x2).2 := by
  unfold State.openRoom
  refine keeps_ite_snd ?_ ?_
  · exact keeps_mk2 h
  · refine keeps_ite_snd ?_ ?_
    · exact keeps_mk2 h
    · split
      · exact keeps_mk2 (State.zoneSet_keeps h)
      · exact keeps_mk2 h

theorem State.placeAll_keeps {s0 : State} {s : State} {x1 : Nat} {x2 : List Nat} (h : Keeps s0 s) :
    ∀ t, State.placeAll s x1 x2 = some t → Keeps s0 t := by
  induction x2 generalizing s with
  | nil => intro t ht; injection ht with ht; subst ht; exact h
  | cons y ys ih =>
    intro t ht
    simp only [State.placeAll] at ht
    split at ht
    · cases ht
    · rename_i s1 h1
      have k1 := State.place_keeps h _ h1
      split at ht
      · cases ht
      · rename_i s2 h2
        refine ih ?_ t ht
        split at h2
        · obtain ⟨s3, h3, h4⟩ := Option.bind_eq_some_iff.1 h2
          exact State.place_keeps (State.place_keeps k1 _ h3) _ h4
        · injection h2 with h2; subst h2; exact k1

theorem State.reclaimNext_keeps {s0 : State} {s : State} {x1 : Nat} {x2 : Nat} {x3 : List Nat} (h : Keeps s0 s) :
    Keeps s0 (State.reclaimNext s x1 x2 x3) := by
  unfold State.reclaimNext
  extract_lets -underBinder +onlyGivenNames z1
  have h2 : Keeps s0 z1 := State.zneMap_keeps h
  clear_value z1
  split
  · split
    · exact State.copyChunk_keeps h2
    · exact h2
  · exact h2

theorem State.reclaimStep_keeps {s0 : State} {s : State} {x1 : Nat} {x2 : Bool} (h : Keeps s0 s) :
    Keeps s0 (State.reclaimStep s x1 x2) := by
  unfold State.reclaimStep
  extract_lets -underBinder +onlyGivenNames z1 z2 z3
  clear_value z1 z2 z3
  extract_lets -underBinder +onlyGivenNames z4
  have h5 : ∀ b0, Keeps s0 b0 → Keeps s0 (z4 b0) := fun _ h7 => State.fsetB_keeps (State.zneMap_keeps h7)
  clear_value z4
  split
  · refine keeps_ite ?_ ?_
    · exact h
    · refine keeps_ite ?_ ?_
      · exact State.reclaimNext_keeps h
      · refine keeps_ite ?_ ?_
        · exact h5 _ h
        · split
          · exact h5 _ h
          · exact State.reclaimNext_keeps h
  · refine keeps_ite ?_ ?_
    · exact h
    · split
      · exact h
      · exact State.fsetB_keeps (State.reclaimNext_keeps h)

theorem State.regionPut_keeps {s0 : State} {s : State} {x1 : Nat} {x2 : Region} (h : Keeps s0 s) :
    Keeps s0 (State.regionPut s x1 x2) :=
  State.fset_keeps (State.fset_keeps (State.fset_keeps h))

theorem State.spareInsert_keeps {s0 : State} {s : State} {x1 : Nat} (h : Keeps s0 s) :
    Keeps s0 (State.spareInsert s x1).2 := by
  unfold State.spareInsert
  extract_lets -underBinder +onlyGivenNames z1 z2 z3 z4 z5 z6 z7
  clear_value z1 z2 z3 z4 z5 z6 z7
  refine keeps_ite_snd ?_ ?_
  · exact keeps_mk2 h
  · refine keeps_ite_snd ?_ ?_
    · extract_lets -underBinder +onlyGivenNames z8
      have h9 : Keeps s0 z8 := State.warnUpdate_keeps (State.raiseFault_keeps (State.fsetB_keeps h))
      clear_value z8
      refine keeps_mk2 ?_
      split
      · exact keeps_ite (State.zoneReadOnly_keeps h9) h9
      · exact h9
    · extract_lets -underBinder +onlyGivenNames z10
      have h11 : Keeps s0 z10 := State.journal_keeps h
      clear_value z10
      extract_lets -underBinder +onlyGivenNames z12
      clear_value z12
      extract_lets -underBinder +onlyGivenNames z13
      have h14 : Keeps s0 z13 := State.fset_keeps (State.setBytes_keeps (State.mapTouch_keeps h11))
      clear_value z13
      extract_lets -underBinder +onlyGivenNames z15
      have h16 : Keeps s0 z15 := by
        subst z15
        refine keeps_ite ?_ ?_
        · split
          · extract_lets -underBinder +onlyGivenNames z17
            have h18 : Keeps s0 z17 := State.bandSet_keeps h14
            clear_value z17
            exact keeps_ite (State.openLowest_keeps (State.zneMap_keeps h18)) h18
          · exact h14
        · exact h14
      clear_value z15
      refine keeps_mk2 ?_
      split
      · exact keeps_ite (State.copyChunk_keeps h16) h16
      · exact h16

theorem State.spaddWrite_keeps {s0 : State} {s : State} {x1 : Word} (h : Keeps s0 s) :
    Keeps s0 (State.spaddWrite s x1) := by
  unfold State.spaddWrite
  extract_lets -underBinder +onlyGivenNames z1 z2
  clear_value z1 z2
  refine keeps_ite ?_ ?_
  · exact h
  · refine keeps_ite ?_ ?_
    · exact State.fset_keeps (State.fsetB_keeps h)
    · refine keeps_ite ?_ ?_
      · exact State.steMap_keeps (State.fsetB_keeps h)
      · split
        · exact State.fset_keeps (State.fsetB_keeps (State.fsetB_keeps (keeps_snd (by assumption) (State.spareInsert_keeps h))))

theorem State.zneCtlWrite_keeps {s0 : State} {s : State} {x1 : Word} (h : Keeps s0 s) :
    Keeps s0 (State.zneCtlWrite s x1) := by
  unfold State.zneCtlWrite
  extract_lets -underBinder +onlyGivenNames z1
  have h2 : Keeps s0 z1 := keeps_ite (State.clearCount_keeps (State.clearCount_keeps (State.clearCount_keeps h))) h
  clear_value z1
  refine keeps_ite ?_ ?_
  · exact h2
  · extract_lets -underBinder +onlyGivenNames z3
    clear_value z3
    refine keeps_ite ?_ ?_
    · extract_lets -underBinder +onlyGivenNames z4
      have h5 : Keeps s0 z4 := keeps_foldl (fun _ _ h8 => keeps_foldl (fun _ _ h11 => State.regionPut_keeps h11) h8) h2
      clear_value z4
      extract_lets -underBinder +onlyGivenNames z12
      have h13 : Keeps s0 z12 := State.zneMap_keeps h5
      clear_value z12
      exact State.fset_keeps (State.fsetB_keeps (State.fsetB_keeps h13))
    · exact State.raiseFault_keeps (State.fset_keeps (State.fsetB_keeps h2))

theorem State.zoneClear_keeps {s0 : State} {s : State} {x1 : Nat} {x2 : Nat} (h : Keeps s0 s) :
    Keeps s0 (State.zoneClear s x1 x2) := by
  unfold State.zoneClear
  extract_lets -underBinder +onlyGivenNames z1
  clear_value z1
  extract_lets -underBinder +onlyGivenNames z2
  have h3 : Keeps s0 z2 := State.zoneSet_keeps h
  clear_value z2
  extract_lets -underBinder +onlyGivenNames z4
  have h5 : Keeps s0 z4 := by
    subst z4
    refine keeps_foldl ?_ ?_
    · intro y6 y7 h8
      extract_lets -underBinder +onlyGivenNames z9
      clear_value z9
      refine keeps_ite ?_ ?_
      · exact h8
      · extract_lets -underBinder +onlyGivenNames z10
        have h11 : Keeps s0 z10 := keeps_ite (State.killSlot_keeps h8) h8
        clear_value z10
        exact State.entrySet_keeps h11
    · exact h3
  clear_value z4
  extract_lets -underBinder +onlyGivenNames z12 z13
  clear_value z12 z13
  extract_lets -underBinder +onlyGivenNames z14
  have h15 : Keeps s0 z14 := State.leaveWindow_keeps h5
  clear_value z14
  extract_lets -underBinder +onlyGivenNames z16
  have h17 : Keeps s0 z16 := State.cqeMap_keeps h15
  clear_value z16
  extract_lets -underBinder +onlyGivenNames z18
  have h19 : Keeps s0 z18 := State.zneMap_keeps h17
  clear_value z18
  extract_lets -underBinder +onlyGivenNames z20
  have h21 : Keeps s0 z20 := State.steMap_keeps h19
  clear_value z20
  exact State.mediaDone_keeps (State.bufferSweep_keeps (State.count_keeps h21))

theorem State.zoneAct_keeps {s0 : State} {s : State} {x1 : Nat} {x2 : ZoneAct} {x3 : Nat} (h : Keeps s0 s) :
    Keeps s0 (State.zoneAct s x1 x2 x3).2 := by
  have toFull : ∀ t d, Keeps s0 t → Keeps s0 ((List.range 16).foldl (fun s st => s.sealTry x1 st) (t.zoneSet x1 d x3)) :=
    fun _ _ ht => keeps_foldl (fun _ _ k => State.sealTry_keeps k) (State.zoneSet_keeps ht)
  unfold State.zoneAct
  extract_lets z1 z2 z3
  have hz3 : ∀ t, Keeps s0 t → Keeps s0 (z3 t).2 := by
    intro t ht
    subst z3
    dsimp only
    exact toFull t z2 ht
  clear_value z3
  cases x2 with
  | offlining => exact keeps_ite_snd (keeps_mk2 (State.asyncEvent_keeps (State.hepMap_keeps (State.zoneSet_keeps h)))) h
  | opening =>
    refine keeps_ite_snd h (keeps_ite_snd h (keeps_ite_snd h ?_))
    split
    rename_i st t heq
    have ht : Keeps s0 t := keeps_snd heq (keeps_ite_snd h (State.openRoom_keeps h))
    exact keeps_ite_snd ht (keeps_mk2 (State.zoneSet_keeps ht))
  | closing => exact keeps_ite_snd h (keeps_ite_snd h (keeps_ite_snd (keeps_mk2 (State.zoneSet_keeps h)) (keeps_ite_snd (keeps_mk2 (State.zoneSet_keeps h)) h)))
  | finishing => exact keeps_ite_snd h (keeps_ite_snd h (hz3 s h))
  | resetting => exact keeps_ite_snd h (keeps_ite_snd h (keeps_mk2 (State.zoneClear_keeps h)))

theorem State.zoneWrite_keeps {s0 : State} {s : State} {x1 : Nat} {x2 : Option Nat} {x3 : Nat} {x4 : Nat} (h : Keeps s0 s) :
    Keeps s0 (State.zoneWrite s x1 x2 x3 x4).2 := by
  unfold State.zoneWrite
  extract_lets -underBinder +onlyGivenNames z1 z2
  clear_value z1 z2
  refine keeps_ite_snd ?_ ?_
  · exact keeps_mk2 h
  · refine keeps_ite_snd ?_ ?_
    · exact keeps_mk2 h
    · refine keeps_ite_snd ?_ ?_
      · exact keeps_mk2 h
      · refine keeps_ite_snd ?_ ?_
        · exact keeps_mk2 h
        · split
          · refine keeps_ite_snd ?_ ?_
            · exact keeps_mk2 (keeps_snd (by assumption) (keeps_ite_snd (keeps_mk2 h) (State.openRoom_keeps h)))
            · split
              · exact keeps_mk2 (State.zoneReadOnly_keeps (keeps_snd (by assumption) (keeps_ite_snd (keeps_mk2 h) (State.openRoom_keeps h))))
              · extract_lets -underBinder +onlyGivenNames z3 z4
                clear_value z3 z4
                exact keeps_ite_snd (keeps_mk2 (State.setBytes_keeps (keeps_some (by assumption) (State.placeAll_keeps (keeps_snd (by assumption) (keeps_ite_snd (keeps_mk2 h) (State.openRoom_keeps h))))))) (keeps_mk2 (State.zoneSet_keeps (keeps_some (by assumption) (State.placeAll_keeps (keeps_snd (by assumption) (keeps_ite_snd (keeps_mk2 h) (State.openRoom_keeps h)))))))

theorem chunkWriteCompleteOp_keeps {s0 : State} {x0 : CompletionIn} {s : State} (h : Keeps s0 s) :
    Keeps s0 (chunkWriteCompleteOp x0 s) := by
  unfold chunkWriteCompleteOp
  split
  · extract_lets -underBinder +onlyGivenNames z1
    have h2 : Keeps s0 z1 := State.chunkComplete_keeps h
    clear_value z1
    extract_lets -underBinder +onlyGivenNames z3
    have h4 : Keeps s0 z3 := keeps_ite (State.reclaimStep_keeps h2) h2
    clear_value z3
    exact State.reclaimStep_keeps h4
  · exact h

theorem execChunkCommit_keeps {s0 : State} {x0 : Nat} {x1 : Nat} {s : State} (h : Keeps s0 s) :
    ∀ t, execChunkCommit x0 x1 s = .next t → Keeps s0 t :=
  fun _ ht => keeps_next ht (State.commitChunk_keeps h)

theorem execChunkIdleExpiry_keeps {s0 : State} {x0 : Nat} {x1 : Nat} {s : State} (h : Keeps s0 s) :
    ∀ t, execChunkIdleExpiry x0 x1 s = .next t → Keeps s0 t :=
  fun _ ht => keeps_next ht (State.commitChunk_keeps h)

theorem execChunkWriteComplete_keeps {s0 : State} {x0 : CompletionIn} {s : State} (h : Keeps s0 s) :
    ∀ t, execChunkWriteComplete x0 s = .next t → Keeps s0 t :=
  fun _ ht => keeps_next ht (chunkWriteCompleteOp_keeps h)

theorem reclaimCopyCompleteOp_keeps {s0 : State} {x0 : Bool} {s : State} (h : Keeps s0 s) :
    Keeps s0 (reclaimCopyCompleteOp x0 s) := by
  unfold reclaimCopyCompleteOp
  split
  · refine keeps_ite ?_ ?_
    · exact h
    · extract_lets -underBinder +onlyGivenNames z1
      have h2 : Keeps s0 z1 := keeps_foldl (fun _ _ h5 => State.takeHwCpl_keeps h5) h
      clear_value z1
      extract_lets -underBinder +onlyGivenNames z6
      have h7 : Keeps s0 z6 := keeps_ite (State.writeGood_keeps h2) (State.sendNext_keeps (State.bandFull_keeps (State.writeDrop_keeps h2)))
      clear_value z6
      exact State.reclaimStep_keeps h7
  · exact h

theorem execReclaimCopyComplete_keeps {s0 : State} {x0 : Bool} {s : State} (h : Keeps s0 s) :
    ∀ t, execReclaimCopyComplete x0 s = .next t → Keeps s0 t :=
  fun _ ht => keeps_next ht (reclaimCopyCompleteOp_keeps h)

theorem execSpareAdd_keeps {s0 : State} {x0 : Word} {s : State} (h : Keeps s0 s) :
    ∀ t, execSpareAdd x0 s = .next t → Keeps s0 t :=
  fun _ ht => keeps_next ht (State.spaddWrite_keeps h)

theorem writeRetryTimerOp_keeps {s0 : State} {s : State} (h : Keeps s0 s) :
    Keeps s0 (writeRetryTimerOp s) := by
  unfold writeRetryTimerOp
  extract_lets -underBinder +onlyGivenNames z1
  clear_value z1
  refine keeps_foldl ?_ ?_
  · intro y2 y3 h4
    refine keeps_ite ?_ ?_
    · exact State.sendNext_keeps (State.bandFull_keeps (State.writeDrop_keeps h4))
    · extract_lets -underBinder +onlyGivenNames z5
      clear_value z5
      exact State.writeOut_keeps (State.writeSet_keeps h4)
  · exact h

theorem execWriteRetryTimer_keeps {s0 : State} {s : State} (h : Keeps s0 s) :
    ∀ t, execWriteRetryTimer s = .next t → Keeps s0 t :=
  fun _ ht => keeps_next ht (writeRetryTimerOp_keeps h)

theorem execZneCounterClear_keeps {s0 : State} {x0 : Word} {s : State} (h : Keeps s0 s) :
    ∀ t, execZneCounterClear x0 s = .next t → Keeps s0 t :=
  fun _ ht => keeps_next ht (State.zneCtlWrite_keeps h)

theorem execZoneEngineEnable_keeps {s0 : State} {x0 : Word} {s : State} (h : Keeps s0 s) :
    ∀ t, execZoneEngineEnable x0 s = .next t → Keeps s0 t :=
  fun _ ht => keeps_next ht (State.zneCtlWrite_keeps h)

/-! Ste -/

theorem State.metaPut_keeps {s0 : State} {s : State} {x1 : Nat} {x2 : Nat} {x3 : Nat} (h : Keeps s0 s) :
    Keeps s0 (State.metaPut s x1 x2 x3) :=
  State.setBytes_keeps h

theorem State.applyRecord_keeps {s0 : State} {s : State} {x1 : List Byte} (h : Keeps s0 s) :
    Keeps s0 (State.applyRecord s x1) := by
  unfold State.applyRecord
  extract_lets -underBinder +onlyGivenNames z1 z2 z3 z4 z5 z6
  clear_value z1 z2 z3 z4 z5 z6
  refine keeps_ite ?_ ?_
  · extract_lets -underBinder +onlyGivenNames z7 z8 z9
    clear_value z7 z8 z9
    exact State.setBytes_keeps (State.metaPut_keeps h)
  · refine keeps_ite ?_ ?_
    · extract_lets -underBinder +onlyGivenNames z10
      clear_value z10
      extract_lets -underBinder +onlyGivenNames z11
      have h12 : Keeps s0 z11 := keeps_ite h (keeps_foldl (fun _ _ h15 => State.metaPut_keeps h15) h)
      clear_value z11
      exact State.setBytes_keeps h12
    · refine keeps_ite ?_ ?_
      · exact State.metaPut_keeps h
      · refine keeps_ite ?_ ?_
        · refine keeps_ite ?_ ?_
          · exact State.brlMap_keeps (State.metaPut_keeps h)
          · extract_lets -underBinder +onlyGivenNames z16
            clear_value z16
            exact State.fset_keeps (State.metaPut_keeps h)
        · refine keeps_ite ?_ ?_
          · extract_lets -underBinder +onlyGivenNames z17
            clear_value z17
            exact keeps_ite (State.fset_keeps (State.failSurf_keeps h)) (State.fset_keeps h)
          · exact keeps_ite (keeps_foldl (fun _ _ h20 => State.areaRoleSet_keeps h20) h) h

theorem State.applyRing_keeps {s0 : State} {s : State} {x1 : Nat} {x2 : Nat} {x3 : List Nat} (h : Keeps s0 s) :
    Keeps s0 (State.applyRing s x1 x2 x3).1 := by
  induction x1 generalizing s x2 x3 with
  | zero =>
    unfold State.applyRing
    exact keeps_mk1 h
  | succ n ih =>
    unfold State.applyRing
    refine keeps_ite_fst ?_ ?_
    · extract_lets -underBinder +onlyGivenNames z1 z2 z3 z4 z5
      clear_value z1 z2 z3 z4 z5
      exact ih (State.applyRecord_keeps h)
    · exact keeps_mk1 h

theorem State.convSubmit_keeps {s0 : State} {s : State} {x1 : Bool} {x2 : Nat} {x3 : Nat} {x4 : Nat} {x5 : Nat} {x6 : Nat} {x7 : Nat} {x8 : Nat} {x9 : Nat} (h : Keeps s0 s) :
    Keeps s0 (State.convSubmit s x1 x2 x3 x4 x5 x6 x7 x8 x9) := by
  unfold State.convSubmit
  split
  · exact keeps_ite h (State.submitPieces_keeps h)
  · exact h

theorem State.convChunk_keeps {s0 : State} {s : State} {x1 : Bool} {x2 : Nat} {x3 : Nat} (h : Keeps s0 s) :
    Keeps s0 (State.convChunk s x1 x2 x3) := by
  unfold State.convChunk
  extract_lets -underBinder +onlyGivenNames z1 z2 z3 z4
  clear_value z1 z2 z3 z4
  extract_lets -underBinder +onlyGivenNames z5
  have h6 : Keeps s0 z5 := State.vaultMap_keeps h
  clear_value z5
  extract_lets -underBinder +onlyGivenNames z7 z8
  clear_value z7 z8
  extract_lets -underBinder +onlyGivenNames z9
  have h10 : Keeps s0 z9 := State.journal_keeps h6
  clear_value z9
  split
  · split
    · extract_lets -underBinder +onlyGivenNames z11
      have h12 : Keeps s0 z11 := keeps_foldl (fun _ _ h15 => State.setBytes_keeps h15) (keeps_snd (by assumption) (State.freshBuf_keeps (keeps_snd (by assumption) (State.freshBuf_keeps h10))))
      clear_value z11
      extract_lets -underBinder +onlyGivenNames z16
      have h17 : Keeps s0 z16 := State.convSubmit_keeps h12
      clear_value z16
      extract_lets -underBinder +onlyGivenNames z18
      have h19 : Keeps s0 z18 := State.convSubmit_keeps h17
      clear_value z18
      extract_lets -underBinder +onlyGivenNames z20
      have h21 : Keeps s0 z20 := State.journal_keeps h19
      clear_value z20
      extract_lets -underBinder +onlyGivenNames z22
      clear_value z22
      extract_lets -underBinder +onlyGivenNames z23
      have h24 : Keeps s0 z23 := State.leaveWindow_keeps h21
      clear_value z23
      exact State.cqeMap_keeps h24

theorem State.convCopy_keeps {s0 : State} {s : State} {x1 : Bool} {x2 : Nat} {x3 : Nat} (h : Keeps s0 s) :
    Keeps s0 (State.convCopy s x1 x2 x3) := by
  unfold State.convCopy
  split
  · split
    · exact State.convSubmit_keeps (State.convSubmit_keeps (keeps_snd (by assumption) (State.freshBuf_keeps (keeps_snd (by assumption) (State.freshBuf_keeps h)))))

theorem State.partSet_keeps {s0 : State} {s : State} {x1 : ReadPart} {x2 : ReadPart → ReadPart} (h : Keeps s0 s) :
    Keeps s0 (State.partSet s x1 x2) :=
  State.cqeMap_keeps h

theorem State.unrecoverable_keeps {s0 : State} {s : State} {x1 : Nat} (h : Keeps s0 s) :
    Keeps s0 (State.unrecoverable s x1) :=
  keeps_ite h (State.raiseFault_keeps (State.count_keeps h))

theorem State.convOther_keeps {s0 : State} {s : State} {x1 : ReadPart} {x2 : List Nat} {x3 : Nat} (h : Keeps s0 s) :
    Keeps s0 (State.convOther s x1 x2 x3) := by
  unfold State.convOther
  refine keeps_ite ?_ ?_
  · exact keeps_ite (State.convSubmit_keeps h) h
  · extract_lets -underBinder +onlyGivenNames z1 z2
    clear_value z1 z2
    extract_lets -underBinder +onlyGivenNames z3
    have h4 : Keeps s0 z3 := keeps_foldl (fun _ _ h7 => State.blockRecord_keeps (State.raiseFault_keeps (State.count_keeps h7))) h
    clear_value z3
    refine keeps_ite ?_ ?_
    · exact State.slotMap_keeps (State.partSet_keeps (State.unrecoverable_keeps h4))
    · extract_lets -underBinder +onlyGivenNames z8
      have h9 : Keeps s0 z8 := State.convSubmit_keeps h4
      clear_value z8
      exact State.partSet_keeps h9

theorem State.convWrite_keeps {s0 : State} {s : State} {x1 : Nat} (h : Keeps s0 s) :
    Keeps s0 (State.convWrite s x1) := by
  unfold State.convWrite
  extract_lets -underBinder +onlyGivenNames z1
  clear_value z1
  refine keeps_ite ?_ ?_
  · exact h
  · refine keeps_ite ?_ ?_
    · exact State.steMap_keeps h
    · extract_lets -underBinder +onlyGivenNames z2
      have h3 : ∀ b0 b1, Keeps s0 b0 → Keeps s0 (z2 b0 b1) := fun _ _ h6 => keeps_foldl (fun _ _ h9 => State.convChunk_keeps h9) h6
      clear_value z2
      exact State.mediaDone_keeps (State.bufferSweep_keeps (h3 _ _ (h3 _ _ h)))

theorem State.copyPatch_keeps {s0 : State} {s : State} {x1 : Nat} {x2 : Nat} {x3 : List (Nat × Option (List Byte))} (h : Keeps s0 s) :
    Keeps s0 (State.copyPatch s x1 x2 x3) := by
  unfold State.copyPatch
  refine keeps_ite ?_ ?_
  · exact h
  · extract_lets -underBinder +onlyGivenNames z1 z2
    clear_value z1 z2
    exact State.queueWrite_keeps h

theorem State.copyReadDone_keeps {s0 : State} {s : State} {x1 : BitVec 128} {x2 : List Nat} (h : Keeps s0 s) :
    Keeps s0 (State.copyReadDone s x1 x2) := by
  unfold State.copyReadDone
  extract_lets -underBinder +onlyGivenNames z1
  clear_value z1
  split
  · exact h
  · split
    · exact h
    · extract_lets -underBinder +onlyGivenNames z2 z3 z4 z5 z6 z7
      clear_value z2 z3 z4 z5 z6 z7
      exact State.copyRead_keeps (State.stagePatch_keeps (State.writeSet_keeps h))

theorem State.markUnrec_keeps {s0 : State} {s : State} {x1 : Nat} {x2 : Nat} {x3 : Nat} {x4 : Bool} (h : Keeps s0 s) :
    Keeps s0 (State.markUnrec s x1 x2 x3 x4) :=
  keeps_ite h (State.unrecoverable_keeps (State.steMap_keeps h))

theorem State.poison_keeps {s0 : State} {s : State} {x1 : Nat} {x2 : Nat} {x3 : List (Nat × List MemberRead)} {x4 : Nat} {x5 : Bool} (h : Keeps s0 s) :
    Keeps s0 (State.poison s x1 x2 x3 x4 x5) := by
  unfold State.poison
  refine keeps_ite ?_ ?_
  · exact h
  · extract_lets -underBinder +onlyGivenNames z1 z2 z3 z4 z5 z6
    clear_value z1 z2 z3 z4 z5 z6
    extract_lets -underBinder +onlyGivenNames z7
    have h8 : Keeps s0 z7 := keeps_foldl (fun _ _ h11 => keeps_foldl (fun _ _ h14 => State.markUnrec_keeps h14) h11) h
    clear_value z7
    extract_lets -underBinder +onlyGivenNames z15
    have h16 : Keeps s0 z15 := keeps_foldl (fun _ _ h19 => keeps_ite h19 (State.copyPatch_keeps h19)) h8
    clear_value z15
    refine keeps_ite ?_ ?_
    · exact keeps_ite (State.copyPatch_keeps (State.copyPatch_keeps h16)) h16
    · split
      · exact State.stripeSet_keeps h16
      · exact h16

theorem State.lostSector_keeps {s0 : State} {s : State} {x1 : ReconIn} {x2 : Bool} (h : Keeps s0 s) :
    Keeps s0 (State.lostSector s x1 x2) :=
  keeps_ite (State.poison_keeps h) h

theorem State.mendNext_keeps {s0 : State} {s : State} (h : Keeps s0 s) :
    Keeps s0 (State.mendNext s).2 := by
  unfold State.mendNext
  extract_lets -underBinder +onlyGivenNames z1 z2
  clear_value z1 z2
  extract_lets -underBinder +onlyGivenNames z3
  have h4 : ∀ b0 b1 b2, Keeps s0 b0 → Keeps s0 (z3 b0 b1 b2) := fun _ _ _ h8 => State.fsetB_keeps (State.fset_keeps (State.fset_keeps h8))
  clear_value z3
  split
  · exact keeps_mk2 (h4 _ _ _ (State.steMap_keeps h))
  · split
    · exact keeps_mk2 (h4 _ _ _ (State.steMap_keeps h))
    · exact keeps_mk2 (State.fsetB_keeps (State.steMap_keeps h))

theorem State.mendResume_keeps {s0 : State} {s : State} (h : Keeps s0 s) :
    Keeps s0 (State.mendResume s) := by
  unfold State.mendResume
  extract_lets -underBinder +onlyGivenNames z1
  clear_value z1
  extract_lets -underBinder +onlyGivenNames z2
  have h3 : Keeps s0 z2 := State.fset_keeps h
  clear_value z2
  exact keeps_ite h3 (State.steMap_keeps (State.wr_keeps (State.fsetB_keeps h3)))

theorem State.pageSectors_keeps {s0 : State} {s : State} {x1 : SegWr} {x2 : Nat} {x3 : Nat} {x4 : Nat} (h : Keeps s0 s) :
    Keeps s0 (State.pageSectors s x1 x2 x3 x4) := by
  induction x4 generalizing s x2 x3 with
  | zero =>
    unfold State.pageSectors
    exact h
  | succ n ih =>
    unfold State.pageSectors
    extract_lets -underBinder +onlyGivenNames z1 z2
    clear_value z1 z2
    exact ih (State.setBytes_keeps h)

theorem State.rinseRow_keeps {s0 : State} {s : State} {x1 : Nat} {x2 : RinseRow → RinseRow} (h : Keeps s0 s) :
    Keeps s0 (State.rinseRow s x1 x2) :=
  State.steMap_keeps h

theorem State.parityCompare_keeps {s0 : State} {s : State} {x1 : Nat} {x2 : Nat} {x3 : List (List MemberRead)} (h : Keeps s0 s) :
    Keeps s0 (State.parityCompare s x1 x2 x3) := by
  unfold State.parityCompare
  extract_lets -underBinder +onlyGivenNames z1 z2 z3 z4 z5 z6 z7
  clear_value z1 z2 z3 z4 z5 z6 z7
  extract_lets -underBinder +onlyGivenNames z8
  have h9 : Keeps s0 z8 := State.steMap_keeps h
  clear_value z8
  refine keeps_ite ?_ ?_
  · exact h9
  · extract_lets -underBinder +onlyGivenNames z10
    have h11 : Keeps s0 z10 := State.raiseFault_keeps (State.count_keeps h9)
    clear_value z10
    extract_lets -underBinder +onlyGivenNames z12
    clear_value z12
    split
    · extract_lets -underBinder +onlyGivenNames z13 z14
      clear_value z13 z14
      exact State.copyPatch_keeps (State.rinseRow_keeps h11)
    · exact keeps_ite h11 (State.copyPatch_keeps (State.copyPatch_keeps h11))

theorem State.readTry_keeps {s0 : State} {s : State} {x1 : Nat} (h : Keeps s0 s) :
    Keeps s0 (State.readTry s x1) := by
  unfold State.readTry
  split
  · exact h
  · split
    · extract_lets -underBinder +onlyGivenNames z1
      clear_value z1
      refine keeps_ite ?_ ?_
      · exact h
      · extract_lets -underBinder +onlyGivenNames z2
        clear_value z2
        exact keeps_ite h (keeps_ite (State.bufferSweep_keeps (State.finish_keeps h)) (keeps_ite (State.bufferSweep_keeps (State.finish_keeps h)) (State.bufferSweep_keeps (State.finish_keeps h))))
    · exact h

theorem State.partDone_keeps {s0 : State} {s : State} {x1 : BitVec 128} {x2 : List Nat} (h : Keeps s0 s) :
    Keeps s0 (State.partDone s x1 x2) := by
  unfold State.partDone
  extract_lets -underBinder +onlyGivenNames z1
  clear_value z1
  split
  · exact h
  · extract_lets -underBinder +onlyGivenNames z2 z3 z4 z5 z6 z7
    clear_value z2 z3 z4 z5 z6 z7
    extract_lets -underBinder +onlyGivenNames z8
    have h9 : Keeps s0 z8 := keeps_ite (State.slotMap_keeps h) h
    clear_value z8
    refine keeps_ite ?_ ?_
    · extract_lets -underBinder +onlyGivenNames z10
      have h11 : Keeps s0 z10 := State.partSet_keeps h9
      clear_value z10
      exact State.readTry_keeps (State.convOther_keeps h11)
    · exact State.readTry_keeps (State.partSet_keeps h9)

theorem State.rinseOver_keeps {s0 : State} {s : State} {x1 : Nat} (h : Keeps s0 s) :
    Keeps s0 (State.rinseOver s x1) := by
  unfold State.rinseOver
  extract_lets -underBinder +onlyGivenNames z1
  have h2 : Keeps s0 z1 := State.fset_keeps (State.fset_keeps (State.fsetB_keeps (State.fsetB_keeps h)))
  clear_value z1
  exact State.raiseEvent_keeps (State.steMap_keeps (State.fsetB_keeps h2))

theorem State.rctlWrite_keeps {s0 : State} {s : State} {x1 : Word} (h : Keeps s0 s) :
    Keeps s0 (State.rctlWrite s x1) := by
  unfold State.rctlWrite
  extract_lets -underBinder +onlyGivenNames z1
  have h2 : Keeps s0 z1 := State.fset_keeps (State.fset_keeps h)
  clear_value z1
  extract_lets -underBinder +onlyGivenNames z3 z4
  clear_value z3 z4
  extract_lets -underBinder +onlyGivenNames z5
  have h6 : Keeps s0 z5 := keeps_ite (keeps_ite (State.rinseOver_keeps h2) (State.fsetB_keeps (State.fsetB_keeps (State.steMap_keeps h2)))) h2
  clear_value z5
  exact keeps_ite (State.steMap_keeps h6) h6

theorem State.rebuildAccs_keeps {s0 : State} {s : State} {x1 : List SectorRead} (h : Keeps s0 s) :
    Keeps s0 (State.rebuildAccs s x1) := by
  unfold State.rebuildAccs
  extract_lets -underBinder +onlyGivenNames z1
  clear_value z1
  extract_lets -underBinder +onlyGivenNames z2
  have h3 : Keeps s0 z2 := keeps_foldl (fun _ _ h6 => State.stripeAdd_keeps h6) h
  clear_value z2
  extract_lets -underBinder +onlyGivenNames z7
  have h8 : Keeps s0 z7 := by
    subst z7
    refine keeps_foldl ?_ ?_
    · intro y9 y10 h11
      extract_lets -underBinder +onlyGivenNames z12 z13
      clear_value z12 z13
      exact keeps_ite (State.cqeMap_keeps h11) h11
    · exact h3
  clear_value z7
  extract_lets -underBinder +onlyGivenNames z14
  have h15 : Keeps s0 z14 := keeps_foldl (fun _ _ h18 => State.stripeAdd_keeps h18) h8
  clear_value z14
  refine keeps_foldl ?_ ?_
  · intro y19 y20 h21
    extract_lets -underBinder +onlyGivenNames z22
    have h23 : Keeps s0 z22 := State.stripeSet_keeps h21
    clear_value z22
    exact State.sealTry_keeps h23
  · exact h15

theorem State.rebuildZne_keeps {s0 : State} {s : State} (h : Keeps s0 s) :
    Keeps s0 (State.rebuildZne s) := by
  unfold State.rebuildZne
  extract_lets -underBinder +onlyGivenNames z1
  have h2 : Keeps s0 z1 := State.zneMap_keeps h
  clear_value z1
  extract_lets -underBinder +onlyGivenNames z3
  have h4 : Keeps s0 z3 := by
    subst z3
    refine keeps_foldl ?_ ?_
    · intro y5 y6 h7
      extract_lets -underBinder +onlyGivenNames z8
      clear_value z8
      exact keeps_ite (State.liveSlot_keeps h7) h7
    · exact h2
  clear_value z3
  extract_lets -underBinder +onlyGivenNames z9
  have h10 : Keeps s0 z9 := by
    subst z9
    refine keeps_foldl ?_ ?_
    · intro y11 y12 h13
      split
      · extract_lets -underBinder +onlyGivenNames z14
        clear_value z14
        exact State.zneMap_keeps h13
      · exact h13
    · exact h4
  clear_value z9
  extract_lets -underBinder +onlyGivenNames z15
  clear_value z15
  extract_lets -underBinder +onlyGivenNames z16
  have h17 : Keeps s0 z16 := State.zneMap_keeps h10
  clear_value z16
  extract_lets -underBinder +onlyGivenNames z18
  clear_value z18
  exact State.fset_keeps (State.fset_keeps h17)

theorem State.silent_keeps {s0 : State} {s : State} {x1 : Bool} (h : Keeps s0 s) :
    Keeps s0 (State.silent s x1) :=
  keeps_ite (State.blockRecord_keeps (State.raiseFault_keeps (State.count_keeps h))) h

theorem State.reconCopy_keeps {s0 : State} {s : State} {x1 : ReconIn} {x2 : ChunkWr} (h : Keeps s0 s) :
    Keeps s0 (State.reconCopy s x1 x2) := by
  unfold State.reconCopy
  extract_lets -underBinder +onlyGivenNames z1 z2
  clear_value z1 z2
  extract_lets -underBinder +onlyGivenNames z3
  have h4 : Keeps s0 z3 := keeps_ite (State.copyRead_keeps (State.stagePatch_keeps (State.lostSector_keeps (State.writeSet_keeps h)))) (State.sendNext_keeps (State.bandFull_keeps (State.writeDrop_keeps h)))
  clear_value z3
  split
  · exact keeps_ite (State.copyRead_keeps (State.silent_keeps (State.setBytes_keeps (State.writeSet_keeps h)))) h4
  · exact h4

theorem State.reconRead_keeps {s0 : State} {s : State} {x1 : ReconIn} {x2 : ReadPart} (h : Keeps s0 s) :
    Keeps s0 (State.reconRead s x1 x2) := by
  unfold State.reconRead
  extract_lets -underBinder +onlyGivenNames z1 z2
  clear_value z1 z2
  extract_lets -underBinder +onlyGivenNames z3
  have h4 : ∀ b0, Keeps s0 b0 → Keeps s0 (z3 b0) := fun _ h6 => State.partSet_keeps h6
  clear_value z3
  extract_lets -underBinder +onlyGivenNames z7
  have h8 : Keeps s0 z7 := State.slotMap_keeps (State.lostSector_keeps (h4 _ h))
  clear_value z7
  extract_lets -underBinder +onlyGivenNames z9
  have h10 : Keeps s0 z9 := by
    subst z9
    split
    · refine keeps_ite ?_ ?_
      · extract_lets -underBinder +onlyGivenNames z11
        have h12 : Keeps s0 z11 := State.silent_keeps (State.count_keeps (h4 _ (State.setBytes_keeps h)))
        clear_value z11
        split
        · exact State.copyChunk_keeps h12
        · exact h12
      · exact h8
    · exact h8
  clear_value z9
  exact State.readTry_keeps h10

theorem State.restoreWp_keeps {s0 : State} {s : State} {x1 : Nat} (h : Keeps s0 s) :
    Keeps s0 (State.restoreWp s x1) := by
  unfold State.restoreWp
  extract_lets -underBinder +onlyGivenNames z1
  clear_value z1
  refine keeps_ite ?_ ?_
  · exact h
  · extract_lets -underBinder +onlyGivenNames z2 z3 z4
    clear_value z2 z3 z4
    exact State.setBytes_keeps h

theorem State.restoredLeave_keeps {s0 : State} {s : State} (h : Keeps s0 s) :
    Keeps s0 (State.restoredLeave s) := by
  unfold State.restoredLeave
  extract_lets -underBinder +onlyGivenNames z1 z2 z3 z4 z5
  clear_value z1 z2 z3 z4 z5
  exact State.winUpdate_keeps (State.cqeMap_keeps h)

theorem State.retireWrite_keeps {s0 : State} {s : State} {x1 : Word} (h : Keeps s0 s) :
    Keeps s0 (State.retireWrite s x1) := by
  unfold State.retireWrite
  extract_lets -underBinder +onlyGivenNames z1
  clear_value z1
  exact keeps_ite h (keeps_ite (State.retire_keeps h) (State.steMap_keeps h))

theorem State.rewriteChunk_keeps {s0 : State} {s : State} {x1 : Nat} {x2 : Nat} {x3 : Nat} {x4 : List (Option (List Byte))} (h : Keeps s0 s) :
    Keeps s0 (State.rewriteChunk s x1 x2 x3 x4) := by
  unfold State.rewriteChunk
  extract_lets -underBinder +onlyGivenNames z1
  clear_value z1
  exact keeps_ite h (State.queueWrite_keeps h)

theorem State.runDeferred_keeps {s0 : State} {s : State} {x1 : List Deferred} (h : Keeps s0 s) :
    Keeps s0 (State.runDeferred s x1) := by
  induction x1 generalizing s with
  | nil =>
    unfold State.runDeferred
    exact h
  | cons y ys ih =>
    unfold State.runDeferred
    extract_lets -underBinder +onlyGivenNames z1
    have h2 : Keeps s0 z1 := by
      subst z1
      split
      · exact State.chunkComplete_keeps h
      · exact h
      · exact State.spaddWrite_keeps (State.fsetB_keeps h)
      · exact State.retireWrite_keeps h
      · exact State.convWrite_keeps h
    clear_value z1
    exact ih h2

theorem State.segSubmit_keeps {s0 : State} {s : State} {x1 : SegWr} {x2 : Nat} (h : Keeps s0 s) :
    Keeps s0 (State.segSubmit s x1 x2) := by
  unfold State.segSubmit
  split
  · split
    · extract_lets -underBinder +onlyGivenNames z1
      have h2 : Keeps s0 z1 := State.pageSectors_keeps (keeps_snd (by assumption) (State.freshBuf_keeps (keeps_snd (by assumption) (State.freshBuf_keeps h))))
      clear_value z1
      extract_lets -underBinder +onlyGivenNames z3
      clear_value z3
      exact State.submitPieces_keeps h2

theorem State.steRefuse_keeps {s0 : State} {s : State} {x1 : Nat} {x2 : Bool} (h : Keeps s0 s) :
    Keeps s0 (State.steRefuse s x1 x2) :=
  State.raiseFault_keeps (State.fset_keeps (State.fsetB_keeps h))

theorem State.steCtlWrite_keeps {s0 : State} {s : State} {x1 : Word} (h : Keeps s0 s) :
    Keeps s0 (State.steCtlWrite s x1) := by
  unfold State.steCtlWrite
  extract_lets -underBinder +onlyGivenNames z1
  have h2 : Keeps s0 z1 := keeps_ite (State.clearCount_keeps (State.clearCount_keeps (State.clearCount_keeps (State.clearCount_keeps (State.clearCount_keeps (State.clearCount_keeps h)))))) h
  clear_value z1
  extract_lets -underBinder +onlyGivenNames z3
  have h4 : Keeps s0 z3 := keeps_ite (State.steMap_keeps h2) h2
  clear_value z3
  refine keeps_ite ?_ ?_
  · exact h4
  · refine keeps_ite ?_ ?_
    · exact State.steRefuse_keeps h4
    · extract_lets -underBinder +onlyGivenNames z5
      clear_value z5
      refine keeps_ite ?_ ?_
      · exact State.steRefuse_keeps h4
      · extract_lets -underBinder +onlyGivenNames z6
        have h7 : Keeps s0 z6 := keeps_ite (State.vaultMap_keeps h4) h4
        clear_value z6
        extract_lets -underBinder +onlyGivenNames z8
        have h9 : Keeps s0 z8 := keeps_foldl (fun _ _ h12 => State.fset_keeps (State.areaRoleSet_keeps h12)) h7
        clear_value z8
        extract_lets -underBinder +onlyGivenNames z13
        have h14 : Keeps s0 z13 := State.steMap_keeps h9
        clear_value z13
        exact State.journalRegs_keeps (State.fset_keeps (State.fset_keeps (State.fsetB_keeps (State.fsetB_keeps h14))))

theorem checkpointStartOp_keeps {s0 : State} {s : State} (h : Keeps s0 s) :
    Keeps s0 (checkpointStartOp s) := by
  unfold checkpointStartOp
  refine keeps_ite ?_ ?_
  · exact h
  · extract_lets -underBinder +onlyGivenNames z1
    clear_value z1
    extract_lets -underBinder +onlyGivenNames z2
    have h3 : Keeps s0 z2 := State.journal_keeps h
    clear_value z2
    extract_lets -underBinder +onlyGivenNames z4 z5 z6 z7
    clear_value z4 z5 z6 z7
    extract_lets -underBinder +onlyGivenNames z8
    have h9 : Keeps s0 z8 := State.vaultMap_keeps h3
    clear_value z8
    extract_lets -underBinder +onlyGivenNames z10
    have h11 : Keeps s0 z10 := keeps_foldl (fun _ _ h14 => State.segSubmit_keeps h14) h9
    clear_value z10
    extract_lets -underBinder +onlyGivenNames z15
    clear_value z15
    extract_lets -underBinder +onlyGivenNames z16
    have h17 : Keeps s0 z16 := State.zneMap_keeps (State.steMap_keeps h11)
    clear_value z16
    exact State.checkpointEnd_keeps (State.fsetB_keeps h17)

theorem checkpointTimerOp_keeps {s0 : State} {s : State} (h : Keeps s0 s) :
    Keeps s0 (checkpointTimerOp s) :=
  keeps_ite (State.steMap_keeps h) h

theorem checkpointWriteCompleteOp_keeps {s0 : State} {x0 : Fin 4} {x1 : Bool} {s : State} (h : Keeps s0 s) :
    Keeps s0 (checkpointWriteCompleteOp x0 x1 s) := by
  unfold checkpointWriteCompleteOp
  split
  · exact h
  · split
    · exact h
    · extract_lets -underBinder +onlyGivenNames z1
      clear_value z1
      extract_lets -underBinder +onlyGivenNames z2
      have h3 : ∀ b0 b1, Keeps s0 b1 → Keeps s0 (z2 b0 b1) := fun _ _ h6 => State.steMap_keeps h6
      clear_value z2
      exact keeps_ite (State.checkpointEnd_keeps (h3 _ _ (State.steMap_keeps h))) (keeps_ite (State.segSubmit_keeps (h3 _ _ h)) (State.areaFail_keeps (h3 _ _ h)))

theorem completionPostOp_keeps {s0 : State} {x0 : Act} {x1 : List Nat} {s : State} (h : Keeps s0 s) :
    Keeps s0 (completionPostOp x0 x1 s) := by
  unfold completionPostOp
  extract_lets -underBinder +onlyGivenNames z1
  have h2 : Keeps s0 z1 := State.postReady_keeps h
  clear_value z1
  extract_lets -underBinder +onlyGivenNames z3 z4
  clear_value z3 z4
  extract_lets -underBinder +onlyGivenNames z5
  have h6 : Keeps s0 z5 := State.msqMap_keeps h2
  clear_value z5
  exact keeps_foldl (fun _ _ h9 => State.copyReadDone_keeps h9) (keeps_foldl (fun _ _ h12 => State.partDone_keeps h12) h6)

theorem execCheckpointRequest_keeps {s0 : State} {x0 : Word} {s : State} (h : Keeps s0 s) :
    ∀ t, execCheckpointRequest x0 s = .next t → Keeps s0 t :=
  fun _ ht => keeps_next ht (State.steCtlWrite_keeps h)

theorem execCheckpointStart_keeps {s0 : State} {s : State} (h : Keeps s0 s) :
    ∀ t, execCheckpointStart s = .next t → Keeps s0 t :=
  fun _ ht => keeps_next ht (checkpointStartOp_keeps h)

theorem execCheckpointTimer_keeps {s0 : State} {s : State} (h : Keeps s0 s) :
    ∀ t, execCheckpointTimer s = .next t → Keeps s0 t :=
  fun _ ht => keeps_next ht (checkpointTimerOp_keeps h)

theorem execCheckpointWriteComplete_keeps {s0 : State} {x0 : Fin 4} {x1 : Bool} {s : State} (h : Keeps s0 s) :
    ∀ t, execCheckpointWriteComplete x0 x1 s = .next t → Keeps s0 t :=
  fun _ ht => keeps_next ht (checkpointWriteCompleteOp_keeps h)

theorem execCompletionPost_keeps {s0 : State} {x0 : Act} {x1 : List Nat} {s : State} (h : Keeps s0 s) :
    ∀ t, execCompletionPost x0 x1 s = .next t → Keeps s0 t :=
  fun _ ht => keeps_next ht (completionPostOp_keeps h)

theorem execConvWrite_keeps {s0 : State} {x0 : Nat} {s : State} (h : Keeps s0 s) :
    ∀ t, execConvWrite x0 s = .next t → Keeps s0 t :=
  fun _ ht => keeps_next ht (State.convWrite_keeps h)

theorem journalRateReleaseOp_keeps {s0 : State} {s : State} (h : Keeps s0 s) :
    Keeps s0 (journalRateReleaseOp s) := by
  unfold journalRateReleaseOp
  extract_lets -underBinder +onlyGivenNames z1
  clear_value z1
  exact State.runDeferred_keeps (State.steMap_keeps h)

theorem execJournalRateRelease_keeps {s0 : State} {s : State} (h : Keeps s0 s) :
    ∀ t, execJournalRateRelease s = .next t → Keeps s0 t :=
  fun _ ht => keeps_next ht (journalRateReleaseOp_keeps h)

theorem mendChunkOp_keeps {s0 : State} {x0 : List (List MemberRead)} {s : State} (h : Keeps s0 s) :
    Keeps s0 (mendChunkOp x0 s) := by
  unfold mendChunkOp
  refine keeps_ite ?_ ?_
  · exact State.mendCheck_keeps h
  · split
    · exact State.mendCheck_keeps (keeps_snd (by assumption) (State.mendNext_keeps h))
    · extract_lets -underBinder +onlyGivenNames z1 z2 z3 z4 z5 z6
      clear_value z1 z2 z3 z4 z5 z6
      refine keeps_ite ?_ ?_
      · extract_lets -underBinder +onlyGivenNames z7 z8
        clear_value z7 z8
        extract_lets -underBinder +onlyGivenNames z9
        have h10 : Keeps s0 z9 := State.journal_keeps (keeps_snd (by assumption) (State.mendNext_keeps h))
        clear_value z9
        exact State.mendCheck_keeps (State.unrecoverable_keeps (State.entrySet_keeps (State.killSlot_keeps h10)))
      · split
        · exact State.zoneReadOnly_keeps (keeps_snd (by assumption) (State.mendNext_keeps h))
        · extract_lets -underBinder +onlyGivenNames z11
          have h12 : Keeps s0 z11 := keeps_ite (State.poison_keeps (keeps_snd (by assumption) (State.mendNext_keeps h))) (keeps_snd (by assumption) (State.mendNext_keeps h))
          clear_value z11
          exact State.rewriteChunk_keeps h12

theorem execMendChunk_keeps {s0 : State} {x0 : List (List MemberRead)} {s : State} (h : Keeps s0 s) :
    ∀ t, execMendChunk x0 s = .next t → Keeps s0 t :=
  fun _ ht => keeps_next ht (mendChunkOp_keeps h)

theorem parityPendingWriteOp_keeps {s0 : State} {s : State} (h : Keeps s0 s) :
    Keeps s0 (parityPendingWriteOp s) :=
  keeps_ite (State.replayDone_keeps (keeps_foldl (fun _ _ h3 => State.parityDue_keeps h3) h)) h

theorem execParityPendingWrite_keeps {s0 : State} {s : State} (h : Keeps s0 s) :
    ∀ t, execParityPendingWrite s = .next t → Keeps s0 t :=
  fun _ ht => keeps_next ht (parityPendingWriteOp_keeps h)

theorem replayLoadEndOp_keeps {s0 : State} {x0 : Bool} {x1 : Bool} {x2 : List SectorRead} {x3 : List CopyGood} {s : State} (h : Keeps s0 s) :
    Keeps s0 (replayLoadEndOp x0 x1 x2 x3 s) := by
  unfold replayLoadEndOp
  refine keeps_ite ?_ ?_
  · exact h
  · extract_lets -underBinder +onlyGivenNames z1
    have h2 : Keeps s0 z1 := keeps_filter h
    clear_value z1
    extract_lets -underBinder +onlyGivenNames z3
    have h4 : Keeps s0 z3 := keeps_foldl (fun _ _ h7 => State.setByte_keeps h7) h2
    clear_value z3
    extract_lets -underBinder +onlyGivenNames z8
    have h9 : Keeps s0 z8 := State.fset_keeps h4
    clear_value z8
    extract_lets -underBinder +onlyGivenNames z10
    have h11 : Keeps s0 z10 := keeps_ite h (State.wr_keeps h9)
    clear_value z10
    split
    · extract_lets -underBinder +onlyGivenNames z12
      have h13 : Keeps s0 z12 := State.restoredLeave_keeps (State.journalRegs_keeps (State.vaultMap_keeps (keeps_fst (by assumption) (State.applyRing_keeps h11))))
      clear_value z12
      extract_lets -underBinder +onlyGivenNames z14
      have h15 : Keeps s0 z14 := keeps_foldl (fun _ _ h18 => State.restoreWp_keeps h18) h13
      clear_value z14
      extract_lets -underBinder +onlyGivenNames z19
      have h20 : Keeps s0 z19 := State.steMap_keeps (State.mendResume_keeps (State.rebuildZne_keeps h15))
      clear_value z19
      extract_lets -underBinder +onlyGivenNames z21
      have h22 : Keeps s0 z21 := State.rebuildAccs_keeps h20
      clear_value z21
      extract_lets -underBinder +onlyGivenNames z23
      clear_value z23
      extract_lets -underBinder +onlyGivenNames z24
      have h25 : Keeps s0 z24 := by
        subst z24
        refine keeps_foldl ?_ ?_
        · intro y26 y27 h28
          refine keeps_ite ?_ ?_
          · exact h28
          · split
            · exact State.convCopy_keeps h28
            · exact h28
        · exact h22
      clear_value z24
      extract_lets -underBinder +onlyGivenNames z29
      clear_value z29
      exact State.fset_keeps h25

theorem execReplayLoadEnd_keeps {s0 : State} {x0 : Bool} {x1 : Bool} {x2 : List SectorRead} {x3 : List CopyGood} {s : State} (h : Keeps s0 s) :
    ∀ t, execReplayLoadEnd x0 x1 x2 x3 s = .next t → Keeps s0 t :=
  fun _ ht => keeps_next ht (replayLoadEndOp_keeps h)

theorem rinseChunkReadOp_keeps {s0 : State} {x0 : RinseIn} {s : State} (h : Keeps s0 s) :
    Keeps s0 (rinseChunkReadOp x0 s) := by
  unfold rinseChunkReadOp
  split
  · refine keeps_ite ?_ ?_
    · exact h
    · extract_lets -underBinder +onlyGivenNames z1
      clear_value z1
      extract_lets -underBinder +onlyGivenNames z2
      have h3 : Keeps s0 z2 := State.steMap_keeps h
      clear_value z2
      extract_lets -underBinder +onlyGivenNames z4
      have h5 : Keeps s0 z4 := State.rinseRow_keeps h3
      clear_value z4
      extract_lets -underBinder +onlyGivenNames z6
      have h7 : Keeps s0 z6 := keeps_foldl (fun _ _ h10 => State.blockRecord_keeps (State.raiseFault_keeps (State.count_keeps h10))) h5
      clear_value z6
      extract_lets -underBinder +onlyGivenNames z11
      have h12 : Keeps s0 z11 := keeps_ite (keeps_ite (State.copyChunk_keeps h7) h7) (State.poison_keeps h7)
      clear_value z11
      exact keeps_ite (State.parityCompare_keeps h12) h12
  · exact h

theorem execRinseChunkRead_keeps {s0 : State} {x0 : RinseIn} {s : State} (h : Keeps s0 s) :
    ∀ t, execRinseChunkRead x0 s = .next t → Keeps s0 t :=
  fun _ ht => keeps_next ht (rinseChunkReadOp_keeps h)

theorem rinseEndOp_keeps {s0 : State} {s : State} (h : Keeps s0 s) :
    Keeps s0 (rinseEndOp s) := by
  unfold rinseEndOp
  split
  · exact h
  · extract_lets -underBinder +onlyGivenNames z1
    clear_value z1
    exact State.rinseOver_keeps (State.setBytes_keeps h)

theorem execRinseEnd_keeps {s0 : State} {s : State} (h : Keeps s0 s) :
    ∀ t, execRinseEnd s = .next t → Keeps s0 t :=
  fun _ ht => keeps_next ht (rinseEndOp_keeps h)

theorem execRinseStart_keeps {s0 : State} {x0 : Word} {s : State} (h : Keeps s0 s) :
    ∀ t, execRinseStart x0 s = .next t → Keeps s0 t :=
  fun _ ht => keeps_next ht (State.rctlWrite_keeps h)

theorem execRinseStop_keeps {s0 : State} {x0 : Word} {s : State} (h : Keeps s0 s) :
    ∀ t, execRinseStop x0 s = .next t → Keeps s0 t :=
  fun _ ht => keeps_next ht (State.rctlWrite_keeps h)

theorem sectorReconstructionOp_keeps {s0 : State} {x0 : ReconIn} {s : State} (h : Keeps s0 s) :
    Keeps s0 (sectorReconstructionOp x0 s) := by
  unfold sectorReconstructionOp
  extract_lets -underBinder +onlyGivenNames z1
  clear_value z1
  split
  · exact State.reconRead_keeps h
  · split
    · exact State.reconCopy_keeps h
    · exact h

theorem execSectorReconstruction_keeps {s0 : State} {x0 : ReconIn} {s : State} (h : Keeps s0 s) :
    ∀ t, execSectorReconstruction x0 s = .next t → Keeps s0 t :=
  fun _ ht => keeps_next ht (sectorReconstructionOp_keeps h)

theorem execSteCounterClear_keeps {s0 : State} {x0 : Word} {s : State} (h : Keeps s0 s) :
    ∀ t, execSteCounterClear x0 s = .next t → Keeps s0 t :=
  fun _ ht => keeps_next ht (State.steCtlWrite_keeps h)

theorem execStripeEngineEnable_keeps {s0 : State} {x0 : Word} {s : State} (h : Keeps s0 s) :
    ∀ t, execStripeEngineEnable x0 s = .next t → Keeps s0 t :=
  fun _ ht => keeps_next ht (State.steCtlWrite_keeps h)

theorem execSurfaceRetire_keeps {s0 : State} {x0 : Word} {s : State} (h : Keeps s0 s) :
    ∀ t, execSurfaceRetire x0 s = .next t → Keeps s0 t :=
  fun _ ht => keeps_next ht (State.retireWrite_keeps h)

theorem tagScanEndOp_keeps {s0 : State} {x0 : List TagSeen} {s : State} (h : Keeps s0 s) :
    Keeps s0 (tagScanEndOp x0 s) := by
  unfold tagScanEndOp
  refine keeps_ite ?_ ?_
  · exact h
  · extract_lets -underBinder +onlyGivenNames z1
    clear_value z1
    extract_lets -underBinder +onlyGivenNames z2
    have h3 : Keeps s0 z2 := by
      subst z2
      refine keeps_foldl ?_ ?_
      · intro y4 y5 h6
        extract_lets -underBinder +onlyGivenNames z7 z8
        clear_value z7 z8
        split
        · exact h6
        · extract_lets -underBinder +onlyGivenNames z9
          clear_value z9
          extract_lets -underBinder +onlyGivenNames z10
          have h11 : Keeps s0 z10 := State.journal_keeps h6
          clear_value z10
          extract_lets -underBinder +onlyGivenNames z12
          clear_value z12
          exact State.setBytes_keeps (State.entrySet_keeps h11)
      · exact h
    clear_value z2
    extract_lets -underBinder +onlyGivenNames z13
    have h14 : Keeps s0 z13 := State.rebuildZne_keeps h3
    clear_value z13
    extract_lets -underBinder +onlyGivenNames z15
    clear_value z15
    extract_lets -underBinder +onlyGivenNames z16
    have h17 : Keeps s0 z16 := State.raiseFault_keeps (keeps_foldl (fun _ _ h20 => State.zoneReadOnly_keeps h20) h14)
    clear_value z16
    exact State.fset_keeps h17

theorem execTagScanEnd_keeps {s0 : State} {x0 : List TagSeen} {s : State} (h : Keeps s0 s) :
    ∀ t, execTagScanEnd x0 s = .next t → Keeps s0 t :=
  fun _ ht => keeps_next ht (tagScanEndOp_keeps h)

end Sys2Proof.Machine
end

