-- ==== Sys2Proof/Laws/KeepsHost.lean ====
section
/-! SUPPORT. What the operations and meanings of Machine/Cqe.lean, Machine/Hep.lean, Machine/Sec.lean, Machine/Admin.lean leave alone: `Keeps` (Laws/Keeps.lean) of each, in the order of
their files. -/
namespace Sys2Proof.Machine

/-! Cqe -/

theorem State.forward_keeps {s0 : State} {s : State} {x1 : CmdHdr} {x2 : FwdKind} (h : Keeps s0 s) :
    Keeps s0 (State.forward s x1 x2) := by
  unfold State.forward
  split
  · exact h
  · extract_lets -underBinder +onlyGivenNames z1
    clear_value z1
    extract_lets -underBinder +onlyGivenNames z2
    have h3 : Keeps s0 z2 := State.brlMap_keeps h
    clear_value z2
    exact keeps_ite (State.sendPkt_keeps h3) (State.fetchData_keeps h3)

theorem State.issueStamp_keeps {s0 : State} {s : State} (h : Keeps s0 s) :
    Keeps s0 (State.issueStamp s).2 := by
  unfold State.issueStamp
  extract_lets -underBinder +onlyGivenNames z1
  clear_value z1
  extract_lets -underBinder +onlyGivenNames z2
  have h3 : Keeps s0 z2 := keeps_ite (State.vaultMap_keeps h) h
  clear_value z2
  exact keeps_mk2 (State.count_keeps (State.wideSet_keeps (State.cqeMap_keeps h3)))

theorem State.quiesce_keeps {s0 : State} {s : State} (h : Keeps s0 s) :
    Keeps s0 (State.quiesce s) := by
  unfold State.quiesce
  extract_lets -underBinder +onlyGivenNames z1
  clear_value z1
  exact State.cqeMap_keeps (State.fsetB_keeps h)

theorem State.fwStart_keeps {s0 : State} {s : State} (h : Keeps s0 s) :
    Keeps s0 (State.fwStart s) :=
  keeps_ite (State.cqeMap_keeps h) (State.asyncEvent_keeps (State.quiesce_keeps (State.cqeMap_keeps (State.fsetB_keeps (State.fsetB_keeps h)))))

theorem State.entryAbandon_keeps {s0 : State} {s : State} (h : Keeps s0 s) :
    Keeps s0 (State.entryAbandon s) := by
  unfold State.entryAbandon
  extract_lets -underBinder +onlyGivenNames z1
  have h2 : Keeps s0 z1 := State.raiseFault_keeps (State.count_keeps (State.fsetB_keeps (State.fsetB_keeps h)))
  clear_value z1
  exact keeps_ite (State.fwStart_keeps h2) h2

theorem State.returnStart_keeps {s0 : State} {s : State} (h : Keeps s0 s) :
    Keeps s0 (State.returnStart s) :=
  keeps_ite h (State.spcCtlWrite_keeps (State.cqeMap_keeps (State.fsetB_keeps h)))

theorem State.entryCommand_keeps {s0 : State} {s : State} (h : Keeps s0 s) :
    Keeps s0 (State.entryCommand s) :=
  keeps_ite (keeps_ite (State.entryAbandon_keeps h) (State.cqeMap_keeps h)) (keeps_ite (State.returnStart_keeps h) h)

theorem State.submitRun_keeps {s0 : State} {s : State} {x1 : Nat} {x2 : Nat} {x3 : Nat × Nat × Word × Nat × Nat} (h : Keeps s0 s) :
    Keeps s0 (State.submitRun s x1 x2 x3) := by
  unfold State.submitRun
  split
  · extract_lets -underBinder +onlyGivenNames z1 z2 z3 z4 z5 z6
    clear_value z1 z2 z3 z4 z5 z6
    split
    · exact State.slotMap_keeps h
    · refine keeps_foldl_fst ?_ ?_
      · intro y7 y8 h9
        extract_lets -underBinder +onlyGivenNames z10
        have h11 : Keeps s0 z10 := h9
        clear_value z10
        split
        · split
          · extract_lets -underBinder +onlyGivenNames z12 z13
            clear_value z12 z13
            extract_lets -underBinder +onlyGivenNames z14
            have h15 : Keeps s0 z14 := State.cqeMap_keeps (keeps_snd (by assumption) (State.freshBuf_keeps (keeps_snd (by assumption) (State.freshBuf_keeps h11))))
            clear_value z14
            extract_lets -underBinder +onlyGivenNames z16
            have h17 : Keeps s0 z16 := keeps_ite h15 (State.submitPieces_keeps h15)
            clear_value z16
            exact keeps_mk1 h17
      · exact keeps_mk1 h

theorem State.resolveAgain_keeps {s0 : State} {s : State} {x1 : Slot} {x2 : Nat → Bool} (h : Keeps s0 s) :
    Keeps s0 (State.resolveAgain s x1 x2) := by
  unfold State.resolveAgain
  extract_lets -underBinder +onlyGivenNames z1 z2
  clear_value z1 z2
  refine keeps_foldl ?_ ?_
  · intro y3 y4 h5
    extract_lets -underBinder +onlyGivenNames z6 z7
    clear_value z6 z7
    extract_lets -underBinder +onlyGivenNames z8
    have h9 : Keeps s0 z8 := State.slotMap_keeps h5
    clear_value z8
    exact State.readTry_keeps (keeps_foldl (fun _ _ h12 => State.submitRun_keeps h12) h9)
  · exact h

theorem State.convMark_keeps {s0 : State} {s : State} {x1 : Nat} {x2 : Nat} {x3 : Nat} (h : Keeps s0 s) :
    Keeps s0 (State.convMark s x1 x2 x3) := by
  unfold State.convMark
  extract_lets -underBinder +onlyGivenNames z1
  clear_value z1
  exact State.vaultMap_keeps h

theorem State.readsOf_keeps {s0 : State} {s : State} {x1 : Nat} (h : Keeps s0 s) :
    Keeps s0 (State.readsOf s x1) :=
  keeps_foldl (fun _ _ h3 => State.readTry_keeps h3) h

theorem State.earlyTry_keeps {s0 : State} {s : State} {x1 : Nat} (h : Keeps s0 s) :
    Keeps s0 (State.earlyTry s x1) := by
  unfold State.earlyTry
  split
  · exact h
  · extract_lets -underBinder +onlyGivenNames z1 z2 z3
    clear_value z1 z2 z3
    refine keeps_ite ?_ ?_
    · extract_lets -underBinder +onlyGivenNames z4
      have h5 : Keeps s0 z4 := State.cqeMap_keeps h
      clear_value z4
      extract_lets -underBinder +onlyGivenNames z6
      have h7 : Keeps s0 z6 := State.winUpdate_keeps (State.count_keeps h5)
      clear_value z6
      exact State.finish_keeps h7
    · exact h

theorem State.dataArrived_keeps {s0 : State} {s : State} {x1 : Nat} {x2 : List (List Byte)} (h : Keeps s0 s) :
    Keeps s0 (State.dataArrived s x1 x2) := by
  unfold State.dataArrived
  split
  · exact h
  · extract_lets -underBinder +onlyGivenNames z1 z2 z3 z4
    clear_value z1 z2 z3 z4
    extract_lets -underBinder +onlyGivenNames z5
    have h6 : Keeps s0 z5 := by
      subst z5
      refine keeps_foldl ?_ ?_
      · intro y7 y8 h9
        extract_lets -underBinder +onlyGivenNames z10 z11 z12
        clear_value z10 z11 z12
        extract_lets -underBinder +onlyGivenNames z13
        have h14 : Keeps s0 z13 := State.cqeMap_keeps h9
        clear_value z13
        exact keeps_ite (State.stripeAdd_keeps h14) h14
      · exact h
    clear_value z5
    extract_lets -underBinder +onlyGivenNames z15
    have h16 : Keeps s0 z15 := keeps_ite h6 (State.convMark_keeps h6)
    clear_value z15
    extract_lets -underBinder +onlyGivenNames z17
    clear_value z17
    extract_lets -underBinder +onlyGivenNames z18
    have h19 : Keeps s0 z18 := State.slotMap_keeps h16
    clear_value z18
    extract_lets -underBinder +onlyGivenNames z20
    have h21 : Keeps s0 z20 := keeps_ite (keeps_foldl (fun _ _ h24 => State.sendPkt_keeps h24) h19) h19
    clear_value z20
    exact State.readsOf_keeps (State.earlyTry_keeps h21)

theorem State.applySlot_keeps {s0 : State} {s : State} {x1 : Slot} (h : Keeps s0 s) :
    Keeps s0 (State.applySlot s x1) := by
  unfold State.applySlot
  extract_lets -underBinder +onlyGivenNames z1
  clear_value z1
  split
  · split
    · exact State.finish_keeps (keeps_snd (by assumption) (keeps_foldl_snd (fun _ _ h4 => keeps_ite_snd h4 (State.zoneAct_keeps h4)) (keeps_mk2 h)))
  · extract_lets -underBinder +onlyGivenNames z5 z6
    clear_value z5 z6
    exact State.finish_keeps h
  · extract_lets -underBinder +onlyGivenNames z7 z8 z9
    clear_value z7 z8 z9
    split
    · refine keeps_ite ?_ ?_
      · exact State.finish_keeps (State.resolveAgain_keeps (State.slotMap_keeps (keeps_snd (by assumption) (State.zoneWrite_keeps h))))
      · extract_lets -underBinder +onlyGivenNames z10
        clear_value z10
        extract_lets -underBinder +onlyGivenNames z11
        have h12 : Keeps s0 z11 := State.slotMap_keeps (keeps_snd (by assumption) (State.zoneWrite_keeps h))
        clear_value z11
        extract_lets -underBinder +onlyGivenNames z13
        have h14 : Keeps s0 z13 := State.resolveAgain_keeps h12
        clear_value z13
        split
        · exact State.dataArrived_keeps h14
        · exact h14

theorem State.moverCancel_keeps {s0 : State} {s : State} {x1 : Slot} (h : Keeps s0 s) :
    Keeps s0 (State.moverCancel s x1) := by
  unfold State.moverCancel
  extract_lets -underBinder +onlyGivenNames z1
  clear_value z1
  refine keeps_foldl ?_ ?_
  · intro y2 y3 h4
    extract_lets -underBinder +onlyGivenNames z5 z6
    clear_value z5 z6
    extract_lets -underBinder +onlyGivenNames z7
    have h8 : ∀ b0 b1, Keeps s0 b0 → Keeps s0 (z7 b0 b1) := fun _ _ h11 => keeps_foldl (fun _ _ h14 => State.msqMap_keeps (operationCancelOp_keeps h14)) h11
    clear_value z7
    exact State.count_keeps (h8 _ _ (h8 _ _ h4))
  · exact h

theorem State.admitCmd_keeps {s0 : State} {s : State} {x1 : Cmd} (h : Keeps s0 s) :
    Keeps s0 (State.admitCmd s x1) := by
  unfold State.admitCmd
  split
  · extract_lets -underBinder +onlyGivenNames z1
    have h2 : Keeps s0 z1 := State.entryCommand_keeps (keeps_snd (by assumption) (State.issueStamp_keeps h))
    clear_value z1
    extract_lets -underBinder +onlyGivenNames z3 z4 z5 z6
    clear_value z3 z4 z5 z6
    extract_lets -underBinder +onlyGivenNames z7
    have h8 : Keeps s0 z7 := State.slotCount_keeps (State.cqeMap_keeps h2)
    clear_value z7
    split
    · refine keeps_ite ?_ ?_
      · exact State.finish_keeps h8
      · extract_lets -underBinder +onlyGivenNames z9
        clear_value z9
        extract_lets -underBinder +onlyGivenNames z10
        have h11 : Keeps s0 z10 := State.slotMap_keeps h8
        clear_value z10
        exact State.readTry_keeps (keeps_foldl (fun _ _ h14 => State.submitRun_keeps h14) h11)
    · exact h8
    · exact h8
    · exact keeps_ite (State.applySlot_keeps h8) h8
    · refine keeps_ite ?_ ?_
      · split
        · exact keeps_ite (State.applySlot_keeps h8) h8
        · exact h8
      · exact State.dataArrived_keeps (State.moverCancel_keeps h8)
    · extract_lets -underBinder +onlyGivenNames z15
      have h16 : Keeps s0 z15 := keeps_ite (State.fetchData_keeps h8) h8
      clear_value z15
      refine keeps_ite ?_ ?_
      · split
        · exact keeps_ite (State.applySlot_keeps h16) h16
        · exact h16
      · exact State.moverCancel_keeps h16

theorem State.admitAny_keeps {s0 : State} {s : State} {x1 : Cmd} (h : Keeps s0 s) :
    Keeps s0 (State.admitAny s x1) := by
  unfold State.admitAny
  refine keeps_ite ?_ ?_
  · split
    · exact State.forward_keeps h
    · exact State.complete_keeps h
    · exact State.complete_keeps h
  · exact keeps_ite (State.complete_keeps h) (State.admitCmd_keeps h)

theorem State.cancelReads_keeps {s0 : State} {s : State} {x1 : Nat} (h : Keeps s0 s) :
    Keeps s0 (State.cancelReads s x1) := by
  unfold State.cancelReads
  refine keeps_foldl ?_ ?_
  · intro y1 y2 h3
    extract_lets -underBinder +onlyGivenNames z4
    have h5 : ∀ b0 b1, Keeps s0 b0 → Keeps s0 (z4 b0 b1) := fun _ _ h8 => State.msqMap_keeps (operationCancelOp_keeps h8)
    clear_value z4
    exact h5 _ _ (h5 _ _ h3)
  · exact h

theorem State.entryEnd_keeps {s0 : State} {s : State} (h : Keeps s0 s) :
    Keeps s0 (State.entryEnd s) := by
  unfold State.entryEnd
  extract_lets -underBinder +onlyGivenNames z1
  have h2 : Keeps s0 z1 := State.fset_keeps (State.fsetB_keeps h)
  clear_value z1
  exact keeps_ite (State.returnStart_keeps h2) (keeps_ite (State.fwStart_keeps h2) h2)

theorem State.coreOffWrite_keeps {s0 : State} {s : State} {x1 : Word} (h : Keeps s0 s) :
    Keeps s0 (State.coreOffWrite s x1) := by
  unfold State.coreOffWrite
  refine keeps_ite ?_ ?_
  · extract_lets -underBinder +onlyGivenNames z1
    have h2 : Keeps s0 z1 := State.coreMap_keeps (State.pwrMap_keeps h)
    clear_value z1
    exact State.entryEnd_keeps h2
  · exact h

theorem State.cqeCtlWrite_keeps {s0 : State} {s : State} {x1 : Word} (h : Keeps s0 s) :
    Keeps s0 (State.cqeCtlWrite s x1) := by
  unfold State.cqeCtlWrite
  extract_lets -underBinder +onlyGivenNames z1
  have h2 : Keeps s0 z1 := keeps_ite (State.clearCount_keeps (State.clearCount_keeps (State.clearCount_keeps (State.clearCount_keeps (State.clearCount_keeps h))))) h
  clear_value z1
  refine keeps_ite ?_ ?_
  · exact h2
  · extract_lets -underBinder +onlyGivenNames z3 z4 z5 z6
    clear_value z3 z4 z5 z6
    exact keeps_ite (State.raiseFault_keeps (State.fsetB_keeps h2)) (State.earlyUpdate_keeps (State.fsetB_keeps (State.fsetB_keeps h2)))

theorem State.entryStart_keeps {s0 : State} {s : State} {x1 : Nat} (h : Keeps s0 s) :
    Keeps s0 (State.entryStart s x1) := by
  unfold State.entryStart
  refine keeps_ite ?_ ?_
  · exact State.cqeMap_keeps h
  · extract_lets -underBinder +onlyGivenNames z1
    clear_value z1
    extract_lets -underBinder +onlyGivenNames z2
    have h3 : Keeps s0 z2 := State.cqeMap_keeps h
    clear_value z2
    exact State.fsetB_keeps (State.fset_keeps (State.fset_keeps (State.fsetB_keeps h3)))

theorem State.failWrite_keeps {s0 : State} {s : State} {x1 : Slot} (h : Keeps s0 s) :
    Keeps s0 (State.failWrite s x1) := by
  unfold State.failWrite
  extract_lets -underBinder +onlyGivenNames z1 z2
  clear_value z1 z2
  refine keeps_ite ?_ ?_
  · extract_lets -underBinder +onlyGivenNames z3
    have h4 : Keeps s0 z3 := by
      subst z3
      refine keeps_foldl ?_ ?_
      · intro y5 y6 h7
        extract_lets -underBinder +onlyGivenNames z8
        clear_value z8
        exact State.stripeAdd_keeps (State.cqeMap_keeps h7)
      · exact h
    clear_value z3
    exact State.raiseFault_keeps (State.count_keeps h4)
  · exact State.resolveAgain_keeps (State.slotMap_keeps h)

theorem State.fencedHead_keeps {s0 : State} {s : State} {x1 : Port} {x2 : Nat} (h : Keeps s0 s) :
    Keeps s0 (State.fencedHead s x1 x2) := by
  unfold State.fencedHead
  split
  · split
    · exact State.complete_keeps (State.portMap_keeps h)
    · exact h
  · exact h

theorem State.forwardData_keeps {s0 : State} {s : State} {x1 : Nat} {x2 : WriteData} (h : Keeps s0 s) :
    Keeps s0 (State.forwardData s x1 x2) := by
  unfold State.forwardData
  split
  · exact h
  · refine keeps_ite ?_ ?_
    · exact h
    · extract_lets -underBinder +onlyGivenNames z1
      have h2 : Keeps s0 z1 := State.fetchDone_keeps h
      clear_value z1
      refine keeps_ite ?_ ?_
      · extract_lets -underBinder +onlyGivenNames z3
        clear_value z3
        extract_lets -underBinder +onlyGivenNames z4
        have h5 : Keeps s0 z4 := State.sendPkt_keeps (State.brlMap_keeps h2)
        clear_value z4
        exact keeps_foldl (fun _ _ h8 => State.sendPkt_keeps h8) h5
      · exact State.complete_keeps (State.brlMap_keeps h2)

theorem State.fwaWrite_keeps {s0 : State} {s : State} {x1 : Word} (h : Keeps s0 s) :
    Keeps s0 (State.fwaWrite s x1) := by
  unfold State.fwaWrite
  refine keeps_ite ?_ ?_
  · extract_lets -underBinder +onlyGivenNames z1
    have h2 : Keeps s0 z1 := State.quiesce_keeps (State.fsetB_keeps (State.fsetB_keeps (State.fsetB_keeps h)))
    clear_value z1
    extract_lets -underBinder +onlyGivenNames z3
    have h4 : Keeps s0 z3 := by
      subst z3
      split
      · exact State.complete_keeps (State.cqeMap_keeps h2)
      · exact h2
    clear_value z3
    split
    · exact State.entryStart_keeps h4
    · exact h4
  · exact h

theorem State.ilCapture_keeps {s0 : State} {s : State} (h : Keeps s0 s) :
    Keeps s0 (State.ilCapture s) := by
  unfold State.ilCapture
  extract_lets -underBinder +onlyGivenNames z1
  clear_value z1
  exact keeps_foldl (fun _ _ h4 => State.wr_keeps h4) h

theorem State.ilCounts_keeps {s0 : State} {s : State} (h : Keeps s0 s) :
    Keeps s0 (State.ilCounts s) :=
  State.fset_keeps (State.fset_keeps h)

theorem State.ilRequest_keeps {s0 : State} {s : State} {x1 : IlockReq} (h : Keeps s0 s) :
    Keeps s0 (State.ilRequest s x1) := by
  unfold State.ilRequest
  split
  · exact State.ilCounts_keeps (State.cqeMap_keeps h)
  · exact State.cqeMap_keeps h

theorem State.ps4Wake_keeps {s0 : State} {s : State} (h : Keeps s0 s) :
    Keeps s0 (State.ps4Wake s) := by
  unfold State.ps4Wake
  refine keeps_ite ?_ ?_
  · extract_lets -underBinder +onlyGivenNames z1 z2
    clear_value z1 z2
    extract_lets -underBinder +onlyGivenNames z3
    have h4 : Keeps s0 z3 := keeps_ite (State.coreMap_keeps (State.pwrMap_keeps h)) h
    clear_value z3
    exact State.returnStart_keeps h4
  · exact h

theorem State.psctlWrite_keeps {s0 : State} {s : State} {x1 : Word} (h : Keeps s0 s) :
    Keeps s0 (State.psctlWrite s x1) := by
  unfold State.psctlWrite
  extract_lets -underBinder +onlyGivenNames z1
  clear_value z1
  exact keeps_ite (State.entryStart_keeps h) h

theorem State.resetSlot_keeps {s0 : State} {s : State} {x1 : Slot} (h : Keeps s0 s) :
    Keeps s0 (State.resetSlot s x1) := by
  unfold State.resetSlot
  extract_lets -underBinder +onlyGivenNames z1
  have h2 : ∀ b0, Keeps s0 b0 → Keeps s0 (z1 b0) := fun _ h4 => State.slotMap_keeps h4
  clear_value z1
  split
  · exact h2 _ h
  · exact keeps_ite (h2 _ h) (keeps_ite (State.readsOf_keeps (State.freeSlot_keeps (State.failWrite_keeps h))) (State.freeSlot_keeps h))
  · exact keeps_ite (h2 _ h) (keeps_ite (State.readsOf_keeps (State.freeSlot_keeps (State.failWrite_keeps h))) (State.freeSlot_keeps h))
  · exact h2 _ h
  · exact State.bufferSweep_keeps (State.freeSlot_keeps (State.cancelReads_keeps h))

theorem State.resetSlots_keeps {s0 : State} {s : State} {x1 : Slot → Bool} (h : Keeps s0 s) :
    Keeps s0 (State.resetSlots s x1) :=
  keeps_foldl (fun _ _ h3 => State.resetSlot_keeps h3) h

theorem State.queueReset_keeps {s0 : State} {s : State} {x1 : Port} (h : Keeps s0 s) :
    Keeps s0 (State.queueReset s x1) :=
  State.resetSlots_keeps h

theorem activationReadyOp_keeps {s0 : State} {s : State} (h : Keeps s0 s) :
    Keeps s0 (activationReadyOp s) :=
  keeps_ite (State.fsetB_keeps h) h

theorem commandAdmissionOp_keeps {s0 : State} {x0 : Port} {x1 : Nat} {s : State} (h : Keeps s0 s) :
    Keeps s0 (commandAdmissionOp x0 x1 s) := by
  unfold commandAdmissionOp
  extract_lets -underBinder +onlyGivenNames z1
  have h2 : Keeps s0 z1 := State.jstallUpdate_keeps h
  clear_value z1
  refine keeps_ite ?_ ?_
  · exact State.fencedHead_keeps h2
  · refine keeps_ite ?_ ?_
    · split
      · split
        · extract_lets -underBinder +onlyGivenNames z3
          have h4 : Keeps s0 z3 := State.portMap_keeps h2
          clear_value z3
          exact State.admitAny_keeps (State.hepMap_keeps h4)
        · exact h2
      · exact h2
    · exact h2

theorem entryCheckpointOp_keeps {s0 : State} {s : State} (h : Keeps s0 s) :
    Keeps s0 (entryCheckpointOp s) := by
  unfold entryCheckpointOp
  refine keeps_ite ?_ ?_
  · exact h
  · split
    · extract_lets -underBinder +onlyGivenNames z1
      clear_value z1
      exact keeps_ite h (State.steMap_keeps (State.fset_keeps h))
    · exact keeps_ite h (State.fset_keeps h)
    · extract_lets -underBinder +onlyGivenNames z2
      have h3 : Keeps s0 z2 := State.fset_keeps h
      clear_value z2
      exact State.spcCtlWrite_keeps (State.unloadIfMay_keeps (State.unloadIfMay_keeps h3))
    · exact keeps_ite (State.fset_keeps h) h
    · refine keeps_ite ?_ ?_
      · extract_lets -underBinder +onlyGivenNames z4
        have h5 : Keeps s0 z4 := State.fset_keeps h
        clear_value z4
        exact keeps_ite h5 (State.entryEnd_keeps h5)
      · exact h
    · exact h

theorem execActivationDone_keeps {s0 : State} {x0 : Word} {s : State} (h : Keeps s0 s) :
    ∀ t, execActivationDone x0 s = .next t → Keeps s0 t :=
  fun _ ht => keeps_next ht (State.fwaWrite_keeps h)

theorem execActivationReady_keeps {s0 : State} {s : State} (h : Keeps s0 s) :
    ∀ t, execActivationReady s = .next t → Keeps s0 t :=
  fun _ ht => keeps_next ht (activationReadyOp_keeps h)

theorem execCommandAdmission_keeps {s0 : State} {x0 : Port} {x1 : Nat} {s : State} (h : Keeps s0 s) :
    ∀ t, execCommandAdmission x0 x1 s = .next t → Keeps s0 t :=
  fun _ ht => keeps_next ht (commandAdmissionOp_keeps h)

theorem execCoresOff_keeps {s0 : State} {x0 : Word} {s : State} (h : Keeps s0 s) :
    ∀ t, execCoresOff x0 s = .next t → Keeps s0 t :=
  fun _ ht => keeps_next ht (State.coreOffWrite_keeps h)

theorem execCqeCounterClear_keeps {s0 : State} {x0 : Word} {s : State} (h : Keeps s0 s) :
    ∀ t, execCqeCounterClear x0 s = .next t → Keeps s0 t :=
  fun _ ht => keeps_next ht (State.cqeCtlWrite_keeps h)

theorem execCqeEnable_keeps {s0 : State} {x0 : Word} {s : State} (h : Keeps s0 s) :
    ∀ t, execCqeEnable x0 s = .next t → Keeps s0 t :=
  fun _ ht => keeps_next ht (State.cqeCtlWrite_keeps h)

theorem execEntryCheckpoint_keeps {s0 : State} {s : State} (h : Keeps s0 s) :
    ∀ t, execEntryCheckpoint s = .next t → Keeps s0 t :=
  fun _ ht => keeps_next ht (entryCheckpointOp_keeps h)

theorem flushCompleteOp_keeps {s0 : State} {x0 : Nat} {s : State} (h : Keeps s0 s) :
    Keeps s0 (flushCompleteOp x0 s) := by
  unfold flushCompleteOp
  split
  · exact h
  · extract_lets -underBinder +onlyGivenNames z1 z2 z3
    clear_value z1 z2 z3
    exact keeps_ite (State.finish_keeps h) h

theorem execFlushComplete_keeps {s0 : State} {x0 : Nat} {s : State} (h : Keeps s0 s) :
    ∀ t, execFlushComplete x0 s = .next t → Keeps s0 t :=
  fun _ ht => keeps_next ht (flushCompleteOp_keeps h)

theorem execInterlockCapture_keeps {s0 : State} {s : State} (h : Keeps s0 s) :
    ∀ t, execInterlockCapture s = .next t → Keeps s0 t :=
  fun _ ht => keeps_next ht (keeps_upd (State.ilCapture_keeps h) rfl rfl rfl rfl rfl)

theorem interlockHeldOp_keeps {s0 : State} {x0 : Nat} {s : State} (h : Keeps s0 s) :
    Keeps s0 (interlockHeldOp x0 s) := by
  unfold interlockHeldOp
  split
  · exact keeps_ite (State.ilCounts_keeps (State.cqeMap_keeps h)) h
  · exact h

theorem execInterlockHeld_keeps {s0 : State} {x0 : Nat} {s : State} (h : Keeps s0 s) :
    ∀ t, execInterlockHeld x0 s = .next t → Keeps s0 t :=
  fun _ ht => keeps_next ht (interlockHeldOp_keeps h)

theorem interlockReleaseOp_keeps {s0 : State} {x0 : Nat} {s : State} (h : Keeps s0 s) :
    Keeps s0 (interlockReleaseOp x0 s) := by
  unfold interlockReleaseOp
  refine keeps_ite ?_ ?_
  · extract_lets -underBinder +onlyGivenNames z1
    have h2 : Keeps s0 z1 := State.ilCounts_keeps (State.cqeMap_keeps h)
    clear_value z1
    split
    · exact State.ilRequest_keeps (State.cqeMap_keeps h2)
    · exact h2
  · exact h

theorem execInterlockRelease_keeps {s0 : State} {x0 : Nat} {s : State} (h : Keeps s0 s) :
    ∀ t, execInterlockRelease x0 s = .next t → Keeps s0 t :=
  fun _ ht => keeps_next ht (interlockReleaseOp_keeps h)

theorem execInterlockRequest_keeps {s0 : State} {x0 : IlockReq} {s : State} (h : Keeps s0 s) :
    ∀ t, execInterlockRequest x0 s = .next t → Keeps s0 t :=
  fun _ ht => keeps_next ht (State.ilRequest_keeps h)

theorem execPowerStateEntry_keeps {s0 : State} {x0 : Word} {s : State} (h : Keeps s0 s) :
    ∀ t, execPowerStateEntry x0 s = .next t → Keeps s0 t :=
  fun _ ht => keeps_next ht (State.psctlWrite_keeps h)

theorem powerStateReturnEndOp_keeps {s0 : State} {s : State} (h : Keeps s0 s) :
    Keeps s0 (powerStateReturnEndOp s) := by
  unfold powerStateReturnEndOp
  refine keeps_ite ?_ ?_
  · extract_lets -underBinder +onlyGivenNames z1
    have h2 : Keeps s0 z1 := State.fset_keeps (State.fsetB_keeps h)
    clear_value z1
    exact keeps_ite (State.fwStart_keeps h2) h2
  · exact h

theorem execPowerStateReturnEnd_keeps {s0 : State} {s : State} (h : Keeps s0 s) :
    ∀ t, execPowerStateReturnEnd s = .next t → Keeps s0 t :=
  fun _ ht => keeps_next ht (powerStateReturnEndOp_keeps h)

theorem execPs4Wake_keeps {s0 : State} {s : State} (h : Keeps s0 s) :
    ∀ t, execPs4Wake s = .next t → Keeps s0 t :=
  fun _ ht => keeps_next ht (State.ps4Wake_keeps h)

theorem writeDataReceivedOp_keeps {s0 : State} {x0 : Nat} {x1 : WriteData} {s : State} (h : Keeps s0 s) :
    Keeps s0 (writeDataReceivedOp x0 x1 s) := by
  unfold writeDataReceivedOp
  refine keeps_ite ?_ ?_
  · exact State.forwardData_keeps h
  · split
    · exact h
    · refine keeps_ite ?_ ?_
      · exact h
      · extract_lets -underBinder +onlyGivenNames z1
        have h2 : Keeps s0 z1 := keeps_ite (State.fetchDone_keeps h) h
        clear_value z1
        exact keeps_ite (State.dataArrived_keeps h2) (State.finish_keeps (State.readsOf_keeps (State.failWrite_keeps h2)))

theorem execWriteDataReceived_keeps {s0 : State} {x0 : Nat} {x1 : WriteData} {s : State} (h : Keeps s0 s) :
    ∀ t, execWriteDataReceived x0 x1 s = .next t → Keeps s0 t :=
  fun _ ht => keeps_next ht (writeDataReceivedOp_keeps h)

theorem zoneActionApplyOp_keeps {s0 : State} {s : State} (h : Keeps s0 s) :
    Keeps s0 (zoneActionApplyOp s) := by
  unfold zoneActionApplyOp
  split
  · exact State.applySlot_keeps h
  · exact h

theorem execZoneActionApply_keeps {s0 : State} {s : State} (h : Keeps s0 s) :
    ∀ t, execZoneActionApply s = .next t → Keeps s0 t :=
  fun _ ht => keeps_next ht (zoneActionApplyOp_keeps h)

/-! Hep -/

theorem State.adminDo_keeps {s0 : State} {s : State} {x1 : CmdHdr} {x2 : Bool} {x3 : State → State × Option Answer} (x3k : ∀ t, Keeps s0 t → Keeps s0 (x3 t).1) (h : Keeps s0 s) :
    Keeps s0 (State.adminDo s x1 x2 x3) := by
  unfold State.adminDo
  refine keeps_ite ?_ ?_
  · exact h
  · extract_lets -underBinder +onlyGivenNames z1
    have h2 : Keeps s0 z1 := State.issueStamp_keeps h
    clear_value z1
    refine keeps_ite ?_ ?_
    · exact State.complete_keeps h2
    · split
      · exact State.complete_keeps (keeps_fst (by assumption) (x3k _ h2))
      · exact keeps_fst (by assumption) (x3k _ h2)

theorem State.cfgPut_keeps {s0 : State} {s : State} {x1 : Port} {x2 : Nat} {x3 : Word} (h : Keeps s0 s) :
    Keeps s0 (State.cfgPut s x1 x2 x3) :=
  State.portMap_keeps h

theorem State.aer_keeps {s0 : State} {s : State} {x1 : Port} {x2 : Nat} {x3 : Nat} (h : Keeps s0 s) :
    Keeps s0 (State.aer s x1 x2 x3) :=
  State.cfgPut_keeps h

theorem State.bmeSet_keeps {s0 : State} {s : State} {x1 : Port} {x2 : Bool} (h : Keeps s0 s) :
    Keeps s0 (State.bmeSet s x1 x2) := by
  unfold State.bmeSet
  extract_lets -underBinder +onlyGivenNames z1
  clear_value z1
  refine keeps_ite ?_ ?_
  · exact h
  · extract_lets -underBinder +onlyGivenNames z2
    have h3 : Keeps s0 z2 := State.raiseEvent_keeps (State.cfgPut_keeps h)
    clear_value z2
    extract_lets -underBinder +onlyGivenNames z4
    have h5 : Keeps s0 z4 := keeps_ite (State.portMap_keeps (State.heldPump_keeps (State.fetchPump_keeps h3))) h3
    clear_value z4
    exact State.bmepUpdate_keeps h5

theorem State.readyTry_keeps {s0 : State} {s : State} {x1 : Port} (h : Keeps s0 s) :
    Keeps s0 (State.readyTry s x1) := by
  unfold State.readyTry
  extract_lets -underBinder +onlyGivenNames z1
  clear_value z1
  exact keeps_ite h (keeps_ite (State.portMap_keeps h) (keeps_ite (State.fsetB_keeps (State.portMap_keeps h)) (State.portMap_keeps h)))

theorem State.ccEnable_keeps {s0 : State} {s : State} {x1 : Port} {x2 : Word} (h : Keeps s0 s) :
    Keeps s0 (State.ccEnable s x1 x2) := by
  unfold State.ccEnable
  refine keeps_ite ?_ ?_
  · exact h
  · extract_lets -underBinder +onlyGivenNames z1
    clear_value z1
    extract_lets -underBinder +onlyGivenNames z2
    have h3 : Keeps s0 z2 := State.portMap_keeps h
    clear_value z2
    exact State.readyTry_keeps (State.raiseEvent_keeps h3)

theorem State.controllerReset_keeps {s0 : State} {s : State} {x1 : Port} (h : Keeps s0 s) :
    Keeps s0 (State.controllerReset s x1) := by
  unfold State.controllerReset
  extract_lets -underBinder +onlyGivenNames z1
  have h2 : Keeps s0 z1 := State.queueReset_keeps h
  clear_value z1
  extract_lets -underBinder +onlyGivenNames z3
  have h4 : Keeps s0 z3 := keeps_ite (State.sendPkt_keeps h2) h2
  clear_value z3
  extract_lets -underBinder +onlyGivenNames z5
  clear_value z5
  extract_lets -underBinder +onlyGivenNames z6
  have h7 : Keeps s0 z6 := State.brlMap_keeps h4
  clear_value z6
  extract_lets -underBinder +onlyGivenNames z8
  have h9 : Keeps s0 z8 := State.portMap_keeps h7
  clear_value z8
  extract_lets -underBinder +onlyGivenNames z10
  have h11 : Keeps s0 z10 := State.quiesce_keeps (State.cqeMap_keeps h9)
  clear_value z10
  exact State.bmepUpdate_keeps (State.fsetB_keeps (State.fsetB_keeps h11))

theorem State.shutdown_keeps {s0 : State} {s : State} {x1 : Port} {x2 : Bool} (h : Keeps s0 s) :
    Keeps s0 (State.shutdown s x1 x2) := by
  unfold State.shutdown
  extract_lets -underBinder +onlyGivenNames z1
  have h2 : Keeps s0 z1 := State.portMap_keeps h
  clear_value z1
  extract_lets -underBinder +onlyGivenNames z3
  have h4 : Keeps s0 z3 := State.quiesce_keeps (State.cqeMap_keeps h2)
  clear_value z3
  extract_lets -underBinder +onlyGivenNames z5
  have h6 : Keeps s0 z5 := keeps_ite (State.queueReset_keeps h4) h4
  clear_value z5
  exact State.shutTry_keeps (State.raiseEvent_keeps h6)

theorem State.ccWrite_keeps {s0 : State} {s : State} {x1 : Port} {x2 : Word} (h : Keeps s0 s) :
    Keeps s0 (State.ccWrite s x1 x2) := by
  unfold State.ccWrite
  extract_lets -underBinder +onlyGivenNames z1 z2 z3
  clear_value z1 z2 z3
  exact keeps_ite h (keeps_ite (State.raiseEvent_keeps (State.controllerReset_keeps h)) (keeps_ite (State.ccEnable_keeps h) (keeps_ite (State.shutdown_keeps h) (keeps_ite (State.portMap_keeps h) h))))

theorem State.genFlip_keeps {s0 : State} {s : State} {x1 : Port} (h : Keeps s0 s) :
    Keeps s0 (State.genFlip s x1) := by
  unfold State.genFlip
  extract_lets -underBinder +onlyGivenNames z1
  clear_value z1
  exact State.portMap_keeps (State.fset_keeps h)

theorem State.portReset_keeps {s0 : State} {s : State} {x1 : Port} {x2 : Nat → Bool} (h : Keeps s0 s) :
    Keeps s0 (State.portReset s x1 x2) := by
  unfold State.portReset
  extract_lets -underBinder +onlyGivenNames z1
  have h2 : Keeps s0 z1 := State.controllerReset_keeps h
  clear_value z1
  extract_lets -underBinder +onlyGivenNames z3
  have h4 : Keeps s0 z3 := State.portMap_keeps h2
  clear_value z3
  exact State.raiseEvent_keeps (State.bmepUpdate_keeps (State.genFlip_keeps h4))

theorem State.flrStart_keeps {s0 : State} {s : State} {x1 : Port} (h : Keeps s0 s) :
    Keeps s0 (State.flrStart s x1) :=
  keeps_ite (State.portMap_keeps (State.portReset_keeps h)) h

theorem State.cfgWrite_keeps {s0 : State} {s : State} {x1 : Port} {x2 : Nat} {x3 : Word} (h : Keeps s0 s) :
    Keeps s0 (State.cfgWrite s x1 x2 x3) := by
  unfold State.cfgWrite
  refine keeps_ite ?_ ?_
  · exact State.cfgPut_keeps h
  · extract_lets -underBinder +onlyGivenNames z1 z2
    clear_value z1 z2
    extract_lets -underBinder +onlyGivenNames z3
    have h4 : Keeps s0 z3 := keeps_ite (State.bmeSet_keeps (State.cfgPut_keeps h)) (State.cfgPut_keeps h)
    clear_value z3
    extract_lets -underBinder +onlyGivenNames z5
    have h6 : Keeps s0 z5 := keeps_ite (State.portMap_keeps h4) h4
    clear_value z5
    exact keeps_ite (State.flrStart_keeps h6) h6

theorem State.doorbellError_keeps {s0 : State} {s : State} {x1 : Port} {x2 : Nat} (h : Keeps s0 s) :
    Keeps s0 (State.doorbellError s x1 x2) :=
  State.aerPump_keeps (State.portMap_keeps h)

theorem State.endTransfer_keeps {s0 : State} {s : State} {x1 : Port} {x2 : Nat} (h : Keeps s0 s) :
    Keeps s0 (State.endTransfer s x1 x2) := by
  unfold State.endTransfer
  refine keeps_ite ?_ ?_
  · split
    · exact keeps_ite h (State.complete_keeps (State.fetchDrop_keeps (State.brlMap_keeps h)))
    · exact h
  · split
    · refine keeps_ite ?_ ?_
      · extract_lets -underBinder +onlyGivenNames z1
        have h2 : Keeps s0 z1 := keeps_ite (State.readsOf_keeps (State.failWrite_keeps h)) h
        clear_value z1
        exact State.finish_keeps (State.fetchDrop_keeps h2)
      · exact h
    · exact h

theorem State.hepCtlWrite_keeps {s0 : State} {s : State} {x1 : Word} (h : Keeps s0 s) :
    Keeps s0 (State.hepCtlWrite s x1) := by
  unfold State.hepCtlWrite
  extract_lets -underBinder +onlyGivenNames z1
  have h2 : Keeps s0 z1 := keeps_ite (keeps_foldl (fun _ _ h5 => State.clearCount_keeps (State.clearCount_keeps (State.clearCount_keeps h5))) h) h
  clear_value z1
  refine keeps_ite ?_ ?_
  · extract_lets -underBinder +onlyGivenNames z6
    have h7 : ∀ b0 b1, Keeps s0 b0 → Keeps s0 (z6 b0 b1) := fun _ _ h10 => State.portMap_keeps h10
    clear_value z6
    exact State.fsetB_keeps (h7 _ _ (h7 _ _ h2))
  · exact h2

theorem State.ioCommand_keeps {s0 : State} {s : State} {x1 : CmdHdr} {x2 : CmdKind} (h : Keeps s0 s) :
    Keeps s0 (State.ioCommand s x1 x2) := by
  unfold State.ioCommand
  extract_lets -underBinder +onlyGivenNames z1
  clear_value z1
  refine keeps_ite ?_ ?_
  · exact h
  · split
    · exact State.complete_keeps h
    · exact State.portMap_keeps h

theorem State.linkDown_keeps {s0 : State} {s : State} {x1 : Port} (h : Keeps s0 s) :
    Keeps s0 (State.linkDown s x1) :=
  State.wr_keeps h

theorem State.nvmeWrite_keeps {s0 : State} {s : State} {x1 : Port} {x2 : Nat} {x3 : Word} (h : Keeps s0 s) :
    Keeps s0 (State.nvmeWrite s x1 x2 x3) :=
  keeps_ite h (keeps_ite (State.ccWrite_keeps h) (keeps_ite (State.portMap_keeps h) h))

theorem coalescingTimerOp_keeps {s0 : State} {x0 : Port} {x1 : Nat} {s : State} (h : Keeps s0 s) :
    Keeps s0 (coalescingTimerOp x0 x1 s) := by
  unfold coalescingTimerOp
  split
  · exact keeps_ite (State.portMap_keeps h) h
  · exact h

theorem completionTimeoutOp_keeps {s0 : State} {x0 : Port} {x1 : Nat} {s : State} (h : Keeps s0 s) :
    Keeps s0 (completionTimeoutOp x0 x1 s) := by
  unfold completionTimeoutOp
  split
  · exact h
  · refine keeps_ite ?_ ?_
    · exact h
    · extract_lets -underBinder +onlyGivenNames z1
      have h2 : Keeps s0 z1 := State.portMap_keeps h
      clear_value z1
      refine keeps_ite ?_ ?_
      · exact h2
      · extract_lets -underBinder +onlyGivenNames z3
        have h4 : Keeps s0 z3 := State.raiseFault_keeps (State.count_keeps (State.aer_keeps h2))
        clear_value z3
        exact State.bmepUpdate_keeps (State.fetchPump_keeps (State.endTransfer_keeps h4))

theorem configurationRequestOp_keeps {s0 : State} {x0 : Port} {x1 : Bool} {x2 : Nat} {x3 : Word} {s : State} (h : Keeps s0 s) :
    Keeps s0 (configurationRequestOp x0 x1 x2 x3 s) := by
  unfold configurationRequestOp
  refine keeps_ite ?_ ?_
  · exact h
  · extract_lets -underBinder +onlyGivenNames z1
    have h2 : Keeps s0 z1 := State.ps4Wake_keeps h
    clear_value z1
    refine keeps_ite ?_ ?_
    · exact State.hepMap_keeps h2
    · extract_lets -underBinder +onlyGivenNames z3
      clear_value z3
      exact keeps_ite (State.hepMap_keeps (State.cfgWrite_keeps h2)) (keeps_ite (State.tick_keeps (State.hepMap_keeps h2)) (State.hepMap_keeps h2))

theorem doorbellWriteOp_keeps {s0 : State} {x0 : Port} {x1 : Bool} {x2 : Nat} {x3 : Word} {s : State} (h : Keeps s0 s) :
    Keeps s0 (doorbellWriteOp x0 x1 x2 x3 s) := by
  unfold doorbellWriteOp
  refine keeps_ite ?_ ?_
  · exact h
  · extract_lets -underBinder +onlyGivenNames z1
    have h2 : Keeps s0 z1 := State.ps4Wake_keeps h
    clear_value z1
    refine keeps_ite ?_ ?_
    · split
      · exact State.doorbellError_keeps h2
      · extract_lets -underBinder +onlyGivenNames z3
        clear_value z3
        exact keeps_ite (State.doorbellError_keeps h2) (State.heldPump_keeps (State.portMap_keeps h2))
    · split
      · exact State.doorbellError_keeps h2
      · refine keeps_ite ?_ ?_
        · exact State.doorbellError_keeps h2
        · extract_lets -underBinder +onlyGivenNames z4
          have h5 : Keeps s0 z4 := State.portMap_keeps h2
          clear_value z4
          exact keeps_ite (State.raiseEvent_keeps h5) h5

theorem execAbruptShutdown_keeps {s0 : State} {x0 : Port} {s : State} (h : Keeps s0 s) :
    ∀ t, execAbruptShutdown x0 s = .next t → Keeps s0 t :=
  fun _ ht => keeps_next ht (State.ccWrite_keeps h)

theorem execBusMasterDisable_keeps {s0 : State} {x0 : Port} {s : State} (h : Keeps s0 s) :
    ∀ t, execBusMasterDisable x0 s = .next t → Keeps s0 t :=
  fun _ ht => keeps_next ht (State.bmeSet_keeps h)

theorem execBusMasterEnable_keeps {s0 : State} {x0 : Port} {s : State} (h : Keeps s0 s) :
    ∀ t, execBusMasterEnable x0 s = .next t → Keeps s0 t :=
  fun _ ht => keeps_next ht (State.bmeSet_keeps h)

theorem execCoalescingTimer_keeps {s0 : State} {x0 : Port} {x1 : Nat} {s : State} (h : Keeps s0 s) :
    ∀ t, execCoalescingTimer x0 x1 s = .next t → Keeps s0 t :=
  fun _ ht => keeps_next ht (coalescingTimerOp_keeps h)

theorem execCompletionTimeout_keeps {s0 : State} {x0 : Port} {x1 : Nat} {s : State} (h : Keeps s0 s) :
    ∀ t, execCompletionTimeout x0 x1 s = .next t → Keeps s0 t :=
  fun _ ht => keeps_next ht (completionTimeoutOp_keeps h)

theorem execConfigReady_keeps {s0 : State} {x0 : Word} {s : State} (h : Keeps s0 s) :
    ∀ t, execConfigReady x0 s = .next t → Keeps s0 t :=
  fun _ ht => keeps_next ht (State.hepCtlWrite_keeps h)

theorem execConfigurationRequest_keeps {s0 : State} {x0 : Port} {x1 : Bool} {x2 : Nat} {x3 : Word} {s : State} (h : Keeps s0 s) :
    ∀ t, execConfigurationRequest x0 x1 x2 x3 s = .next t → Keeps s0 t :=
  fun _ ht => keeps_next ht (configurationRequestOp_keeps h)

theorem execControllerDisable_keeps {s0 : State} {x0 : Port} {s : State} (h : Keeps s0 s) :
    ∀ t, execControllerDisable x0 s = .next t → Keeps s0 t :=
  fun _ ht => keeps_next ht (State.ccWrite_keeps h)

theorem execControllerEnable_keeps {s0 : State} {x0 : Port} {x1 : Word} {s : State} (h : Keeps s0 s) :
    ∀ t, execControllerEnable x0 x1 s = .next t → Keeps s0 t :=
  fun _ ht => keeps_next ht (State.ccWrite_keeps h)

theorem execDoorbellWrite_keeps {s0 : State} {x0 : Port} {x1 : Bool} {x2 : Nat} {x3 : Word} {s : State} (h : Keeps s0 s) :
    ∀ t, execDoorbellWrite x0 x1 x2 x3 s = .next t → Keeps s0 t :=
  fun _ ht => keeps_next ht (doorbellWriteOp_keeps h)

theorem expansionRomReadOp_keeps {s0 : State} {x0 : Port} {x1 : Nat} {s : State} (h : Keeps s0 s) :
    Keeps s0 (expansionRomReadOp x0 x1 s) := by
  unfold expansionRomReadOp
  extract_lets -underBinder +onlyGivenNames z1
  clear_value z1
  exact keeps_ite (State.hepMap_keeps h) h

theorem execExpansionRomRead_keeps {s0 : State} {x0 : Port} {x1 : Nat} {s : State} (h : Keeps s0 s) :
    ∀ t, execExpansionRomRead x0 x1 s = .next t → Keeps s0 t :=
  fun _ ht => keeps_next ht (expansionRomReadOp_keeps h)

theorem execFlush_keeps {s0 : State} {x0 : CmdHdr} {s : State} (h : Keeps s0 s) :
    ∀ t, execFlush x0 s = .next t → Keeps s0 t :=
  fun _ ht => keeps_next ht (State.ioCommand_keeps h)

theorem execFunctionLevelReset_keeps {s0 : State} {x0 : Port} {s : State} (h : Keeps s0 s) :
    ∀ t, execFunctionLevelReset x0 s = .next t → Keeps s0 t :=
  fun _ ht => keeps_next ht (State.flrStart_keeps h)

theorem execFunctionLevelResetEnd_keeps {s0 : State} {x0 : Port} {s : State} (h : Keeps s0 s) :
    ∀ t, execFunctionLevelResetEnd x0 s = .next t → Keeps s0 t :=
  fun _ ht => keeps_next ht (State.portMap_keeps h)

theorem execFundamentalReset_keeps {s0 : State} {x0 : Port} {s : State} (h : Keeps s0 s) :
    ∀ t, execFundamentalReset x0 s = .next t → Keeps s0 t :=
  fun _ ht => keeps_next ht (keeps_ite (State.linkDown_keeps (State.portReset_keeps h)) h)

theorem execHepCounterClear_keeps {s0 : State} {x0 : Word} {s : State} (h : Keeps s0 s) :
    ∀ t, execHepCounterClear x0 s = .next t → Keeps s0 t :=
  fun _ ht => keeps_next ht (State.hepCtlWrite_keeps h)

theorem execHotReset_keeps {s0 : State} {x0 : Port} {s : State} (h : Keeps s0 s) :
    ∀ t, execHotReset x0 s = .next t → Keeps s0 t :=
  fun _ ht => keeps_next ht (keeps_ite (State.linkDown_keeps (State.portReset_keeps h)) h)

theorem linkUpOp_keeps {s0 : State} {x0 : Port} {x1 : Nat} {x2 : Nat} {s : State} (h : Keeps s0 s) :
    Keeps s0 (linkUpOp x0 x1 x2 s) := by
  unfold linkUpOp
  extract_lets -underBinder +onlyGivenNames z1
  clear_value z1
  exact keeps_ite (State.fset_keeps (State.fset_keeps h)) h

theorem execLinkUp_keeps {s0 : State} {x0 : Port} {x1 : Nat} {x2 : Nat} {s : State} (h : Keeps s0 s) :
    ∀ t, execLinkUp x0 x1 x2 s = .next t → Keeps s0 t :=
  fun _ ht => keeps_next ht (linkUpOp_keeps h)

theorem execNormalShutdown_keeps {s0 : State} {x0 : Port} {s : State} (h : Keeps s0 s) :
    ∀ t, execNormalShutdown x0 s = .next t → Keeps s0 t :=
  fun _ ht => keeps_next ht (State.ccWrite_keeps h)

theorem pcieCompletionOp_keeps {s0 : State} {x0 : Port} {x1 : Nat} {x2 : PcieCpl} {s : State} (h : Keeps s0 s) :
    Keeps s0 (pcieCompletionOp x0 x1 x2 s) := by
  unfold pcieCompletionOp
  split
  · exact h
  · extract_lets -underBinder +onlyGivenNames z1
    have h2 : Keeps s0 z1 := State.portMap_keeps h
    clear_value z1
    refine keeps_ite ?_ ?_
    · exact State.raiseFault_keeps (State.count_keeps h2)
    · refine keeps_ite ?_ ?_
      · exact State.raiseFault_keeps (State.count_keeps (State.aer_keeps (State.aer_keeps h2)))
      · extract_lets -underBinder +onlyGivenNames z3
        have h4 : Keeps s0 z3 := by
          subst z3
          split
          · exact h2
          · exact State.endTransfer_keeps (State.aer_keeps h2)
          · exact State.endTransfer_keeps h2
        clear_value z3
        exact State.bmepUpdate_keeps (State.fetchPump_keeps h4)

theorem execPcieCompletion_keeps {s0 : State} {x0 : Port} {x1 : Nat} {x2 : PcieCpl} {s : State} (h : Keeps s0 s) :
    ∀ t, execPcieCompletion x0 x1 x2 s = .next t → Keeps s0 t :=
  fun _ ht => keeps_next ht (pcieCompletionOp_keeps h)

theorem execRead_keeps {s0 : State} {x0 : CmdHdr} {x1 : Nat} {x2 : Nat} {s : State} (h : Keeps s0 s) :
    ∀ t, execRead x0 x1 x2 s = .next t → Keeps s0 t :=
  fun _ ht => keeps_next ht (State.ioCommand_keeps h)

theorem execReportZones_keeps {s0 : State} {x0 : CmdHdr} {x1 : Nat} {x2 : Nat} {s : State} (h : Keeps s0 s) :
    ∀ t, execReportZones x0 x1 x2 s = .next t → Keeps s0 t :=
  fun _ ht => keeps_next ht (State.ioCommand_keeps h)

theorem execUnsupportedCommand_keeps {s0 : State} {x0 : CmdHdr} {x1 : Bool} {x2 : Nat} {s : State} (h : Keeps s0 s) :
    ∀ t, execUnsupportedCommand x0 x1 x2 s = .next t → Keeps s0 t :=
  fun _ ht => keeps_next ht (keeps_ite (State.adminDo_keeps (fun _ h2 => keeps_mk1 h2) h) (keeps_ite (State.complete_keeps h) h))

theorem execWrite_keeps {s0 : State} {x0 : CmdHdr} {x1 : Nat} {x2 : Nat} {x3 : Bool} {s : State} (h : Keeps s0 s) :
    ∀ t, execWrite x0 x1 x2 x3 s = .next t → Keeps s0 t :=
  fun _ ht => keeps_next ht (State.ioCommand_keeps h)

theorem execWriteZeroes_keeps {s0 : State} {x0 : CmdHdr} {x1 : Nat} {x2 : Nat} {s : State} (h : Keeps s0 s) :
    ∀ t, execWriteZeroes x0 x1 x2 s = .next t → Keeps s0 t :=
  fun _ ht => keeps_next ht (State.ioCommand_keeps h)

theorem execZoneAppend_keeps {s0 : State} {x0 : CmdHdr} {x1 : Nat} {x2 : Nat} {x3 : Bool} {s : State} (h : Keeps s0 s) :
    ∀ t, execZoneAppend x0 x1 x2 x3 s = .next t → Keeps s0 t :=
  fun _ ht => keeps_next ht (State.ioCommand_keeps h)

theorem execZoneClose_keeps {s0 : State} {x0 : CmdHdr} {x1 : Nat} {x2 : Bool} {s : State} (h : Keeps s0 s) :
    ∀ t, execZoneClose x0 x1 x2 s = .next t → Keeps s0 t :=
  fun _ ht => keeps_next ht (State.ioCommand_keeps h)

theorem execZoneFinish_keeps {s0 : State} {x0 : CmdHdr} {x1 : Nat} {x2 : Bool} {s : State} (h : Keeps s0 s) :
    ∀ t, execZoneFinish x0 x1 x2 s = .next t → Keeps s0 t :=
  fun _ ht => keeps_next ht (State.ioCommand_keeps h)

theorem execZoneOffline_keeps {s0 : State} {x0 : CmdHdr} {x1 : Nat} {x2 : Bool} {s : State} (h : Keeps s0 s) :
    ∀ t, execZoneOffline x0 x1 x2 s = .next t → Keeps s0 t :=
  fun _ ht => keeps_next ht (State.ioCommand_keeps h)

theorem execZoneOpen_keeps {s0 : State} {x0 : CmdHdr} {x1 : Nat} {x2 : Bool} {s : State} (h : Keeps s0 s) :
    ∀ t, execZoneOpen x0 x1 x2 s = .next t → Keeps s0 t :=
  fun _ ht => keeps_next ht (State.ioCommand_keeps h)

theorem execZoneReset_keeps {s0 : State} {x0 : CmdHdr} {x1 : Nat} {x2 : Bool} {s : State} (h : Keeps s0 s) :
    ∀ t, execZoneReset x0 x1 x2 s = .next t → Keeps s0 t :=
  fun _ ht => keeps_next ht (State.ioCommand_keeps h)

/-! Sec -/

theorem State.authFail_keeps {s0 : State} {s : State} {x1 : Bool} (h : Keeps s0 s) :
    Keeps s0 (State.authFail s x1) := by
  unfold State.authFail
  extract_lets -underBinder +onlyGivenNames z1
  clear_value z1
  extract_lets -underBinder +onlyGivenNames z2
  have h3 : Keeps s0 z2 := State.raiseEvent_keeps h
  clear_value z2
  refine keeps_ite ?_ ?_
  · exact h3
  · extract_lets -underBinder +onlyGivenNames z4
    have h5 : Keeps s0 z4 := keeps_ite (State.raiseFault_keeps h3) h3
    clear_value z4
    extract_lets -underBinder +onlyGivenNames z6
    have h7 : Keeps s0 z6 := State.fset_keeps h5
    clear_value z6
    exact keeps_ite (State.raiseFault_keeps h7) h7

theorem State.openStatus_keeps {s0 : State} {s : State} (h : Keeps s0 s) :
    Keeps s0 (State.openStatus s).2 :=
  keeps_mk2 (State.tick_keeps h)

theorem State.secStatus_keeps {s0 : State} {s : State} (h : Keeps s0 s) :
    Keeps s0 (State.secStatus s) := by
  unfold State.secStatus
  extract_lets -underBinder +onlyGivenNames z1
  clear_value z1
  exact State.fset_keeps (State.fset_keeps h)

theorem State.secMap_keeps {s0 : State} {s : State} {x1 : SecSt → SecSt} (h : Keeps s0 s) :
    Keeps s0 (State.secMap s x1) :=
  keeps_upd h rfl rfl rfl rfl rfl

theorem State.unwrap_keeps {s0 : State} {s : State} {x1 : Two} (h : Keeps s0 s) :
    Keeps s0 (State.unwrap s x1) := by
  unfold State.unwrap
  split
  · exact h
  · extract_lets -underBinder +onlyGivenNames z1
    have h2 : Keeps s0 z1 := keeps_ite (State.raiseEvent_keeps h) h
    clear_value z1
    exact State.secStatus_keeps (State.secMap_keeps h2)

theorem State.authOp_keeps {s0 : State} {s : State} {x1 : Nat} {x2 : Bool} (h : Keeps s0 s) :
    Keeps s0 (State.authOp s x1 x2).1 := by
  unfold State.authOp
  extract_lets -underBinder +onlyGivenNames z1
  have h2 : ∀ b0 b1, Keeps s0 b0 → Keeps s0 (z1 b0 b1).1 := fun _ _ k => State.openStatus_keeps (State.authFail_keeps k)
  clear_value z1
  refine keeps_ite_fst ?_ ?_
  · exact h2 _ _ h
  · refine keeps_ite_fst ?_ ?_
    · exact keeps_ite_fst (keeps_mk1 (State.fsetB_keeps h)) (h2 _ _ h)
    · split
      · exact keeps_mk1 h
      · exact keeps_ite_fst (h2 _ _ h) (keeps_mk1 (State.unwrap_keeps h))

theorem State.randomBytes_keeps {s0 : State} {s : State} {x1 : Nat} (h : Keeps s0 s) :
    Keeps s0 (State.randomBytes s x1).2 := by
  exact ⟨h.1, Nat.le_add_right_of_le h.2.1, h.2.2⟩

theorem State.credOp_keeps {s0 : State} {s : State} {x1 : Nat} {x2 : Bool} {x3 : Bool} (h : Keeps s0 s) :
    Keeps s0 (State.credOp s x1 x2 x3).1 := by
  unfold State.credOp
  refine keeps_ite_fst ?_ ?_
  · split
    · exact keeps_mk1 (keeps_snd (by assumption) (State.openStatus_keeps h))
  · refine keeps_ite_fst ?_ ?_
    · exact keeps_mk1 (State.secMap_keeps h)
    · split
      · exact keeps_mk1 h
      · split
        · split
          · exact keeps_mk1 (keeps_snd (by assumption) (State.openStatus_keeps h))
        · split
          · exact keeps_mk1 (State.secMap_keeps (keeps_snd (by assumption) (State.randomBytes_keeps h)))

theorem State.newKey_keeps {s0 : State} {s : State} {x1 : Two} (h : Keeps s0 s) :
    Keeps s0 (State.newKey s x1) := by
  unfold State.newKey
  split
  · split
    · extract_lets -underBinder +onlyGivenNames z1
      clear_value z1
      exact State.secMap_keeps (keeps_snd (by assumption) (State.randomBytes_keeps (keeps_snd (by assumption) (State.randomBytes_keeps h))))

theorem State.newSlot_keeps {s0 : State} {s : State} {x1 : Two} (h : Keeps s0 s) :
    Keeps s0 (State.newSlot s x1) :=
  State.secMap_keeps h

theorem State.unwriteNs_keeps {s0 : State} {s : State} {x1 : Two} (h : Keeps s0 s) :
    Keeps s0 (State.unwriteNs s x1) := by
  unfold State.unwriteNs
  split
  · extract_lets -underBinder +onlyGivenNames z1 z2
    clear_value z1 z2
    extract_lets -underBinder +onlyGivenNames z3
    have h4 : Keeps s0 z3 := State.leaveWindow_keeps h
    clear_value z3
    extract_lets -underBinder +onlyGivenNames z5
    have h6 : Keeps s0 z5 := State.cqeMap_keeps h4
    clear_value z5
    exact State.mediaDone_keeps (State.bufferSweep_keeps (State.vaultMap_keeps h6))
  · exact keeps_foldl (fun _ _ h9 => State.zoneClear_keeps h9) h

theorem State.cryptoErase_keeps {s0 : State} {s : State} {x1 : List Nat} {x2 : Bool} (h : Keeps s0 s) :
    Keeps s0 (State.cryptoErase s x1 x2) := by
  unfold State.cryptoErase
  extract_lets -underBinder +onlyGivenNames z1
  have h2 : Keeps s0 z1 := State.fsetB_keeps (State.secMap_keeps h)
  clear_value z1
  extract_lets -underBinder +onlyGivenNames z3
  have h4 : Keeps s0 z3 := keeps_foldl (fun _ _ h7 => State.newKey_keeps h7) h2
  clear_value z3
  extract_lets -underBinder +onlyGivenNames z8
  have h9 : Keeps s0 z8 := keeps_ite h2 (State.secMap_keeps (keeps_foldl (fun _ _ h12 => State.newSlot_keeps h12) h4))
  clear_value z8
  extract_lets -underBinder +onlyGivenNames z13
  have h14 : Keeps s0 z13 := keeps_foldl (fun _ _ h17 => State.unwriteNs_keeps h17) h9
  clear_value z13
  exact State.raiseEvent_keeps (State.secStatus_keeps (State.fsetB_keeps (State.secMap_keeps h14)))

theorem State.formatOp_keeps {s0 : State} {s : State} {x1 : Two} {x2 : Nat} {x3 : Nat} {x4 : Nat} {x5 : Nat} (h : Keeps s0 s) :
    Keeps s0 (State.formatOp s x1 x2 x3 x4 x5).1 := by
  unfold State.formatOp
  refine keeps_ite_fst ?_ ?_
  · exact keeps_mk1 h
  · extract_lets -underBinder +onlyGivenNames z1
    have h2 : Keeps s0 z1 := State.hepMap_keeps h
    clear_value z1
    extract_lets -underBinder +onlyGivenNames z3
    have h4 : Keeps s0 z3 := keeps_ite (State.cryptoErase_keeps h2) (State.unwriteNs_keeps h2)
    clear_value z3
    exact keeps_mk1 (State.asyncEvent_keeps h4)

theorem State.lockOp_keeps {s0 : State} {s : State} {x1 : Nat} (h : Keeps s0 s) :
    Keeps s0 (State.lockOp s x1).1 := by
  unfold State.lockOp
  split
  · exact keeps_mk1 h
  · exact keeps_mk1 (State.secStatus_keeps (State.secMap_keeps h))

theorem State.secDo_keeps {s0 : State} {s : State} {x1 : CmdHdr} {x2 : Nat} {x3 : FwdKind} {x4 : State → State × Nat} {x5 : State → List Byte} (x4k : ∀ t, Keeps s0 t → Keeps s0 (x4 t).1) (h : Keeps s0 s) :
    Keeps s0 (State.secDo s x1 x2 x3 x4 x5) :=
  State.adminDo_keeps (fun _ h2 => keeps_ite_fst (keeps_ite_fst (keeps_mk1 (State.forward_keeps h2)) (keeps_mk1 h2)) (x4k _ h2)) h

theorem State.svnWrite_keeps {s0 : State} {s : State} {x1 : Word} (h : Keeps s0 s) :
    Keeps s0 (State.svnWrite s x1) := by
  unfold State.svnWrite
  extract_lets -underBinder +onlyGivenNames z1
  clear_value z1
  exact keeps_ite h (State.vaultMap_keeps (State.fset_keeps h))

theorem debugChallengeOp_keeps {s0 : State} {s : State} (h : Keeps s0 s) :
    Keeps s0 (debugChallengeOp s) := by
  unfold debugChallengeOp
  refine keeps_ite ?_ ?_
  · exact h
  · split
    · exact State.secMap_keeps (keeps_snd (by assumption) (State.randomBytes_keeps h))

theorem debugResponseOp_keeps {s0 : State} {x0 : Bool} {s : State} (h : Keeps s0 s) :
    Keeps s0 (debugResponseOp x0 s) := by
  unfold debugResponseOp
  refine keeps_ite ?_ ?_
  · exact h
  · extract_lets -underBinder +onlyGivenNames z1
    have h2 : Keeps s0 z1 := State.secMap_keeps h
    clear_value z1
    refine keeps_ite ?_ ?_
    · exact State.secMap_keeps h2
    · extract_lets -underBinder +onlyGivenNames z3
      have h4 : Keeps s0 z3 := State.fset_keeps (State.fsetB_keeps h2)
      clear_value z3
      extract_lets -underBinder +onlyGivenNames z5
      have h6 : Keeps s0 z5 := State.secStatus_keeps (State.secMap_keeps h4)
      clear_value z5
      exact State.fsetB_keeps (State.raiseEvent_keeps (State.raiseFault_keeps h6))

theorem execAuthenticate_keeps {s0 : State} {x0 : CmdHdr} {x1 : Nat} {x2 : Bool} {s : State} (h : Keeps s0 s) :
    ∀ t, execAuthenticate x0 x1 x2 s = .next t → Keeps s0 t :=
  fun _ ht => keeps_next ht (State.secDo_keeps (fun _ h2 => State.authOp_keeps h2) h)

theorem execDebugChallenge_keeps {s0 : State} {s : State} (h : Keeps s0 s) :
    ∀ t, execDebugChallenge s = .next t → Keeps s0 t :=
  fun _ ht => keeps_next ht (debugChallengeOp_keeps h)

theorem execDebugResponse_keeps {s0 : State} {x0 : Bool} {s : State} (h : Keeps s0 s) :
    ∀ t, execDebugResponse x0 s = .next t → Keeps s0 t :=
  fun _ ht => keeps_next ht (debugResponseOp_keeps h)

theorem execFormatNvm_keeps {s0 : State} {x0 : CmdHdr} {x1 : Nat} {x2 : Nat} {x3 : Nat} {s : State} (h : Keeps s0 s) :
    ∀ t, execFormatNvm x0 x1 x2 x3 s = .next t → Keeps s0 t := by
  unfold execFormatNvm
  intro t ht
  refine keeps_next ht ?_
  clear ht
  refine State.adminDo_keeps ?_ ?_
  · intro y1 h2
    refine keeps_ite_fst ?_ ?_
    · exact keeps_mk1 (State.forward_keeps h2)
    · refine keeps_ite_fst ?_ ?_
      · exact keeps_mk1 h2
      · split
        · refine keeps_ite_fst ?_ ?_
          · split
            · exact keeps_mk1 (keeps_fst (by assumption) (State.formatOp_keeps h2))
          · exact keeps_mk1 h2
        · exact keeps_mk1 h2
  · exact h

theorem execLock_keeps {s0 : State} {x0 : CmdHdr} {x1 : Nat} {s : State} (h : Keeps s0 s) :
    ∀ t, execLock x0 x1 s = .next t → Keeps s0 t :=
  fun _ ht => keeps_next ht (State.secDo_keeps (fun _ h2 => State.lockOp_keeps h2) h)

theorem execSanitize_keeps {s0 : State} {x0 : CmdHdr} {s : State} (h : Keeps s0 s) :
    ∀ t, execSanitize x0 s = .next t → Keeps s0 t := by
  unfold execSanitize
  intro t ht
  refine keeps_next ht ?_
  clear ht
  refine State.adminDo_keeps ?_ ?_
  · intro y1 h2
    extract_lets -underBinder +onlyGivenNames z3
    have h4 : Keeps s0 z3 := State.cryptoErase_keeps h2
    clear_value z3
    exact keeps_ite_fst (keeps_mk1 (State.forward_keeps h4)) (keeps_mk1 h4)
  · exact h

theorem execSecurityProtocolDiscovery_keeps {s0 : State} {x0 : CmdHdr} {s : State} (h : Keeps s0 s) :
    ∀ t, execSecurityProtocolDiscovery x0 s = .next t → Keeps s0 t :=
  fun _ ht => keeps_next ht (State.adminDo_keeps (fun _ h2 => keeps_mk1 h2) h)

theorem execSecurityStatus_keeps {s0 : State} {x0 : CmdHdr} {s : State} (h : Keeps s0 s) :
    ∀ t, execSecurityStatus x0 s = .next t → Keeps s0 t :=
  fun _ ht => keeps_next ht (State.secDo_keeps (fun _ h2 => keeps_mk1 h2) h)

theorem execSetCredential_keeps {s0 : State} {x0 : CmdHdr} {x1 : Nat} {x2 : Bool} {x3 : Bool} {s : State} (h : Keeps s0 s) :
    ∀ t, execSetCredential x0 x1 x2 x3 s = .next t → Keeps s0 t :=
  fun _ ht => keeps_next ht (State.secDo_keeps (fun _ h2 => State.credOp_keeps h2) h)

theorem execSvnUpdate_keeps {s0 : State} {x0 : Word} {s : State} (h : Keeps s0 s) :
    ∀ t, execSvnUpdate x0 s = .next t → Keeps s0 t :=
  fun _ ht => keeps_next ht (State.svnWrite_keeps h)

/-! Admin -/

theorem State.commitOp_keeps {s0 : State} {s : State} {x1 : Nat} {x2 : Nat} (h : Keeps s0 s) :
    Keeps s0 (State.commitOp s x1 x2).1 := by
  unfold State.commitOp
  extract_lets -underBinder +onlyGivenNames z1
  clear_value z1
  exact keeps_ite_fst (keeps_mk1 h) (keeps_ite_fst (keeps_mk1 h) (keeps_mk1 (keeps_upd h rfl rfl rfl rfl rfl)))

theorem State.commitActivate_keeps {s0 : State} {s : State} {x1 : CmdHdr} {x2 : Nat} (h : Keeps s0 s) :
    Keeps s0 (State.commitActivate s x1 x2).1 := by
  unfold State.commitActivate
  split
  · exact keeps_ite_fst (keeps_mk1 (keeps_fst (by assumption) (State.commitOp_keeps h))) (keeps_mk1 (State.fwStart_keeps (State.cqeMap_keeps (keeps_fst (by assumption) (State.commitOp_keeps h)))))

theorem State.powerOp_keeps {s0 : State} {s : State} {x1 : Nat} (h : Keeps s0 s) :
    Keeps s0 (State.powerOp s x1).1 := by
  unfold State.powerOp
  refine keeps_ite_fst ?_ ?_
  · exact keeps_mk1 h
  · refine keeps_ite_fst ?_ ?_
    · exact keeps_ite_fst (keeps_mk1 h) (keeps_mk1 (State.entryStart_keeps h))
    · extract_lets -underBinder +onlyGivenNames z1
      clear_value z1
      extract_lets -underBinder +onlyGivenNames z2
      have h3 : Keeps s0 z2 := State.ceilingUpdate_keeps (State.pwrMap_keeps h)
      clear_value z2
      extract_lets -underBinder +onlyGivenNames z4
      have h5 : Keeps s0 z4 := State.targetAsk_keeps h3
      clear_value z4
      extract_lets -underBinder +onlyGivenNames z6
      have h7 : Keeps s0 z6 := State.cqeMap_keeps h5
      clear_value z6
      exact keeps_ite_fst (keeps_ite_fst (keeps_mk1 (State.fset_keeps (State.entryAbandon_keeps h7))) (keeps_mk1 (State.cqeMap_keeps h7))) (keeps_ite_fst (keeps_mk1 (State.returnStart_keeps h7)) (keeps_mk1 (State.fset_keeps h7)))

theorem State.timestampOp_keeps {s0 : State} {s : State} {x1 : Nat} (h : Keeps s0 s) :
    Keeps s0 (State.timestampOp s x1) := by
  unfold State.timestampOp
  extract_lets -underBinder +onlyGivenNames z1
  clear_value z1
  exact State.wideSet_keeps (State.hepMap_keeps h)

theorem State.hctmOp_keeps {s0 : State} {s : State} {x1 : Nat} {x2 : Nat} (h : Keeps s0 s) :
    Keeps s0 (State.hctmOp s x1 x2).1 :=
  keeps_ite_fst (keeps_mk1 h) (keeps_mk1 (State.hctmUpdate_keeps (State.hepMap_keeps h)))

theorem State.featureOp_keeps {s0 : State} {s : State} {x1 : CmdHdr} {x2 : Nat} {x3 : Word} (h : Keeps s0 s) :
    Keeps s0 (State.featureOp s x1 x2 x3).1 := by
  unfold State.featureOp
  extract_lets -underBinder +onlyGivenNames z1
  have h2 : ∀ b0, Keeps s0 (z1 b0).1 := fun _ => keeps_mk1 (State.portMap_keeps h)
  clear_value z1
  refine keeps_ite_fst ?_ ?_
  · exact h2 _
  · refine keeps_ite_fst ?_ ?_
    · split
      · exact keeps_mk1 (keeps_fst (by assumption) (State.powerOp_keeps h))
    · refine keeps_ite_fst ?_ ?_
      · exact keeps_ite_fst (keeps_mk1 h) (keeps_mk1 (State.warnUpdate_keeps (State.hepMap_keeps h)))
      · refine keeps_ite_fst ?_ ?_
        · exact keeps_ite_fst (keeps_mk1 h) (keeps_ite_fst (keeps_mk1 h) (keeps_mk1 h))
        · refine keeps_ite_fst ?_ ?_
          · exact h2 _
          · refine keeps_ite_fst ?_ ?_
            · exact keeps_ite_fst (keeps_mk1 h) (h2 _)
            · refine keeps_ite_fst ?_ ?_
              · exact keeps_mk1 (State.timestampOp_keeps h)
              · refine keeps_ite_fst ?_ ?_
                · split
                  · exact keeps_mk1 (keeps_fst (by assumption) (State.hctmOp_keeps h))
                · exact keeps_mk1 h

theorem State.logPage_keeps {s0 : State} {s : State} {x1 : CmdHdr} {x2 : Nat} (h : Keeps s0 s) :
    Keeps s0 (State.logPage s x1 x2).1 :=
  keeps_ite_fst (keeps_mk1 (State.tick_keeps h)) (keeps_ite_fst (keeps_mk1 (State.tick_keeps h)) (keeps_ite_fst (keeps_mk1 h) (keeps_ite_fst (keeps_mk1 (State.hepMap_keeps h)) (keeps_ite_fst (keeps_mk1 h) (keeps_ite_fst (keeps_mk1 h) (keeps_ite_fst (keeps_mk1 h) (keeps_ite_fst (keeps_mk1 (State.hepMap_keeps h)) (keeps_ite_fst (keeps_mk1 h) (keeps_ite_fst (keeps_mk1 h) (keeps_ite_fst (keeps_mk1 h) (keeps_mk1 h)))))))))))

theorem State.logDo_keeps {s0 : State} {s : State} {x1 : CmdHdr} {x2 : Nat} (h : Keeps s0 s) :
    Keeps s0 (State.logDo s x1 x2) := by
  unfold State.logDo
  refine State.adminDo_keeps ?_ ?_
  · intro y1 h2
    split
    · exact keeps_mk1 (keeps_fst (by assumption) (State.logPage_keeps h2))
  · exact h

theorem State.miAnswer_keeps {s0 : State} {s : State} {x1 : List Byte} (h : Keeps s0 s) :
    Keeps s0 (State.miAnswer s x1) :=
  State.hepMap_keeps h

theorem State.mctpDo_keeps {s0 : State} {s : State} {x1 : List Byte} (h : Keeps s0 s) :
    Keeps s0 (State.mctpDo s x1) :=
  keeps_ite (State.miAnswer_keeps h) h

theorem State.sqAbort_keeps {s0 : State} {s : State} {x1 : Port} {x2 : Sq} (h : Keeps s0 s) :
    Keeps s0 (State.sqAbort s x1 x2) := by
  unfold State.sqAbort
  extract_lets -underBinder +onlyGivenNames z1
  have h2 : Keeps s0 z1 := keeps_foldl (fun _ _ h5 => State.complete_keeps h5) h
  clear_value z1
  extract_lets -underBinder +onlyGivenNames z6
  clear_value z6
  extract_lets -underBinder +onlyGivenNames z7
  have h8 : Keeps s0 z7 := keeps_foldl (fun _ _ h11 => State.complete_keeps h11) h2
  clear_value z7
  exact State.resetSlots_keeps h8

theorem execAbort_keeps {s0 : State} {x0 : CmdHdr} {x1 : Nat} {x2 : Nat} {s : State} (h : Keeps s0 s) :
    ∀ t, execAbort x0 x1 x2 s = .next t → Keeps s0 t := by
  unfold execAbort
  intro t ht
  refine keeps_next ht ?_
  clear ht
  refine State.adminDo_keeps ?_ ?_
  · intro y1 h2
    split
    · extract_lets -underBinder +onlyGivenNames z3
      clear_value z3
      exact keeps_ite_fst (keeps_mk1 (State.finish_keeps (State.cancelReads_keeps h2))) (keeps_mk1 h2)
    · split
      · exact keeps_mk1 (State.sendPkt_keeps h2)
      · exact keeps_mk1 h2
  · exact h

theorem execAsynchronousEventRequest_keeps {s0 : State} {x0 : CmdHdr} {s : State} (h : Keeps s0 s) :
    ∀ t, execAsynchronousEventRequest x0 s = .next t → Keeps s0 t :=
  fun _ ht => keeps_next ht (State.adminDo_keeps (fun _ h2 => keeps_ite_fst (keeps_mk1 h2) (keeps_mk1 (State.aerPump_keeps (State.portMap_keeps h2)))) h)

theorem execBootStatusLog_keeps {s0 : State} {x0 : CmdHdr} {s : State} (h : Keeps s0 s) :
    ∀ t, execBootStatusLog x0 s = .next t → Keeps s0 t :=
  fun _ ht => keeps_next ht (State.logDo_keeps h)

theorem execConfigurationGet_keeps {s0 : State} {x0 : Nat} {s : State} (h : Keeps s0 s) :
    ∀ t, execConfigurationGet x0 s = .next t → Keeps s0 t :=
  fun _ ht => keeps_next ht (State.mctpDo_keeps h)

theorem execConfigurationSet_keeps {s0 : State} {x0 : Nat} {x1 : Word} {s : State} (h : Keeps s0 s) :
    ∀ t, execConfigurationSet x0 x1 s = .next t → Keeps s0 t :=
  fun _ ht => keeps_next ht (State.mctpDo_keeps (keeps_ite (State.hepMap_keeps h) h))

theorem execControllerHealthStatusPoll_keeps {s0 : State} {x0 : Port} {s : State} (h : Keeps s0 s) :
    ∀ t, execControllerHealthStatusPoll x0 s = .next t → Keeps s0 t :=
  fun _ ht => keeps_next ht (State.mctpDo_keeps h)

theorem execCreateIoCq_keeps {s0 : State} {x0 : CmdHdr} {x1 : Nat} {x2 : Nat} {x3 : Nat} {x4 : Bool} {s : State} (h : Keeps s0 s) :
    ∀ t, execCreateIoCq x0 x1 x2 x3 x4 s = .next t → Keeps s0 t := by
  unfold execCreateIoCq
  intro t ht
  refine keeps_next ht ?_
  clear ht
  refine State.adminDo_keeps ?_ ?_
  · intro y1 h2
    extract_lets -underBinder +onlyGivenNames z3 z4
    clear_value z3 z4
    exact keeps_mk1 (keeps_ite (State.portMap_keeps h2) h2)
  · exact h

theorem execCreateIoSq_keeps {s0 : State} {x0 : CmdHdr} {x1 : Nat} {x2 : Nat} {x3 : Nat} {x4 : Bool} {s : State} (h : Keeps s0 s) :
    ∀ t, execCreateIoSq x0 x1 x2 x3 x4 s = .next t → Keeps s0 t := by
  unfold execCreateIoSq
  intro t ht
  refine keeps_next ht ?_
  clear ht
  refine State.adminDo_keeps ?_ ?_
  · intro y1 h2
    extract_lets -underBinder +onlyGivenNames z3 z4 z5
    clear_value z3 z4 z5
    exact keeps_mk1 (keeps_ite (State.portMap_keeps h2) h2)
  · exact h

theorem execDeleteIoCq_keeps {s0 : State} {x0 : CmdHdr} {x1 : Nat} {s : State} (h : Keeps s0 s) :
    ∀ t, execDeleteIoCq x0 x1 s = .next t → Keeps s0 t := by
  unfold execDeleteIoCq
  intro t ht
  refine keeps_next ht ?_
  clear ht
  refine State.adminDo_keeps ?_ ?_
  · intro y1 h2
    extract_lets -underBinder +onlyGivenNames z3
    clear_value z3
    exact keeps_ite_fst (keeps_mk1 h2) (keeps_ite_fst (keeps_mk1 h2) (keeps_mk1 (State.portMap_keeps h2)))
  · exact h

theorem execDeleteIoSq_keeps {s0 : State} {x0 : CmdHdr} {x1 : Nat} {s : State} (h : Keeps s0 s) :
    ∀ t, execDeleteIoSq x0 x1 s = .next t → Keeps s0 t := by
  unfold execDeleteIoSq
  intro t ht
  refine keeps_next ht ?_
  clear ht
  refine State.adminDo_keeps ?_ ?_
  · intro y1 h2
    split
    · exact keeps_mk1 h2
    · exact keeps_mk1 (State.portMap_keeps (State.sqAbort_keeps h2))
  · exact h

theorem execDriveLifeLog_keeps {s0 : State} {x0 : CmdHdr} {s : State} (h : Keeps s0 s) :
    ∀ t, execDriveLifeLog x0 s = .next t → Keeps s0 t :=
  fun _ ht => keeps_next ht (State.logDo_keeps h)

theorem execFirmwareCommit_keeps {s0 : State} {x0 : CmdHdr} {x1 : Nat} {x2 : Nat} {s : State} (h : Keeps s0 s) :
    ∀ t, execFirmwareCommit x0 x1 x2 s = .next t → Keeps s0 t := by
  unfold execFirmwareCommit
  intro t ht
  refine keeps_next ht ?_
  clear ht
  refine State.adminDo_keeps ?_ ?_
  · intro y1 h2
    refine keeps_ite_fst ?_ ?_
    · exact keeps_mk1 h2
    · refine keeps_ite_fst ?_ ?_
      · exact State.commitActivate_keeps h2
      · split
        · exact keeps_mk1 (keeps_fst (by assumption) (State.commitOp_keeps h2))
  · exact h

theorem execFirmwareCommitActivate_keeps {s0 : State} {x0 : CmdHdr} {x1 : Nat} {s : State} (h : Keeps s0 s) :
    ∀ t, execFirmwareCommitActivate x0 x1 s = .next t → Keeps s0 t :=
  fun _ ht => keeps_next ht (State.adminDo_keeps (fun _ h2 => State.commitActivate_keeps h2) h)

theorem execFirmwareImageDownload_keeps {s0 : State} {x0 : CmdHdr} {x1 : SlotImage} {s : State} (h : Keeps s0 s) :
    ∀ t, execFirmwareImageDownload x0 x1 s = .next t → Keeps s0 t := by
  unfold execFirmwareImageDownload
  intro t ht
  refine keeps_next ht ?_
  clear ht
  refine State.adminDo_keeps ?_ ?_
  · intro y1 h2
    extract_lets -underBinder +onlyGivenNames z3
    clear_value z3
    extract_lets -underBinder +onlyGivenNames z4
    have h5 : Keeps s0 z4 := State.hepMap_keeps h2
    clear_value z4
    exact keeps_mk1 (keeps_upd h5 rfl rfl rfl rfl rfl)
  · exact h

theorem execGetFeatures_keeps {s0 : State} {x0 : CmdHdr} {x1 : Nat} {x2 : Word} {s : State} (h : Keeps s0 s) :
    ∀ t, execGetFeatures x0 x1 x2 s = .next t → Keeps s0 t :=
  fun _ ht => keeps_next ht (State.adminDo_keeps (fun _ h2 => keeps_mk1 h2) h)

theorem execGetLogPage_keeps {s0 : State} {x0 : CmdHdr} {x1 : Nat} {s : State} (h : Keeps s0 s) :
    ∀ t, execGetLogPage x0 x1 s = .next t → Keeps s0 t :=
  fun _ ht => keeps_next ht (State.logDo_keeps h)

theorem execGetTimestamp_keeps {s0 : State} {x0 : CmdHdr} {s : State} (h : Keeps s0 s) :
    ∀ t, execGetTimestamp x0 s = .next t → Keeps s0 t :=
  fun _ ht => keeps_next ht (State.adminDo_keeps (fun _ h2 => keeps_mk1 h2) h)

theorem execIdentify_keeps {s0 : State} {x0 : CmdHdr} {x1 : Nat} {s : State} (h : Keeps s0 s) :
    ∀ t, execIdentify x0 x1 s = .next t → Keeps s0 t :=
  fun _ ht => keeps_next ht (State.adminDo_keeps (fun _ h2 => keeps_mk1 h2) h)

theorem execMiBasicManagementRead_keeps {s0 : State} {s : State} (h : Keeps s0 s) :
    ∀ t, execMiBasicManagementRead s = .next t → Keeps s0 t :=
  fun _ ht => keeps_next ht (State.miAnswer_keeps h)

theorem execMiTunneledCommand_keeps {s0 : State} {x0 : Nat} {x1 : Nat} {s : State} (h : Keeps s0 s) :
    ∀ t, execMiTunneledCommand x0 x1 s = .next t → Keeps s0 t :=
  fun _ ht => keeps_next ht (State.mctpDo_keeps h)

theorem execMiUnsupportedRequest_keeps {s0 : State} {x0 : Nat} {s : State} (h : Keeps s0 s) :
    ∀ t, execMiUnsupportedRequest x0 s = .next t → Keeps s0 t :=
  fun _ ht => keeps_next ht (State.mctpDo_keeps h)

theorem execReadNvmeMiDataStructure_keeps {s0 : State} {x0 : Nat} {s : State} (h : Keeps s0 s) :
    ∀ t, execReadNvmeMiDataStructure x0 s = .next t → Keeps s0 t :=
  fun _ ht => keeps_next ht (State.mctpDo_keeps h)

theorem execSetFeatures_keeps {s0 : State} {x0 : CmdHdr} {x1 : Nat} {x2 : Word} {s : State} (h : Keeps s0 s) :
    ∀ t, execSetFeatures x0 x1 x2 s = .next t → Keeps s0 t := by
  unfold execSetFeatures
  intro t ht
  refine keeps_next ht ?_
  clear ht
  refine State.adminDo_keeps ?_ ?_
  · intro y1 h2
    split
    · exact keeps_mk1 (keeps_fst (by assumption) (State.featureOp_keeps h2))
  · exact h

theorem execSetPowerManagement_keeps {s0 : State} {x0 : CmdHdr} {x1 : Nat} {s : State} (h : Keeps s0 s) :
    ∀ t, execSetPowerManagement x0 x1 s = .next t → Keeps s0 t := by
  unfold execSetPowerManagement
  intro t ht
  refine keeps_next ht ?_
  clear ht
  refine State.adminDo_keeps ?_ ?_
  · intro y1 h2
    split
    · exact keeps_mk1 (keeps_fst (by assumption) (State.powerOp_keeps h2))
  · exact h

theorem execSetThermalManagement_keeps {s0 : State} {x0 : CmdHdr} {x1 : Nat} {x2 : Nat} {s : State} (h : Keeps s0 s) :
    ∀ t, execSetThermalManagement x0 x1 x2 s = .next t → Keeps s0 t := by
  unfold execSetThermalManagement
  intro t ht
  refine keeps_next ht ?_
  clear ht
  refine State.adminDo_keeps ?_ ?_
  · intro y1 h2
    split
    · exact keeps_mk1 (keeps_fst (by assumption) (State.hctmOp_keeps h2))
  · exact h

theorem execSetTimestamp_keeps {s0 : State} {x0 : CmdHdr} {x1 : Nat} {s : State} (h : Keeps s0 s) :
    ∀ t, execSetTimestamp x0 x1 s = .next t → Keeps s0 t :=
  fun _ ht => keeps_next ht (State.adminDo_keeps (fun _ h2 => keeps_mk1 (State.timestampOp_keeps h2)) h)

theorem execSmartHealthLog_keeps {s0 : State} {x0 : CmdHdr} {s : State} (h : Keeps s0 s) :
    ∀ t, execSmartHealthLog x0 s = .next t → Keeps s0 t :=
  fun _ ht => keeps_next ht (State.logDo_keeps h)

theorem execStationBookLog_keeps {s0 : State} {x0 : CmdHdr} {x1 : Nat} {x2 : Nat} {s : State} (h : Keeps s0 s) :
    ∀ t, execStationBookLog x0 x1 x2 s = .next t → Keeps s0 t :=
  fun _ ht => keeps_next ht (State.adminDo_keeps (fun _ h2 => keeps_mk1 h2) h)

theorem execSubsystemHealthStatusPoll_keeps {s0 : State} {s : State} (h : Keeps s0 s) :
    ∀ t, execSubsystemHealthStatusPoll s = .next t → Keeps s0 t :=
  fun _ ht => keeps_next ht (State.mctpDo_keeps h)

end Sys2Proof.Machine
end

