-- ==== Sys2Proof/Laws/KeepsChip.lean ====
section
/-! SUPPORT. What the operations and meanings of Machine/Brl.lean, Machine/Glb.lean, Machine/Vendor.lean, Machine/Cluster.lean leave alone: `Keeps` (Laws/Keeps.lean) of each, in the order of
their files. -/
namespace Sys2Proof.Machine

/-! Brl -/

theorem State.handBackStart_keeps {s0 : State} {s : State} (h : Keeps s0 s) :
    Keeps s0 (State.handBackStart s) := by
  unfold State.handBackStart
  refine keeps_ite ?_ ?_
  · extract_lets -underBinder +onlyGivenNames z1
    have h2 : Keeps s0 z1 := State.anaUpdate_keeps (State.brlMap_keeps (State.fsetB_keeps h))
    clear_value z1
    exact State.ilRequest_keeps (State.ilRequest_keeps h2)
  · exact h

theorem State.brlCtlWrite_keeps {s0 : State} {s : State} {x1 : Word} (h : Keeps s0 s) :
    Keeps s0 (State.brlCtlWrite s x1) := by
  unfold State.brlCtlWrite
  extract_lets -underBinder +onlyGivenNames z1
  have h2 : Keeps s0 z1 := keeps_ite (State.clearCount_keeps (State.clearCount_keeps (State.clearCount_keeps h))) h
  clear_value z1
  extract_lets -underBinder +onlyGivenNames z3
  have h4 : Keeps s0 z3 := keeps_ite (keeps_ite (State.fsetB_keeps h2) (State.fset_keeps (State.fsetB_keeps h2))) h2
  clear_value z3
  extract_lets -underBinder +onlyGivenNames z5
  have h6 : Keeps s0 z5 := keeps_ite (State.handBackStart_keeps h4) h4
  clear_value z5
  exact keeps_ite (State.fence_keeps h6) h6

theorem State.rebuildPartner_keeps {s0 : State} {s : State} (h : Keeps s0 s) :
    Keeps s0 (State.rebuildPartner s) := by
  unfold State.rebuildPartner
  extract_lets -underBinder +onlyGivenNames z1 z2 z3
  clear_value z1 z2 z3
  extract_lets -underBinder +onlyGivenNames z4
  have h5 : Keeps s0 z4 := by
    subst z4
    refine keeps_foldl ?_ ?_
    · intro y6 y7 h8
      extract_lets -underBinder +onlyGivenNames z9
      clear_value z9
      exact keeps_ite (State.liveSlot_keeps h8) h8
    · exact h
  clear_value z4
  refine keeps_foldl ?_ ?_
  · intro y10 y11 h12
    split
    · extract_lets -underBinder +onlyGivenNames z13
      clear_value z13
      exact State.zneMap_keeps h12
    · exact h12
  · exact h5

theorem State.carryStart_keeps {s0 : State} {s : State} (h : Keeps s0 s) :
    Keeps s0 (State.carryStart s) := by
  unfold State.carryStart
  extract_lets -underBinder +onlyGivenNames z1
  have h2 : Keeps s0 z1 := State.fsetB_keeps (State.fsetB_keeps h)
  clear_value z1
  extract_lets -underBinder +onlyGivenNames z3
  clear_value z3
  extract_lets -underBinder +onlyGivenNames z4
  have h5 : Keeps s0 z4 := State.cqeMap_keeps h2
  clear_value z4
  extract_lets -underBinder +onlyGivenNames z6
  have h7 : Keeps s0 z6 := State.brlMap_keeps h5
  clear_value z6
  extract_lets -underBinder +onlyGivenNames z8
  have h9 : Keeps s0 z8 := State.rebuildPartner_keeps (keeps_foldl (fun _ _ h12 => State.restoreWp_keeps h12) h7)
  clear_value z8
  extract_lets -underBinder +onlyGivenNames z13
  clear_value z13
  extract_lets -underBinder +onlyGivenNames z14
  have h15 : Keeps s0 z14 := State.fset_keeps (State.fset_keeps h9)
  clear_value z14
  extract_lets -underBinder +onlyGivenNames z16
  clear_value z16
  extract_lets -underBinder +onlyGivenNames z17
  have h18 : Keeps s0 z17 := State.brlMap_keeps h15
  clear_value z17
  extract_lets -underBinder +onlyGivenNames z19
  have h20 : Keeps s0 z19 := keeps_foldl (fun _ _ h23 => State.complete_keeps h23) h18
  clear_value z19
  exact State.anaUpdate_keeps (State.raiseEvent_keeps (State.raiseFault_keeps (State.quiesce_keeps (State.winUpdate_keeps h20))))

theorem State.mirSync_keeps {s0 : State} {s : State} (h : Keeps s0 s) :
    Keeps s0 (State.mirSync s) :=
  keeps_ite h (State.brlMap_keeps (State.raiseEvent_keeps (State.fsetB_keeps h)))

theorem State.sendRecords_keeps {s0 : State} {s : State} {x1 : Nat} {x2 : Nat} (h : Keeps s0 s) :
    Keeps s0 (State.sendRecords s x1 x2) := by
  induction x1 generalizing s x2 with
  | zero =>
    unfold State.sendRecords
    exact h
  | succ n ih =>
    unfold State.sendRecords
    exact ih (State.sendPkt_keeps (State.brlMap_keeps h))

theorem State.copyRecords_keeps {s0 : State} {s : State} (h : Keeps s0 s) :
    Keeps s0 (State.copyRecords s) := by
  unfold State.copyRecords
  extract_lets -underBinder +onlyGivenNames z1
  clear_value z1
  exact keeps_ite (State.mirSync_keeps h) (State.sendRecords_keeps (State.brlMap_keeps h))

theorem State.copyStep_keeps {s0 : State} {s : State} (h : Keeps s0 s) :
    Keeps s0 (State.copyStep s) := by
  unfold State.copyStep
  split
  · exact h
  · refine keeps_ite ?_ ?_
    · exact State.sendPkt_keeps (State.brlMap_keeps h)
    · extract_lets -underBinder +onlyGivenNames z1
      have h2 : Keeps s0 z1 := State.brlMap_keeps h
      clear_value z1
      exact keeps_ite h2 (State.copyRecords_keeps h2)

theorem State.copyStart_keeps {s0 : State} {s : State} {x1 : Bool} (h : Keeps s0 s) :
    Keeps s0 (State.copyStart s x1) :=
  State.copyStep_keeps (State.brlMap_keeps h)

theorem State.dataTry_keeps {s0 : State} {s : State} (h : Keeps s0 s) :
    Keeps s0 (State.dataTry s) := by
  unfold State.dataTry
  refine keeps_foldl ?_ ?_
  · intro y1 y2 h3
    split
    · refine keeps_ite ?_ ?_
      · extract_lets -underBinder +onlyGivenNames z4
        clear_value z4
        exact State.dataArrived_keeps (State.brlMap_keeps h3)
      · exact h3
    · exact h3
  · exact h

theorem State.dropSet_keeps {s0 : State} {s : State} (h : Keeps s0 s) :
    Keeps s0 (State.dropSet s) := by
  unfold State.dropSet
  extract_lets -underBinder +onlyGivenNames z1
  have h2 : Keeps s0 z1 := State.zneMap_keeps h
  clear_value z1
  extract_lets -underBinder +onlyGivenNames z3
  have h4 : Keeps s0 z3 := State.steMap_keeps h2
  clear_value z3
  exact State.fset_keeps (State.fset_keeps h4)

theorem State.handStep_keeps {s0 : State} {s : State} {x1 : Nat} (h : Keeps s0 s) :
    Keeps s0 (State.handStep s x1) := by
  induction x1 generalizing s with
  | zero =>
    unfold State.handStep
    exact h
  | succ n ih =>
    unfold State.handStep
    split
    · exact h
    · exact keeps_ite h (ih (State.brlMap_keeps h))
    · exact keeps_ite h (ih (State.steMap_keeps (State.brlMap_keeps h)))
    · exact keeps_ite h (ih (State.copyStart_keeps (State.brlMap_keeps h)))
    · exact keeps_ite h (ih (State.brlMap_keeps h))
    · refine keeps_ite ?_ ?_
      · exact State.unloadIfMay_keeps (State.unloadIfMay_keeps h)
      · extract_lets -underBinder +onlyGivenNames z1
        have h2 : Keeps s0 z1 := State.fset_keeps (State.fsetB_keeps h)
        clear_value z1
        extract_lets -underBinder +onlyGivenNames z3
        clear_value z3
        extract_lets -underBinder +onlyGivenNames z4
        have h5 : Keeps s0 z4 := keeps_foldl (fun _ _ h8 => interlockReleaseOp_keeps h8) h2
        clear_value z4
        extract_lets -underBinder +onlyGivenNames z9
        have h10 : Keeps s0 z9 := State.fsetB_keeps (State.fsetB_keeps h5)
        clear_value z9
        extract_lets -underBinder +onlyGivenNames z11
        have h12 : Keeps s0 z11 := State.dropSet_keeps (State.brlMap_keeps h10)
        clear_value z11
        exact State.copyStart_keeps (State.anaUpdate_keeps (State.quiesce_keeps (State.raiseEvent_keeps h12)))

theorem State.kickWrite_keeps {s0 : State} {s : State} {x1 : Word} (h : Keeps s0 s) :
    Keeps s0 (State.kickWrite s x1) :=
  keeps_ite (State.brlMap_keeps h) h

theorem State.lateAnswer_keeps {s0 : State} {s : State} {x1 : Nat} (h : Keeps s0 s) :
    Keeps s0 (State.lateAnswer s x1) :=
  keeps_ite (State.raiseFault_keeps (State.count_keeps (State.brlMap_keeps h))) h

theorem State.linkFall_keeps {s0 : State} {s : State} (h : Keeps s0 s) :
    Keeps s0 (State.linkFall s) := by
  unfold State.linkFall
  refine keeps_ite ?_ ?_
  · exact h
  · extract_lets -underBinder +onlyGivenNames z1
    have h2 : Keeps s0 z1 := State.fsetB_keeps (State.fsetB_keeps h)
    clear_value z1
    extract_lets -underBinder +onlyGivenNames z3
    have h4 : Keeps s0 z3 := State.brlMap_keeps h2
    clear_value z3
    extract_lets -underBinder +onlyGivenNames z5
    have h6 : Keeps s0 z5 := keeps_ite (State.fsetB_keeps (State.fset_keeps h4)) h4
    clear_value z5
    exact State.anaUpdate_keeps (State.quiesce_keeps (State.raiseFault_keeps (State.raiseEvent_keeps h6)))

theorem State.silenceEnd_keeps {s0 : State} {s : State} (h : Keeps s0 s) :
    Keeps s0 (State.silenceEnd s) :=
  keeps_ite (State.anaUpdate_keeps (State.quiesce_keeps (State.fsetB_keeps h))) h

theorem State.onFrame_keeps {s0 : State} {s : State} {x1 : FrameIn} {x2 : State → State} (x2k : ∀ t, Keeps s0 t → Keeps s0 (x2 t)) (h : Keeps s0 s) :
    Keeps s0 (State.onFrame s x1 x2) :=
  keeps_ite h (keeps_ite (x2k _ (State.silenceEnd_keeps (State.brlMap_keeps h))) (State.count_keeps h))

theorem State.onXrdy_keeps {s0 : State} {s : State} {x1 : FrameIn} {x2 : State → State} (x2k : ∀ t, Keeps s0 t → Keeps s0 (x2 t)) (h : Keeps s0 s) :
    Keeps s0 (State.onXrdy s x1 x2) :=
  State.onFrame_keeps (fun _ h2 => keeps_ite (State.sendFrame_keeps h2) (x2k _ h2)) h

theorem State.partnerAccs_keeps {s0 : State} {s : State} {x1 : List SectorRead} (h : Keeps s0 s) :
    Keeps s0 (State.partnerAccs s x1) := by
  unfold State.partnerAccs
  extract_lets -underBinder +onlyGivenNames z1
  have h2 : Keeps s0 z1 := State.rebuildAccs_keeps (State.brlMap_keeps h)
  clear_value z1
  exact keeps_foldl (fun _ _ h5 => State.stripeAdd_keeps h5) h2

theorem State.portLost_keeps {s0 : State} {s : State} {x1 : Act} (h : Keeps s0 s) :
    Keeps s0 (State.portLost s x1) := by
  unfold State.portLost
  extract_lets -underBinder +onlyGivenNames z1
  clear_value z1
  extract_lets -underBinder +onlyGivenNames z2
  have h3 : Keeps s0 z2 := State.sacSet_keeps (State.fsetB_keeps (State.forceOff_keeps h))
  clear_value z2
  exact State.dac_keeps (State.sacEnter_keeps h3)

theorem State.steerWrite_keeps {s0 : State} {s : State} {x1 : Word} (h : Keeps s0 s) :
    Keeps s0 (State.steerWrite s x1) := by
  unfold State.steerWrite
  extract_lets -underBinder +onlyGivenNames z1
  have h2 : Keeps s0 z1 := keeps_ite (State.fsetB_keeps h) h
  clear_value z1
  extract_lets -underBinder +onlyGivenNames z3
  clear_value z3
  refine keeps_ite ?_ ?_
  · exact h2
  · extract_lets -underBinder +onlyGivenNames z4
    clear_value z4
    refine keeps_ite ?_ ?_
    · exact State.fsetB_keeps h2
    · extract_lets -underBinder +onlyGivenNames z5
      clear_value z5
      extract_lets -underBinder +onlyGivenNames z6
      have h7 : Keeps s0 z6 := State.fsetB_keeps (State.fsetB_keeps h2)
      clear_value z6
      exact keeps_ite (State.sacEnter_keeps (State.sacEnter_keeps h7)) h7

theorem ackOp_keeps {s0 : State} {x0 : Nat} {s : State} (h : Keeps s0 s) :
    Keeps s0 (ackOp x0 s) := by
  unfold ackOp
  split
  · exact State.lateAnswer_keeps h
  · extract_lets -underBinder +onlyGivenNames z1
    have h2 : Keeps s0 z1 := State.brlMap_keeps h
    clear_value z1
    split
    · exact keeps_ite (State.copyRecords_keeps h2) h2
    · exact State.earlyTry_keeps (State.slotMap_keeps h2)
    · exact h2

theorem branchLineLinkLossOp_keeps {s0 : State} {s : State} (h : Keeps s0 s) :
    Keeps s0 (branchLineLinkLossOp s) :=
  keeps_ite (State.raiseFault_keeps (State.linkFall_keeps h)) h

theorem execAck_keeps {s0 : State} {x0 : FrameIn} {s : State} (h : Keeps s0 s) :
    ∀ t, execAck x0 s = .next t → Keeps s0 t :=
  fun _ ht => keeps_next ht (State.onFrame_keeps (fun _ h2 => ackOp_keeps h2) h)

theorem execBranchLineEnable_keeps {s0 : State} {x0 : Word} {s : State} (h : Keeps s0 s) :
    ∀ t, execBranchLineEnable x0 s = .next t → Keeps s0 t :=
  fun _ ht => keeps_next ht (State.brlCtlWrite_keeps h)

theorem execBranchLineLinkLoss_keeps {s0 : State} {s : State} (h : Keeps s0 s) :
    ∀ t, execBranchLineLinkLoss s = .next t → Keeps s0 t :=
  fun _ ht => keeps_next ht (branchLineLinkLossOp_keeps h)

theorem execBrlCounterClear_keeps {s0 : State} {x0 : Word} {s : State} (h : Keeps s0 s) :
    ∀ t, execBrlCounterClear x0 s = .next t → Keeps s0 t :=
  fun _ ht => keeps_next ht (State.brlCtlWrite_keeps h)

theorem fcplOp_keeps {s0 : State} {x0 : Nat} {x1 : Nat} {x2 : Nat} {s : State} (h : Keeps s0 s) :
    Keeps s0 (fcplOp x0 x1 x2 s) := by
  unfold fcplOp
  refine keeps_ite ?_ ?_
  · exact State.brlMap_keeps h
  · split
    · exact State.complete_keeps (State.brlMap_keeps h)
    · exact h

theorem execFcpl_keeps {s0 : State} {x0 : FrameIn} {x1 : Nat} {x2 : Nat} {x3 : Nat} {s : State} (h : Keeps s0 s) :
    ∀ t, execFcpl x0 x1 x2 x3 s = .next t → Keeps s0 t :=
  fun _ ht => keeps_next ht (State.onFrame_keeps (fun _ h2 => fcplOp_keeps h2) h)

theorem fctlOp_keeps {s0 : State} {x0 : FwdNotice} {s : State} (h : Keeps s0 s) :
    Keeps s0 (fctlOp x0 s) := by
  unfold fctlOp
  split
  · split
    · split
      · exact keeps_ite (State.finish_keeps (State.cancelReads_keeps h)) h
      · exact h
    · exact h
  · exact State.resetSlots_keeps h

theorem execFctl_keeps {s0 : State} {x0 : FrameIn} {x1 : FwdNotice} {s : State} (h : Keeps s0 s) :
    ∀ t, execFctl x0 x1 s = .next t → Keeps s0 t :=
  fun _ ht => keeps_next ht (State.onFrame_keeps (fun _ h2 => fctlOp_keeps h2) h)

theorem fdataOp_keeps {s0 : State} {x0 : Nat} {x1 : List Byte} {s : State} (h : Keeps s0 s) :
    Keeps s0 (fdataOp x0 x1 s) :=
  keeps_ite (State.brlMap_keeps h) (State.dataTry_keeps (State.brlMap_keeps h))

theorem execFdata_keeps {s0 : State} {x0 : FrameIn} {x1 : Nat} {x2 : List Byte} {s : State} (h : Keeps s0 s) :
    ∀ t, execFdata x0 x1 x2 s = .next t → Keeps s0 t :=
  fun _ ht => keeps_next ht (State.onXrdy_keeps (fun _ h2 => fdataOp_keeps h2) h)

theorem execFence_keeps {s0 : State} {x0 : Word} {s : State} (h : Keeps s0 s) :
    ∀ t, execFence x0 s = .next t → Keeps s0 t :=
  fun _ ht => keeps_next ht (State.brlCtlWrite_keeps h)

theorem execFencePacket_keeps {s0 : State} {x0 : FrameIn} {s : State} (h : Keeps s0 s) :
    ∀ t, execFencePacket x0 s = .next t → Keeps s0 t :=
  fun _ ht => keeps_next ht (State.onFrame_keeps (fun _ h2 => h2) h)

theorem execFltm_keeps {s0 : State} {x0 : FrameIn} {x1 : BitVec 64} {s : State} (h : Keeps s0 s) :
    ∀ t, execFltm x0 x1 s = .next t → Keeps s0 t :=
  fun _ ht => keeps_next ht (State.onFrame_keeps (fun _ h2 => h2) h)

theorem fwdOp_keeps {s0 : State} {x0 : FwdEntry} {s : State} (h : Keeps s0 s) :
    Keeps s0 (fwdOp x0 s) := by
  unfold fwdOp
  extract_lets -underBinder +onlyGivenNames z1
  clear_value z1
  split
  · exact keeps_ite (State.complete_keeps h) (keeps_ite (State.complete_keeps h) (State.admitCmd_keeps h))
  · split
    · split
      · exact State.complete_keeps (keeps_fst (by assumption) (State.formatOp_keeps h))
    · exact State.complete_keeps h
  · exact State.complete_keeps (State.cryptoErase_keeps h)
  · split
    · exact State.complete_keeps (keeps_fst (by assumption) (State.authOp_keeps h))
  · split
    · exact State.complete_keeps (keeps_fst (by assumption) (State.credOp_keeps h))
  · split
    · exact State.complete_keeps (keeps_fst (by assumption) (State.lockOp_keeps h))
  · exact State.complete_keeps h

theorem execFwd_keeps {s0 : State} {x0 : FrameIn} {x1 : FwdEntry} {s : State} (h : Keeps s0 s) :
    ∀ t, execFwd x0 x1 s = .next t → Keeps s0 t :=
  fun _ ht => keeps_next ht (State.onFrame_keeps (fun _ h2 => fwdOp_keeps h2) h)

theorem guardExpiryOp_keeps {s0 : State} {s : State} (h : Keeps s0 s) :
    Keeps s0 (guardExpiryOp s) := by
  unfold guardExpiryOp
  refine keeps_ite ?_ ?_
  · extract_lets -underBinder +onlyGivenNames z1 z2
    clear_value z1 z2
    exact State.anaUpdate_keeps (State.brlMap_keeps (State.fset_keeps h))
  · exact h

theorem execGuardExpiry_keeps {s0 : State} {s : State} (h : Keeps s0 s) :
    ∀ t, execGuardExpiry s = .next t → Keeps s0 t :=
  fun _ ht => keeps_next ht (guardExpiryOp_keeps h)

theorem execHandBack_keeps {s0 : State} {x0 : Word} {s : State} (h : Keeps s0 s) :
    ∀ t, execHandBack x0 s = .next t → Keeps s0 t :=
  fun _ ht => keeps_next ht (State.brlCtlWrite_keeps h)

theorem execHandBackEnd_keeps {s0 : State} {s : State} (h : Keeps s0 s) :
    ∀ t, execHandBackEnd s = .next t → Keeps s0 t :=
  fun _ ht => keeps_next ht (State.handStep_keeps h)

theorem handshakeTimeoutOp_keeps {s0 : State} {x0 : Nat} {s : State} (h : Keeps s0 s) :
    Keeps s0 (handshakeTimeoutOp x0 s) := by
  unfold handshakeTimeoutOp
  split
  · exact h
  · extract_lets -underBinder +onlyGivenNames z1
    have h2 : Keeps s0 z1 := State.count_keeps h
    clear_value z1
    refine keeps_ite ?_ ?_
    · extract_lets -underBinder +onlyGivenNames z3
      have h4 : Keeps s0 z3 := State.brlMap_keeps (State.linkFall_keeps h2)
      clear_value z3
      exact State.raiseFault_keeps h4
    · exact State.sendFrame_keeps (State.brlMap_keeps h2)

theorem execHandshakeTimeout_keeps {s0 : State} {x0 : Nat} {s : State} (h : Keeps s0 s) :
    ∀ t, execHandshakeTimeout x0 s = .next t → Keeps s0 t :=
  fun _ ht => keeps_next ht (handshakeTimeoutOp_keeps h)

theorem execHeartbeatEdge_keeps {s0 : State} {s : State} (h : Keeps s0 s) :
    ∀ t, execHeartbeatEdge s = .next t → Keeps s0 t :=
  fun _ ht => keeps_next ht (keeps_ite (State.silenceEnd_keeps (State.fsetB_keeps h)) h)

theorem execHeartbeatKick_keeps {s0 : State} {x0 : Word} {s : State} (h : Keeps s0 s) :
    ∀ t, execHeartbeatKick x0 s = .next t → Keeps s0 t :=
  fun _ ht => keeps_next ht (State.kickWrite_keeps h)

theorem heartbeatToggleOp_keeps {s0 : State} {x0 : Bool} {s : State} (h : Keeps s0 s) :
    Keeps s0 (heartbeatToggleOp x0 s) := by
  unfold heartbeatToggleOp
  refine keeps_ite ?_ ?_
  · extract_lets -underBinder +onlyGivenNames z1
    have h2 : Keeps s0 z1 := State.brlMap_keeps h
    clear_value z1
    exact keeps_ite (State.fence_keeps h2) h2
  · exact h

theorem execHeartbeatToggle_keeps {s0 : State} {x0 : Bool} {s : State} (h : Keeps s0 s) :
    ∀ t, execHeartbeatToggle x0 s = .next t → Keeps s0 t :=
  fun _ ht => keeps_next ht (heartbeatToggleOp_keeps h)

theorem helloOp_keeps {s0 : State} {x0 : Word} {x1 : Bool} {x2 : Angle} {s : State} (h : Keeps s0 s) :
    Keeps s0 (helloOp x0 x1 x2 s) := by
  unfold helloOp
  extract_lets -underBinder +onlyGivenNames z1
  have h2 : ∀ b0, Keeps s0 (z1 b0) := fun _ => State.raiseFault_keeps (State.fset_keeps h)
  clear_value z1
  refine keeps_ite ?_ ?_
  · exact h2 _
  · refine keeps_ite ?_ ?_
    · exact h2 _
    · extract_lets -underBinder +onlyGivenNames z4 z5 z6
      clear_value z4 z5 z6
      extract_lets -underBinder +onlyGivenNames z7
      have h8 : Keeps s0 z7 := keeps_ite h (keeps_upd h rfl rfl rfl rfl rfl)
      clear_value z7
      extract_lets -underBinder +onlyGivenNames z9
      have h10 : Keeps s0 z9 := State.anaUpdate_keeps (State.fset_keeps (State.fsetB_keeps h8))
      clear_value z9
      exact keeps_ite h10 (State.copyStart_keeps h10)

theorem execHello_keeps {s0 : State} {x0 : FrameIn} {x1 : Word} {x2 : Bool} {x3 : Word} {x4 : Word} {x5 : Angle} {s : State} (h : Keeps s0 s) :
    ∀ t, execHello x0 x1 x2 x3 x4 x5 s = .next t → Keeps s0 t :=
  fun _ ht => keeps_next ht (State.onFrame_keeps (fun _ h2 => helloOp_keeps h2) h)

theorem execIdle_keeps {s0 : State} {x0 : FrameIn} {s : State} (h : Keeps s0 s) :
    ∀ t, execIdle x0 s = .next t → Keeps s0 t :=
  fun _ ht => keeps_next ht (State.onFrame_keeps (fun _ h2 => h2) h)

theorem execIdleTimer_keeps {s0 : State} {s : State} (h : Keeps s0 s) :
    ∀ t, execIdleTimer s = .next t → Keeps s0 t :=
  fun _ ht => keeps_next ht (State.sendPkt_keeps h)

theorem execInvalidFrame_keeps {s0 : State} {x0 : FrameIn} {s : State} (h : Keeps s0 s) :
    ∀ t, execInvalidFrame x0 s = .next t → Keeps s0 t :=
  fun _ ht => keeps_next ht (State.onFrame_keeps (fun _ h2 => h2) h)

theorem jrecOp_keeps {s0 : State} {x0 : Word} {x1 : List Byte} {s : State} (h : Keeps s0 s) :
    Keeps s0 (jrecOp x0 x1 s) := by
  unfold jrecOp
  extract_lets -underBinder +onlyGivenNames z1
  clear_value z1
  exact State.sendFrame_keeps (State.applyRecord_keeps h)

theorem execJrec_keeps {s0 : State} {x0 : FrameIn} {x1 : List Byte} {s : State} (h : Keeps s0 s) :
    ∀ t, execJrec x0 x1 s = .next t → Keeps s0 t :=
  fun _ ht => keeps_next ht (State.onFrame_keeps (fun _ h2 => jrecOp_keeps h2) h)

theorem kickExpiryOp_keeps {s0 : State} {s : State} (h : Keeps s0 s) :
    Keeps s0 (kickExpiryOp s) :=
  keeps_ite (State.fence_keeps (State.brlMap_keeps h)) h

theorem execKickExpiry_keeps {s0 : State} {s : State} (h : Keeps s0 s) :
    ∀ t, execKickExpiry s = .next t → Keeps s0 t :=
  fun _ ht => keeps_next ht (kickExpiryOp_keeps h)

theorem linkTrainedOp_keeps {s0 : State} {x0 : Nat} {s : State} (h : Keeps s0 s) :
    Keeps s0 (linkTrainedOp x0 s) := by
  unfold linkTrainedOp
  refine keeps_ite ?_ ?_
  · extract_lets -underBinder +onlyGivenNames z1
    have h2 : Keeps s0 z1 := State.brlMap_keeps (State.raiseEvent_keeps (State.fset_keeps (State.fsetB_keeps h)))
    clear_value z1
    exact State.anaUpdate_keeps (State.quiesce_keeps (State.sendPkt_keeps h2))
  · exact h

theorem execLinkTrained_keeps {s0 : State} {x0 : Nat} {s : State} (h : Keeps s0 s) :
    ∀ t, execLinkTrained x0 s = .next t → Keeps s0 t :=
  fun _ ht => keeps_next ht (linkTrainedOp_keeps h)

theorem mdcopyOp_keeps {s0 : State} {x0 : Nat} {x1 : Nat} {x2 : List Byte} {s : State} (h : Keeps s0 s) :
    Keeps s0 (mdcopyOp x0 x1 x2 s) := by
  unfold mdcopyOp
  refine keeps_ite ?_ ?_
  · exact h
  · refine keeps_ite ?_ ?_
    · refine keeps_ite ?_ ?_
      · extract_lets -underBinder +onlyGivenNames z1
        have h2 : Keeps s0 z1 := State.setBytes_keeps h
        clear_value z1
        extract_lets -underBinder +onlyGivenNames z3
        have h4 : Keeps s0 z3 := State.vaultMap_keeps h2
        clear_value z3
        exact State.steMap_keeps (State.brlMap_keeps h4)
      · exact h
    · exact State.setBytes_keeps h

theorem execMdcopy_keeps {s0 : State} {x0 : FrameIn} {x1 : Nat} {x2 : Nat} {x3 : List Byte} {s : State} (h : Keeps s0 s) :
    ∀ t, execMdcopy x0 x1 x2 x3 s = .next t → Keeps s0 t :=
  fun _ ht => keeps_next ht (State.onXrdy_keeps (fun _ h2 => mdcopyOp_keeps h2) h)

theorem partnerHeartbeatLossOp_keeps {s0 : State} {s : State} (h : Keeps s0 s) :
    Keeps s0 (partnerHeartbeatLossOp s) :=
  keeps_ite (State.raiseFault_keeps (State.fsetB_keeps h)) h

theorem execPartnerHeartbeatLoss_keeps {s0 : State} {s : State} (h : Keeps s0 s) :
    ∀ t, execPartnerHeartbeatLoss s = .next t → Keeps s0 t :=
  fun _ ht => keeps_next ht (partnerHeartbeatLossOp_keeps h)

theorem partnerSilentOp_keeps {s0 : State} {s : State} (h : Keeps s0 s) :
    Keeps s0 (partnerSilentOp s) := by
  unfold partnerSilentOp
  refine keeps_ite ?_ ?_
  · extract_lets -underBinder +onlyGivenNames z1
    have h2 : Keeps s0 z1 := State.raiseEvent_keeps (State.fsetB_keeps (State.fsetB_keeps h))
    clear_value z1
    extract_lets -underBinder +onlyGivenNames z3
    have h4 : Keeps s0 z3 := State.anaUpdate_keeps (State.quiesce_keeps (State.raiseFault_keeps h2))
    clear_value z3
    exact keeps_ite h4 (State.unloadIfMay_keeps (State.unloadIfMay_keeps h4))
  · exact h

theorem execPartnerSilent_keeps {s0 : State} {s : State} (h : Keeps s0 s) :
    ∀ t, execPartnerSilent s = .next t → Keeps s0 t :=
  fun _ ht => keeps_next ht (partnerSilentOp_keeps h)

theorem spstOp_keeps {s0 : State} {x0 : Word} {x1 : Word} {x2 : Nat} {x3 : Nat} {x4 : Bool} {s : State} (h : Keeps s0 s) :
    Keeps s0 (spstOp x0 x1 x2 x3 x4 s) := by
  unfold spstOp
  refine keeps_ite ?_ ?_
  · exact h
  · extract_lets -underBinder +onlyGivenNames z1
    have h2 : Keeps s0 z1 := State.brlMap_keeps h
    clear_value z1
    refine keeps_ite ?_ ?_
    · exact State.targetSet_keeps (State.spcParked_keeps (State.brlMap_keeps h2))
    · extract_lets -underBinder +onlyGivenNames z3
      have h4 : Keeps s0 z3 := State.fset_keeps (State.fset_keeps (State.fset_keeps h2))
      clear_value z3
      exact State.ttbRate_keeps (State.inhUpdate_keeps (State.wr_keeps h4))

theorem execSpst_keeps {s0 : State} {x0 : FrameIn} {x1 : Word} {x2 : Word} {x3 : Nat} {x4 : Nat} {x5 : Bool} {s : State} (h : Keeps s0 s) :
    ∀ t, execSpst x0 x1 x2 x3 x4 x5 s = .next t → Keeps s0 t :=
  fun _ ht => keeps_next ht (State.onFrame_keeps (fun _ h2 => spstOp_keeps h2) h)

theorem execSteer_keeps {s0 : State} {x0 : Word} {s : State} (h : Keeps s0 s) :
    ∀ t, execSteer x0 s = .next t → Keeps s0 t :=
  fun _ ht => keeps_next ht (State.steerWrite_keeps h)

theorem steeringDoneOp_keeps {s0 : State} {x0 : List SectorRead} {s : State} (h : Keeps s0 s) :
    Keeps s0 (steeringDoneOp x0 s) := by
  unfold steeringDoneOp
  refine keeps_ite ?_ ?_
  · exact h
  · extract_lets -underBinder +onlyGivenNames z1
    clear_value z1
    extract_lets -underBinder +onlyGivenNames z2
    have h3 : Keeps s0 z2 := State.raiseEvent_keeps (State.fsetB_keeps h)
    clear_value z2
    extract_lets -underBinder +onlyGivenNames z4
    have h5 : ∀ b0 b1, Keeps s0 b0 → Keeps s0 (z4 b0 b1) := fun _ _ h8 => keeps_ite (State.sacEnter_keeps h8) h8
    clear_value z4
    extract_lets -underBinder +onlyGivenNames z9
    have h10 : Keeps s0 z9 := h5 _ _ (h5 _ _ h3)
    clear_value z9
    extract_lets -underBinder +onlyGivenNames z11
    have h12 : Keeps s0 z11 := keeps_ite (State.partnerAccs_keeps h10) (keeps_ite h10 (State.brlMap_keeps h10))
    clear_value z11
    exact State.permBoth_keeps (keeps_foldl (fun _ _ h15 => State.sendNext_keeps h15) h12)

theorem execSteeringDone_keeps {s0 : State} {x0 : List SectorRead} {s : State} (h : Keeps s0 s) :
    ∀ t, execSteeringDone x0 s = .next t → Keeps s0 t :=
  fun _ ht => keeps_next ht (steeringDoneOp_keeps h)

theorem syncOp_keeps {s0 : State} {x0 : Angle} {x1 : Angle} {s : State} (h : Keeps s0 s) :
    Keeps s0 (syncOp x0 x1 s) := by
  unfold syncOp
  refine keeps_ite ?_ ?_
  · exact h
  · extract_lets -underBinder +onlyGivenNames z1 z2 z3 z4 z5 z6
    clear_value z1 z2 z3 z4 z5 z6
    extract_lets -underBinder +onlyGivenNames z7
    have h8 : Keeps s0 z7 := keeps_upd h rfl rfl rfl rfl rfl
    clear_value z7
    extract_lets -underBinder +onlyGivenNames z9
    clear_value z9
    exact keeps_ite h8 (State.tick_keeps (State.sset_keeps h8))

theorem execSync_keeps {s0 : State} {x0 : FrameIn} {x1 : Angle} {x2 : Angle} {s : State} (h : Keeps s0 s) :
    ∀ t, execSync x0 x1 x2 s = .next t → Keeps s0 t :=
  fun _ ht => keeps_next ht (State.onFrame_keeps (fun _ h2 => syncOp_keeps h2) h)

theorem execSyncSend_keeps {s0 : State} {s : State} (h : Keeps s0 s) :
    ∀ t, execSyncSend s = .next t → Keeps s0 t :=
  fun _ ht => keeps_next ht (keeps_ite (State.sendSpst_keeps (State.sendPkt_keeps h)) h)

theorem tokenGainedOp_keeps {s0 : State} {x0 : TokenNet} {s : State} (h : Keeps s0 s) :
    Keeps s0 (tokenGainedOp x0 s) := by
  unfold tokenGainedOp
  extract_lets -underBinder +onlyGivenNames z1
  clear_value z1
  refine keeps_ite ?_ ?_
  · exact h
  · extract_lets -underBinder +onlyGivenNames z2
    have h3 : Keeps s0 z2 := State.fset_keeps h
    clear_value z2
    refine keeps_ite ?_ ?_
    · extract_lets -underBinder +onlyGivenNames z4
      have h5 : Keeps s0 z4 := State.henUpdate_keeps (State.inhUpdate_keeps (State.fsetB_keeps (State.fsetB_keeps h3)))
      clear_value z4
      exact keeps_ite (State.carryStart_keeps h5) h5
    · refine keeps_ite ?_ ?_
      · extract_lets -underBinder +onlyGivenNames z6
        have h7 : Keeps s0 z6 := State.permBoth_keeps (State.brlMap_keeps h3)
        clear_value z6
        exact keeps_ite (State.copyStart_keeps h7) h7
      · exact keeps_ite h3 (State.carryStart_keeps h3)

theorem execTokenGained_keeps {s0 : State} {x0 : TokenNet} {s : State} (h : Keeps s0 s) :
    ∀ t, execTokenGained x0 s = .next t → Keeps s0 t :=
  fun _ ht => keeps_next ht (tokenGainedOp_keeps h)

theorem tokenLostOp_keeps {s0 : State} {x0 : TokenNet} {s : State} (h : Keeps s0 s) :
    Keeps s0 (tokenLostOp x0 s) := by
  unfold tokenLostOp
  extract_lets -underBinder +onlyGivenNames z1
  clear_value z1
  refine keeps_ite ?_ ?_
  · exact h
  · extract_lets -underBinder +onlyGivenNames z2 z3
    clear_value z2 z3
    extract_lets -underBinder +onlyGivenNames z4
    have h5 : Keeps s0 z4 := State.fset_keeps h
    clear_value z4
    extract_lets -underBinder +onlyGivenNames z6
    have h7 : Keeps s0 z6 := keeps_ite (State.portLost_keeps (State.portLost_keeps h5)) h5
    clear_value z6
    extract_lets -underBinder +onlyGivenNames z8
    have h9 : Keeps s0 z8 := State.fsetB_keeps (State.bridgeSet_keeps (State.spcEnter_keeps h7))
    clear_value z8
    extract_lets -underBinder +onlyGivenNames z10
    clear_value z10
    extract_lets -underBinder +onlyGivenNames z11
    have h12 : Keeps s0 z11 := keeps_ite (State.inhUpdate_keeps (State.fsetB_keeps (keeps_upd h9 rfl rfl rfl rfl rfl))) h7
    clear_value z11
    extract_lets -underBinder +onlyGivenNames z13
    have h14 : Keeps s0 z13 := State.raiseEvent_keeps h12
    clear_value z13
    exact keeps_ite h14 (State.fence_keeps h14)

theorem execTokenLost_keeps {s0 : State} {x0 : TokenNet} {s : State} (h : Keeps s0 s) :
    ∀ t, execTokenLost x0 s = .next t → Keeps s0 t :=
  fun _ ht => keeps_next ht (tokenLostOp_keeps h)

theorem execTokenNetChange_keeps {s0 : State} {x0 : TokenNet} {x1 : Bool} {s : State} (h : Keeps s0 s) :
    ∀ t, execTokenNetChange x0 x1 s = .next t → Keeps s0 t :=
  fun _ ht => keeps_next ht (State.fset_keeps h)

theorem tokenWaitExpiryOp_keeps {s0 : State} {s : State} (h : Keeps s0 s) :
    Keeps s0 (tokenWaitExpiryOp s) := by
  unfold tokenWaitExpiryOp
  refine keeps_ite ?_ ?_
  · extract_lets -underBinder +onlyGivenNames z1
    have h2 : Keeps s0 z1 := State.brlMap_keeps (State.fset_keeps h)
    clear_value z1
    exact State.anaUpdate_keeps (State.raiseFault_keeps h2)
  · exact h

theorem execTokenWaitExpiry_keeps {s0 : State} {s : State} (h : Keeps s0 s) :
    ∀ t, execTokenWaitExpiry s = .next t → Keeps s0 t :=
  fun _ ht => keeps_next ht (tokenWaitExpiryOp_keeps h)

theorem winOp_keeps {s0 : State} {x0 : Word} {x1 : Nat} {x2 : Nat} {x3 : Nat} {x4 : List Byte} {s : State} (h : Keeps s0 s) :
    Keeps s0 (winOp x0 x1 x2 x3 x4 s) := by
  unfold winOp
  extract_lets -underBinder +onlyGivenNames z1
  clear_value z1
  exact State.sendFrame_keeps (State.brlMap_keeps h)

theorem execWin_keeps {s0 : State} {x0 : FrameIn} {x1 : Nat} {x2 : Nat} {x3 : Nat} {x4 : List Byte} {s : State} (h : Keeps s0 s) :
    ∀ t, execWin x0 x1 x2 x3 x4 s = .next t → Keeps s0 t :=
  fun _ ht => keeps_next ht (State.onXrdy_keeps (fun _ h2 => winOp_keeps h2) h)

theorem execWrel_keeps {s0 : State} {x0 : FrameIn} {x1 : List BlockId} {s : State} (h : Keeps s0 s) :
    ∀ t, execWrel x0 x1 s = .next t → Keeps s0 t :=
  fun _ ht => keeps_next ht (State.onFrame_keeps (fun _ h2 => State.brlMap_keeps h2) h)

theorem xrdyOp_keeps {s0 : State} {x0 : Nat} {s : State} (h : Keeps s0 s) :
    Keeps s0 (xrdyOp x0 s) := by
  unfold xrdyOp
  split
  · exact State.lateAnswer_keeps h
  · extract_lets -underBinder +onlyGivenNames z1
    have h2 : Keeps s0 z1 := State.sendFrame_keeps (State.brlMap_keeps h)
    clear_value z1
    split
    · exact State.copyStep_keeps h2
    · exact h2

theorem execXrdy_keeps {s0 : State} {x0 : FrameIn} {s : State} (h : Keeps s0 s) :
    ∀ t, execXrdy x0 s = .next t → Keeps s0 t :=
  fun _ ht => keeps_next ht (State.onFrame_keeps (fun _ h2 => xrdyOp_keeps h2) h)

/-! Glb -/

theorem State.bootStep_keeps {s0 : State} {s : State} {x1 : Nat} (h : Keeps s0 s) :
    Keeps s0 (State.bootStep s x1) :=
  State.fset_keeps h

theorem State.copySection_keeps {s0 : State} {s : State} {x1 : Section} (h : Keeps s0 s) :
    Keeps s0 (State.copySection s x1) := by
  unfold State.copySection
  split
  · exact keeps_ite (State.setBytes_keeps h) h
  · exact h

theorem State.flashPlaced_keeps {s0 : State} {s : State} {x1 : Option Flash} (h : Keeps s0 s) :
    Keeps s0 (State.flashPlaced s x1) := by
  unfold State.flashPlaced
  split
  · exact keeps_upd h rfl rfl rfl rfl rfl
  · exact h

theorem State.glbRstWrite_keeps {s0 : State} {s : State} {x1 : Word} (h : Keeps s0 s) :
    Keeps s0 (State.glbRstWrite s x1) :=
  keeps_ite (State.coreMap_keeps h) h

theorem State.haltMark_keeps {s0 : State} {s : State} {x1 : Act} (h : Keeps s0 s) :
    Keeps s0 (State.haltMark s x1) := by
  unfold State.haltMark
  refine keeps_ite ?_ ?_
  · exact h
  · extract_lets -underBinder +onlyGivenNames z1
    clear_value z1
    exact State.fsetB_keeps (State.fset_keeps h)

theorem State.keepRegs_keeps {s0 : State} {s : State} {x1 : State} {x2 : List Nat} (h : Keeps s0 s) :
    Keeps s0 (State.keepRegs s x1 x2) :=
  keeps_foldl (fun _ _ h3 => State.wr_keeps h3) h

theorem State.harvestKeep_keeps {s0 : State} {s : State} {x1 : State} {x2 : Nat} (h : Keeps s0 s) :
    Keeps s0 (State.harvestKeep s x1 x2) :=
  keeps_ite (State.keepRegs_keeps (keeps_upd h rfl rfl rfl rfl rfl)) h

theorem State.markWord_keeps {s0 : State} {s : State} (h : Keeps s0 s) :
    Keeps s0 (State.markWord s) := by
  unfold State.markWord
  extract_lets -underBinder +onlyGivenNames z1 z2
  clear_value z1 z2
  refine keeps_ite ?_ ?_
  · exact keeps_ite (State.hardWord_keeps h) h
  · refine keeps_ite ?_ ?_
    · refine keeps_ite ?_ ?_
      · exact h
      · refine keeps_ite ?_ ?_
        · extract_lets -underBinder +onlyGivenNames z3
          clear_value z3
          extract_lets -underBinder +onlyGivenNames z4
          have h5 : Keeps s0 z4 := State.vaultMap_keeps (keeps_free h)
          clear_value z4
          exact State.fset_keeps (State.putBytes_keeps (State.unbad_keeps h5))
        · exact State.raiseFault_keeps h
    · exact h

theorem State.pinMap_keeps {s0 : State} {s : State} {x1 : PinSt → PinSt} (h : Keeps s0 s) :
    Keeps s0 (State.pinMap s x1) :=
  keeps_upd h rfl rfl rfl rfl rfl

theorem State.resetStop_keeps {s0 : State} {s : State} {x1 : Act} (h : Keeps s0 s) :
    Keeps s0 (State.resetStop s x1) :=
  keeps_ite h (State.bufferStop_keeps h)

theorem State.vaultLoads_keeps {s0 : State} {s : State} (h : Keeps s0 s) :
    Keeps s0 (State.vaultLoads s) := by
  unfold State.vaultLoads
  extract_lets -underBinder +onlyGivenNames z1
  have h2 : Keeps s0 z1 := State.fset_keeps (State.wr_keeps (State.wr_keeps h))
  clear_value z1
  exact State.fset_keeps (State.bankMap_keeps (State.bokHead_keeps h2))

theorem State.sacKeep_keeps {s0 : State} {s : State} {x1 : State} {x2 : Act} (h : Keeps s0 s) :
    Keeps s0 (State.sacKeep s x1 x2) := by
  unfold State.sacKeep
  refine keeps_ite ?_ ?_
  · extract_lets -underBinder +onlyGivenNames z1
    clear_value z1
    extract_lets -underBinder +onlyGivenNames z2
    have h3 : Keeps s0 z2 := State.sacSet_keeps h
    clear_value z2
    extract_lets -underBinder +onlyGivenNames z4
    have h5 : Keeps s0 z4 := State.fsetB_keeps (State.fset_keeps h3)
    clear_value z4
    exact State.keepRegs_keeps (State.fsetB_keeps h5)
  · exact h

theorem State.restart_keeps {s0 : State} {s : State} {x1 : Nat} {x2 : Bool} (h : Keeps s0 s) :
    Keeps s0 (State.restart s x1 x2) := by
  have key : ∀ t, Keeps s0 t → Keeps s0 (((((if x2 then t else t.keepRegs s alwaysOn).fset F.GLB_CFG_STRAP
      (s.fget F.GLB_CFG_STRAP)).vaultLoads).sacKeep s .zero).sacKeep s .one) := fun t ht =>
    State.sacKeep_keeps (State.sacKeep_keeps (State.vaultLoads_keeps (State.fset_keeps (keeps_ite ht (State.keepRegs_keeps ht)))))
  exact key _ ⟨h.1, h.2.1, fun c => ⟨canon_filter _ _ _ (h.2.2 c).1, rfl, rfl⟩⟩

theorem State.slotPass_keeps {s0 : State} {s : State} {x1 : Nat} {x2 : SlotImage} (h : Keeps s0 s) :
    Keeps s0 (State.slotPass s x1 x2) := by
  unfold State.slotPass
  extract_lets -underBinder +onlyGivenNames z1 z2
  clear_value z1 z2
  extract_lets -underBinder +onlyGivenNames z3
  have h4 : Keeps s0 z3 := State.fset_keeps (State.fset_keeps h)
  clear_value z3
  extract_lets -underBinder +onlyGivenNames z5
  have h6 : Keeps s0 z5 := State.secMap_keeps h4
  clear_value z5
  extract_lets -underBinder +onlyGivenNames z7
  have h8 : Keeps s0 z7 := State.coreMap_keeps h6
  clear_value z7
  extract_lets -underBinder +onlyGivenNames z9
  have h10 : Keeps s0 z9 := State.fset_keeps (State.fset_keeps (State.fset_keeps h8))
  clear_value z9
  exact State.bootStep_keeps (State.wr_keeps h10)

theorem State.startFail_keeps {s0 : State} {s : State} {x1 : Nat} (h : Keeps s0 s) :
    Keeps s0 (State.startFail s x1) := by
  unfold State.startFail
  extract_lets -underBinder +onlyGivenNames z1
  have h2 : Keeps s0 z1 := State.raiseFault_keeps (State.fset_keeps h)
  clear_value z1
  extract_lets -underBinder +onlyGivenNames z3
  clear_value z3
  extract_lets -underBinder +onlyGivenNames z4
  have h5 : Keeps s0 z4 := keeps_upd h2 rfl rfl rfl rfl rfl
  clear_value z4
  exact State.coreMap_keeps (State.hepCtlWrite_keeps h5)

theorem State.startLoads_keeps {s0 : State} {s : State} (h : Keeps s0 s) :
    Keeps s0 (State.startLoads s) := by
  unfold State.startLoads
  extract_lets -underBinder +onlyGivenNames z1
  have h2 : Keeps s0 z1 := State.wideSet_keeps h
  clear_value z1
  extract_lets -underBinder +onlyGivenNames z3
  clear_value z3
  extract_lets -underBinder +onlyGivenNames z4
  have h5 : Keeps s0 z4 := State.fsetB_keeps (State.coreMap_keeps h2)
  clear_value z4
  extract_lets -underBinder +onlyGivenNames z6
  have h7 : ∀ b0 b1, Keeps s0 b0 → Keeps s0 (z6 b0 b1) := by
    subst z6
    intro y8 y9 h10
    beta_reduce
    split
    · exact keeps_ite (State.secMap_keeps h10) (State.unwrap_keeps h10)
    · exact h10
  clear_value z6
  extract_lets -underBinder +onlyGivenNames z11
  have h12 : Keeps s0 z11 := State.secStatus_keeps (h7 _ _ (h7 _ _ h5))
  clear_value z11
  split
  · exact State.cryptoErase_keeps h12
  · exact h12

theorem State.startRecord_keeps {s0 : State} {s : State} (h : Keeps s0 s) :
    Keeps s0 (State.startRecord s) := by
  unfold State.startRecord
  extract_lets -underBinder +onlyGivenNames z1
  have h2 : Keeps s0 z1 := State.vaultMap_keeps h
  clear_value z1
  extract_lets -underBinder +onlyGivenNames z3
  clear_value z3
  exact State.raiseFault_keeps (State.writeRecord_keeps h2)

theorem configLockOp_keeps {s0 : State} {s : State} (h : Keeps s0 s) :
    Keeps s0 (configLockOp s) :=
  keeps_ite h (State.readyTry_keeps (State.readyTry_keeps (State.permBoth_keeps (State.armUpdate_keeps (State.fsetB_keeps h)))))

theorem ddr5TrainingEndOp_keeps {s0 : State} {x0 : Bool} {x1 : Nat} {s : State} (h : Keeps s0 s) :
    Keeps s0 (ddr5TrainingEndOp x0 x1 s) := by
  unfold ddr5TrainingEndOp
  refine keeps_ite ?_ ?_
  · exact h
  · split
    · exact h
    · refine keeps_ite ?_ ?_
      · exact State.startFail_keeps h
      · extract_lets -underBinder +onlyGivenNames z1
        have h2 : Keeps s0 z1 := State.bootStep_keeps (State.msMap_keeps (State.fsetB_keeps h))
        clear_value z1
        exact keeps_ite (State.startFail_keeps h2) (keeps_ite (State.startFail_keeps h2) (State.bootStep_keeps (keeps_foldl (fun _ _ h5 => State.copySection_keeps h5) (State.bootStep_keeps h2))))

theorem deviceResetOp_keeps {s0 : State} {s : State} (h : Keeps s0 s) :
    Keeps s0 (deviceResetOp s) := by
  unfold deviceResetOp
  split
  · exact h
  · extract_lets -underBinder +onlyGivenNames z1
    have h2 : Keeps s0 z1 := State.resetStop_keeps (State.resetStop_keeps (State.haltMark_keeps (State.haltMark_keeps h)))
    clear_value z1
    exact State.harvestKeep_keeps (State.fsetB_keeps (State.restart_keeps h2))

theorem execBypass_keeps {s0 : State} {s : State} (h : Keeps s0 s) :
    ∀ t, execBypass s = .next t → Keeps s0 t :=
  fun _ ht => keeps_next ht (State.pinMap_keeps h)

theorem execClamp_keeps {s0 : State} {s : State} (h : Keeps s0 s) :
    ∀ t, execClamp s = .next t → Keeps s0 t :=
  fun _ ht => keeps_next ht (State.pinMap_keeps h)

theorem execConfigLock_keeps {s0 : State} {s : State} (h : Keeps s0 s) :
    ∀ t, execConfigLock s = .next t → Keeps s0 t :=
  fun _ ht => keeps_next ht (configLockOp_keeps h)

theorem execDdr5TrainingEnd_keeps {s0 : State} {x0 : Bool} {x1 : Nat} {s : State} (h : Keeps s0 s) :
    ∀ t, execDdr5TrainingEnd x0 x1 s = .next t → Keeps s0 t :=
  fun _ ht => keeps_next ht (ddr5TrainingEndOp_keeps h)

theorem execDeviceReset_keeps {s0 : State} {s : State} (h : Keeps s0 s) :
    ∀ t, execDeviceReset s = .next t → Keeps s0 t :=
  fun _ ht => keeps_next ht (deviceResetOp_keeps h)

theorem execExtest_keeps {s0 : State} {s : State} (h : Keeps s0 s) :
    ∀ t, execExtest s = .next t → Keeps s0 t :=
  fun _ ht => keeps_next ht (State.pinMap_keeps h)

theorem execGlbRstWrite_keeps {s0 : State} {x0 : Word} {s : State} (h : Keeps s0 s) :
    ∀ t, execGlbRstWrite x0 s = .next t → Keeps s0 t :=
  fun _ ht => keeps_next ht (State.glbRstWrite_keeps h)

theorem execHighz_keeps {s0 : State} {s : State} (h : Keeps s0 s) :
    ∀ t, execHighz s = .next t → Keeps s0 t :=
  fun _ ht => keeps_next ht (State.pinMap_keeps h)

theorem execIdcode_keeps {s0 : State} {s : State} (h : Keeps s0 s) :
    ∀ t, execIdcode s = .next t → Keeps s0 t :=
  fun _ ht => keeps_next ht (State.pinMap_keeps h)

theorem powerOnResetReleaseOp_keeps {s0 : State} {x0 : BitVec 3} {x1 : Bool} {s : State} (h : Keeps s0 s) :
    Keeps s0 (powerOnResetReleaseOp x0 x1 s) :=
  keeps_ite h (State.fset_keeps (State.restart_keeps h))

theorem execPowerOnResetRelease_keeps {s0 : State} {x0 : BitVec 3} {x1 : Bool} {s : State} (h : Keeps s0 s) :
    ∀ t, execPowerOnResetRelease x0 x1 s = .next t → Keeps s0 t :=
  fun _ ht => keeps_next ht (powerOnResetReleaseOp_keeps h)

theorem execSamplePreload_keeps {s0 : State} {x0 : Cells} {s : State} (h : Keeps s0 s) :
    ∀ t, execSamplePreload x0 s = .next t → Keeps s0 t :=
  fun _ ht => keeps_next ht (State.pinMap_keeps h)

theorem startOp_keeps {s0 : State} {x0 : Option Flash} {s : State} (h : Keeps s0 s) :
    Keeps s0 (startOp x0 s) := by
  unfold startOp
  refine keeps_ite ?_ ?_
  · exact h
  · extract_lets -underBinder +onlyGivenNames z1
    have h2 : Keeps s0 z1 := State.bootStep_keeps (State.startLoads_keeps (State.startRecord_keeps (State.markWord_keeps (State.vaultLoads_keeps h))))
    clear_value z1
    extract_lets -underBinder +onlyGivenNames z3
    clear_value z3
    refine keeps_ite ?_ ?_
    · exact h2
    · extract_lets -underBinder +onlyGivenNames z4
      have h5 : Keeps s0 z4 := State.bootStep_keeps (State.flashPlaced_keeps h2)
      clear_value z4
      split
      · exact State.startFail_keeps h5
      · refine keeps_ite ?_ ?_
        · exact State.startFail_keeps h5
        · extract_lets -underBinder +onlyGivenNames z6
          have h7 : Keeps s0 z6 := State.bootStep_keeps h5
          clear_value z6
          extract_lets -underBinder +onlyGivenNames z8 z9
          clear_value z8 z9
          split
          · exact State.slotPass_keeps h7
          · refine keeps_ite ?_ ?_
            · exact State.startFail_keeps h7
            · extract_lets -underBinder +onlyGivenNames z10
              clear_value z10
              split
              · exact State.slotPass_keeps (State.raiseFault_keeps (State.fsetB_keeps h7))
              · exact State.startFail_keeps h7

theorem execStart_keeps {s0 : State} {x0 : Option Flash} {s : State} (h : Keeps s0 s) :
    ∀ t, execStart x0 s = .next t → Keeps s0 t :=
  fun _ ht => keeps_next ht (startOp_keeps h)

/-! Vendor -/

theorem State.codeWrite_keeps {s0 : State} {s : State} {x1 : Nat} {x2 : Word} (h : Keeps s0 s) :
    Keeps s0 (State.codeWrite s x1 x2) := by
  unfold State.codeWrite
  split
  · exact h
  · extract_lets -underBinder +onlyGivenNames z1 z2 z3
    clear_value z1 z2 z3
    exact State.wr_keeps h

theorem State.ascWrite_keeps {s0 : State} {s : State} {x1 : Nat} {x2 : Word} (h : Keeps s0 s) :
    Keeps s0 (State.ascWrite s x1 x2) :=
  keeps_ite (State.ascCtlWrite_keeps h) (keeps_ite (State.ascCctlWrite_keeps h) (keeps_ite (State.calCtlWrite_keeps h) (keeps_ite (State.calBufWrite_keeps h) (State.codeWrite_keeps h))))

theorem State.read32_keeps {s0 : State} {s : State} {x1 : Nat} (h : Keeps s0 s) :
    Keeps s0 (State.read32 s x1).2 := by
  unfold State.read32
  refine keeps_ite_snd ?_ ?_
  · exact State.takeMessage_keeps h
  · refine keeps_ite_snd ?_ ?_
    · extract_lets -underBinder +onlyGivenNames z1
      have h2 : Keeps s0 z1 := State.ilCapture_keeps h
      clear_value z1
      exact keeps_mk2 h2
    · refine keeps_ite_snd ?_ ?_
      · exact keeps_mk2 (keeps_upd h rfl rfl rfl rfl rfl)
      · refine keeps_ite_snd ?_ ?_
        · split
          · exact keeps_mk2 (keeps_upd h rfl rfl rfl rfl rfl)
          · exact keeps_mk2 h
        · exact keeps_mk2 h

theorem State.busRead_keeps {s0 : State} {s : State} {x1 : Nat} (h : Keeps s0 s) :
    Keeps s0 (State.busRead s x1).2 := by
  unfold State.busRead
  split
  · exact keeps_mk2 h
  · exact State.read32_keeps h

theorem State.hostWrite_keeps {s0 : State} {s : State} {x1 : Nat} {x2 : Word} (h : Keeps s0 s) :
    Keeps s0 (State.hostWrite s x1 x2) :=
  keeps_ite (State.hepCtlWrite_keeps h) (keeps_ite h (keeps_ite (State.cqeCtlWrite_keeps h) (keeps_ite (State.psctlWrite_keeps h) (keeps_ite (State.fwaWrite_keeps h) (keeps_ite (State.earlyUpdate_keeps (State.codeWrite_keeps h)) (State.codeWrite_keeps h))))))

theorem State.zneSteWrite_keeps {s0 : State} {s : State} {x1 : Nat} {x2 : Word} (h : Keeps s0 s) :
    Keeps s0 (State.zneSteWrite s x1 x2) :=
  keeps_ite (State.zneCtlWrite_keeps h) (keeps_ite (State.spaddWrite_keeps h) (keeps_ite (State.steCtlWrite_keeps h) (keeps_ite (State.retireWrite_keeps h) (keeps_ite (State.rctlWrite_keeps h) (State.codeWrite_keeps h)))))

theorem State.memWrite_keeps {s0 : State} {s : State} {x1 : Nat} {x2 : Word} (h : Keeps s0 s) :
    Keeps s0 (State.memWrite s x1 x2) :=
  keeps_ite (State.memCtlWrite_keeps h) (keeps_ite (State.scrctlWrite_keeps h) (keeps_ite (State.memTestWrite_keeps h) (keeps_ite (State.mccCtlWrite_keeps h) (keeps_ite (State.mccOpWrite_keeps h) (State.codeWrite_keeps h)))))

theorem State.ttbWrite_keeps {s0 : State} {s : State} {x1 : Nat} {x2 : Word} (h : Keeps s0 s) :
    Keeps s0 (State.ttbWrite s x1 x2) :=
  keeps_ite (State.ttbCtlWrite_keeps h) (keeps_ite (State.ttbSnapWrite_keeps h) (keeps_ite (State.slotCtlWrite_keeps h) (State.codeWrite_keeps h)))

theorem State.spcWrite_keeps {s0 : State} {s : State} {x1 : Nat} {x2 : Word} (h : Keeps s0 s) :
    Keeps s0 (State.spcWrite s x1 x2) := by
  unfold State.spcWrite
  refine keeps_ite ?_ ?_
  · exact State.spcCtlWrite_keeps h
  · refine keeps_ite ?_ ?_
    · exact State.targetWrite_keeps h
    · refine keeps_ite ?_ ?_
      · extract_lets -underBinder +onlyGivenNames z1
        have h2 : Keeps s0 z1 := State.codeWrite_keeps h
        clear_value z1
        exact keeps_upd h2 rfl rfl rfl rfl rfl
      · exact State.codeWrite_keeps h

theorem State.sacWrite_keeps {s0 : State} {s : State} {x1 : Act} {x2 : Nat} {x3 : Word} (h : Keeps s0 s) :
    Keeps s0 (State.sacWrite s x1 x2 x3) := by
  unfold State.sacWrite
  refine keeps_ite ?_ ?_
  · exact State.sacCtlWrite_keeps h
  · refine keeps_ite ?_ ?_
    · exact State.sacCmdWrite_keeps h
    · refine keeps_ite ?_ ?_
      · exact State.sacCctlWrite_keeps h
      · extract_lets -underBinder +onlyGivenNames z1
        have h2 : Keeps s0 z1 := State.permUpdate_keeps (State.codeWrite_keeps h)
        clear_value z1
        exact keeps_ite (State.dac_keeps h2) h2

theorem State.msqWrite_keeps {s0 : State} {s : State} {x1 : Act} {x2 : Nat} {x3 : Word} (h : Keeps s0 s) :
    Keeps s0 (State.msqWrite s x1 x2 x3) :=
  keeps_ite (State.msqCtlWrite_keeps h) (keeps_ite (State.opsubWrite_keeps h) (keeps_ite (State.cplpopWrite_keeps h) (keeps_ite (State.pldctlWrite_keeps h) (State.codeWrite_keeps h))))

theorem State.rwcWrite_keeps {s0 : State} {s : State} {x1 : Act} {x2 : Nat} {x3 : Word} (h : Keeps s0 s) :
    Keeps s0 (State.rwcWrite s x1 x2 x3) :=
  keeps_ite (State.rwcCtlWrite_keeps h) (keeps_ite (State.pscmdWrite_keeps h) (State.codeWrite_keeps h))

theorem State.pwrBrlWrite_keeps {s0 : State} {s : State} {x1 : Nat} {x2 : Word} (h : Keeps s0 s) :
    Keeps s0 (State.pwrBrlWrite s x1 x2) :=
  keeps_ite (State.pwrCtlWrite_keeps h) (keeps_ite (State.coreOffWrite_keeps h) (keeps_ite (State.armUpdate_keeps (State.codeWrite_keeps h)) (keeps_ite (State.brlCtlWrite_keeps h) (keeps_ite (State.kickWrite_keeps h) (keeps_ite (State.steerWrite_keeps h) (State.codeWrite_keeps h))))))

theorem State.safetyWrite_keeps {s0 : State} {s : State} {x1 : Nat} {x2 : Word} (h : Keeps s0 s) :
    Keeps s0 (State.safetyWrite s x1 x2) :=
  keeps_ite (State.fltCtlWrite_keeps h) (keeps_ite (State.unlockWrite_keeps h) (keeps_ite (State.forceWrite_keeps h) (keeps_ite (State.codeWrite_keeps (State.fltTouched_keeps h)) (keeps_ite (State.swsetWrite_keeps h) (keeps_ite (State.routeWrite_keeps h) (keeps_ite (State.bokCtlWrite_keeps h) (keeps_ite (State.fwrecWrite_keeps h) (keeps_ite (State.svnWrite_keeps h) (State.codeWrite_keeps h)))))))))

theorem State.write32_keeps {s0 : State} {s : State} {x1 : Nat} {x2 : Word} (h : Keeps s0 s) :
    Keeps s0 (State.write32 s x1 x2) := by
  unfold State.write32
  split
  · exact keeps_ite (keeps_ite (configLockOp_keeps h) h) (keeps_ite (State.glbRstWrite_keeps h) h)
  · exact State.hostWrite_keeps h
  · exact State.hostWrite_keeps h
  · exact State.zneSteWrite_keeps h
  · exact State.zneSteWrite_keeps h
  · exact State.memWrite_keeps h
  · exact State.ttbWrite_keeps h
  · exact State.spcWrite_keeps h
  · exact State.sacWrite_keeps h
  · exact State.sacWrite_keeps h
  · exact State.msqWrite_keeps h
  · exact State.msqWrite_keeps h
  · exact State.rwcWrite_keeps h
  · exact State.rwcWrite_keeps h
  · exact keeps_ite (State.ddpCtlWrite_keeps h) (State.codeWrite_keeps h)
  · exact State.ascWrite_keeps h
  · exact State.pwrBrlWrite_keeps h
  · exact State.pwrBrlWrite_keeps h
  · exact State.safetyWrite_keeps h

theorem State.busWrite_keeps {s0 : State} {s : State} {x1 : Nat} {x2 : Word} (h : Keeps s0 s) :
    Keeps s0 (State.busWrite s x1 x2) := by
  unfold State.busWrite
  split
  · exact State.nvmeWrite_keeps h
  · exact State.write32_keeps h

theorem State.readKept_keeps {s0 : State} {x0 : BitVec 64 × State} (h : Keeps s0 x0.2) :
    Keeps s0 (State.readKept x0) :=
  State.coreMap_keeps h

theorem State.sizedRead_keeps {s0 : State} {s : State} {x1 : Nat} {x2 : Nat} (h : Keeps s0 s) :
    Keeps s0 (State.sizedRead s x1 x2).2 := by
  unfold State.sizedRead
  refine keeps_ite_snd ?_ ?_
  · extract_lets -underBinder +onlyGivenNames z1
    have h2 : Keeps s0 z1.2 := State.busRead_keeps h
    clear_value z1
    exact keeps_mk2 h2
  · refine keeps_ite_snd ?_ ?_
    · extract_lets -underBinder +onlyGivenNames z3
      have h4 : Keeps s0 z3.2 := State.busRead_keeps h
      clear_value z3
      extract_lets -underBinder +onlyGivenNames z5
      have h6 : Keeps s0 z5.2 := State.busRead_keeps h4
      clear_value z5
      exact keeps_mk2 h6
    · exact keeps_mk2 h

theorem State.sizedWrite_keeps {s0 : State} {s : State} {x1 : Nat} {x2 : Nat} {x3 : BitVec 64} (h : Keeps s0 s) :
    Keeps s0 (State.sizedWrite s x1 x2 x3) :=
  keeps_ite (State.busWrite_keeps h) (keeps_ite (State.busWrite_keeps (State.busWrite_keeps h)) h)

theorem execRegisterWrite_keeps {s0 : State} {x0 : Nat} {x1 : Nat} {x2 : BitVec 64} {s : State} (h : Keeps s0 s) :
    ∀ t, execRegisterWrite x0 x1 x2 s = .next t → Keeps s0 t :=
  fun _ ht => keeps_next ht (State.sizedWrite_keeps h)

theorem execWideHighRead_keeps {s0 : State} {x0 : Nat} {s : State} (h : Keeps s0 s) :
    ∀ t, execWideHighRead x0 s = .next t → Keeps s0 t :=
  fun _ ht => keeps_next ht (State.readKept_keeps (State.sizedRead_keeps h))

theorem execWideLowRead_keeps {s0 : State} {x0 : Nat} {s : State} (h : Keeps s0 s) :
    ∀ t, execWideLowRead x0 s = .next t → Keeps s0 t :=
  fun _ ht => keeps_next ht (State.readKept_keeps (State.sizedRead_keeps h))

/-! Cluster -/

theorem State.arrayLoad_keeps {s0 : State} {s : State} {x1 : Nat} {x2 : Nat} {x3 : ArrErr} (h : Keeps s0 s) :
    Keeps s0 (State.arrayLoad s x1 x2 x3).2 := by
  unfold State.arrayLoad
  extract_lets z1 z2
  have one : ∀ r w e, Keeps s0 r.2 → Keeps s0 (z1 r w e).2 := by
    intro r w e hr
    subst z1
    exact keeps_ite_snd hr (State.arrayRead_keeps hr)
  have hz : Keeps s0 z2.2 := one _ _ _ (keeps_mk2 h)
  exact keeps_ite_snd hz (one _ _ _ hz)

theorem State.give_keeps {s0 : State} {s : State} {x1 : Fin 4} {x2 : BitVec 64} (h : Keeps s0 s) :
    Keeps s0 (State.give s x1 x2) :=
  State.hartMap_keeps h

theorem State.claim_keeps {s0 : State} {s : State} {x1 : Fin 4} (h : Keeps s0 s) :
    Keeps s0 (State.claim s x1) := by
  unfold State.claim
  split
  · exact State.give_keeps h
  · extract_lets -underBinder +onlyGivenNames z1
    clear_value z1
    exact State.give_keeps (keeps_upd h rfl rfl rfl rfl rfl)

theorem State.done_keeps {s0 : State} {s : State} {x1 : Fin 4} (h : Keeps s0 s) :
    Keeps s0 (State.done s x1) :=
  State.hartMap_keeps h

theorem State.completeEvent_keeps {s0 : State} {s : State} {x1 : Fin 4} {x2 : Word} (h : Keeps s0 s) :
    Keeps s0 (State.completeEvent s x1 x2) := by
  unfold State.completeEvent
  extract_lets -underBinder +onlyGivenNames z1
  clear_value z1
  exact State.done_keeps (keeps_upd h rfl rfl rfl rfl rfl)

theorem State.coreLoad_keeps {s0 : State} {s : State} {x1 : Fin 4} {x2 : CoreRegion} {x3 : Nat} {x4 : Nat} {x5 : ArrErr} (h : Keeps s0 s) :
    Keeps s0 (State.coreLoad s x1 x2 x3 x4 x5) := by
  unfold State.coreLoad
  split
  · exact State.give_keeps h
  · exact State.give_keeps h
  · extract_lets -underBinder +onlyGivenNames z1
    have h2 : Keeps s0 z1.2 := State.sizedRead_keeps h
    clear_value z1
    exact State.give_keeps h2
  · exact State.ddrAccess_keeps h
  · extract_lets -underBinder +onlyGivenNames z3
    have h4 : Keeps s0 z3.2 := State.arrayLoad_keeps h
    clear_value z3
    exact keeps_ite (State.give_keeps h4) h4

theorem State.timerSet_keeps {s0 : State} {s : State} {x1 : Fin 4} {x2 : BitVec 64} (h : Keeps s0 s) :
    Keeps s0 (State.timerSet s x1 x2) :=
  State.hartMap_keeps h

theorem State.timerWrite_keeps {s0 : State} {s : State} {x1 : Nat} {x2 : Nat} {x3 : Nat} (h : Keeps s0 s) :
    Keeps s0 (State.timerWrite s x1 x2 x3) := by
  unfold State.timerWrite
  refine keeps_ite ?_ ?_
  · extract_lets -underBinder +onlyGivenNames z1 z2
    clear_value z1 z2
    extract_lets -underBinder +onlyGivenNames z3
    have h4 : ∀ b0 b1 b2, Keeps s0 b0 → Keeps s0 (z3 b0 b1 b2) := fun _ _ _ h8 => State.hartMap_keeps h8
    clear_value z3
    exact keeps_ite (h4 _ _ _ (h4 _ _ _ h)) (keeps_ite (h4 _ _ _ (h4 _ _ _ h)) (keeps_ite (State.timerSet_keeps h) (keeps_ite (State.timerSet_keeps h) (keeps_ite (State.timerSet_keeps h) (keeps_ite (State.timerSet_keeps h) h)))))
  · exact h

theorem State.gatherDrain_keeps {s0 : State} {s : State} {x1 : Nat} (h : Keeps s0 s) :
    Keeps s0 (State.gatherDrain s x1) :=
  keeps_ite (State.checkBits_keeps (State.coreMap_keeps h)) h

theorem State.gatherStore_keeps {s0 : State} {s : State} {x1 : Fin 4} {x2 : Nat} {x3 : List Byte} {x4 : ArrErr} (h : Keeps s0 s) :
    Keeps s0 (State.gatherStore s x1 x2 x3 x4) := by
  unfold State.gatherStore
  extract_lets -underBinder +onlyGivenNames z1 z2
  clear_value z1 z2
  extract_lets -underBinder +onlyGivenNames z3
  have h4 : ∀ b0, Keeps s0 b0 → Keeps s0 (z3 b0) := fun _ h6 => keeps_ite (State.gatherDrain_keeps h6) h6
  clear_value z3
  refine keeps_ite ?_ ?_
  · extract_lets -underBinder +onlyGivenNames z7
    have h8 : Keeps s0 z7 := State.coreMap_keeps h
    clear_value z7
    exact h4 _ (State.putBytes_keeps h8)
  · extract_lets -underBinder +onlyGivenNames z9
    have h10 : Keeps s0 z9 := keeps_ite (State.gatherDrain_keeps h) h
    clear_value z9
    extract_lets -underBinder +onlyGivenNames z11
    have h12 : Keeps s0 z11.2 := State.yardRead_keeps h10
    clear_value z11
    exact keeps_ite (h4 _ (State.putBytes_keeps (State.coreMap_keeps h12))) h12

theorem State.yardStore_keeps {s0 : State} {s : State} {x1 : Fin 4} {x2 : Nat} {x3 : List Byte} {x4 : ArrErr} (h : Keeps s0 s) :
    Keeps s0 (State.yardStore s x1 x2 x3 x4) := by
  unfold State.yardStore
  refine keeps_ite ?_ ?_
  · exact State.setBytes_keeps h
  · extract_lets -underBinder +onlyGivenNames z1
    clear_value z1
    refine keeps_ite ?_ ?_
    · exact State.gatherStore_keeps h
    · extract_lets -underBinder +onlyGivenNames z2
      have h3 : Keeps s0 z2 := State.gatherStore_keeps h
      clear_value z2
      exact keeps_ite h3 (State.gatherStore_keeps h3)

theorem State.coreStore_keeps {s0 : State} {s : State} {x1 : Fin 4} {x2 : CoreRegion} {x3 : Nat} {x4 : Nat} {x5 : BitVec 64} {x6 : ArrErr} (h : Keeps s0 s) :
    Keeps s0 (State.coreStore s x1 x2 x3 x4 x5 x6) := by
  unfold State.coreStore
  split
  · exact State.done_keeps (State.timerWrite_keeps h)
  · exact State.done_keeps (State.sizedWrite_keeps h)
  · exact State.ddrAccess_keeps h
  · exact State.done_keeps (State.yardStore_keeps h)

theorem State.trap_keeps {s0 : State} {s : State} {x1 : Fin 4} {x2 : Nat} (h : Keeps s0 s) :
    Keeps s0 (State.trap s x1 x2) :=
  State.hartMap_keeps h

theorem State.csrRead_keeps {s0 : State} {s : State} {x1 : Fin 4} {x2 : Bool} {x3 : Nat} (h : Keeps s0 s) :
    Keeps s0 (State.csrRead s x1 x2 x3) :=
  keeps_ite (State.give_keeps h) (keeps_ite (keeps_ite (State.trap_keeps h) (keeps_ite (State.claim_keeps h) (keeps_ite (State.give_keeps h) (keeps_ite (State.give_keeps h) (keeps_ite (State.give_keeps h) (keeps_ite (State.give_keeps h) (keeps_ite (State.give_keeps h) (State.give_keeps h)))))))) h)

theorem State.releaseHart_keeps {s0 : State} {s : State} {x1 : Word} {x2 : Fin 4} (h : Keeps s0 s) :
    Keeps s0 (State.releaseHart s x1 x2) :=
  keeps_ite (State.hartMap_keeps h) h

theorem hartReleaseOp_keeps {s0 : State} {x0 : Fin 4} {x1 : Bool} {x2 : Word} {s : State} (h : Keeps s0 s) :
    Keeps s0 (hartReleaseOp x0 x1 x2 s) :=
  keeps_ite h (keeps_ite (State.trap_keeps h) (State.done_keeps (State.releaseHart_keeps (State.releaseHart_keeps (State.releaseHart_keeps h)))))

theorem State.csrWrite_keeps {s0 : State} {s : State} {x1 : Fin 4} {x2 : Bool} {x3 : Nat} {x4 : BitVec 64} (h : Keeps s0 s) :
    Keeps s0 (State.csrWrite s x1 x2 x3 x4) :=
  keeps_ite (keeps_ite (State.completeEvent_keeps h) (State.trap_keeps h)) (keeps_ite (keeps_ite (State.done_keeps (State.hartMap_keeps h)) (State.trap_keeps h)) (keeps_ite (hartReleaseOp_keeps h) (keeps_ite (State.trap_keeps h) h)))

theorem coreAccessOp_keeps {s0 : State} {x0 : Fin 4} {x1 : AccessKind} {x2 : Nat} {x3 : Nat} {x4 : BitVec 64} {x5 : ArrErr} {s : State} (h : Keeps s0 s) :
    Keeps s0 (coreAccessOp x0 x1 x2 x3 x4 x5 s) := by
  unfold coreAccessOp
  refine keeps_ite ?_ ?_
  · exact h
  · split
    · exact State.csrRead_keeps h
    · exact State.csrWrite_keeps h
    · split
      · exact keeps_ite (State.coreLoad_keeps h) (State.trap_keeps h)
      · exact State.trap_keeps h
    · split
      · exact State.coreLoad_keeps h
      · exact State.trap_keeps h
    · split
      · exact keeps_ite (State.coreStore_keeps h) (State.trap_keeps h)
      · exact State.trap_keeps h

theorem coreFenceOp_keeps {s0 : State} {x0 : Fin 4} {s : State} (h : Keeps s0 s) :
    Keeps s0 (coreFenceOp x0 s) :=
  keeps_foldl (fun _ _ h3 => State.gatherDrain_keeps h3) h

theorem eventClaimOp_keeps {s0 : State} {x0 : Fin 4} {x1 : Bool} {s : State} (h : Keeps s0 s) :
    Keeps s0 (eventClaimOp x0 x1 s) :=
  keeps_ite h (keeps_ite (State.claim_keeps h) (State.trap_keeps h))

theorem eventCompleteOp_keeps {s0 : State} {x0 : Fin 4} {x1 : Bool} {x2 : Word} {s : State} (h : Keeps s0 s) :
    Keeps s0 (eventCompleteOp x0 x1 x2 s) :=
  keeps_ite h (keeps_ite (State.completeEvent_keeps h) (State.trap_keeps h))

theorem execCoreAccess_keeps {s0 : State} {x0 : Fin 4} {x1 : AccessKind} {x2 : Nat} {x3 : Nat} {x4 : BitVec 64} {x5 : ArrErr} {s : State} (h : Keeps s0 s) :
    ∀ t, execCoreAccess x0 x1 x2 x3 x4 x5 s = .next t → Keeps s0 t :=
  fun _ ht => keeps_next ht (coreAccessOp_keeps h)

theorem execCoreFence_keeps {s0 : State} {x0 : Fin 4} {s : State} (h : Keeps s0 s) :
    ∀ t, execCoreFence x0 s = .next t → Keeps s0 t :=
  fun _ ht => keeps_next ht (coreFenceOp_keeps h)

theorem execEventClaim_keeps {s0 : State} {x0 : Fin 4} {x1 : Bool} {s : State} (h : Keeps s0 s) :
    ∀ t, execEventClaim x0 x1 s = .next t → Keeps s0 t :=
  fun _ ht => keeps_next ht (eventClaimOp_keeps h)

theorem execEventComplete_keeps {s0 : State} {x0 : Fin 4} {x1 : Bool} {x2 : Word} {s : State} (h : Keeps s0 s) :
    ∀ t, execEventComplete x0 x1 x2 s = .next t → Keeps s0 t :=
  fun _ ht => keeps_next ht (eventCompleteOp_keeps h)

theorem execGatherIdleWriteback_keeps {s0 : State} {x0 : Nat} {s : State} (h : Keeps s0 s) :
    ∀ t, execGatherIdleWriteback x0 s = .next t → Keeps s0 t :=
  fun _ ht => keeps_next ht (State.gatherDrain_keeps h)

theorem execHartRelease_keeps {s0 : State} {x0 : Fin 4} {x1 : Bool} {x2 : Word} {s : State} (h : Keeps s0 s) :
    ∀ t, execHartRelease x0 x1 x2 s = .next t → Keeps s0 t :=
  fun _ ht => keeps_next ht (hartReleaseOp_keeps h)

theorem machineTimerInterruptOp_keeps {s0 : State} {x0 : Fin 4} {s : State} (h : Keeps s0 s) :
    Keeps s0 (machineTimerInterruptOp x0 s) := by
  unfold machineTimerInterruptOp
  extract_lets -underBinder +onlyGivenNames z1
  clear_value z1
  extract_lets -underBinder +onlyGivenNames z2
  have h3 : Keeps s0 z2 := keeps_upd h rfl rfl rfl rfl rfl
  clear_value z2
  exact State.hartMap_keeps h3

theorem execMachineTimerInterrupt_keeps {s0 : State} {x0 : Fin 4} {s : State} (h : Keeps s0 s) :
    ∀ t, execMachineTimerInterrupt x0 s = .next t → Keeps s0 t :=
  fun _ ht => keeps_next ht (machineTimerInterruptOp_keeps h)

end Sys2Proof.Machine
end

