-- ==== Sys2Proof/Laws/KeepsAll.lean ====
section
/-! SUPPORT. What every command keeps, said once for the dispatch of all commands. -/
namespace Sys2Proof.Machine

/-- Running a command leaves the queue alone, keeps the canonical forms, and gives no free value back. -/
theorem exec_keeps {s0 s : State} (h : Keeps s0 s) (c : Instr) (t : State) (ht : exec c s = .next t) : Keeps s0 t := by
  cases c with
  | registerWrite => exact execRegisterWrite_keeps h t ht
  | wideLowRead => exact execWideLowRead_keeps h t ht
  | wideHighRead => exact execWideHighRead_keeps h t ht
  | powerOnResetRelease => exact execPowerOnResetRelease_keeps h t ht
  | start => exact execStart_keeps h t ht
  | ddr5TrainingEnd => exact execDdr5TrainingEnd_keeps h t ht
  | configLock => exact execConfigLock_keeps h t ht
  | glbRstWrite => exact execGlbRstWrite_keeps h t ht
  | deviceReset => exact execDeviceReset_keeps h t ht
  | eventClaim => exact execEventClaim_keeps h t ht
  | eventComplete => exact execEventComplete_keeps h t ht
  | hartRelease => exact execHartRelease_keeps h t ht
  | coreAccess => exact execCoreAccess_keeps h t ht
  | gatherIdleWriteback => exact execGatherIdleWriteback_keeps h t ht
  | coreFence => exact execCoreFence_keeps h t ht
  | bankCopyEnd => exact execBankCopyEnd_keeps h t ht
  | timetableEnable => exact execTimetableEnable_keeps h t ht
  | timetableDisable => exact execTimetableDisable_keeps h t ht
  | angleSourceSelect => exact execAngleSourceSelect_keeps h t ht
  | snapshotCapture => exact execSnapshotCapture_keeps h t ht
  | missCounterClear => exact execMissCounterClear_keeps h t ht
  | slotArm => exact execSlotArm_keeps h t ht
  | slotDisarm => exact execSlotDisarm_keeps h t ht
  | slotFire => exact execSlotFire_keeps h t ht
  | windowOpen => exact execWindowOpen_keeps h t ht
  | windowClose => exact execWindowClose_keeps h t ht
  | samDetected => exact execSamDetected_keeps h t ht
  | samMissed => exact execSamMissed_keeps h t ht
  | timetableLock => exact execTimetableLock_keeps h t ht
  | flywheelEntry => exact execFlywheelEntry_keeps h t ht
  | lostEntry => exact execLostEntry_keeps h t ht
  | stepEnd => exact execStepEnd_keeps h t ht
  | syncSend => exact execSyncSend_keeps h t ht
  | twinsyncSet => exact execTwinsyncSet_keeps h t ht
  | twinsyncClear => exact execTwinsyncClear_keeps h t ht
  | pwmPeriod => exact execPwmPeriod_keeps h t ht
  | speedLoopPeriod => exact execSpeedLoopPeriod_keeps h t ht
  | observerLoss => exact execObserverLoss_keeps h t ht
  | commutationEvent => exact execCommutationEvent_keeps h t ht
  | bridgeFault => exact execBridgeFault_keeps h t ht
  | spindleRun => exact execSpindleRun_keeps h t ht
  | spindleStop => exact execSpindleStop_keeps h t ht
  | lossCounterClear => exact execLossCounterClear_keeps h t ht
  | speedTargetWrite => exact execSpeedTargetWrite_keeps h t ht
  | catchMeasurementEnd => exact execCatchMeasurementEnd_keeps h t ht
  | alignEnd => exact execAlignEnd_keeps h t ht
  | openloopHandoff => exact execOpenloopHandoff_keeps h t ht
  | lockedRotorExpiry => exact execLockedRotorExpiry_keeps h t ht
  | lockedRotorRetry => exact execLockedRotorRetry_keeps h t ht
  | inbandRise => exact execInbandRise_keeps h t ht
  | reacquisition => exact execReacquisition_keeps h t ht
  | reacquisitionTimeout => exact execReacquisitionTimeout_keeps h t ht
  | brakeHoldTimeout => exact execBrakeHoldTimeout_keeps h t ht
  | standstillGap => exact execStandstillGap_keeps h t ht
  | keUpdate => exact execKeUpdate_keeps h t ht
  | wedgeDemodulated => exact execWedgeDemodulated_keeps h t ht
  | recoverEntry => exact execRecoverEntry_keeps h t ht
  | settleComplete => exact execSettleComplete_keeps h t ht
  | sacSeek => exact execSacSeek_keeps h t ht
  | sacLoad => exact execSacLoad_keeps h t ht
  | sacUnload => exact execSacUnload_keeps h t ht
  | sacSelftest => exact execSacSelftest_keeps h t ht
  | sacEndtest => exact execSacEndtest_keeps h t ht
  | sacEnable => exact execSacEnable_keeps h t ht
  | sacDisable => exact execSacDisable_keeps h t ht
  | integratorClear => exact execIntegratorClear_keeps h t ht
  | sacCounterClear => exact execSacCounterClear_keeps h t ht
  | bankApplyRequest => exact execBankApplyRequest_keeps h t ht
  | followingErrorExpiry => exact execFollowingErrorExpiry_keeps h t ht
  | currentPlausibilityTick => exact execCurrentPlausibilityTick_keeps h t ht
  | implausible => exact execImplausible_keeps h t ht
  | estimateIntervalClose => exact execEstimateIntervalClose_keeps h t ht
  | loadServoFound => exact execLoadServoFound_keeps h t ht
  | loadTimeout => exact execLoadTimeout_keeps h t ht
  | unloadPushEnd => exact execUnloadPushEnd_keeps h t ht
  | unloadHoldEnd => exact execUnloadHoldEnd_keeps h t ht
  | recoverSeek => exact execRecoverSeek_keeps h t ht
  | recoverTimeout => exact execRecoverTimeout_keeps h t ht
  | bufferStopRetract => exact execBufferStopRetract_keeps h t ht
  | bufferStopSecondPhase => exact execBufferStopSecondPhase_keeps h t ht
  | bufferStopHold => exact execBufferStopHold_keeps h t ht
  | bufferStopEnd => exact execBufferStopEnd_keeps h t ht
  | gatePeriodOpen => exact execGatePeriodOpen_keeps h t ht
  | gatePeriodClose => exact execGatePeriodClose_keeps h t ht
  | syncWindowClose => exact execSyncWindowClose_keeps h t ht
  | sectorDecoded => exact execSectorDecoded_keeps h t ht
  | serialFrameCommand => exact execSerialFrameCommand_keeps h t ht
  | serialFrameStart => exact execSerialFrameStart_keeps h t ht
  | serialFrameDone => exact execSerialFrameDone_keeps h t ht
  | serialTimeout => exact execSerialTimeout_keeps h t ht
  | serialTrailerEnd => exact execSerialTrailerEnd_keeps h t ht
  | latePreampReply => exact execLatePreampReply_keeps h t ht
  | preampFault => exact execPreampFault_keeps h t ht
  | channelEnable => exact execChannelEnable_keeps h t ht
  | channelCounterClear => exact execChannelCounterClear_keeps h t ht
  | poolDecodeComplete => exact execPoolDecodeComplete_keeps h t ht
  | rereadPass => exact execRereadPass_keeps h t ht
  | accumulatorGrant => exact execAccumulatorGrant_keeps h t ht
  | jobAgeLimit => exact execJobAgeLimit_keeps h t ht
  | poolEnable => exact execPoolEnable_keeps h t ht
  | poolDisable => exact execPoolDisable_keeps h t ht
  | poolCounterClear => exact execPoolCounterClear_keeps h t ht
  | machineCheck => exact execMachineCheck_keeps h t ht
  | cont => exact execCont_keeps h t ht
  | jump => exact execJump_keeps h t ht
  | br => exact execBr_keeps h t ht
  | call => exact execCall_keeps h t ht
  | ret => exact execRet_keeps h t ht
  | disp => exact execDisp_keeps h t ht
  | eret => exact execEret_keeps h t ht
  | nop => exact execNop_keeps h t ht
  | mov => exact execMov_keeps h t ht
  | add => exact execAdd_keeps h t ht
  | sub => exact execSub_keeps h t ht
  | and => exact execAnd_keeps h t ht
  | or => exact execOr_keeps h t ht
  | xor => exact execXor_keeps h t ht
  | shl => exact execShl_keeps h t ht
  | shr => exact execShr_keeps h t ht
  | cmp => exact execCmp_keeps h t ht
  | lds => exact execLds_keeps h t ht
  | ldd => exact execLdd_keeps h t ht
  | std => exact execStd_keeps h t ht
  | angleWait => exact execAngleWait_keeps h t ht
  | condWait => exact execCondWait_keeps h t ht
  | strobeWait => exact execStrobeWait_keeps h t ht
  | waitEnd => exact execWaitEnd_keeps h t ht
  | waitLimitExpiry => exact execWaitLimitExpiry_keeps h t ht
  | yield => exact execYield_keeps h t ht
  | gateRead => exact execGateRead_keeps h t ht
  | gateWrite => exact execGateWrite_keeps h t ht
  | gateClear => exact execGateClear_keeps h t ht
  | chanLoad => exact execChanLoad_keeps h t ht
  | chanStart => exact execChanStart_keeps h t ht
  | chanAbort => exact execChanAbort_keeps h t ht
  | chanLoadr => exact execChanLoadr_keeps h t ht
  | servoSeek => exact execServoSeek_keeps h t ht
  | servoUnload => exact execServoUnload_keeps h t ht
  | preHeadSelect => exact execPreHeadSelect_keeps h t ht
  | preWriteFrame => exact execPreWriteFrame_keeps h t ht
  | preReadFrame => exact execPreReadFrame_keeps h t ht
  | ascReadHeat => exact execAscReadHeat_keeps h t ht
  | ascWriteHeat => exact execAscWriteHeat_keeps h t ht
  | ascIdle => exact execAscIdle_keeps h t ht
  | tchk => exact execTchk_keeps h t ht
  | endOp => exact execEndOp_keeps h t ht
  | microcodeEvent => exact execMicrocodeEvent_keeps h t ht
  | operationSubmit => exact execOperationSubmit_keeps h t ht
  | hardwareSubmit => exact execHardwareSubmit_keeps h t ht
  | operationCancel => exact execOperationCancel_keeps h t ht
  | completionPost => exact execCompletionPost_keeps h t ht
  | completionPop => exact execCompletionPop_keeps h t ht
  | sequencerEnable => exact execSequencerEnable_keeps h t ht
  | sequencerStop => exact execSequencerStop_keeps h t ht
  | sequencerCounterClear => exact execSequencerCounterClear_keeps h t ht
  | patchLoad => exact execPatchLoad_keeps h t ht
  | patchLoadComplete => exact execPatchLoadComplete_keeps h t ht
  | setpointApplyArm => exact execSetpointApplyArm_keeps h t ht
  | telemetryFrame => exact execTelemetryFrame_keeps h t ht
  | telemetryLoss => exact execTelemetryLoss_keeps h t ht
  | temperatureScan => exact execTemperatureScan_keeps h t ht
  | windowEvaluation => exact execWindowEvaluation_keeps h t ht
  | throttleGraceExpiry => exact execThrottleGraceExpiry_keeps h t ht
  | calibrationStart => exact execCalibrationStart_keeps h t ht
  | calibrationEnd => exact execCalibrationEnd_keeps h t ht
  | calibrationRestore => exact execCalibrationRestore_keeps h t ht
  | ageingMeasurement => exact execAgeingMeasurement_keeps h t ht
  | ascEnable => exact execAscEnable_keeps h t ht
  | ascCounterClear => exact execAscCounterClear_keeps h t ht
  | zoneEngineEnable => exact execZoneEngineEnable_keeps h t ht
  | zneCounterClear => exact execZneCounterClear_keeps h t ht
  | zoneActionApply => exact execZoneActionApply_keeps h t ht
  | chunkCommit => exact execChunkCommit_keeps h t ht
  | chunkIdleExpiry => exact execChunkIdleExpiry_keeps h t ht
  | chunkWriteComplete => exact execChunkWriteComplete_keeps h t ht
  | writeRetryTimer => exact execWriteRetryTimer_keeps h t ht
  | reclaimCopyComplete => exact execReclaimCopyComplete_keeps h t ht
  | spareAdd => exact execSpareAdd_keeps h t ht
  | stripeEngineEnable => exact execStripeEngineEnable_keeps h t ht
  | replayLoadEnd => exact execReplayLoadEnd_keeps h t ht
  | tagScanEnd => exact execTagScanEnd_keeps h t ht
  | parityPendingWrite => exact execParityPendingWrite_keeps h t ht
  | steCounterClear => exact execSteCounterClear_keeps h t ht
  | checkpointRequest => exact execCheckpointRequest_keeps h t ht
  | checkpointTimer => exact execCheckpointTimer_keeps h t ht
  | checkpointStart => exact execCheckpointStart_keeps h t ht
  | checkpointWriteComplete => exact execCheckpointWriteComplete_keeps h t ht
  | journalRateRelease => exact execJournalRateRelease_keeps h t ht
  | sectorReconstruction => exact execSectorReconstruction_keeps h t ht
  | surfaceRetire => exact execSurfaceRetire_keeps h t ht
  | mendChunk => exact execMendChunk_keeps h t ht
  | rinseStart => exact execRinseStart_keeps h t ht
  | rinseStop => exact execRinseStop_keeps h t ht
  | rinseChunkRead => exact execRinseChunkRead_keeps h t ht
  | rinseEnd => exact execRinseEnd_keeps h t ht
  | convWrite => exact execConvWrite_keeps h t ht
  | commandAdmission => exact execCommandAdmission_keeps h t ht
  | writeDataReceived => exact execWriteDataReceived_keeps h t ht
  | interlockRequest => exact execInterlockRequest_keeps h t ht
  | interlockHeld => exact execInterlockHeld_keeps h t ht
  | interlockRelease => exact execInterlockRelease_keeps h t ht
  | interlockCapture => exact execInterlockCapture_keeps h t ht
  | flushComplete => exact execFlushComplete_keeps h t ht
  | activationReady => exact execActivationReady_keeps h t ht
  | activationDone => exact execActivationDone_keeps h t ht
  | powerStateEntry => exact execPowerStateEntry_keeps h t ht
  | entryCheckpoint => exact execEntryCheckpoint_keeps h t ht
  | powerStateReturnEnd => exact execPowerStateReturnEnd_keeps h t ht
  | cqeEnable => exact execCqeEnable_keeps h t ht
  | cqeCounterClear => exact execCqeCounterClear_keeps h t ht
  | linkUp => exact execLinkUp_keeps h t ht
  | fundamentalReset => exact execFundamentalReset_keeps h t ht
  | hotReset => exact execHotReset_keeps h t ht
  | functionLevelReset => exact execFunctionLevelReset_keeps h t ht
  | controllerDisable => exact execControllerDisable_keeps h t ht
  | controllerEnable => exact execControllerEnable_keeps h t ht
  | normalShutdown => exact execNormalShutdown_keeps h t ht
  | abruptShutdown => exact execAbruptShutdown_keeps h t ht
  | configurationRequest => exact execConfigurationRequest_keeps h t ht
  | configReady => exact execConfigReady_keeps h t ht
  | doorbellWrite => exact execDoorbellWrite_keeps h t ht
  | pcieCompletion => exact execPcieCompletion_keeps h t ht
  | completionTimeout => exact execCompletionTimeout_keeps h t ht
  | busMasterDisable => exact execBusMasterDisable_keeps h t ht
  | busMasterEnable => exact execBusMasterEnable_keeps h t ht
  | coalescingTimer => exact execCoalescingTimer_keeps h t ht
  | expansionRomRead => exact execExpansionRomRead_keeps h t ht
  | createIoSq => exact execCreateIoSq_keeps h t ht
  | deleteIoSq => exact execDeleteIoSq_keeps h t ht
  | createIoCq => exact execCreateIoCq_keeps h t ht
  | deleteIoCq => exact execDeleteIoCq_keeps h t ht
  | identify => exact execIdentify_keeps h t ht
  | getLogPage => exact execGetLogPage_keeps h t ht
  | smartHealthLog => exact execSmartHealthLog_keeps h t ht
  | driveLifeLog => exact execDriveLifeLog_keeps h t ht
  | stationBookLog => exact execStationBookLog_keeps h t ht
  | bootStatusLog => exact execBootStatusLog_keeps h t ht
  | abort => exact execAbort_keeps h t ht
  | setFeatures => exact execSetFeatures_keeps h t ht
  | setPowerManagement => exact execSetPowerManagement_keeps h t ht
  | setTimestamp => exact execSetTimestamp_keeps h t ht
  | setThermalManagement => exact execSetThermalManagement_keeps h t ht
  | getFeatures => exact execGetFeatures_keeps h t ht
  | getTimestamp => exact execGetTimestamp_keeps h t ht
  | asynchronousEventRequest => exact execAsynchronousEventRequest_keeps h t ht
  | firmwareImageDownload => exact execFirmwareImageDownload_keeps h t ht
  | firmwareCommit => exact execFirmwareCommit_keeps h t ht
  | firmwareCommitActivate => exact execFirmwareCommitActivate_keeps h t ht
  | formatNvm => exact execFormatNvm_keeps h t ht
  | sanitize => exact execSanitize_keeps h t ht
  | securityProtocolDiscovery => exact execSecurityProtocolDiscovery_keeps h t ht
  | authenticate => exact execAuthenticate_keeps h t ht
  | setCredential => exact execSetCredential_keeps h t ht
  | lock => exact execLock_keeps h t ht
  | securityStatus => exact execSecurityStatus_keeps h t ht
  | flush => exact execFlush_keeps h t ht
  | write => exact execWrite_keeps h t ht
  | read => exact execRead_keeps h t ht
  | writeZeroes => exact execWriteZeroes_keeps h t ht
  | zoneAppend => exact execZoneAppend_keeps h t ht
  | zoneOpen => exact execZoneOpen_keeps h t ht
  | zoneClose => exact execZoneClose_keeps h t ht
  | zoneFinish => exact execZoneFinish_keeps h t ht
  | zoneReset => exact execZoneReset_keeps h t ht
  | zoneOffline => exact execZoneOffline_keeps h t ht
  | reportZones => exact execReportZones_keeps h t ht
  | unsupportedCommand _ _ o => exact execUnsupportedCommand_keeps (x2 := o) h t ht
  | miBasicManagementRead => exact execMiBasicManagementRead_keeps h t ht
  | readNvmeMiDataStructure => exact execReadNvmeMiDataStructure_keeps h t ht
  | subsystemHealthStatusPoll => exact execSubsystemHealthStatusPoll_keeps h t ht
  | controllerHealthStatusPoll => exact execControllerHealthStatusPoll_keeps h t ht
  | configurationGet => exact execConfigurationGet_keeps h t ht
  | configurationSet => exact execConfigurationSet_keeps h t ht
  | miTunneledCommand => exact execMiTunneledCommand_keeps h t ht
  | miUnsupportedRequest o => exact execMiUnsupportedRequest_keeps (x0 := o) h t ht
  | hepCounterClear => exact execHepCounterClear_keeps h t ht
  | scrubStart => exact execScrubStart_keeps h t ht
  | scrubTimer => exact execScrubTimer_keeps h t ht
  | scrubEnd => exact execScrubEnd_keeps h t ht
  | checkbitTestArm => exact execCheckbitTestArm_keeps h t ht
  | refreshRatePoll => exact execRefreshRatePoll_keeps h t ht
  | ddr5ReadComplete => exact execDdr5ReadComplete_keeps h t ht
  | ddr5ReadTimeout => exact execDdr5ReadTimeout_keeps h t ht
  | lateDdr5Data => exact execLateDdr5Data_keeps h t ht
  | mapCacheFill => exact execMapCacheFill_keeps h t ht
  | mergeDrain => exact execMergeDrain_keeps h t ht
  | cacheLock => exact execCacheLock_keeps h t ht
  | cacheUnlock => exact execCacheUnlock_keeps h t ht
  | cacheInvalidate => exact execCacheInvalidate_keeps h t ht
  | rangeOperationEnd => exact execRangeOperationEnd_keeps h t ht
  | mapCacheDisable => exact execMapCacheDisable_keeps h t ht
  | mapCacheDisableEnd => exact execMapCacheDisableEnd_keeps h t ht
  | mapCacheEnable => exact execMapCacheEnable_keeps h t ht
  | memCounterClear => exact execMemCounterClear_keeps h t ht
  | measurementRequest => exact execMeasurementRequest_keeps h t ht
  | measurementTimer => exact execMeasurementTimer_keeps h t ht
  | measurementEnd => exact execMeasurementEnd_keeps h t ht
  | powerFailFall => exact execPowerFailFall_keeps h t ht
  | powerLoss => exact execPowerLoss_keeps h t ht
  | windowSaveEnd => exact execWindowSaveEnd_keeps h t ht
  | powerReturn => exact execPowerReturn_keeps h t ht
  | restoreRequest => exact execRestoreRequest_keeps h t ht
  | restoreEnd => exact execRestoreEnd_keeps h t ht
  | governorPeriod => exact execGovernorPeriod_keeps h t ht
  | coresOff => exact execCoresOff_keeps h t ht
  | ps4Wake => exact execPs4Wake_keeps h t ht
  | powerOnHour => exact execPowerOnHour_keeps h t ht
  | faultMessage => exact execFaultMessage_keeps h t ht
  | fatalHoldEnd => exact execFatalHoldEnd_keeps h t ht
  | faultMessageRead => exact execFaultMessageRead_keeps h t ht
  | fltCounterClear => exact execFltCounterClear_keeps h t ht
  | railOutOfRange => exact execRailOutOfRange_keeps h t ht
  | railBackInRange => exact execRailBackInRange_keeps h t ht
  | clockFailure => exact execClockFailure_keeps h t ht
  | testUnlock => exact execTestUnlock_keeps h t ht
  | forceFault => exact execForceFault_keeps h t ht
  | forceLapse => exact execForceLapse_keeps h t ht
  | softwareEvent => exact execSoftwareEvent_keeps h t ht
  | routeWrite => exact execRouteWrite_keeps h t ht
  | gpioEdge => exact execGpioEdge_keeps h t ht
  | recordWrite => exact execRecordWrite_keeps h t ht
  | bucketRefill => exact execBucketRefill_keeps h t ht
  | stationBookClear => exact execStationBookClear_keeps h t ht
  | stationBookClearEnd => exact execStationBookClearEnd_keeps h t ht
  | firmwareRecord => exact execFirmwareRecord_keeps h t ht
  | bokCounterClear => exact execBokCounterClear_keeps h t ht
  | svnUpdate => exact execSvnUpdate_keeps h t ht
  | debugChallenge => exact execDebugChallenge_keeps h t ht
  | debugResponse => exact execDebugResponse_keeps h t ht
  | branchLineEnable => exact execBranchLineEnable_keeps h t ht
  | linkTrained => exact execLinkTrained_keeps h t ht
  | fence => exact execFence_keeps h t ht
  | handBack => exact execHandBack_keeps h t ht
  | handBackEnd => exact execHandBackEnd_keeps h t ht
  | brlCounterClear => exact execBrlCounterClear_keeps h t ht
  | heartbeatKick => exact execHeartbeatKick_keeps h t ht
  | heartbeatToggle => exact execHeartbeatToggle_keeps h t ht
  | kickExpiry => exact execKickExpiry_keeps h t ht
  | heartbeatEdge => exact execHeartbeatEdge_keeps h t ht
  | partnerSilent => exact execPartnerSilent_keeps h t ht
  | guardExpiry => exact execGuardExpiry_keeps h t ht
  | tokenNetChange => exact execTokenNetChange_keeps h t ht
  | tokenGained => exact execTokenGained_keeps h t ht
  | tokenLost => exact execTokenLost_keeps h t ht
  | tokenWaitExpiry => exact execTokenWaitExpiry_keeps h t ht
  | idleTimer => exact execIdleTimer_keeps h t ht
  | idle => exact execIdle_keeps h t ht
  | hello _ _ _ g r _ => exact execHello_keeps (x3 := g) (x4 := r) h t ht
  | sync => exact execSync_keeps h t ht
  | spst => exact execSpst_keeps h t ht
  | jrec => exact execJrec_keeps h t ht
  | win => exact execWin_keeps h t ht
  | wrel => exact execWrel_keeps h t ht
  | mdcopy => exact execMdcopy_keeps h t ht
  | fwd => exact execFwd_keeps h t ht
  | fdata => exact execFdata_keeps h t ht
  | fcpl => exact execFcpl_keeps h t ht
  | fctl => exact execFctl_keeps h t ht
  | xrdy => exact execXrdy_keeps h t ht
  | ack => exact execAck_keeps h t ht
  | fltm _ o => exact execFltm_keeps (x1 := o) h t ht
  | fencePacket => exact execFencePacket_keeps h t ht
  | invalidFrame => exact execInvalidFrame_keeps h t ht
  | handshakeTimeout => exact execHandshakeTimeout_keeps h t ht
  | steer => exact execSteer_keeps h t ht
  | steeringDone => exact execSteeringDone_keeps h t ht
  | bypass => exact execBypass_keeps h t ht
  | idcode => exact execIdcode_keeps h t ht
  | samplePreload => exact execSamplePreload_keeps h t ht
  | extest => exact execExtest_keeps h t ht
  | clamp => exact execClamp_keeps h t ht
  | highz => exact execHighz_keeps h t ht
  | preampFaultClear => exact execPreampFaultClear_keeps h t ht
  | powerFailRise => exact execPowerFailRise_keeps h t ht
  | holdRailBelowVmin => exact execHoldRailBelowVmin_keeps h t ht
  | partnerHeartbeatLoss => exact execPartnerHeartbeatLoss_keeps h t ht
  | branchLineLinkLoss => exact execBranchLineLinkLoss_keeps h t ht
  | functionLevelResetEnd => exact execFunctionLevelResetEnd_keeps h t ht
  | machineTimerInterrupt => exact execMachineTimerInterrupt_keeps h t ht

end Sys2Proof.Machine
end

