-- ==== Sys2Proof/Laws/State.lean ====
section
/-! SUPPORT. One lemma per field of State and per named update: what the update makes of the field.  No later proof unfolds a record
update. -/
namespace Sys2Proof.Machine

/-! wr -/
@[simp] theorem State.wr_pending (s : State) (o : Nat) (v : Word) : (s.wr o v).pending = s.pending := by dsimp only [State.wr]
@[simp] theorem State.wr_live (s : State) (o : Nat) (v : Word) : (s.wr o v).live = s.live := by dsimp only [State.wr]
@[simp] theorem State.wr_shadows (s : State) (o : Nat) (v : Word) : (s.wr o v).shadows = s.shadows := by dsimp only [State.wr]
@[simp] theorem State.wr_mem (s : State) (o : Nat) (v : Word) : (s.wr o v).mem = s.mem := by dsimp only [State.wr]
@[simp] theorem State.wr_ttb (s : State) (o : Nat) (v : Word) : (s.wr o v).ttb = s.ttb := by dsimp only [State.wr]
@[simp] theorem State.wr_spc (s : State) (o : Nat) (v : Word) : (s.wr o v).spc = s.spc := by dsimp only [State.wr]
@[simp] theorem State.wr_sac (s : State) (o : Nat) (v : Word) : (s.wr o v).sac = s.sac := by dsimp only [State.wr]
@[simp] theorem State.wr_rwc (s : State) (o : Nat) (v : Word) : (s.wr o v).rwc = s.rwc := by dsimp only [State.wr]
@[simp] theorem State.wr_ddp (s : State) (o : Nat) (v : Word) : (s.wr o v).ddp = s.ddp := by dsimp only [State.wr]
@[simp] theorem State.wr_msq (s : State) (o : Nat) (v : Word) : (s.wr o v).msq = s.msq := by dsimp only [State.wr]
@[simp] theorem State.wr_asc (s : State) (o : Nat) (v : Word) : (s.wr o v).asc = s.asc := by dsimp only [State.wr]
@[simp] theorem State.wr_zne (s : State) (o : Nat) (v : Word) : (s.wr o v).zne = s.zne := by dsimp only [State.wr]
@[simp] theorem State.wr_ste (s : State) (o : Nat) (v : Word) : (s.wr o v).ste = s.ste := by dsimp only [State.wr]
@[simp] theorem State.wr_cqe (s : State) (o : Nat) (v : Word) : (s.wr o v).cqe = s.cqe := by dsimp only [State.wr]
@[simp] theorem State.wr_hep (s : State) (o : Nat) (v : Word) : (s.wr o v).hep = s.hep := by dsimp only [State.wr]
@[simp] theorem State.wr_ms (s : State) (o : Nat) (v : Word) : (s.wr o v).ms = s.ms := by dsimp only [State.wr]
@[simp] theorem State.wr_core (s : State) (o : Nat) (v : Word) : (s.wr o v).core = s.core := by dsimp only [State.wr]
@[simp] theorem State.wr_vault (s : State) (o : Nat) (v : Word) : (s.wr o v).vault = s.vault := by dsimp only [State.wr]
@[simp] theorem State.wr_pwr (s : State) (o : Nat) (v : Word) : (s.wr o v).pwr = s.pwr := by dsimp only [State.wr]
@[simp] theorem State.wr_flt (s : State) (o : Nat) (v : Word) : (s.wr o v).flt = s.flt := by dsimp only [State.wr]
@[simp] theorem State.wr_evr (s : State) (o : Nat) (v : Word) : (s.wr o v).evr = s.evr := by dsimp only [State.wr]
@[simp] theorem State.wr_bok (s : State) (o : Nat) (v : Word) : (s.wr o v).bok = s.bok := by dsimp only [State.wr]
@[simp] theorem State.wr_sec (s : State) (o : Nat) (v : Word) : (s.wr o v).sec = s.sec := by dsimp only [State.wr]
@[simp] theorem State.wr_brl (s : State) (o : Nat) (v : Word) : (s.wr o v).brl = s.brl := by dsimp only [State.wr]
@[simp] theorem State.wr_pins (s : State) (o : Nat) (v : Word) : (s.wr o v).pins = s.pins := by dsimp only [State.wr]
@[simp] theorem State.wr_flash (s : State) (o : Nat) (v : Word) : (s.wr o v).flash = s.flash := by dsimp only [State.wr]
@[simp] theorem State.wr_freeCtr (s : State) (o : Nat) (v : Word) : (s.wr o v).freeCtr = s.freeCtr := by dsimp only [State.wr]

/-! liveWr -/
@[simp] theorem State.liveWr_pending (s : State) (o : Nat) (v : Word) : (s.liveWr o v).pending = s.pending := by dsimp only [State.liveWr]
@[simp] theorem State.liveWr_regs (s : State) (o : Nat) (v : Word) : (s.liveWr o v).regs = s.regs := by dsimp only [State.liveWr]
@[simp] theorem State.liveWr_shadows (s : State) (o : Nat) (v : Word) : (s.liveWr o v).shadows = s.shadows := by dsimp only [State.liveWr]
@[simp] theorem State.liveWr_mem (s : State) (o : Nat) (v : Word) : (s.liveWr o v).mem = s.mem := by dsimp only [State.liveWr]
@[simp] theorem State.liveWr_ttb (s : State) (o : Nat) (v : Word) : (s.liveWr o v).ttb = s.ttb := by dsimp only [State.liveWr]
@[simp] theorem State.liveWr_spc (s : State) (o : Nat) (v : Word) : (s.liveWr o v).spc = s.spc := by dsimp only [State.liveWr]
@[simp] theorem State.liveWr_sac (s : State) (o : Nat) (v : Word) : (s.liveWr o v).sac = s.sac := by dsimp only [State.liveWr]
@[simp] theorem State.liveWr_rwc (s : State) (o : Nat) (v : Word) : (s.liveWr o v).rwc = s.rwc := by dsimp only [State.liveWr]
@[simp] theorem State.liveWr_ddp (s : State) (o : Nat) (v : Word) : (s.liveWr o v).ddp = s.ddp := by dsimp only [State.liveWr]
@[simp] theorem State.liveWr_msq (s : State) (o : Nat) (v : Word) : (s.liveWr o v).msq = s.msq := by dsimp only [State.liveWr]
@[simp] theorem State.liveWr_asc (s : State) (o : Nat) (v : Word) : (s.liveWr o v).asc = s.asc := by dsimp only [State.liveWr]
@[simp] theorem State.liveWr_zne (s : State) (o : Nat) (v : Word) : (s.liveWr o v).zne = s.zne := by dsimp only [State.liveWr]
@[simp] theorem State.liveWr_ste (s : State) (o : Nat) (v : Word) : (s.liveWr o v).ste = s.ste := by dsimp only [State.liveWr]
@[simp] theorem State.liveWr_cqe (s : State) (o : Nat) (v : Word) : (s.liveWr o v).cqe = s.cqe := by dsimp only [State.liveWr]
@[simp] theorem State.liveWr_hep (s : State) (o : Nat) (v : Word) : (s.liveWr o v).hep = s.hep := by dsimp only [State.liveWr]
@[simp] theorem State.liveWr_ms (s : State) (o : Nat) (v : Word) : (s.liveWr o v).ms = s.ms := by dsimp only [State.liveWr]
@[simp] theorem State.liveWr_core (s : State) (o : Nat) (v : Word) : (s.liveWr o v).core = s.core := by dsimp only [State.liveWr]
@[simp] theorem State.liveWr_vault (s : State) (o : Nat) (v : Word) : (s.liveWr o v).vault = s.vault := by dsimp only [State.liveWr]
@[simp] theorem State.liveWr_pwr (s : State) (o : Nat) (v : Word) : (s.liveWr o v).pwr = s.pwr := by dsimp only [State.liveWr]
@[simp] theorem State.liveWr_flt (s : State) (o : Nat) (v : Word) : (s.liveWr o v).flt = s.flt := by dsimp only [State.liveWr]
@[simp] theorem State.liveWr_evr (s : State) (o : Nat) (v : Word) : (s.liveWr o v).evr = s.evr := by dsimp only [State.liveWr]
@[simp] theorem State.liveWr_bok (s : State) (o : Nat) (v : Word) : (s.liveWr o v).bok = s.bok := by dsimp only [State.liveWr]
@[simp] theorem State.liveWr_sec (s : State) (o : Nat) (v : Word) : (s.liveWr o v).sec = s.sec := by dsimp only [State.liveWr]
@[simp] theorem State.liveWr_brl (s : State) (o : Nat) (v : Word) : (s.liveWr o v).brl = s.brl := by dsimp only [State.liveWr]
@[simp] theorem State.liveWr_pins (s : State) (o : Nat) (v : Word) : (s.liveWr o v).pins = s.pins := by dsimp only [State.liveWr]
@[simp] theorem State.liveWr_flash (s : State) (o : Nat) (v : Word) : (s.liveWr o v).flash = s.flash := by dsimp only [State.liveWr]
@[simp] theorem State.liveWr_freeCtr (s : State) (o : Nat) (v : Word) : (s.liveWr o v).freeCtr = s.freeCtr := by dsimp only [State.liveWr]

/-! setByte -/
@[simp] theorem State.setByte_pending (s : State) (a : Nat) (b : Byte) : (s.setByte a b).pending = s.pending := by dsimp only [State.setByte]
@[simp] theorem State.setByte_regs (s : State) (a : Nat) (b : Byte) : (s.setByte a b).regs = s.regs := by dsimp only [State.setByte]
@[simp] theorem State.setByte_live (s : State) (a : Nat) (b : Byte) : (s.setByte a b).live = s.live := by dsimp only [State.setByte]
@[simp] theorem State.setByte_shadows (s : State) (a : Nat) (b : Byte) : (s.setByte a b).shadows = s.shadows := by dsimp only [State.setByte]
@[simp] theorem State.setByte_ttb (s : State) (a : Nat) (b : Byte) : (s.setByte a b).ttb = s.ttb := by dsimp only [State.setByte]
@[simp] theorem State.setByte_spc (s : State) (a : Nat) (b : Byte) : (s.setByte a b).spc = s.spc := by dsimp only [State.setByte]
@[simp] theorem State.setByte_sac (s : State) (a : Nat) (b : Byte) : (s.setByte a b).sac = s.sac := by dsimp only [State.setByte]
@[simp] theorem State.setByte_rwc (s : State) (a : Nat) (b : Byte) : (s.setByte a b).rwc = s.rwc := by dsimp only [State.setByte]
@[simp] theorem State.setByte_ddp (s : State) (a : Nat) (b : Byte) : (s.setByte a b).ddp = s.ddp := by dsimp only [State.setByte]
@[simp] theorem State.setByte_msq (s : State) (a : Nat) (b : Byte) : (s.setByte a b).msq = s.msq := by dsimp only [State.setByte]
@[simp] theorem State.setByte_asc (s : State) (a : Nat) (b : Byte) : (s.setByte a b).asc = s.asc := by dsimp only [State.setByte]
@[simp] theorem State.setByte_zne (s : State) (a : Nat) (b : Byte) : (s.setByte a b).zne = s.zne := by dsimp only [State.setByte]
@[simp] theorem State.setByte_ste (s : State) (a : Nat) (b : Byte) : (s.setByte a b).ste = s.ste := by dsimp only [State.setByte]
@[simp] theorem State.setByte_cqe (s : State) (a : Nat) (b : Byte) : (s.setByte a b).cqe = s.cqe := by dsimp only [State.setByte]
@[simp] theorem State.setByte_hep (s : State) (a : Nat) (b : Byte) : (s.setByte a b).hep = s.hep := by dsimp only [State.setByte]
@[simp] theorem State.setByte_ms (s : State) (a : Nat) (b : Byte) : (s.setByte a b).ms = s.ms := by dsimp only [State.setByte]
@[simp] theorem State.setByte_core (s : State) (a : Nat) (b : Byte) : (s.setByte a b).core = s.core := by dsimp only [State.setByte]
@[simp] theorem State.setByte_vault (s : State) (a : Nat) (b : Byte) : (s.setByte a b).vault = s.vault := by dsimp only [State.setByte]
@[simp] theorem State.setByte_pwr (s : State) (a : Nat) (b : Byte) : (s.setByte a b).pwr = s.pwr := by dsimp only [State.setByte]
@[simp] theorem State.setByte_flt (s : State) (a : Nat) (b : Byte) : (s.setByte a b).flt = s.flt := by dsimp only [State.setByte]
@[simp] theorem State.setByte_evr (s : State) (a : Nat) (b : Byte) : (s.setByte a b).evr = s.evr := by dsimp only [State.setByte]
@[simp] theorem State.setByte_bok (s : State) (a : Nat) (b : Byte) : (s.setByte a b).bok = s.bok := by dsimp only [State.setByte]
@[simp] theorem State.setByte_sec (s : State) (a : Nat) (b : Byte) : (s.setByte a b).sec = s.sec := by dsimp only [State.setByte]
@[simp] theorem State.setByte_brl (s : State) (a : Nat) (b : Byte) : (s.setByte a b).brl = s.brl := by dsimp only [State.setByte]
@[simp] theorem State.setByte_pins (s : State) (a : Nat) (b : Byte) : (s.setByte a b).pins = s.pins := by dsimp only [State.setByte]
@[simp] theorem State.setByte_flash (s : State) (a : Nat) (b : Byte) : (s.setByte a b).flash = s.flash := by dsimp only [State.setByte]
@[simp] theorem State.setByte_freeCtr (s : State) (a : Nat) (b : Byte) : (s.setByte a b).freeCtr = s.freeCtr := by dsimp only [State.setByte]

/-! putBytes -/
@[simp] theorem State.putBytes_pending (s : State) (a : Nat) (l : List Byte) : (s.putBytes a l).pending = s.pending := by dsimp only [State.putBytes]
@[simp] theorem State.putBytes_regs (s : State) (a : Nat) (l : List Byte) : (s.putBytes a l).regs = s.regs := by dsimp only [State.putBytes]
@[simp] theorem State.putBytes_live (s : State) (a : Nat) (l : List Byte) : (s.putBytes a l).live = s.live := by dsimp only [State.putBytes]
@[simp] theorem State.putBytes_shadows (s : State) (a : Nat) (l : List Byte) : (s.putBytes a l).shadows = s.shadows := by dsimp only [State.putBytes]
@[simp] theorem State.putBytes_ttb (s : State) (a : Nat) (l : List Byte) : (s.putBytes a l).ttb = s.ttb := by dsimp only [State.putBytes]
@[simp] theorem State.putBytes_spc (s : State) (a : Nat) (l : List Byte) : (s.putBytes a l).spc = s.spc := by dsimp only [State.putBytes]
@[simp] theorem State.putBytes_sac (s : State) (a : Nat) (l : List Byte) : (s.putBytes a l).sac = s.sac := by dsimp only [State.putBytes]
@[simp] theorem State.putBytes_rwc (s : State) (a : Nat) (l : List Byte) : (s.putBytes a l).rwc = s.rwc := by dsimp only [State.putBytes]
@[simp] theorem State.putBytes_ddp (s : State) (a : Nat) (l : List Byte) : (s.putBytes a l).ddp = s.ddp := by dsimp only [State.putBytes]
@[simp] theorem State.putBytes_msq (s : State) (a : Nat) (l : List Byte) : (s.putBytes a l).msq = s.msq := by dsimp only [State.putBytes]
@[simp] theorem State.putBytes_asc (s : State) (a : Nat) (l : List Byte) : (s.putBytes a l).asc = s.asc := by dsimp only [State.putBytes]
@[simp] theorem State.putBytes_zne (s : State) (a : Nat) (l : List Byte) : (s.putBytes a l).zne = s.zne := by dsimp only [State.putBytes]
@[simp] theorem State.putBytes_ste (s : State) (a : Nat) (l : List Byte) : (s.putBytes a l).ste = s.ste := by dsimp only [State.putBytes]
@[simp] theorem State.putBytes_cqe (s : State) (a : Nat) (l : List Byte) : (s.putBytes a l).cqe = s.cqe := by dsimp only [State.putBytes]
@[simp] theorem State.putBytes_hep (s : State) (a : Nat) (l : List Byte) : (s.putBytes a l).hep = s.hep := by dsimp only [State.putBytes]
@[simp] theorem State.putBytes_ms (s : State) (a : Nat) (l : List Byte) : (s.putBytes a l).ms = s.ms := by dsimp only [State.putBytes]
@[simp] theorem State.putBytes_core (s : State) (a : Nat) (l : List Byte) : (s.putBytes a l).core = s.core := by dsimp only [State.putBytes]
@[simp] theorem State.putBytes_vault (s : State) (a : Nat) (l : List Byte) : (s.putBytes a l).vault = s.vault := by dsimp only [State.putBytes]
@[simp] theorem State.putBytes_pwr (s : State) (a : Nat) (l : List Byte) : (s.putBytes a l).pwr = s.pwr := by dsimp only [State.putBytes]
@[simp] theorem State.putBytes_flt (s : State) (a : Nat) (l : List Byte) : (s.putBytes a l).flt = s.flt := by dsimp only [State.putBytes]
@[simp] theorem State.putBytes_evr (s : State) (a : Nat) (l : List Byte) : (s.putBytes a l).evr = s.evr := by dsimp only [State.putBytes]
@[simp] theorem State.putBytes_bok (s : State) (a : Nat) (l : List Byte) : (s.putBytes a l).bok = s.bok := by dsimp only [State.putBytes]
@[simp] theorem State.putBytes_sec (s : State) (a : Nat) (l : List Byte) : (s.putBytes a l).sec = s.sec := by dsimp only [State.putBytes]
@[simp] theorem State.putBytes_brl (s : State) (a : Nat) (l : List Byte) : (s.putBytes a l).brl = s.brl := by dsimp only [State.putBytes]
@[simp] theorem State.putBytes_pins (s : State) (a : Nat) (l : List Byte) : (s.putBytes a l).pins = s.pins := by dsimp only [State.putBytes]
@[simp] theorem State.putBytes_flash (s : State) (a : Nat) (l : List Byte) : (s.putBytes a l).flash = s.flash := by dsimp only [State.putBytes]
@[simp] theorem State.putBytes_freeCtr (s : State) (a : Nat) (l : List Byte) : (s.putBytes a l).freeCtr = s.freeCtr := by dsimp only [State.putBytes]

/-! tick -/
@[simp] theorem State.tick_pending (s : State) : (s.tick).pending = s.pending := by dsimp only [State.tick]
@[simp] theorem State.tick_regs (s : State) : (s.tick).regs = s.regs := by dsimp only [State.tick]
@[simp] theorem State.tick_live (s : State) : (s.tick).live = s.live := by dsimp only [State.tick]
@[simp] theorem State.tick_shadows (s : State) : (s.tick).shadows = s.shadows := by dsimp only [State.tick]
@[simp] theorem State.tick_mem (s : State) : (s.tick).mem = s.mem := by dsimp only [State.tick]
@[simp] theorem State.tick_ttb (s : State) : (s.tick).ttb = s.ttb := by dsimp only [State.tick]
@[simp] theorem State.tick_spc (s : State) : (s.tick).spc = s.spc := by dsimp only [State.tick]
@[simp] theorem State.tick_sac (s : State) : (s.tick).sac = s.sac := by dsimp only [State.tick]
@[simp] theorem State.tick_rwc (s : State) : (s.tick).rwc = s.rwc := by dsimp only [State.tick]
@[simp] theorem State.tick_ddp (s : State) : (s.tick).ddp = s.ddp := by dsimp only [State.tick]
@[simp] theorem State.tick_msq (s : State) : (s.tick).msq = s.msq := by dsimp only [State.tick]
@[simp] theorem State.tick_asc (s : State) : (s.tick).asc = s.asc := by dsimp only [State.tick]
@[simp] theorem State.tick_zne (s : State) : (s.tick).zne = s.zne := by dsimp only [State.tick]
@[simp] theorem State.tick_ste (s : State) : (s.tick).ste = s.ste := by dsimp only [State.tick]
@[simp] theorem State.tick_cqe (s : State) : (s.tick).cqe = s.cqe := by dsimp only [State.tick]
@[simp] theorem State.tick_hep (s : State) : (s.tick).hep = s.hep := by dsimp only [State.tick]
@[simp] theorem State.tick_ms (s : State) : (s.tick).ms = s.ms := by dsimp only [State.tick]
@[simp] theorem State.tick_core (s : State) : (s.tick).core = s.core := by dsimp only [State.tick]
@[simp] theorem State.tick_vault (s : State) : (s.tick).vault = s.vault := by dsimp only [State.tick]
@[simp] theorem State.tick_pwr (s : State) : (s.tick).pwr = s.pwr := by dsimp only [State.tick]
@[simp] theorem State.tick_flt (s : State) : (s.tick).flt = s.flt := by dsimp only [State.tick]
@[simp] theorem State.tick_evr (s : State) : (s.tick).evr = s.evr := by dsimp only [State.tick]
@[simp] theorem State.tick_bok (s : State) : (s.tick).bok = s.bok := by dsimp only [State.tick]
@[simp] theorem State.tick_sec (s : State) : (s.tick).sec = s.sec := by dsimp only [State.tick]
@[simp] theorem State.tick_brl (s : State) : (s.tick).brl = s.brl := by dsimp only [State.tick]
@[simp] theorem State.tick_pins (s : State) : (s.tick).pins = s.pins := by dsimp only [State.tick]
@[simp] theorem State.tick_flash (s : State) : (s.tick).flash = s.flash := by dsimp only [State.tick]

/-! sacSet -/
@[simp] theorem State.sacSet_pending (s : State) (a : Act) (x : SacSt) : (s.sacSet a x).pending = s.pending := by dsimp only [State.sacSet]
@[simp] theorem State.sacSet_regs (s : State) (a : Act) (x : SacSt) : (s.sacSet a x).regs = s.regs := by dsimp only [State.sacSet]
@[simp] theorem State.sacSet_live (s : State) (a : Act) (x : SacSt) : (s.sacSet a x).live = s.live := by dsimp only [State.sacSet]
@[simp] theorem State.sacSet_shadows (s : State) (a : Act) (x : SacSt) : (s.sacSet a x).shadows = s.shadows := by dsimp only [State.sacSet]
@[simp] theorem State.sacSet_mem (s : State) (a : Act) (x : SacSt) : (s.sacSet a x).mem = s.mem := by dsimp only [State.sacSet]
@[simp] theorem State.sacSet_ttb (s : State) (a : Act) (x : SacSt) : (s.sacSet a x).ttb = s.ttb := by dsimp only [State.sacSet]
@[simp] theorem State.sacSet_spc (s : State) (a : Act) (x : SacSt) : (s.sacSet a x).spc = s.spc := by dsimp only [State.sacSet]
@[simp] theorem State.sacSet_rwc (s : State) (a : Act) (x : SacSt) : (s.sacSet a x).rwc = s.rwc := by dsimp only [State.sacSet]
@[simp] theorem State.sacSet_ddp (s : State) (a : Act) (x : SacSt) : (s.sacSet a x).ddp = s.ddp := by dsimp only [State.sacSet]
@[simp] theorem State.sacSet_msq (s : State) (a : Act) (x : SacSt) : (s.sacSet a x).msq = s.msq := by dsimp only [State.sacSet]
@[simp] theorem State.sacSet_asc (s : State) (a : Act) (x : SacSt) : (s.sacSet a x).asc = s.asc := by dsimp only [State.sacSet]
@[simp] theorem State.sacSet_zne (s : State) (a : Act) (x : SacSt) : (s.sacSet a x).zne = s.zne := by dsimp only [State.sacSet]
@[simp] theorem State.sacSet_ste (s : State) (a : Act) (x : SacSt) : (s.sacSet a x).ste = s.ste := by dsimp only [State.sacSet]
@[simp] theorem State.sacSet_cqe (s : State) (a : Act) (x : SacSt) : (s.sacSet a x).cqe = s.cqe := by dsimp only [State.sacSet]
@[simp] theorem State.sacSet_hep (s : State) (a : Act) (x : SacSt) : (s.sacSet a x).hep = s.hep := by dsimp only [State.sacSet]
@[simp] theorem State.sacSet_ms (s : State) (a : Act) (x : SacSt) : (s.sacSet a x).ms = s.ms := by dsimp only [State.sacSet]
@[simp] theorem State.sacSet_core (s : State) (a : Act) (x : SacSt) : (s.sacSet a x).core = s.core := by dsimp only [State.sacSet]
@[simp] theorem State.sacSet_vault (s : State) (a : Act) (x : SacSt) : (s.sacSet a x).vault = s.vault := by dsimp only [State.sacSet]
@[simp] theorem State.sacSet_pwr (s : State) (a : Act) (x : SacSt) : (s.sacSet a x).pwr = s.pwr := by dsimp only [State.sacSet]
@[simp] theorem State.sacSet_flt (s : State) (a : Act) (x : SacSt) : (s.sacSet a x).flt = s.flt := by dsimp only [State.sacSet]
@[simp] theorem State.sacSet_evr (s : State) (a : Act) (x : SacSt) : (s.sacSet a x).evr = s.evr := by dsimp only [State.sacSet]
@[simp] theorem State.sacSet_bok (s : State) (a : Act) (x : SacSt) : (s.sacSet a x).bok = s.bok := by dsimp only [State.sacSet]
@[simp] theorem State.sacSet_sec (s : State) (a : Act) (x : SacSt) : (s.sacSet a x).sec = s.sec := by dsimp only [State.sacSet]
@[simp] theorem State.sacSet_brl (s : State) (a : Act) (x : SacSt) : (s.sacSet a x).brl = s.brl := by dsimp only [State.sacSet]
@[simp] theorem State.sacSet_pins (s : State) (a : Act) (x : SacSt) : (s.sacSet a x).pins = s.pins := by dsimp only [State.sacSet]
@[simp] theorem State.sacSet_flash (s : State) (a : Act) (x : SacSt) : (s.sacSet a x).flash = s.flash := by dsimp only [State.sacSet]
@[simp] theorem State.sacSet_freeCtr (s : State) (a : Act) (x : SacSt) : (s.sacSet a x).freeCtr = s.freeCtr := by dsimp only [State.sacSet]

/-! rwcSet -/
@[simp] theorem State.rwcSet_pending (s : State) (a : Act) (x : RwcSt) : (s.rwcSet a x).pending = s.pending := by dsimp only [State.rwcSet]
@[simp] theorem State.rwcSet_regs (s : State) (a : Act) (x : RwcSt) : (s.rwcSet a x).regs = s.regs := by dsimp only [State.rwcSet]
@[simp] theorem State.rwcSet_live (s : State) (a : Act) (x : RwcSt) : (s.rwcSet a x).live = s.live := by dsimp only [State.rwcSet]
@[simp] theorem State.rwcSet_shadows (s : State) (a : Act) (x : RwcSt) : (s.rwcSet a x).shadows = s.shadows := by dsimp only [State.rwcSet]
@[simp] theorem State.rwcSet_mem (s : State) (a : Act) (x : RwcSt) : (s.rwcSet a x).mem = s.mem := by dsimp only [State.rwcSet]
@[simp] theorem State.rwcSet_ttb (s : State) (a : Act) (x : RwcSt) : (s.rwcSet a x).ttb = s.ttb := by dsimp only [State.rwcSet]
@[simp] theorem State.rwcSet_spc (s : State) (a : Act) (x : RwcSt) : (s.rwcSet a x).spc = s.spc := by dsimp only [State.rwcSet]
@[simp] theorem State.rwcSet_sac (s : State) (a : Act) (x : RwcSt) : (s.rwcSet a x).sac = s.sac := by dsimp only [State.rwcSet]
@[simp] theorem State.rwcSet_ddp (s : State) (a : Act) (x : RwcSt) : (s.rwcSet a x).ddp = s.ddp := by dsimp only [State.rwcSet]
@[simp] theorem State.rwcSet_msq (s : State) (a : Act) (x : RwcSt) : (s.rwcSet a x).msq = s.msq := by dsimp only [State.rwcSet]
@[simp] theorem State.rwcSet_asc (s : State) (a : Act) (x : RwcSt) : (s.rwcSet a x).asc = s.asc := by dsimp only [State.rwcSet]
@[simp] theorem State.rwcSet_zne (s : State) (a : Act) (x : RwcSt) : (s.rwcSet a x).zne = s.zne := by dsimp only [State.rwcSet]
@[simp] theorem State.rwcSet_ste (s : State) (a : Act) (x : RwcSt) : (s.rwcSet a x).ste = s.ste := by dsimp only [State.rwcSet]
@[simp] theorem State.rwcSet_cqe (s : State) (a : Act) (x : RwcSt) : (s.rwcSet a x).cqe = s.cqe := by dsimp only [State.rwcSet]
@[simp] theorem State.rwcSet_hep (s : State) (a : Act) (x : RwcSt) : (s.rwcSet a x).hep = s.hep := by dsimp only [State.rwcSet]
@[simp] theorem State.rwcSet_ms (s : State) (a : Act) (x : RwcSt) : (s.rwcSet a x).ms = s.ms := by dsimp only [State.rwcSet]
@[simp] theorem State.rwcSet_core (s : State) (a : Act) (x : RwcSt) : (s.rwcSet a x).core = s.core := by dsimp only [State.rwcSet]
@[simp] theorem State.rwcSet_vault (s : State) (a : Act) (x : RwcSt) : (s.rwcSet a x).vault = s.vault := by dsimp only [State.rwcSet]
@[simp] theorem State.rwcSet_pwr (s : State) (a : Act) (x : RwcSt) : (s.rwcSet a x).pwr = s.pwr := by dsimp only [State.rwcSet]
@[simp] theorem State.rwcSet_flt (s : State) (a : Act) (x : RwcSt) : (s.rwcSet a x).flt = s.flt := by dsimp only [State.rwcSet]
@[simp] theorem State.rwcSet_evr (s : State) (a : Act) (x : RwcSt) : (s.rwcSet a x).evr = s.evr := by dsimp only [State.rwcSet]
@[simp] theorem State.rwcSet_bok (s : State) (a : Act) (x : RwcSt) : (s.rwcSet a x).bok = s.bok := by dsimp only [State.rwcSet]
@[simp] theorem State.rwcSet_sec (s : State) (a : Act) (x : RwcSt) : (s.rwcSet a x).sec = s.sec := by dsimp only [State.rwcSet]
@[simp] theorem State.rwcSet_brl (s : State) (a : Act) (x : RwcSt) : (s.rwcSet a x).brl = s.brl := by dsimp only [State.rwcSet]
@[simp] theorem State.rwcSet_pins (s : State) (a : Act) (x : RwcSt) : (s.rwcSet a x).pins = s.pins := by dsimp only [State.rwcSet]
@[simp] theorem State.rwcSet_flash (s : State) (a : Act) (x : RwcSt) : (s.rwcSet a x).flash = s.flash := by dsimp only [State.rwcSet]
@[simp] theorem State.rwcSet_freeCtr (s : State) (a : Act) (x : RwcSt) : (s.rwcSet a x).freeCtr = s.freeCtr := by dsimp only [State.rwcSet]

/-! msqSet -/
@[simp] theorem State.msqSet_pending (s : State) (a : Act) (x : MsqSt) : (s.msqSet a x).pending = s.pending := by dsimp only [State.msqSet]
@[simp] theorem State.msqSet_regs (s : State) (a : Act) (x : MsqSt) : (s.msqSet a x).regs = s.regs := by dsimp only [State.msqSet]
@[simp] theorem State.msqSet_live (s : State) (a : Act) (x : MsqSt) : (s.msqSet a x).live = s.live := by dsimp only [State.msqSet]
@[simp] theorem State.msqSet_shadows (s : State) (a : Act) (x : MsqSt) : (s.msqSet a x).shadows = s.shadows := by dsimp only [State.msqSet]
@[simp] theorem State.msqSet_mem (s : State) (a : Act) (x : MsqSt) : (s.msqSet a x).mem = s.mem := by dsimp only [State.msqSet]
@[simp] theorem State.msqSet_ttb (s : State) (a : Act) (x : MsqSt) : (s.msqSet a x).ttb = s.ttb := by dsimp only [State.msqSet]
@[simp] theorem State.msqSet_spc (s : State) (a : Act) (x : MsqSt) : (s.msqSet a x).spc = s.spc := by dsimp only [State.msqSet]
@[simp] theorem State.msqSet_sac (s : State) (a : Act) (x : MsqSt) : (s.msqSet a x).sac = s.sac := by dsimp only [State.msqSet]
@[simp] theorem State.msqSet_rwc (s : State) (a : Act) (x : MsqSt) : (s.msqSet a x).rwc = s.rwc := by dsimp only [State.msqSet]
@[simp] theorem State.msqSet_ddp (s : State) (a : Act) (x : MsqSt) : (s.msqSet a x).ddp = s.ddp := by dsimp only [State.msqSet]
@[simp] theorem State.msqSet_asc (s : State) (a : Act) (x : MsqSt) : (s.msqSet a x).asc = s.asc := by dsimp only [State.msqSet]
@[simp] theorem State.msqSet_zne (s : State) (a : Act) (x : MsqSt) : (s.msqSet a x).zne = s.zne := by dsimp only [State.msqSet]
@[simp] theorem State.msqSet_ste (s : State) (a : Act) (x : MsqSt) : (s.msqSet a x).ste = s.ste := by dsimp only [State.msqSet]
@[simp] theorem State.msqSet_cqe (s : State) (a : Act) (x : MsqSt) : (s.msqSet a x).cqe = s.cqe := by dsimp only [State.msqSet]
@[simp] theorem State.msqSet_hep (s : State) (a : Act) (x : MsqSt) : (s.msqSet a x).hep = s.hep := by dsimp only [State.msqSet]
@[simp] theorem State.msqSet_ms (s : State) (a : Act) (x : MsqSt) : (s.msqSet a x).ms = s.ms := by dsimp only [State.msqSet]
@[simp] theorem State.msqSet_core (s : State) (a : Act) (x : MsqSt) : (s.msqSet a x).core = s.core := by dsimp only [State.msqSet]
@[simp] theorem State.msqSet_vault (s : State) (a : Act) (x : MsqSt) : (s.msqSet a x).vault = s.vault := by dsimp only [State.msqSet]
@[simp] theorem State.msqSet_pwr (s : State) (a : Act) (x : MsqSt) : (s.msqSet a x).pwr = s.pwr := by dsimp only [State.msqSet]
@[simp] theorem State.msqSet_flt (s : State) (a : Act) (x : MsqSt) : (s.msqSet a x).flt = s.flt := by dsimp only [State.msqSet]
@[simp] theorem State.msqSet_evr (s : State) (a : Act) (x : MsqSt) : (s.msqSet a x).evr = s.evr := by dsimp only [State.msqSet]
@[simp] theorem State.msqSet_bok (s : State) (a : Act) (x : MsqSt) : (s.msqSet a x).bok = s.bok := by dsimp only [State.msqSet]
@[simp] theorem State.msqSet_sec (s : State) (a : Act) (x : MsqSt) : (s.msqSet a x).sec = s.sec := by dsimp only [State.msqSet]
@[simp] theorem State.msqSet_brl (s : State) (a : Act) (x : MsqSt) : (s.msqSet a x).brl = s.brl := by dsimp only [State.msqSet]
@[simp] theorem State.msqSet_pins (s : State) (a : Act) (x : MsqSt) : (s.msqSet a x).pins = s.pins := by dsimp only [State.msqSet]
@[simp] theorem State.msqSet_flash (s : State) (a : Act) (x : MsqSt) : (s.msqSet a x).flash = s.flash := by dsimp only [State.msqSet]
@[simp] theorem State.msqSet_freeCtr (s : State) (a : Act) (x : MsqSt) : (s.msqSet a x).freeCtr = s.freeCtr := by dsimp only [State.msqSet]

/-! fset -/
@[simp] theorem State.fset_pending (s : State) (f : Fld) (v : Nat) : (s.fset f v).pending = s.pending := by rw [State.fset, State.wr_pending]
@[simp] theorem State.fset_live (s : State) (f : Fld) (v : Nat) : (s.fset f v).live = s.live := by rw [State.fset, State.wr_live]
@[simp] theorem State.fset_shadows (s : State) (f : Fld) (v : Nat) : (s.fset f v).shadows = s.shadows := by rw [State.fset, State.wr_shadows]
@[simp] theorem State.fset_mem (s : State) (f : Fld) (v : Nat) : (s.fset f v).mem = s.mem := by rw [State.fset, State.wr_mem]
@[simp] theorem State.fset_ttb (s : State) (f : Fld) (v : Nat) : (s.fset f v).ttb = s.ttb := by rw [State.fset, State.wr_ttb]
@[simp] theorem State.fset_spc (s : State) (f : Fld) (v : Nat) : (s.fset f v).spc = s.spc := by rw [State.fset, State.wr_spc]
@[simp] theorem State.fset_sac (s : State) (f : Fld) (v : Nat) : (s.fset f v).sac = s.sac := by rw [State.fset, State.wr_sac]
@[simp] theorem State.fset_rwc (s : State) (f : Fld) (v : Nat) : (s.fset f v).rwc = s.rwc := by rw [State.fset, State.wr_rwc]
@[simp] theorem State.fset_ddp (s : State) (f : Fld) (v : Nat) : (s.fset f v).ddp = s.ddp := by rw [State.fset, State.wr_ddp]
@[simp] theorem State.fset_msq (s : State) (f : Fld) (v : Nat) : (s.fset f v).msq = s.msq := by rw [State.fset, State.wr_msq]
@[simp] theorem State.fset_asc (s : State) (f : Fld) (v : Nat) : (s.fset f v).asc = s.asc := by rw [State.fset, State.wr_asc]
@[simp] theorem State.fset_zne (s : State) (f : Fld) (v : Nat) : (s.fset f v).zne = s.zne := by rw [State.fset, State.wr_zne]
@[simp] theorem State.fset_ste (s : State) (f : Fld) (v : Nat) : (s.fset f v).ste = s.ste := by rw [State.fset, State.wr_ste]
@[simp] theorem State.fset_cqe (s : State) (f : Fld) (v : Nat) : (s.fset f v).cqe = s.cqe := by rw [State.fset, State.wr_cqe]
@[simp] theorem State.fset_hep (s : State) (f : Fld) (v : Nat) : (s.fset f v).hep = s.hep := by rw [State.fset, State.wr_hep]
@[simp] theorem State.fset_ms (s : State) (f : Fld) (v : Nat) : (s.fset f v).ms = s.ms := by rw [State.fset, State.wr_ms]
@[simp] theorem State.fset_core (s : State) (f : Fld) (v : Nat) : (s.fset f v).core = s.core := by rw [State.fset, State.wr_core]
@[simp] theorem State.fset_vault (s : State) (f : Fld) (v : Nat) : (s.fset f v).vault = s.vault := by rw [State.fset, State.wr_vault]
@[simp] theorem State.fset_pwr (s : State) (f : Fld) (v : Nat) : (s.fset f v).pwr = s.pwr := by rw [State.fset, State.wr_pwr]
@[simp] theorem State.fset_flt (s : State) (f : Fld) (v : Nat) : (s.fset f v).flt = s.flt := by rw [State.fset, State.wr_flt]
@[simp] theorem State.fset_evr (s : State) (f : Fld) (v : Nat) : (s.fset f v).evr = s.evr := by rw [State.fset, State.wr_evr]
@[simp] theorem State.fset_bok (s : State) (f : Fld) (v : Nat) : (s.fset f v).bok = s.bok := by rw [State.fset, State.wr_bok]
@[simp] theorem State.fset_sec (s : State) (f : Fld) (v : Nat) : (s.fset f v).sec = s.sec := by rw [State.fset, State.wr_sec]
@[simp] theorem State.fset_brl (s : State) (f : Fld) (v : Nat) : (s.fset f v).brl = s.brl := by rw [State.fset, State.wr_brl]
@[simp] theorem State.fset_pins (s : State) (f : Fld) (v : Nat) : (s.fset f v).pins = s.pins := by rw [State.fset, State.wr_pins]
@[simp] theorem State.fset_flash (s : State) (f : Fld) (v : Nat) : (s.fset f v).flash = s.flash := by rw [State.fset, State.wr_flash]
@[simp] theorem State.fset_freeCtr (s : State) (f : Fld) (v : Nat) : (s.fset f v).freeCtr = s.freeCtr := by rw [State.fset, State.wr_freeCtr]

/-! fsetB -/
@[simp] theorem State.fsetB_pending (s : State) (f : Fld) (b : Bool) : (s.fsetB f b).pending = s.pending := by rw [State.fsetB, State.fset_pending]
@[simp] theorem State.fsetB_live (s : State) (f : Fld) (b : Bool) : (s.fsetB f b).live = s.live := by rw [State.fsetB, State.fset_live]
@[simp] theorem State.fsetB_shadows (s : State) (f : Fld) (b : Bool) : (s.fsetB f b).shadows = s.shadows := by rw [State.fsetB, State.fset_shadows]
@[simp] theorem State.fsetB_mem (s : State) (f : Fld) (b : Bool) : (s.fsetB f b).mem = s.mem := by rw [State.fsetB, State.fset_mem]
@[simp] theorem State.fsetB_ttb (s : State) (f : Fld) (b : Bool) : (s.fsetB f b).ttb = s.ttb := by rw [State.fsetB, State.fset_ttb]
@[simp] theorem State.fsetB_spc (s : State) (f : Fld) (b : Bool) : (s.fsetB f b).spc = s.spc := by rw [State.fsetB, State.fset_spc]
@[simp] theorem State.fsetB_sac (s : State) (f : Fld) (b : Bool) : (s.fsetB f b).sac = s.sac := by rw [State.fsetB, State.fset_sac]
@[simp] theorem State.fsetB_rwc (s : State) (f : Fld) (b : Bool) : (s.fsetB f b).rwc = s.rwc := by rw [State.fsetB, State.fset_rwc]
@[simp] theorem State.fsetB_ddp (s : State) (f : Fld) (b : Bool) : (s.fsetB f b).ddp = s.ddp := by rw [State.fsetB, State.fset_ddp]
@[simp] theorem State.fsetB_msq (s : State) (f : Fld) (b : Bool) : (s.fsetB f b).msq = s.msq := by rw [State.fsetB, State.fset_msq]
@[simp] theorem State.fsetB_asc (s : State) (f : Fld) (b : Bool) : (s.fsetB f b).asc = s.asc := by rw [State.fsetB, State.fset_asc]
@[simp] theorem State.fsetB_zne (s : State) (f : Fld) (b : Bool) : (s.fsetB f b).zne = s.zne := by rw [State.fsetB, State.fset_zne]
@[simp] theorem State.fsetB_ste (s : State) (f : Fld) (b : Bool) : (s.fsetB f b).ste = s.ste := by rw [State.fsetB, State.fset_ste]
@[simp] theorem State.fsetB_cqe (s : State) (f : Fld) (b : Bool) : (s.fsetB f b).cqe = s.cqe := by rw [State.fsetB, State.fset_cqe]
@[simp] theorem State.fsetB_hep (s : State) (f : Fld) (b : Bool) : (s.fsetB f b).hep = s.hep := by rw [State.fsetB, State.fset_hep]
@[simp] theorem State.fsetB_ms (s : State) (f : Fld) (b : Bool) : (s.fsetB f b).ms = s.ms := by rw [State.fsetB, State.fset_ms]
@[simp] theorem State.fsetB_core (s : State) (f : Fld) (b : Bool) : (s.fsetB f b).core = s.core := by rw [State.fsetB, State.fset_core]
@[simp] theorem State.fsetB_vault (s : State) (f : Fld) (b : Bool) : (s.fsetB f b).vault = s.vault := by rw [State.fsetB, State.fset_vault]
@[simp] theorem State.fsetB_pwr (s : State) (f : Fld) (b : Bool) : (s.fsetB f b).pwr = s.pwr := by rw [State.fsetB, State.fset_pwr]
@[simp] theorem State.fsetB_flt (s : State) (f : Fld) (b : Bool) : (s.fsetB f b).flt = s.flt := by rw [State.fsetB, State.fset_flt]
@[simp] theorem State.fsetB_evr (s : State) (f : Fld) (b : Bool) : (s.fsetB f b).evr = s.evr := by rw [State.fsetB, State.fset_evr]
@[simp] theorem State.fsetB_bok (s : State) (f : Fld) (b : Bool) : (s.fsetB f b).bok = s.bok := by rw [State.fsetB, State.fset_bok]
@[simp] theorem State.fsetB_sec (s : State) (f : Fld) (b : Bool) : (s.fsetB f b).sec = s.sec := by rw [State.fsetB, State.fset_sec]
@[simp] theorem State.fsetB_brl (s : State) (f : Fld) (b : Bool) : (s.fsetB f b).brl = s.brl := by rw [State.fsetB, State.fset_brl]
@[simp] theorem State.fsetB_pins (s : State) (f : Fld) (b : Bool) : (s.fsetB f b).pins = s.pins := by rw [State.fsetB, State.fset_pins]
@[simp] theorem State.fsetB_flash (s : State) (f : Fld) (b : Bool) : (s.fsetB f b).flash = s.flash := by rw [State.fsetB, State.fset_flash]
@[simp] theorem State.fsetB_freeCtr (s : State) (f : Fld) (b : Bool) : (s.fsetB f b).freeCtr = s.freeCtr := by rw [State.fsetB, State.fset_freeCtr]

/-! sset -/
@[simp] theorem State.sset_pending (s : State) (f : Fld) (i : Int) : (s.sset f i).pending = s.pending := by rw [State.sset, State.fset_pending]
@[simp] theorem State.sset_live (s : State) (f : Fld) (i : Int) : (s.sset f i).live = s.live := by rw [State.sset, State.fset_live]
@[simp] theorem State.sset_shadows (s : State) (f : Fld) (i : Int) : (s.sset f i).shadows = s.shadows := by rw [State.sset, State.fset_shadows]
@[simp] theorem State.sset_mem (s : State) (f : Fld) (i : Int) : (s.sset f i).mem = s.mem := by rw [State.sset, State.fset_mem]
@[simp] theorem State.sset_ttb (s : State) (f : Fld) (i : Int) : (s.sset f i).ttb = s.ttb := by rw [State.sset, State.fset_ttb]
@[simp] theorem State.sset_spc (s : State) (f : Fld) (i : Int) : (s.sset f i).spc = s.spc := by rw [State.sset, State.fset_spc]
@[simp] theorem State.sset_sac (s : State) (f : Fld) (i : Int) : (s.sset f i).sac = s.sac := by rw [State.sset, State.fset_sac]
@[simp] theorem State.sset_rwc (s : State) (f : Fld) (i : Int) : (s.sset f i).rwc = s.rwc := by rw [State.sset, State.fset_rwc]
@[simp] theorem State.sset_ddp (s : State) (f : Fld) (i : Int) : (s.sset f i).ddp = s.ddp := by rw [State.sset, State.fset_ddp]
@[simp] theorem State.sset_msq (s : State) (f : Fld) (i : Int) : (s.sset f i).msq = s.msq := by rw [State.sset, State.fset_msq]
@[simp] theorem State.sset_asc (s : State) (f : Fld) (i : Int) : (s.sset f i).asc = s.asc := by rw [State.sset, State.fset_asc]
@[simp] theorem State.sset_zne (s : State) (f : Fld) (i : Int) : (s.sset f i).zne = s.zne := by rw [State.sset, State.fset_zne]
@[simp] theorem State.sset_ste (s : State) (f : Fld) (i : Int) : (s.sset f i).ste = s.ste := by rw [State.sset, State.fset_ste]
@[simp] theorem State.sset_cqe (s : State) (f : Fld) (i : Int) : (s.sset f i).cqe = s.cqe := by rw [State.sset, State.fset_cqe]
@[simp] theorem State.sset_hep (s : State) (f : Fld) (i : Int) : (s.sset f i).hep = s.hep := by rw [State.sset, State.fset_hep]
@[simp] theorem State.sset_ms (s : State) (f : Fld) (i : Int) : (s.sset f i).ms = s.ms := by rw [State.sset, State.fset_ms]
@[simp] theorem State.sset_core (s : State) (f : Fld) (i : Int) : (s.sset f i).core = s.core := by rw [State.sset, State.fset_core]
@[simp] theorem State.sset_vault (s : State) (f : Fld) (i : Int) : (s.sset f i).vault = s.vault := by rw [State.sset, State.fset_vault]
@[simp] theorem State.sset_pwr (s : State) (f : Fld) (i : Int) : (s.sset f i).pwr = s.pwr := by rw [State.sset, State.fset_pwr]
@[simp] theorem State.sset_flt (s : State) (f : Fld) (i : Int) : (s.sset f i).flt = s.flt := by rw [State.sset, State.fset_flt]
@[simp] theorem State.sset_evr (s : State) (f : Fld) (i : Int) : (s.sset f i).evr = s.evr := by rw [State.sset, State.fset_evr]
@[simp] theorem State.sset_bok (s : State) (f : Fld) (i : Int) : (s.sset f i).bok = s.bok := by rw [State.sset, State.fset_bok]
@[simp] theorem State.sset_sec (s : State) (f : Fld) (i : Int) : (s.sset f i).sec = s.sec := by rw [State.sset, State.fset_sec]
@[simp] theorem State.sset_brl (s : State) (f : Fld) (i : Int) : (s.sset f i).brl = s.brl := by rw [State.sset, State.fset_brl]
@[simp] theorem State.sset_pins (s : State) (f : Fld) (i : Int) : (s.sset f i).pins = s.pins := by rw [State.sset, State.fset_pins]
@[simp] theorem State.sset_flash (s : State) (f : Fld) (i : Int) : (s.sset f i).flash = s.flash := by rw [State.sset, State.fset_flash]
@[simp] theorem State.sset_freeCtr (s : State) (f : Fld) (i : Int) : (s.sset f i).freeCtr = s.freeCtr := by rw [State.sset, State.fset_freeCtr]

/-! wideSet -/
@[simp] theorem State.wideSet_pending (s : State) (o n : Nat) : (s.wideSet o n).pending = s.pending := by rw [State.wideSet, State.wr_pending, State.wr_pending]
@[simp] theorem State.wideSet_live (s : State) (o n : Nat) : (s.wideSet o n).live = s.live := by rw [State.wideSet, State.wr_live, State.wr_live]
@[simp] theorem State.wideSet_shadows (s : State) (o n : Nat) : (s.wideSet o n).shadows = s.shadows := by rw [State.wideSet, State.wr_shadows, State.wr_shadows]
@[simp] theorem State.wideSet_mem (s : State) (o n : Nat) : (s.wideSet o n).mem = s.mem := by rw [State.wideSet, State.wr_mem, State.wr_mem]
@[simp] theorem State.wideSet_ttb (s : State) (o n : Nat) : (s.wideSet o n).ttb = s.ttb := by rw [State.wideSet, State.wr_ttb, State.wr_ttb]
@[simp] theorem State.wideSet_spc (s : State) (o n : Nat) : (s.wideSet o n).spc = s.spc := by rw [State.wideSet, State.wr_spc, State.wr_spc]
@[simp] theorem State.wideSet_sac (s : State) (o n : Nat) : (s.wideSet o n).sac = s.sac := by rw [State.wideSet, State.wr_sac, State.wr_sac]
@[simp] theorem State.wideSet_rwc (s : State) (o n : Nat) : (s.wideSet o n).rwc = s.rwc := by rw [State.wideSet, State.wr_rwc, State.wr_rwc]
@[simp] theorem State.wideSet_ddp (s : State) (o n : Nat) : (s.wideSet o n).ddp = s.ddp := by rw [State.wideSet, State.wr_ddp, State.wr_ddp]
@[simp] theorem State.wideSet_msq (s : State) (o n : Nat) : (s.wideSet o n).msq = s.msq := by rw [State.wideSet, State.wr_msq, State.wr_msq]
@[simp] theorem State.wideSet_asc (s : State) (o n : Nat) : (s.wideSet o n).asc = s.asc := by rw [State.wideSet, State.wr_asc, State.wr_asc]
@[simp] theorem State.wideSet_zne (s : State) (o n : Nat) : (s.wideSet o n).zne = s.zne := by rw [State.wideSet, State.wr_zne, State.wr_zne]
@[simp] theorem State.wideSet_ste (s : State) (o n : Nat) : (s.wideSet o n).ste = s.ste := by rw [State.wideSet, State.wr_ste, State.wr_ste]
@[simp] theorem State.wideSet_cqe (s : State) (o n : Nat) : (s.wideSet o n).cqe = s.cqe := by rw [State.wideSet, State.wr_cqe, State.wr_cqe]
@[simp] theorem State.wideSet_hep (s : State) (o n : Nat) : (s.wideSet o n).hep = s.hep := by rw [State.wideSet, State.wr_hep, State.wr_hep]
@[simp] theorem State.wideSet_ms (s : State) (o n : Nat) : (s.wideSet o n).ms = s.ms := by rw [State.wideSet, State.wr_ms, State.wr_ms]
@[simp] theorem State.wideSet_core (s : State) (o n : Nat) : (s.wideSet o n).core = s.core := by rw [State.wideSet, State.wr_core, State.wr_core]
@[simp] theorem State.wideSet_vault (s : State) (o n : Nat) : (s.wideSet o n).vault = s.vault := by rw [State.wideSet, State.wr_vault, State.wr_vault]
@[simp] theorem State.wideSet_pwr (s : State) (o n : Nat) : (s.wideSet o n).pwr = s.pwr := by rw [State.wideSet, State.wr_pwr, State.wr_pwr]
@[simp] theorem State.wideSet_flt (s : State) (o n : Nat) : (s.wideSet o n).flt = s.flt := by rw [State.wideSet, State.wr_flt, State.wr_flt]
@[simp] theorem State.wideSet_evr (s : State) (o n : Nat) : (s.wideSet o n).evr = s.evr := by rw [State.wideSet, State.wr_evr, State.wr_evr]
@[simp] theorem State.wideSet_bok (s : State) (o n : Nat) : (s.wideSet o n).bok = s.bok := by rw [State.wideSet, State.wr_bok, State.wr_bok]
@[simp] theorem State.wideSet_sec (s : State) (o n : Nat) : (s.wideSet o n).sec = s.sec := by rw [State.wideSet, State.wr_sec, State.wr_sec]
@[simp] theorem State.wideSet_brl (s : State) (o n : Nat) : (s.wideSet o n).brl = s.brl := by rw [State.wideSet, State.wr_brl, State.wr_brl]
@[simp] theorem State.wideSet_pins (s : State) (o n : Nat) : (s.wideSet o n).pins = s.pins := by rw [State.wideSet, State.wr_pins, State.wr_pins]
@[simp] theorem State.wideSet_flash (s : State) (o n : Nat) : (s.wideSet o n).flash = s.flash := by rw [State.wideSet, State.wr_flash, State.wr_flash]
@[simp] theorem State.wideSet_freeCtr (s : State) (o n : Nat) : (s.wideSet o n).freeCtr = s.freeCtr := by rw [State.wideSet, State.wr_freeCtr, State.wr_freeCtr]

/-! count -/
@[simp] theorem State.count_pending (s : State) (o n : Nat) : (s.count o n).pending = s.pending := by rw [State.count, State.wideSet_pending]
@[simp] theorem State.count_live (s : State) (o n : Nat) : (s.count o n).live = s.live := by rw [State.count, State.wideSet_live]
@[simp] theorem State.count_shadows (s : State) (o n : Nat) : (s.count o n).shadows = s.shadows := by rw [State.count, State.wideSet_shadows]
@[simp] theorem State.count_mem (s : State) (o n : Nat) : (s.count o n).mem = s.mem := by rw [State.count, State.wideSet_mem]
@[simp] theorem State.count_ttb (s : State) (o n : Nat) : (s.count o n).ttb = s.ttb := by rw [State.count, State.wideSet_ttb]
@[simp] theorem State.count_spc (s : State) (o n : Nat) : (s.count o n).spc = s.spc := by rw [State.count, State.wideSet_spc]
@[simp] theorem State.count_sac (s : State) (o n : Nat) : (s.count o n).sac = s.sac := by rw [State.count, State.wideSet_sac]
@[simp] theorem State.count_rwc (s : State) (o n : Nat) : (s.count o n).rwc = s.rwc := by rw [State.count, State.wideSet_rwc]
@[simp] theorem State.count_ddp (s : State) (o n : Nat) : (s.count o n).ddp = s.ddp := by rw [State.count, State.wideSet_ddp]
@[simp] theorem State.count_msq (s : State) (o n : Nat) : (s.count o n).msq = s.msq := by rw [State.count, State.wideSet_msq]
@[simp] theorem State.count_asc (s : State) (o n : Nat) : (s.count o n).asc = s.asc := by rw [State.count, State.wideSet_asc]
@[simp] theorem State.count_zne (s : State) (o n : Nat) : (s.count o n).zne = s.zne := by rw [State.count, State.wideSet_zne]
@[simp] theorem State.count_ste (s : State) (o n : Nat) : (s.count o n).ste = s.ste := by rw [State.count, State.wideSet_ste]
@[simp] theorem State.count_cqe (s : State) (o n : Nat) : (s.count o n).cqe = s.cqe := by rw [State.count, State.wideSet_cqe]
@[simp] theorem State.count_hep (s : State) (o n : Nat) : (s.count o n).hep = s.hep := by rw [State.count, State.wideSet_hep]
@[simp] theorem State.count_ms (s : State) (o n : Nat) : (s.count o n).ms = s.ms := by rw [State.count, State.wideSet_ms]
@[simp] theorem State.count_core (s : State) (o n : Nat) : (s.count o n).core = s.core := by rw [State.count, State.wideSet_core]
@[simp] theorem State.count_vault (s : State) (o n : Nat) : (s.count o n).vault = s.vault := by rw [State.count, State.wideSet_vault]
@[simp] theorem State.count_pwr (s : State) (o n : Nat) : (s.count o n).pwr = s.pwr := by rw [State.count, State.wideSet_pwr]
@[simp] theorem State.count_flt (s : State) (o n : Nat) : (s.count o n).flt = s.flt := by rw [State.count, State.wideSet_flt]
@[simp] theorem State.count_evr (s : State) (o n : Nat) : (s.count o n).evr = s.evr := by rw [State.count, State.wideSet_evr]
@[simp] theorem State.count_bok (s : State) (o n : Nat) : (s.count o n).bok = s.bok := by rw [State.count, State.wideSet_bok]
@[simp] theorem State.count_sec (s : State) (o n : Nat) : (s.count o n).sec = s.sec := by rw [State.count, State.wideSet_sec]
@[simp] theorem State.count_brl (s : State) (o n : Nat) : (s.count o n).brl = s.brl := by rw [State.count, State.wideSet_brl]
@[simp] theorem State.count_pins (s : State) (o n : Nat) : (s.count o n).pins = s.pins := by rw [State.count, State.wideSet_pins]
@[simp] theorem State.count_flash (s : State) (o n : Nat) : (s.count o n).flash = s.flash := by rw [State.count, State.wideSet_flash]
@[simp] theorem State.count_freeCtr (s : State) (o n : Nat) : (s.count o n).freeCtr = s.freeCtr := by rw [State.count, State.wideSet_freeCtr]

/-! clearCount -/
@[simp] theorem State.clearCount_pending (s : State) (o : Nat) : (s.clearCount o).pending = s.pending := by rw [State.clearCount, State.wideSet_pending]
@[simp] theorem State.clearCount_live (s : State) (o : Nat) : (s.clearCount o).live = s.live := by rw [State.clearCount, State.wideSet_live]
@[simp] theorem State.clearCount_shadows (s : State) (o : Nat) : (s.clearCount o).shadows = s.shadows := by rw [State.clearCount, State.wideSet_shadows]
@[simp] theorem State.clearCount_mem (s : State) (o : Nat) : (s.clearCount o).mem = s.mem := by rw [State.clearCount, State.wideSet_mem]
@[simp] theorem State.clearCount_ttb (s : State) (o : Nat) : (s.clearCount o).ttb = s.ttb := by rw [State.clearCount, State.wideSet_ttb]
@[simp] theorem State.clearCount_spc (s : State) (o : Nat) : (s.clearCount o).spc = s.spc := by rw [State.clearCount, State.wideSet_spc]
@[simp] theorem State.clearCount_sac (s : State) (o : Nat) : (s.clearCount o).sac = s.sac := by rw [State.clearCount, State.wideSet_sac]
@[simp] theorem State.clearCount_rwc (s : State) (o : Nat) : (s.clearCount o).rwc = s.rwc := by rw [State.clearCount, State.wideSet_rwc]
@[simp] theorem State.clearCount_ddp (s : State) (o : Nat) : (s.clearCount o).ddp = s.ddp := by rw [State.clearCount, State.wideSet_ddp]
@[simp] theorem State.clearCount_msq (s : State) (o : Nat) : (s.clearCount o).msq = s.msq := by rw [State.clearCount, State.wideSet_msq]
@[simp] theorem State.clearCount_asc (s : State) (o : Nat) : (s.clearCount o).asc = s.asc := by rw [State.clearCount, State.wideSet_asc]
@[simp] theorem State.clearCount_zne (s : State) (o : Nat) : (s.clearCount o).zne = s.zne := by rw [State.clearCount, State.wideSet_zne]
@[simp] theorem State.clearCount_ste (s : State) (o : Nat) : (s.clearCount o).ste = s.ste := by rw [State.clearCount, State.wideSet_ste]
@[simp] theorem State.clearCount_cqe (s : State) (o : Nat) : (s.clearCount o).cqe = s.cqe := by rw [State.clearCount, State.wideSet_cqe]
@[simp] theorem State.clearCount_hep (s : State) (o : Nat) : (s.clearCount o).hep = s.hep := by rw [State.clearCount, State.wideSet_hep]
@[simp] theorem State.clearCount_ms (s : State) (o : Nat) : (s.clearCount o).ms = s.ms := by rw [State.clearCount, State.wideSet_ms]
@[simp] theorem State.clearCount_core (s : State) (o : Nat) : (s.clearCount o).core = s.core := by rw [State.clearCount, State.wideSet_core]
@[simp] theorem State.clearCount_vault (s : State) (o : Nat) : (s.clearCount o).vault = s.vault := by rw [State.clearCount, State.wideSet_vault]
@[simp] theorem State.clearCount_pwr (s : State) (o : Nat) : (s.clearCount o).pwr = s.pwr := by rw [State.clearCount, State.wideSet_pwr]
@[simp] theorem State.clearCount_flt (s : State) (o : Nat) : (s.clearCount o).flt = s.flt := by rw [State.clearCount, State.wideSet_flt]
@[simp] theorem State.clearCount_evr (s : State) (o : Nat) : (s.clearCount o).evr = s.evr := by rw [State.clearCount, State.wideSet_evr]
@[simp] theorem State.clearCount_bok (s : State) (o : Nat) : (s.clearCount o).bok = s.bok := by rw [State.clearCount, State.wideSet_bok]
@[simp] theorem State.clearCount_sec (s : State) (o : Nat) : (s.clearCount o).sec = s.sec := by rw [State.clearCount, State.wideSet_sec]
@[simp] theorem State.clearCount_brl (s : State) (o : Nat) : (s.clearCount o).brl = s.brl := by rw [State.clearCount, State.wideSet_brl]
@[simp] theorem State.clearCount_pins (s : State) (o : Nat) : (s.clearCount o).pins = s.pins := by rw [State.clearCount, State.wideSet_pins]
@[simp] theorem State.clearCount_flash (s : State) (o : Nat) : (s.clearCount o).flash = s.flash := by rw [State.clearCount, State.wideSet_flash]
@[simp] theorem State.clearCount_freeCtr (s : State) (o : Nat) : (s.clearCount o).freeCtr = s.freeCtr := by rw [State.clearCount, State.wideSet_freeCtr]

/-! spcMap -/
@[simp] theorem State.spcMap_pending (s : State) (f : SpcSt → SpcSt) : (s.spcMap f).pending = s.pending := by dsimp only [State.spcMap]
@[simp] theorem State.spcMap_regs (s : State) (f : SpcSt → SpcSt) : (s.spcMap f).regs = s.regs := by dsimp only [State.spcMap]
@[simp] theorem State.spcMap_live (s : State) (f : SpcSt → SpcSt) : (s.spcMap f).live = s.live := by dsimp only [State.spcMap]
@[simp] theorem State.spcMap_shadows (s : State) (f : SpcSt → SpcSt) : (s.spcMap f).shadows = s.shadows := by dsimp only [State.spcMap]
@[simp] theorem State.spcMap_mem (s : State) (f : SpcSt → SpcSt) : (s.spcMap f).mem = s.mem := by dsimp only [State.spcMap]
@[simp] theorem State.spcMap_ttb (s : State) (f : SpcSt → SpcSt) : (s.spcMap f).ttb = s.ttb := by dsimp only [State.spcMap]
@[simp] theorem State.spcMap_spc (s : State) (f : SpcSt → SpcSt) : (s.spcMap f).spc = f s.spc := by dsimp only [State.spcMap]
@[simp] theorem State.spcMap_sac (s : State) (f : SpcSt → SpcSt) : (s.spcMap f).sac = s.sac := by dsimp only [State.spcMap]
@[simp] theorem State.spcMap_rwc (s : State) (f : SpcSt → SpcSt) : (s.spcMap f).rwc = s.rwc := by dsimp only [State.spcMap]
@[simp] theorem State.spcMap_ddp (s : State) (f : SpcSt → SpcSt) : (s.spcMap f).ddp = s.ddp := by dsimp only [State.spcMap]
@[simp] theorem State.spcMap_msq (s : State) (f : SpcSt → SpcSt) : (s.spcMap f).msq = s.msq := by dsimp only [State.spcMap]
@[simp] theorem State.spcMap_asc (s : State) (f : SpcSt → SpcSt) : (s.spcMap f).asc = s.asc := by dsimp only [State.spcMap]
@[simp] theorem State.spcMap_zne (s : State) (f : SpcSt → SpcSt) : (s.spcMap f).zne = s.zne := by dsimp only [State.spcMap]
@[simp] theorem State.spcMap_ste (s : State) (f : SpcSt → SpcSt) : (s.spcMap f).ste = s.ste := by dsimp only [State.spcMap]
@[simp] theorem State.spcMap_cqe (s : State) (f : SpcSt → SpcSt) : (s.spcMap f).cqe = s.cqe := by dsimp only [State.spcMap]
@[simp] theorem State.spcMap_hep (s : State) (f : SpcSt → SpcSt) : (s.spcMap f).hep = s.hep := by dsimp only [State.spcMap]
@[simp] theorem State.spcMap_ms (s : State) (f : SpcSt → SpcSt) : (s.spcMap f).ms = s.ms := by dsimp only [State.spcMap]
@[simp] theorem State.spcMap_core (s : State) (f : SpcSt → SpcSt) : (s.spcMap f).core = s.core := by dsimp only [State.spcMap]
@[simp] theorem State.spcMap_vault (s : State) (f : SpcSt → SpcSt) : (s.spcMap f).vault = s.vault := by dsimp only [State.spcMap]
@[simp] theorem State.spcMap_pwr (s : State) (f : SpcSt → SpcSt) : (s.spcMap f).pwr = s.pwr := by dsimp only [State.spcMap]
@[simp] theorem State.spcMap_flt (s : State) (f : SpcSt → SpcSt) : (s.spcMap f).flt = s.flt := by dsimp only [State.spcMap]
@[simp] theorem State.spcMap_evr (s : State) (f : SpcSt → SpcSt) : (s.spcMap f).evr = s.evr := by dsimp only [State.spcMap]
@[simp] theorem State.spcMap_bok (s : State) (f : SpcSt → SpcSt) : (s.spcMap f).bok = s.bok := by dsimp only [State.spcMap]
@[simp] theorem State.spcMap_sec (s : State) (f : SpcSt → SpcSt) : (s.spcMap f).sec = s.sec := by dsimp only [State.spcMap]
@[simp] theorem State.spcMap_brl (s : State) (f : SpcSt → SpcSt) : (s.spcMap f).brl = s.brl := by dsimp only [State.spcMap]
@[simp] theorem State.spcMap_pins (s : State) (f : SpcSt → SpcSt) : (s.spcMap f).pins = s.pins := by dsimp only [State.spcMap]
@[simp] theorem State.spcMap_flash (s : State) (f : SpcSt → SpcSt) : (s.spcMap f).flash = s.flash := by dsimp only [State.spcMap]
@[simp] theorem State.spcMap_freeCtr (s : State) (f : SpcSt → SpcSt) : (s.spcMap f).freeCtr = s.freeCtr := by dsimp only [State.spcMap]

/-! ddpMap -/
@[simp] theorem State.ddpMap_pending (s : State) (f : DdpSt → DdpSt) : (s.ddpMap f).pending = s.pending := by dsimp only [State.ddpMap]
@[simp] theorem State.ddpMap_regs (s : State) (f : DdpSt → DdpSt) : (s.ddpMap f).regs = s.regs := by dsimp only [State.ddpMap]
@[simp] theorem State.ddpMap_live (s : State) (f : DdpSt → DdpSt) : (s.ddpMap f).live = s.live := by dsimp only [State.ddpMap]
@[simp] theorem State.ddpMap_shadows (s : State) (f : DdpSt → DdpSt) : (s.ddpMap f).shadows = s.shadows := by dsimp only [State.ddpMap]
@[simp] theorem State.ddpMap_mem (s : State) (f : DdpSt → DdpSt) : (s.ddpMap f).mem = s.mem := by dsimp only [State.ddpMap]
@[simp] theorem State.ddpMap_ttb (s : State) (f : DdpSt → DdpSt) : (s.ddpMap f).ttb = s.ttb := by dsimp only [State.ddpMap]
@[simp] theorem State.ddpMap_spc (s : State) (f : DdpSt → DdpSt) : (s.ddpMap f).spc = s.spc := by dsimp only [State.ddpMap]
@[simp] theorem State.ddpMap_sac (s : State) (f : DdpSt → DdpSt) : (s.ddpMap f).sac = s.sac := by dsimp only [State.ddpMap]
@[simp] theorem State.ddpMap_rwc (s : State) (f : DdpSt → DdpSt) : (s.ddpMap f).rwc = s.rwc := by dsimp only [State.ddpMap]
@[simp] theorem State.ddpMap_ddp (s : State) (f : DdpSt → DdpSt) : (s.ddpMap f).ddp = f s.ddp := by dsimp only [State.ddpMap]
@[simp] theorem State.ddpMap_msq (s : State) (f : DdpSt → DdpSt) : (s.ddpMap f).msq = s.msq := by dsimp only [State.ddpMap]
@[simp] theorem State.ddpMap_asc (s : State) (f : DdpSt → DdpSt) : (s.ddpMap f).asc = s.asc := by dsimp only [State.ddpMap]
@[simp] theorem State.ddpMap_zne (s : State) (f : DdpSt → DdpSt) : (s.ddpMap f).zne = s.zne := by dsimp only [State.ddpMap]
@[simp] theorem State.ddpMap_ste (s : State) (f : DdpSt → DdpSt) : (s.ddpMap f).ste = s.ste := by dsimp only [State.ddpMap]
@[simp] theorem State.ddpMap_cqe (s : State) (f : DdpSt → DdpSt) : (s.ddpMap f).cqe = s.cqe := by dsimp only [State.ddpMap]
@[simp] theorem State.ddpMap_hep (s : State) (f : DdpSt → DdpSt) : (s.ddpMap f).hep = s.hep := by dsimp only [State.ddpMap]
@[simp] theorem State.ddpMap_ms (s : State) (f : DdpSt → DdpSt) : (s.ddpMap f).ms = s.ms := by dsimp only [State.ddpMap]
@[simp] theorem State.ddpMap_core (s : State) (f : DdpSt → DdpSt) : (s.ddpMap f).core = s.core := by dsimp only [State.ddpMap]
@[simp] theorem State.ddpMap_vault (s : State) (f : DdpSt → DdpSt) : (s.ddpMap f).vault = s.vault := by dsimp only [State.ddpMap]
@[simp] theorem State.ddpMap_pwr (s : State) (f : DdpSt → DdpSt) : (s.ddpMap f).pwr = s.pwr := by dsimp only [State.ddpMap]
@[simp] theorem State.ddpMap_flt (s : State) (f : DdpSt → DdpSt) : (s.ddpMap f).flt = s.flt := by dsimp only [State.ddpMap]
@[simp] theorem State.ddpMap_evr (s : State) (f : DdpSt → DdpSt) : (s.ddpMap f).evr = s.evr := by dsimp only [State.ddpMap]
@[simp] theorem State.ddpMap_bok (s : State) (f : DdpSt → DdpSt) : (s.ddpMap f).bok = s.bok := by dsimp only [State.ddpMap]
@[simp] theorem State.ddpMap_sec (s : State) (f : DdpSt → DdpSt) : (s.ddpMap f).sec = s.sec := by dsimp only [State.ddpMap]
@[simp] theorem State.ddpMap_brl (s : State) (f : DdpSt → DdpSt) : (s.ddpMap f).brl = s.brl := by dsimp only [State.ddpMap]
@[simp] theorem State.ddpMap_pins (s : State) (f : DdpSt → DdpSt) : (s.ddpMap f).pins = s.pins := by dsimp only [State.ddpMap]
@[simp] theorem State.ddpMap_flash (s : State) (f : DdpSt → DdpSt) : (s.ddpMap f).flash = s.flash := by dsimp only [State.ddpMap]
@[simp] theorem State.ddpMap_freeCtr (s : State) (f : DdpSt → DdpSt) : (s.ddpMap f).freeCtr = s.freeCtr := by dsimp only [State.ddpMap]

/-! cqeMap -/
@[simp] theorem State.cqeMap_pending (s : State) (f : CqeSt → CqeSt) : (s.cqeMap f).pending = s.pending := by dsimp only [State.cqeMap]
@[simp] theorem State.cqeMap_regs (s : State) (f : CqeSt → CqeSt) : (s.cqeMap f).regs = s.regs := by dsimp only [State.cqeMap]
@[simp] theorem State.cqeMap_live (s : State) (f : CqeSt → CqeSt) : (s.cqeMap f).live = s.live := by dsimp only [State.cqeMap]
@[simp] theorem State.cqeMap_shadows (s : State) (f : CqeSt → CqeSt) : (s.cqeMap f).shadows = s.shadows := by dsimp only [State.cqeMap]
@[simp] theorem State.cqeMap_mem (s : State) (f : CqeSt → CqeSt) : (s.cqeMap f).mem = s.mem := by dsimp only [State.cqeMap]
@[simp] theorem State.cqeMap_ttb (s : State) (f : CqeSt → CqeSt) : (s.cqeMap f).ttb = s.ttb := by dsimp only [State.cqeMap]
@[simp] theorem State.cqeMap_spc (s : State) (f : CqeSt → CqeSt) : (s.cqeMap f).spc = s.spc := by dsimp only [State.cqeMap]
@[simp] theorem State.cqeMap_sac (s : State) (f : CqeSt → CqeSt) : (s.cqeMap f).sac = s.sac := by dsimp only [State.cqeMap]
@[simp] theorem State.cqeMap_rwc (s : State) (f : CqeSt → CqeSt) : (s.cqeMap f).rwc = s.rwc := by dsimp only [State.cqeMap]
@[simp] theorem State.cqeMap_ddp (s : State) (f : CqeSt → CqeSt) : (s.cqeMap f).ddp = s.ddp := by dsimp only [State.cqeMap]
@[simp] theorem State.cqeMap_msq (s : State) (f : CqeSt → CqeSt) : (s.cqeMap f).msq = s.msq := by dsimp only [State.cqeMap]
@[simp] theorem State.cqeMap_asc (s : State) (f : CqeSt → CqeSt) : (s.cqeMap f).asc = s.asc := by dsimp only [State.cqeMap]
@[simp] theorem State.cqeMap_zne (s : State) (f : CqeSt → CqeSt) : (s.cqeMap f).zne = s.zne := by dsimp only [State.cqeMap]
@[simp] theorem State.cqeMap_ste (s : State) (f : CqeSt → CqeSt) : (s.cqeMap f).ste = s.ste := by dsimp only [State.cqeMap]
@[simp] theorem State.cqeMap_cqe (s : State) (f : CqeSt → CqeSt) : (s.cqeMap f).cqe = f s.cqe := by dsimp only [State.cqeMap]
@[simp] theorem State.cqeMap_hep (s : State) (f : CqeSt → CqeSt) : (s.cqeMap f).hep = s.hep := by dsimp only [State.cqeMap]
@[simp] theorem State.cqeMap_ms (s : State) (f : CqeSt → CqeSt) : (s.cqeMap f).ms = s.ms := by dsimp only [State.cqeMap]
@[simp] theorem State.cqeMap_core (s : State) (f : CqeSt → CqeSt) : (s.cqeMap f).core = s.core := by dsimp only [State.cqeMap]
@[simp] theorem State.cqeMap_vault (s : State) (f : CqeSt → CqeSt) : (s.cqeMap f).vault = s.vault := by dsimp only [State.cqeMap]
@[simp] theorem State.cqeMap_pwr (s : State) (f : CqeSt → CqeSt) : (s.cqeMap f).pwr = s.pwr := by dsimp only [State.cqeMap]
@[simp] theorem State.cqeMap_flt (s : State) (f : CqeSt → CqeSt) : (s.cqeMap f).flt = s.flt := by dsimp only [State.cqeMap]
@[simp] theorem State.cqeMap_evr (s : State) (f : CqeSt → CqeSt) : (s.cqeMap f).evr = s.evr := by dsimp only [State.cqeMap]
@[simp] theorem State.cqeMap_bok (s : State) (f : CqeSt → CqeSt) : (s.cqeMap f).bok = s.bok := by dsimp only [State.cqeMap]
@[simp] theorem State.cqeMap_sec (s : State) (f : CqeSt → CqeSt) : (s.cqeMap f).sec = s.sec := by dsimp only [State.cqeMap]
@[simp] theorem State.cqeMap_brl (s : State) (f : CqeSt → CqeSt) : (s.cqeMap f).brl = s.brl := by dsimp only [State.cqeMap]
@[simp] theorem State.cqeMap_pins (s : State) (f : CqeSt → CqeSt) : (s.cqeMap f).pins = s.pins := by dsimp only [State.cqeMap]
@[simp] theorem State.cqeMap_flash (s : State) (f : CqeSt → CqeSt) : (s.cqeMap f).flash = s.flash := by dsimp only [State.cqeMap]
@[simp] theorem State.cqeMap_freeCtr (s : State) (f : CqeSt → CqeSt) : (s.cqeMap f).freeCtr = s.freeCtr := by dsimp only [State.cqeMap]

/-! hepMap -/
@[simp] theorem State.hepMap_pending (s : State) (f : HepSt → HepSt) : (s.hepMap f).pending = s.pending := by dsimp only [State.hepMap]
@[simp] theorem State.hepMap_regs (s : State) (f : HepSt → HepSt) : (s.hepMap f).regs = s.regs := by dsimp only [State.hepMap]
@[simp] theorem State.hepMap_live (s : State) (f : HepSt → HepSt) : (s.hepMap f).live = s.live := by dsimp only [State.hepMap]
@[simp] theorem State.hepMap_shadows (s : State) (f : HepSt → HepSt) : (s.hepMap f).shadows = s.shadows := by dsimp only [State.hepMap]
@[simp] theorem State.hepMap_mem (s : State) (f : HepSt → HepSt) : (s.hepMap f).mem = s.mem := by dsimp only [State.hepMap]
@[simp] theorem State.hepMap_ttb (s : State) (f : HepSt → HepSt) : (s.hepMap f).ttb = s.ttb := by dsimp only [State.hepMap]
@[simp] theorem State.hepMap_spc (s : State) (f : HepSt → HepSt) : (s.hepMap f).spc = s.spc := by dsimp only [State.hepMap]
@[simp] theorem State.hepMap_sac (s : State) (f : HepSt → HepSt) : (s.hepMap f).sac = s.sac := by dsimp only [State.hepMap]
@[simp] theorem State.hepMap_rwc (s : State) (f : HepSt → HepSt) : (s.hepMap f).rwc = s.rwc := by dsimp only [State.hepMap]
@[simp] theorem State.hepMap_ddp (s : State) (f : HepSt → HepSt) : (s.hepMap f).ddp = s.ddp := by dsimp only [State.hepMap]
@[simp] theorem State.hepMap_msq (s : State) (f : HepSt → HepSt) : (s.hepMap f).msq = s.msq := by dsimp only [State.hepMap]
@[simp] theorem State.hepMap_asc (s : State) (f : HepSt → HepSt) : (s.hepMap f).asc = s.asc := by dsimp only [State.hepMap]
@[simp] theorem State.hepMap_zne (s : State) (f : HepSt → HepSt) : (s.hepMap f).zne = s.zne := by dsimp only [State.hepMap]
@[simp] theorem State.hepMap_ste (s : State) (f : HepSt → HepSt) : (s.hepMap f).ste = s.ste := by dsimp only [State.hepMap]
@[simp] theorem State.hepMap_cqe (s : State) (f : HepSt → HepSt) : (s.hepMap f).cqe = s.cqe := by dsimp only [State.hepMap]
@[simp] theorem State.hepMap_hep (s : State) (f : HepSt → HepSt) : (s.hepMap f).hep = f s.hep := by dsimp only [State.hepMap]
@[simp] theorem State.hepMap_ms (s : State) (f : HepSt → HepSt) : (s.hepMap f).ms = s.ms := by dsimp only [State.hepMap]
@[simp] theorem State.hepMap_core (s : State) (f : HepSt → HepSt) : (s.hepMap f).core = s.core := by dsimp only [State.hepMap]
@[simp] theorem State.hepMap_vault (s : State) (f : HepSt → HepSt) : (s.hepMap f).vault = s.vault := by dsimp only [State.hepMap]
@[simp] theorem State.hepMap_pwr (s : State) (f : HepSt → HepSt) : (s.hepMap f).pwr = s.pwr := by dsimp only [State.hepMap]
@[simp] theorem State.hepMap_flt (s : State) (f : HepSt → HepSt) : (s.hepMap f).flt = s.flt := by dsimp only [State.hepMap]
@[simp] theorem State.hepMap_evr (s : State) (f : HepSt → HepSt) : (s.hepMap f).evr = s.evr := by dsimp only [State.hepMap]
@[simp] theorem State.hepMap_bok (s : State) (f : HepSt → HepSt) : (s.hepMap f).bok = s.bok := by dsimp only [State.hepMap]
@[simp] theorem State.hepMap_sec (s : State) (f : HepSt → HepSt) : (s.hepMap f).sec = s.sec := by dsimp only [State.hepMap]
@[simp] theorem State.hepMap_brl (s : State) (f : HepSt → HepSt) : (s.hepMap f).brl = s.brl := by dsimp only [State.hepMap]
@[simp] theorem State.hepMap_pins (s : State) (f : HepSt → HepSt) : (s.hepMap f).pins = s.pins := by dsimp only [State.hepMap]
@[simp] theorem State.hepMap_flash (s : State) (f : HepSt → HepSt) : (s.hepMap f).flash = s.flash := by dsimp only [State.hepMap]
@[simp] theorem State.hepMap_freeCtr (s : State) (f : HepSt → HepSt) : (s.hepMap f).freeCtr = s.freeCtr := by dsimp only [State.hepMap]

/-! brlMap -/
@[simp] theorem State.brlMap_pending (s : State) (f : BrlSt → BrlSt) : (s.brlMap f).pending = s.pending := by dsimp only [State.brlMap]
@[simp] theorem State.brlMap_regs (s : State) (f : BrlSt → BrlSt) : (s.brlMap f).regs = s.regs := by dsimp only [State.brlMap]
@[simp] theorem State.brlMap_live (s : State) (f : BrlSt → BrlSt) : (s.brlMap f).live = s.live := by dsimp only [State.brlMap]
@[simp] theorem State.brlMap_shadows (s : State) (f : BrlSt → BrlSt) : (s.brlMap f).shadows = s.shadows := by dsimp only [State.brlMap]
@[simp] theorem State.brlMap_mem (s : State) (f : BrlSt → BrlSt) : (s.brlMap f).mem = s.mem := by dsimp only [State.brlMap]
@[simp] theorem State.brlMap_ttb (s : State) (f : BrlSt → BrlSt) : (s.brlMap f).ttb = s.ttb := by dsimp only [State.brlMap]
@[simp] theorem State.brlMap_spc (s : State) (f : BrlSt → BrlSt) : (s.brlMap f).spc = s.spc := by dsimp only [State.brlMap]
@[simp] theorem State.brlMap_sac (s : State) (f : BrlSt → BrlSt) : (s.brlMap f).sac = s.sac := by dsimp only [State.brlMap]
@[simp] theorem State.brlMap_rwc (s : State) (f : BrlSt → BrlSt) : (s.brlMap f).rwc = s.rwc := by dsimp only [State.brlMap]
@[simp] theorem State.brlMap_ddp (s : State) (f : BrlSt → BrlSt) : (s.brlMap f).ddp = s.ddp := by dsimp only [State.brlMap]
@[simp] theorem State.brlMap_msq (s : State) (f : BrlSt → BrlSt) : (s.brlMap f).msq = s.msq := by dsimp only [State.brlMap]
@[simp] theorem State.brlMap_asc (s : State) (f : BrlSt → BrlSt) : (s.brlMap f).asc = s.asc := by dsimp only [State.brlMap]
@[simp] theorem State.brlMap_zne (s : State) (f : BrlSt → BrlSt) : (s.brlMap f).zne = s.zne := by dsimp only [State.brlMap]
@[simp] theorem State.brlMap_ste (s : State) (f : BrlSt → BrlSt) : (s.brlMap f).ste = s.ste := by dsimp only [State.brlMap]
@[simp] theorem State.brlMap_cqe (s : State) (f : BrlSt → BrlSt) : (s.brlMap f).cqe = s.cqe := by dsimp only [State.brlMap]
@[simp] theorem State.brlMap_hep (s : State) (f : BrlSt → BrlSt) : (s.brlMap f).hep = s.hep := by dsimp only [State.brlMap]
@[simp] theorem State.brlMap_ms (s : State) (f : BrlSt → BrlSt) : (s.brlMap f).ms = s.ms := by dsimp only [State.brlMap]
@[simp] theorem State.brlMap_core (s : State) (f : BrlSt → BrlSt) : (s.brlMap f).core = s.core := by dsimp only [State.brlMap]
@[simp] theorem State.brlMap_vault (s : State) (f : BrlSt → BrlSt) : (s.brlMap f).vault = s.vault := by dsimp only [State.brlMap]
@[simp] theorem State.brlMap_pwr (s : State) (f : BrlSt → BrlSt) : (s.brlMap f).pwr = s.pwr := by dsimp only [State.brlMap]
@[simp] theorem State.brlMap_flt (s : State) (f : BrlSt → BrlSt) : (s.brlMap f).flt = s.flt := by dsimp only [State.brlMap]
@[simp] theorem State.brlMap_evr (s : State) (f : BrlSt → BrlSt) : (s.brlMap f).evr = s.evr := by dsimp only [State.brlMap]
@[simp] theorem State.brlMap_bok (s : State) (f : BrlSt → BrlSt) : (s.brlMap f).bok = s.bok := by dsimp only [State.brlMap]
@[simp] theorem State.brlMap_sec (s : State) (f : BrlSt → BrlSt) : (s.brlMap f).sec = s.sec := by dsimp only [State.brlMap]
@[simp] theorem State.brlMap_brl (s : State) (f : BrlSt → BrlSt) : (s.brlMap f).brl = f s.brl := by dsimp only [State.brlMap]
@[simp] theorem State.brlMap_pins (s : State) (f : BrlSt → BrlSt) : (s.brlMap f).pins = s.pins := by dsimp only [State.brlMap]
@[simp] theorem State.brlMap_flash (s : State) (f : BrlSt → BrlSt) : (s.brlMap f).flash = s.flash := by dsimp only [State.brlMap]
@[simp] theorem State.brlMap_freeCtr (s : State) (f : BrlSt → BrlSt) : (s.brlMap f).freeCtr = s.freeCtr := by dsimp only [State.brlMap]

/-! zneMap -/
@[simp] theorem State.zneMap_pending (s : State) (f : ZneSt → ZneSt) : (s.zneMap f).pending = s.pending := by dsimp only [State.zneMap]
@[simp] theorem State.zneMap_regs (s : State) (f : ZneSt → ZneSt) : (s.zneMap f).regs = s.regs := by dsimp only [State.zneMap]
@[simp] theorem State.zneMap_live (s : State) (f : ZneSt → ZneSt) : (s.zneMap f).live = s.live := by dsimp only [State.zneMap]
@[simp] theorem State.zneMap_shadows (s : State) (f : ZneSt → ZneSt) : (s.zneMap f).shadows = s.shadows := by dsimp only [State.zneMap]
@[simp] theorem State.zneMap_mem (s : State) (f : ZneSt → ZneSt) : (s.zneMap f).mem = s.mem := by dsimp only [State.zneMap]
@[simp] theorem State.zneMap_ttb (s : State) (f : ZneSt → ZneSt) : (s.zneMap f).ttb = s.ttb := by dsimp only [State.zneMap]
@[simp] theorem State.zneMap_spc (s : State) (f : ZneSt → ZneSt) : (s.zneMap f).spc = s.spc := by dsimp only [State.zneMap]
@[simp] theorem State.zneMap_sac (s : State) (f : ZneSt → ZneSt) : (s.zneMap f).sac = s.sac := by dsimp only [State.zneMap]
@[simp] theorem State.zneMap_rwc (s : State) (f : ZneSt → ZneSt) : (s.zneMap f).rwc = s.rwc := by dsimp only [State.zneMap]
@[simp] theorem State.zneMap_ddp (s : State) (f : ZneSt → ZneSt) : (s.zneMap f).ddp = s.ddp := by dsimp only [State.zneMap]
@[simp] theorem State.zneMap_msq (s : State) (f : ZneSt → ZneSt) : (s.zneMap f).msq = s.msq := by dsimp only [State.zneMap]
@[simp] theorem State.zneMap_asc (s : State) (f : ZneSt → ZneSt) : (s.zneMap f).asc = s.asc := by dsimp only [State.zneMap]
@[simp] theorem State.zneMap_zne (s : State) (f : ZneSt → ZneSt) : (s.zneMap f).zne = f s.zne := by dsimp only [State.zneMap]
@[simp] theorem State.zneMap_ste (s : State) (f : ZneSt → ZneSt) : (s.zneMap f).ste = s.ste := by dsimp only [State.zneMap]
@[simp] theorem State.zneMap_cqe (s : State) (f : ZneSt → ZneSt) : (s.zneMap f).cqe = s.cqe := by dsimp only [State.zneMap]
@[simp] theorem State.zneMap_hep (s : State) (f : ZneSt → ZneSt) : (s.zneMap f).hep = s.hep := by dsimp only [State.zneMap]
@[simp] theorem State.zneMap_ms (s : State) (f : ZneSt → ZneSt) : (s.zneMap f).ms = s.ms := by dsimp only [State.zneMap]
@[simp] theorem State.zneMap_core (s : State) (f : ZneSt → ZneSt) : (s.zneMap f).core = s.core := by dsimp only [State.zneMap]
@[simp] theorem State.zneMap_vault (s : State) (f : ZneSt → ZneSt) : (s.zneMap f).vault = s.vault := by dsimp only [State.zneMap]
@[simp] theorem State.zneMap_pwr (s : State) (f : ZneSt → ZneSt) : (s.zneMap f).pwr = s.pwr := by dsimp only [State.zneMap]
@[simp] theorem State.zneMap_flt (s : State) (f : ZneSt → ZneSt) : (s.zneMap f).flt = s.flt := by dsimp only [State.zneMap]
@[simp] theorem State.zneMap_evr (s : State) (f : ZneSt → ZneSt) : (s.zneMap f).evr = s.evr := by dsimp only [State.zneMap]
@[simp] theorem State.zneMap_bok (s : State) (f : ZneSt → ZneSt) : (s.zneMap f).bok = s.bok := by dsimp only [State.zneMap]
@[simp] theorem State.zneMap_sec (s : State) (f : ZneSt → ZneSt) : (s.zneMap f).sec = s.sec := by dsimp only [State.zneMap]
@[simp] theorem State.zneMap_brl (s : State) (f : ZneSt → ZneSt) : (s.zneMap f).brl = s.brl := by dsimp only [State.zneMap]
@[simp] theorem State.zneMap_pins (s : State) (f : ZneSt → ZneSt) : (s.zneMap f).pins = s.pins := by dsimp only [State.zneMap]
@[simp] theorem State.zneMap_flash (s : State) (f : ZneSt → ZneSt) : (s.zneMap f).flash = s.flash := by dsimp only [State.zneMap]
@[simp] theorem State.zneMap_freeCtr (s : State) (f : ZneSt → ZneSt) : (s.zneMap f).freeCtr = s.freeCtr := by dsimp only [State.zneMap]

/-! steMap -/
@[simp] theorem State.steMap_pending (s : State) (f : SteSt → SteSt) : (s.steMap f).pending = s.pending := by dsimp only [State.steMap]
@[simp] theorem State.steMap_regs (s : State) (f : SteSt → SteSt) : (s.steMap f).regs = s.regs := by dsimp only [State.steMap]
@[simp] theorem State.steMap_live (s : State) (f : SteSt → SteSt) : (s.steMap f).live = s.live := by dsimp only [State.steMap]
@[simp] theorem State.steMap_shadows (s : State) (f : SteSt → SteSt) : (s.steMap f).shadows = s.shadows := by dsimp only [State.steMap]
@[simp] theorem State.steMap_mem (s : State) (f : SteSt → SteSt) : (s.steMap f).mem = s.mem := by dsimp only [State.steMap]
@[simp] theorem State.steMap_ttb (s : State) (f : SteSt → SteSt) : (s.steMap f).ttb = s.ttb := by dsimp only [State.steMap]
@[simp] theorem State.steMap_spc (s : State) (f : SteSt → SteSt) : (s.steMap f).spc = s.spc := by dsimp only [State.steMap]
@[simp] theorem State.steMap_sac (s : State) (f : SteSt → SteSt) : (s.steMap f).sac = s.sac := by dsimp only [State.steMap]
@[simp] theorem State.steMap_rwc (s : State) (f : SteSt → SteSt) : (s.steMap f).rwc = s.rwc := by dsimp only [State.steMap]
@[simp] theorem State.steMap_ddp (s : State) (f : SteSt → SteSt) : (s.steMap f).ddp = s.ddp := by dsimp only [State.steMap]
@[simp] theorem State.steMap_msq (s : State) (f : SteSt → SteSt) : (s.steMap f).msq = s.msq := by dsimp only [State.steMap]
@[simp] theorem State.steMap_asc (s : State) (f : SteSt → SteSt) : (s.steMap f).asc = s.asc := by dsimp only [State.steMap]
@[simp] theorem State.steMap_zne (s : State) (f : SteSt → SteSt) : (s.steMap f).zne = s.zne := by dsimp only [State.steMap]
@[simp] theorem State.steMap_ste (s : State) (f : SteSt → SteSt) : (s.steMap f).ste = f s.ste := by dsimp only [State.steMap]
@[simp] theorem State.steMap_cqe (s : State) (f : SteSt → SteSt) : (s.steMap f).cqe = s.cqe := by dsimp only [State.steMap]
@[simp] theorem State.steMap_hep (s : State) (f : SteSt → SteSt) : (s.steMap f).hep = s.hep := by dsimp only [State.steMap]
@[simp] theorem State.steMap_ms (s : State) (f : SteSt → SteSt) : (s.steMap f).ms = s.ms := by dsimp only [State.steMap]
@[simp] theorem State.steMap_core (s : State) (f : SteSt → SteSt) : (s.steMap f).core = s.core := by dsimp only [State.steMap]
@[simp] theorem State.steMap_vault (s : State) (f : SteSt → SteSt) : (s.steMap f).vault = s.vault := by dsimp only [State.steMap]
@[simp] theorem State.steMap_pwr (s : State) (f : SteSt → SteSt) : (s.steMap f).pwr = s.pwr := by dsimp only [State.steMap]
@[simp] theorem State.steMap_flt (s : State) (f : SteSt → SteSt) : (s.steMap f).flt = s.flt := by dsimp only [State.steMap]
@[simp] theorem State.steMap_evr (s : State) (f : SteSt → SteSt) : (s.steMap f).evr = s.evr := by dsimp only [State.steMap]
@[simp] theorem State.steMap_bok (s : State) (f : SteSt → SteSt) : (s.steMap f).bok = s.bok := by dsimp only [State.steMap]
@[simp] theorem State.steMap_sec (s : State) (f : SteSt → SteSt) : (s.steMap f).sec = s.sec := by dsimp only [State.steMap]
@[simp] theorem State.steMap_brl (s : State) (f : SteSt → SteSt) : (s.steMap f).brl = s.brl := by dsimp only [State.steMap]
@[simp] theorem State.steMap_pins (s : State) (f : SteSt → SteSt) : (s.steMap f).pins = s.pins := by dsimp only [State.steMap]
@[simp] theorem State.steMap_flash (s : State) (f : SteSt → SteSt) : (s.steMap f).flash = s.flash := by dsimp only [State.steMap]
@[simp] theorem State.steMap_freeCtr (s : State) (f : SteSt → SteSt) : (s.steMap f).freeCtr = s.freeCtr := by dsimp only [State.steMap]

/-! msMap -/
@[simp] theorem State.msMap_pending (s : State) (f : MemSt → MemSt) : (s.msMap f).pending = s.pending := by dsimp only [State.msMap]
@[simp] theorem State.msMap_regs (s : State) (f : MemSt → MemSt) : (s.msMap f).regs = s.regs := by dsimp only [State.msMap]
@[simp] theorem State.msMap_live (s : State) (f : MemSt → MemSt) : (s.msMap f).live = s.live := by dsimp only [State.msMap]
@[simp] theorem State.msMap_shadows (s : State) (f : MemSt → MemSt) : (s.msMap f).shadows = s.shadows := by dsimp only [State.msMap]
@[simp] theorem State.msMap_mem (s : State) (f : MemSt → MemSt) : (s.msMap f).mem = s.mem := by dsimp only [State.msMap]
@[simp] theorem State.msMap_ttb (s : State) (f : MemSt → MemSt) : (s.msMap f).ttb = s.ttb := by dsimp only [State.msMap]
@[simp] theorem State.msMap_spc (s : State) (f : MemSt → MemSt) : (s.msMap f).spc = s.spc := by dsimp only [State.msMap]
@[simp] theorem State.msMap_sac (s : State) (f : MemSt → MemSt) : (s.msMap f).sac = s.sac := by dsimp only [State.msMap]
@[simp] theorem State.msMap_rwc (s : State) (f : MemSt → MemSt) : (s.msMap f).rwc = s.rwc := by dsimp only [State.msMap]
@[simp] theorem State.msMap_ddp (s : State) (f : MemSt → MemSt) : (s.msMap f).ddp = s.ddp := by dsimp only [State.msMap]
@[simp] theorem State.msMap_msq (s : State) (f : MemSt → MemSt) : (s.msMap f).msq = s.msq := by dsimp only [State.msMap]
@[simp] theorem State.msMap_asc (s : State) (f : MemSt → MemSt) : (s.msMap f).asc = s.asc := by dsimp only [State.msMap]
@[simp] theorem State.msMap_zne (s : State) (f : MemSt → MemSt) : (s.msMap f).zne = s.zne := by dsimp only [State.msMap]
@[simp] theorem State.msMap_ste (s : State) (f : MemSt → MemSt) : (s.msMap f).ste = s.ste := by dsimp only [State.msMap]
@[simp] theorem State.msMap_cqe (s : State) (f : MemSt → MemSt) : (s.msMap f).cqe = s.cqe := by dsimp only [State.msMap]
@[simp] theorem State.msMap_hep (s : State) (f : MemSt → MemSt) : (s.msMap f).hep = s.hep := by dsimp only [State.msMap]
@[simp] theorem State.msMap_ms (s : State) (f : MemSt → MemSt) : (s.msMap f).ms = f s.ms := by dsimp only [State.msMap]
@[simp] theorem State.msMap_core (s : State) (f : MemSt → MemSt) : (s.msMap f).core = s.core := by dsimp only [State.msMap]
@[simp] theorem State.msMap_vault (s : State) (f : MemSt → MemSt) : (s.msMap f).vault = s.vault := by dsimp only [State.msMap]
@[simp] theorem State.msMap_pwr (s : State) (f : MemSt → MemSt) : (s.msMap f).pwr = s.pwr := by dsimp only [State.msMap]
@[simp] theorem State.msMap_flt (s : State) (f : MemSt → MemSt) : (s.msMap f).flt = s.flt := by dsimp only [State.msMap]
@[simp] theorem State.msMap_evr (s : State) (f : MemSt → MemSt) : (s.msMap f).evr = s.evr := by dsimp only [State.msMap]
@[simp] theorem State.msMap_bok (s : State) (f : MemSt → MemSt) : (s.msMap f).bok = s.bok := by dsimp only [State.msMap]
@[simp] theorem State.msMap_sec (s : State) (f : MemSt → MemSt) : (s.msMap f).sec = s.sec := by dsimp only [State.msMap]
@[simp] theorem State.msMap_brl (s : State) (f : MemSt → MemSt) : (s.msMap f).brl = s.brl := by dsimp only [State.msMap]
@[simp] theorem State.msMap_pins (s : State) (f : MemSt → MemSt) : (s.msMap f).pins = s.pins := by dsimp only [State.msMap]
@[simp] theorem State.msMap_flash (s : State) (f : MemSt → MemSt) : (s.msMap f).flash = s.flash := by dsimp only [State.msMap]
@[simp] theorem State.msMap_freeCtr (s : State) (f : MemSt → MemSt) : (s.msMap f).freeCtr = s.freeCtr := by dsimp only [State.msMap]

/-! coreMap -/
@[simp] theorem State.coreMap_pending (s : State) (f : CoreSt → CoreSt) : (s.coreMap f).pending = s.pending := by dsimp only [State.coreMap]
@[simp] theorem State.coreMap_regs (s : State) (f : CoreSt → CoreSt) : (s.coreMap f).regs = s.regs := by dsimp only [State.coreMap]
@[simp] theorem State.coreMap_live (s : State) (f : CoreSt → CoreSt) : (s.coreMap f).live = s.live := by dsimp only [State.coreMap]
@[simp] theorem State.coreMap_shadows (s : State) (f : CoreSt → CoreSt) : (s.coreMap f).shadows = s.shadows := by dsimp only [State.coreMap]
@[simp] theorem State.coreMap_mem (s : State) (f : CoreSt → CoreSt) : (s.coreMap f).mem = s.mem := by dsimp only [State.coreMap]
@[simp] theorem State.coreMap_ttb (s : State) (f : CoreSt → CoreSt) : (s.coreMap f).ttb = s.ttb := by dsimp only [State.coreMap]
@[simp] theorem State.coreMap_spc (s : State) (f : CoreSt → CoreSt) : (s.coreMap f).spc = s.spc := by dsimp only [State.coreMap]
@[simp] theorem State.coreMap_sac (s : State) (f : CoreSt → CoreSt) : (s.coreMap f).sac = s.sac := by dsimp only [State.coreMap]
@[simp] theorem State.coreMap_rwc (s : State) (f : CoreSt → CoreSt) : (s.coreMap f).rwc = s.rwc := by dsimp only [State.coreMap]
@[simp] theorem State.coreMap_ddp (s : State) (f : CoreSt → CoreSt) : (s.coreMap f).ddp = s.ddp := by dsimp only [State.coreMap]
@[simp] theorem State.coreMap_msq (s : State) (f : CoreSt → CoreSt) : (s.coreMap f).msq = s.msq := by dsimp only [State.coreMap]
@[simp] theorem State.coreMap_asc (s : State) (f : CoreSt → CoreSt) : (s.coreMap f).asc = s.asc := by dsimp only [State.coreMap]
@[simp] theorem State.coreMap_zne (s : State) (f : CoreSt → CoreSt) : (s.coreMap f).zne = s.zne := by dsimp only [State.coreMap]
@[simp] theorem State.coreMap_ste (s : State) (f : CoreSt → CoreSt) : (s.coreMap f).ste = s.ste := by dsimp only [State.coreMap]
@[simp] theorem State.coreMap_cqe (s : State) (f : CoreSt → CoreSt) : (s.coreMap f).cqe = s.cqe := by dsimp only [State.coreMap]
@[simp] theorem State.coreMap_hep (s : State) (f : CoreSt → CoreSt) : (s.coreMap f).hep = s.hep := by dsimp only [State.coreMap]
@[simp] theorem State.coreMap_ms (s : State) (f : CoreSt → CoreSt) : (s.coreMap f).ms = s.ms := by dsimp only [State.coreMap]
@[simp] theorem State.coreMap_core (s : State) (f : CoreSt → CoreSt) : (s.coreMap f).core = f s.core := by dsimp only [State.coreMap]
@[simp] theorem State.coreMap_vault (s : State) (f : CoreSt → CoreSt) : (s.coreMap f).vault = s.vault := by dsimp only [State.coreMap]
@[simp] theorem State.coreMap_pwr (s : State) (f : CoreSt → CoreSt) : (s.coreMap f).pwr = s.pwr := by dsimp only [State.coreMap]
@[simp] theorem State.coreMap_flt (s : State) (f : CoreSt → CoreSt) : (s.coreMap f).flt = s.flt := by dsimp only [State.coreMap]
@[simp] theorem State.coreMap_evr (s : State) (f : CoreSt → CoreSt) : (s.coreMap f).evr = s.evr := by dsimp only [State.coreMap]
@[simp] theorem State.coreMap_bok (s : State) (f : CoreSt → CoreSt) : (s.coreMap f).bok = s.bok := by dsimp only [State.coreMap]
@[simp] theorem State.coreMap_sec (s : State) (f : CoreSt → CoreSt) : (s.coreMap f).sec = s.sec := by dsimp only [State.coreMap]
@[simp] theorem State.coreMap_brl (s : State) (f : CoreSt → CoreSt) : (s.coreMap f).brl = s.brl := by dsimp only [State.coreMap]
@[simp] theorem State.coreMap_pins (s : State) (f : CoreSt → CoreSt) : (s.coreMap f).pins = s.pins := by dsimp only [State.coreMap]
@[simp] theorem State.coreMap_flash (s : State) (f : CoreSt → CoreSt) : (s.coreMap f).flash = s.flash := by dsimp only [State.coreMap]
@[simp] theorem State.coreMap_freeCtr (s : State) (f : CoreSt → CoreSt) : (s.coreMap f).freeCtr = s.freeCtr := by dsimp only [State.coreMap]

/-! vaultMap -/
@[simp] theorem State.vaultMap_pending (s : State) (f : VaultSt → VaultSt) : (s.vaultMap f).pending = s.pending := by dsimp only [State.vaultMap]
@[simp] theorem State.vaultMap_regs (s : State) (f : VaultSt → VaultSt) : (s.vaultMap f).regs = s.regs := by dsimp only [State.vaultMap]
@[simp] theorem State.vaultMap_live (s : State) (f : VaultSt → VaultSt) : (s.vaultMap f).live = s.live := by dsimp only [State.vaultMap]
@[simp] theorem State.vaultMap_shadows (s : State) (f : VaultSt → VaultSt) : (s.vaultMap f).shadows = s.shadows := by dsimp only [State.vaultMap]
@[simp] theorem State.vaultMap_mem (s : State) (f : VaultSt → VaultSt) : (s.vaultMap f).mem = s.mem := by dsimp only [State.vaultMap]
@[simp] theorem State.vaultMap_ttb (s : State) (f : VaultSt → VaultSt) : (s.vaultMap f).ttb = s.ttb := by dsimp only [State.vaultMap]
@[simp] theorem State.vaultMap_spc (s : State) (f : VaultSt → VaultSt) : (s.vaultMap f).spc = s.spc := by dsimp only [State.vaultMap]
@[simp] theorem State.vaultMap_sac (s : State) (f : VaultSt → VaultSt) : (s.vaultMap f).sac = s.sac := by dsimp only [State.vaultMap]
@[simp] theorem State.vaultMap_rwc (s : State) (f : VaultSt → VaultSt) : (s.vaultMap f).rwc = s.rwc := by dsimp only [State.vaultMap]
@[simp] theorem State.vaultMap_ddp (s : State) (f : VaultSt → VaultSt) : (s.vaultMap f).ddp = s.ddp := by dsimp only [State.vaultMap]
@[simp] theorem State.vaultMap_msq (s : State) (f : VaultSt → VaultSt) : (s.vaultMap f).msq = s.msq := by dsimp only [State.vaultMap]
@[simp] theorem State.vaultMap_asc (s : State) (f : VaultSt → VaultSt) : (s.vaultMap f).asc = s.asc := by dsimp only [State.vaultMap]
@[simp] theorem State.vaultMap_zne (s : State) (f : VaultSt → VaultSt) : (s.vaultMap f).zne = s.zne := by dsimp only [State.vaultMap]
@[simp] theorem State.vaultMap_ste (s : State) (f : VaultSt → VaultSt) : (s.vaultMap f).ste = s.ste := by dsimp only [State.vaultMap]
@[simp] theorem State.vaultMap_cqe (s : State) (f : VaultSt → VaultSt) : (s.vaultMap f).cqe = s.cqe := by dsimp only [State.vaultMap]
@[simp] theorem State.vaultMap_hep (s : State) (f : VaultSt → VaultSt) : (s.vaultMap f).hep = s.hep := by dsimp only [State.vaultMap]
@[simp] theorem State.vaultMap_ms (s : State) (f : VaultSt → VaultSt) : (s.vaultMap f).ms = s.ms := by dsimp only [State.vaultMap]
@[simp] theorem State.vaultMap_core (s : State) (f : VaultSt → VaultSt) : (s.vaultMap f).core = s.core := by dsimp only [State.vaultMap]
@[simp] theorem State.vaultMap_vault (s : State) (f : VaultSt → VaultSt) : (s.vaultMap f).vault = f s.vault := by dsimp only [State.vaultMap]
@[simp] theorem State.vaultMap_pwr (s : State) (f : VaultSt → VaultSt) : (s.vaultMap f).pwr = s.pwr := by dsimp only [State.vaultMap]
@[simp] theorem State.vaultMap_flt (s : State) (f : VaultSt → VaultSt) : (s.vaultMap f).flt = s.flt := by dsimp only [State.vaultMap]
@[simp] theorem State.vaultMap_evr (s : State) (f : VaultSt → VaultSt) : (s.vaultMap f).evr = s.evr := by dsimp only [State.vaultMap]
@[simp] theorem State.vaultMap_bok (s : State) (f : VaultSt → VaultSt) : (s.vaultMap f).bok = s.bok := by dsimp only [State.vaultMap]
@[simp] theorem State.vaultMap_sec (s : State) (f : VaultSt → VaultSt) : (s.vaultMap f).sec = s.sec := by dsimp only [State.vaultMap]
@[simp] theorem State.vaultMap_brl (s : State) (f : VaultSt → VaultSt) : (s.vaultMap f).brl = s.brl := by dsimp only [State.vaultMap]
@[simp] theorem State.vaultMap_pins (s : State) (f : VaultSt → VaultSt) : (s.vaultMap f).pins = s.pins := by dsimp only [State.vaultMap]
@[simp] theorem State.vaultMap_flash (s : State) (f : VaultSt → VaultSt) : (s.vaultMap f).flash = s.flash := by dsimp only [State.vaultMap]
@[simp] theorem State.vaultMap_freeCtr (s : State) (f : VaultSt → VaultSt) : (s.vaultMap f).freeCtr = s.freeCtr := by dsimp only [State.vaultMap]

/-! pwrMap -/
@[simp] theorem State.pwrMap_pending (s : State) (f : PwrSt → PwrSt) : (s.pwrMap f).pending = s.pending := by dsimp only [State.pwrMap]
@[simp] theorem State.pwrMap_regs (s : State) (f : PwrSt → PwrSt) : (s.pwrMap f).regs = s.regs := by dsimp only [State.pwrMap]
@[simp] theorem State.pwrMap_live (s : State) (f : PwrSt → PwrSt) : (s.pwrMap f).live = s.live := by dsimp only [State.pwrMap]
@[simp] theorem State.pwrMap_shadows (s : State) (f : PwrSt → PwrSt) : (s.pwrMap f).shadows = s.shadows := by dsimp only [State.pwrMap]
@[simp] theorem State.pwrMap_mem (s : State) (f : PwrSt → PwrSt) : (s.pwrMap f).mem = s.mem := by dsimp only [State.pwrMap]
@[simp] theorem State.pwrMap_ttb (s : State) (f : PwrSt → PwrSt) : (s.pwrMap f).ttb = s.ttb := by dsimp only [State.pwrMap]
@[simp] theorem State.pwrMap_spc (s : State) (f : PwrSt → PwrSt) : (s.pwrMap f).spc = s.spc := by dsimp only [State.pwrMap]
@[simp] theorem State.pwrMap_sac (s : State) (f : PwrSt → PwrSt) : (s.pwrMap f).sac = s.sac := by dsimp only [State.pwrMap]
@[simp] theorem State.pwrMap_rwc (s : State) (f : PwrSt → PwrSt) : (s.pwrMap f).rwc = s.rwc := by dsimp only [State.pwrMap]
@[simp] theorem State.pwrMap_ddp (s : State) (f : PwrSt → PwrSt) : (s.pwrMap f).ddp = s.ddp := by dsimp only [State.pwrMap]
@[simp] theorem State.pwrMap_msq (s : State) (f : PwrSt → PwrSt) : (s.pwrMap f).msq = s.msq := by dsimp only [State.pwrMap]
@[simp] theorem State.pwrMap_asc (s : State) (f : PwrSt → PwrSt) : (s.pwrMap f).asc = s.asc := by dsimp only [State.pwrMap]
@[simp] theorem State.pwrMap_zne (s : State) (f : PwrSt → PwrSt) : (s.pwrMap f).zne = s.zne := by dsimp only [State.pwrMap]
@[simp] theorem State.pwrMap_ste (s : State) (f : PwrSt → PwrSt) : (s.pwrMap f).ste = s.ste := by dsimp only [State.pwrMap]
@[simp] theorem State.pwrMap_cqe (s : State) (f : PwrSt → PwrSt) : (s.pwrMap f).cqe = s.cqe := by dsimp only [State.pwrMap]
@[simp] theorem State.pwrMap_hep (s : State) (f : PwrSt → PwrSt) : (s.pwrMap f).hep = s.hep := by dsimp only [State.pwrMap]
@[simp] theorem State.pwrMap_ms (s : State) (f : PwrSt → PwrSt) : (s.pwrMap f).ms = s.ms := by dsimp only [State.pwrMap]
@[simp] theorem State.pwrMap_core (s : State) (f : PwrSt → PwrSt) : (s.pwrMap f).core = s.core := by dsimp only [State.pwrMap]
@[simp] theorem State.pwrMap_vault (s : State) (f : PwrSt → PwrSt) : (s.pwrMap f).vault = s.vault := by dsimp only [State.pwrMap]
@[simp] theorem State.pwrMap_pwr (s : State) (f : PwrSt → PwrSt) : (s.pwrMap f).pwr = f s.pwr := by dsimp only [State.pwrMap]
@[simp] theorem State.pwrMap_flt (s : State) (f : PwrSt → PwrSt) : (s.pwrMap f).flt = s.flt := by dsimp only [State.pwrMap]
@[simp] theorem State.pwrMap_evr (s : State) (f : PwrSt → PwrSt) : (s.pwrMap f).evr = s.evr := by dsimp only [State.pwrMap]
@[simp] theorem State.pwrMap_bok (s : State) (f : PwrSt → PwrSt) : (s.pwrMap f).bok = s.bok := by dsimp only [State.pwrMap]
@[simp] theorem State.pwrMap_sec (s : State) (f : PwrSt → PwrSt) : (s.pwrMap f).sec = s.sec := by dsimp only [State.pwrMap]
@[simp] theorem State.pwrMap_brl (s : State) (f : PwrSt → PwrSt) : (s.pwrMap f).brl = s.brl := by dsimp only [State.pwrMap]
@[simp] theorem State.pwrMap_pins (s : State) (f : PwrSt → PwrSt) : (s.pwrMap f).pins = s.pins := by dsimp only [State.pwrMap]
@[simp] theorem State.pwrMap_flash (s : State) (f : PwrSt → PwrSt) : (s.pwrMap f).flash = s.flash := by dsimp only [State.pwrMap]
@[simp] theorem State.pwrMap_freeCtr (s : State) (f : PwrSt → PwrSt) : (s.pwrMap f).freeCtr = s.freeCtr := by dsimp only [State.pwrMap]

/-! fltMap -/
@[simp] theorem State.fltMap_pending (s : State) (f : FltSt → FltSt) : (s.fltMap f).pending = s.pending := by dsimp only [State.fltMap]
@[simp] theorem State.fltMap_regs (s : State) (f : FltSt → FltSt) : (s.fltMap f).regs = s.regs := by dsimp only [State.fltMap]
@[simp] theorem State.fltMap_live (s : State) (f : FltSt → FltSt) : (s.fltMap f).live = s.live := by dsimp only [State.fltMap]
@[simp] theorem State.fltMap_shadows (s : State) (f : FltSt → FltSt) : (s.fltMap f).shadows = s.shadows := by dsimp only [State.fltMap]
@[simp] theorem State.fltMap_mem (s : State) (f : FltSt → FltSt) : (s.fltMap f).mem = s.mem := by dsimp only [State.fltMap]
@[simp] theorem State.fltMap_ttb (s : State) (f : FltSt → FltSt) : (s.fltMap f).ttb = s.ttb := by dsimp only [State.fltMap]
@[simp] theorem State.fltMap_spc (s : State) (f : FltSt → FltSt) : (s.fltMap f).spc = s.spc := by dsimp only [State.fltMap]
@[simp] theorem State.fltMap_sac (s : State) (f : FltSt → FltSt) : (s.fltMap f).sac = s.sac := by dsimp only [State.fltMap]
@[simp] theorem State.fltMap_rwc (s : State) (f : FltSt → FltSt) : (s.fltMap f).rwc = s.rwc := by dsimp only [State.fltMap]
@[simp] theorem State.fltMap_ddp (s : State) (f : FltSt → FltSt) : (s.fltMap f).ddp = s.ddp := by dsimp only [State.fltMap]
@[simp] theorem State.fltMap_msq (s : State) (f : FltSt → FltSt) : (s.fltMap f).msq = s.msq := by dsimp only [State.fltMap]
@[simp] theorem State.fltMap_asc (s : State) (f : FltSt → FltSt) : (s.fltMap f).asc = s.asc := by dsimp only [State.fltMap]
@[simp] theorem State.fltMap_zne (s : State) (f : FltSt → FltSt) : (s.fltMap f).zne = s.zne := by dsimp only [State.fltMap]
@[simp] theorem State.fltMap_ste (s : State) (f : FltSt → FltSt) : (s.fltMap f).ste = s.ste := by dsimp only [State.fltMap]
@[simp] theorem State.fltMap_cqe (s : State) (f : FltSt → FltSt) : (s.fltMap f).cqe = s.cqe := by dsimp only [State.fltMap]
@[simp] theorem State.fltMap_hep (s : State) (f : FltSt → FltSt) : (s.fltMap f).hep = s.hep := by dsimp only [State.fltMap]
@[simp] theorem State.fltMap_ms (s : State) (f : FltSt → FltSt) : (s.fltMap f).ms = s.ms := by dsimp only [State.fltMap]
@[simp] theorem State.fltMap_core (s : State) (f : FltSt → FltSt) : (s.fltMap f).core = s.core := by dsimp only [State.fltMap]
@[simp] theorem State.fltMap_vault (s : State) (f : FltSt → FltSt) : (s.fltMap f).vault = s.vault := by dsimp only [State.fltMap]
@[simp] theorem State.fltMap_pwr (s : State) (f : FltSt → FltSt) : (s.fltMap f).pwr = s.pwr := by dsimp only [State.fltMap]
@[simp] theorem State.fltMap_flt (s : State) (f : FltSt → FltSt) : (s.fltMap f).flt = f s.flt := by dsimp only [State.fltMap]
@[simp] theorem State.fltMap_evr (s : State) (f : FltSt → FltSt) : (s.fltMap f).evr = s.evr := by dsimp only [State.fltMap]
@[simp] theorem State.fltMap_bok (s : State) (f : FltSt → FltSt) : (s.fltMap f).bok = s.bok := by dsimp only [State.fltMap]
@[simp] theorem State.fltMap_sec (s : State) (f : FltSt → FltSt) : (s.fltMap f).sec = s.sec := by dsimp only [State.fltMap]
@[simp] theorem State.fltMap_brl (s : State) (f : FltSt → FltSt) : (s.fltMap f).brl = s.brl := by dsimp only [State.fltMap]
@[simp] theorem State.fltMap_pins (s : State) (f : FltSt → FltSt) : (s.fltMap f).pins = s.pins := by dsimp only [State.fltMap]
@[simp] theorem State.fltMap_flash (s : State) (f : FltSt → FltSt) : (s.fltMap f).flash = s.flash := by dsimp only [State.fltMap]
@[simp] theorem State.fltMap_freeCtr (s : State) (f : FltSt → FltSt) : (s.fltMap f).freeCtr = s.freeCtr := by dsimp only [State.fltMap]

/-! bokMap -/
@[simp] theorem State.bokMap_pending (s : State) (f : BokSt → BokSt) : (s.bokMap f).pending = s.pending := by dsimp only [State.bokMap]
@[simp] theorem State.bokMap_regs (s : State) (f : BokSt → BokSt) : (s.bokMap f).regs = s.regs := by dsimp only [State.bokMap]
@[simp] theorem State.bokMap_live (s : State) (f : BokSt → BokSt) : (s.bokMap f).live = s.live := by dsimp only [State.bokMap]
@[simp] theorem State.bokMap_shadows (s : State) (f : BokSt → BokSt) : (s.bokMap f).shadows = s.shadows := by dsimp only [State.bokMap]
@[simp] theorem State.bokMap_mem (s : State) (f : BokSt → BokSt) : (s.bokMap f).mem = s.mem := by dsimp only [State.bokMap]
@[simp] theorem State.bokMap_ttb (s : State) (f : BokSt → BokSt) : (s.bokMap f).ttb = s.ttb := by dsimp only [State.bokMap]
@[simp] theorem State.bokMap_spc (s : State) (f : BokSt → BokSt) : (s.bokMap f).spc = s.spc := by dsimp only [State.bokMap]
@[simp] theorem State.bokMap_sac (s : State) (f : BokSt → BokSt) : (s.bokMap f).sac = s.sac := by dsimp only [State.bokMap]
@[simp] theorem State.bokMap_rwc (s : State) (f : BokSt → BokSt) : (s.bokMap f).rwc = s.rwc := by dsimp only [State.bokMap]
@[simp] theorem State.bokMap_ddp (s : State) (f : BokSt → BokSt) : (s.bokMap f).ddp = s.ddp := by dsimp only [State.bokMap]
@[simp] theorem State.bokMap_msq (s : State) (f : BokSt → BokSt) : (s.bokMap f).msq = s.msq := by dsimp only [State.bokMap]
@[simp] theorem State.bokMap_asc (s : State) (f : BokSt → BokSt) : (s.bokMap f).asc = s.asc := by dsimp only [State.bokMap]
@[simp] theorem State.bokMap_zne (s : State) (f : BokSt → BokSt) : (s.bokMap f).zne = s.zne := by dsimp only [State.bokMap]
@[simp] theorem State.bokMap_ste (s : State) (f : BokSt → BokSt) : (s.bokMap f).ste = s.ste := by dsimp only [State.bokMap]
@[simp] theorem State.bokMap_cqe (s : State) (f : BokSt → BokSt) : (s.bokMap f).cqe = s.cqe := by dsimp only [State.bokMap]
@[simp] theorem State.bokMap_hep (s : State) (f : BokSt → BokSt) : (s.bokMap f).hep = s.hep := by dsimp only [State.bokMap]
@[simp] theorem State.bokMap_ms (s : State) (f : BokSt → BokSt) : (s.bokMap f).ms = s.ms := by dsimp only [State.bokMap]
@[simp] theorem State.bokMap_core (s : State) (f : BokSt → BokSt) : (s.bokMap f).core = s.core := by dsimp only [State.bokMap]
@[simp] theorem State.bokMap_vault (s : State) (f : BokSt → BokSt) : (s.bokMap f).vault = s.vault := by dsimp only [State.bokMap]
@[simp] theorem State.bokMap_pwr (s : State) (f : BokSt → BokSt) : (s.bokMap f).pwr = s.pwr := by dsimp only [State.bokMap]
@[simp] theorem State.bokMap_flt (s : State) (f : BokSt → BokSt) : (s.bokMap f).flt = s.flt := by dsimp only [State.bokMap]
@[simp] theorem State.bokMap_evr (s : State) (f : BokSt → BokSt) : (s.bokMap f).evr = s.evr := by dsimp only [State.bokMap]
@[simp] theorem State.bokMap_bok (s : State) (f : BokSt → BokSt) : (s.bokMap f).bok = f s.bok := by dsimp only [State.bokMap]
@[simp] theorem State.bokMap_sec (s : State) (f : BokSt → BokSt) : (s.bokMap f).sec = s.sec := by dsimp only [State.bokMap]
@[simp] theorem State.bokMap_brl (s : State) (f : BokSt → BokSt) : (s.bokMap f).brl = s.brl := by dsimp only [State.bokMap]
@[simp] theorem State.bokMap_pins (s : State) (f : BokSt → BokSt) : (s.bokMap f).pins = s.pins := by dsimp only [State.bokMap]
@[simp] theorem State.bokMap_flash (s : State) (f : BokSt → BokSt) : (s.bokMap f).flash = s.flash := by dsimp only [State.bokMap]
@[simp] theorem State.bokMap_freeCtr (s : State) (f : BokSt → BokSt) : (s.bokMap f).freeCtr = s.freeCtr := by dsimp only [State.bokMap]

/-! secMap -/
@[simp] theorem State.secMap_pending (s : State) (f : SecSt → SecSt) : (s.secMap f).pending = s.pending := by dsimp only [State.secMap]
@[simp] theorem State.secMap_regs (s : State) (f : SecSt → SecSt) : (s.secMap f).regs = s.regs := by dsimp only [State.secMap]
@[simp] theorem State.secMap_live (s : State) (f : SecSt → SecSt) : (s.secMap f).live = s.live := by dsimp only [State.secMap]
@[simp] theorem State.secMap_shadows (s : State) (f : SecSt → SecSt) : (s.secMap f).shadows = s.shadows := by dsimp only [State.secMap]
@[simp] theorem State.secMap_mem (s : State) (f : SecSt → SecSt) : (s.secMap f).mem = s.mem := by dsimp only [State.secMap]
@[simp] theorem State.secMap_ttb (s : State) (f : SecSt → SecSt) : (s.secMap f).ttb = s.ttb := by dsimp only [State.secMap]
@[simp] theorem State.secMap_spc (s : State) (f : SecSt → SecSt) : (s.secMap f).spc = s.spc := by dsimp only [State.secMap]
@[simp] theorem State.secMap_sac (s : State) (f : SecSt → SecSt) : (s.secMap f).sac = s.sac := by dsimp only [State.secMap]
@[simp] theorem State.secMap_rwc (s : State) (f : SecSt → SecSt) : (s.secMap f).rwc = s.rwc := by dsimp only [State.secMap]
@[simp] theorem State.secMap_ddp (s : State) (f : SecSt → SecSt) : (s.secMap f).ddp = s.ddp := by dsimp only [State.secMap]
@[simp] theorem State.secMap_msq (s : State) (f : SecSt → SecSt) : (s.secMap f).msq = s.msq := by dsimp only [State.secMap]
@[simp] theorem State.secMap_asc (s : State) (f : SecSt → SecSt) : (s.secMap f).asc = s.asc := by dsimp only [State.secMap]
@[simp] theorem State.secMap_zne (s : State) (f : SecSt → SecSt) : (s.secMap f).zne = s.zne := by dsimp only [State.secMap]
@[simp] theorem State.secMap_ste (s : State) (f : SecSt → SecSt) : (s.secMap f).ste = s.ste := by dsimp only [State.secMap]
@[simp] theorem State.secMap_cqe (s : State) (f : SecSt → SecSt) : (s.secMap f).cqe = s.cqe := by dsimp only [State.secMap]
@[simp] theorem State.secMap_hep (s : State) (f : SecSt → SecSt) : (s.secMap f).hep = s.hep := by dsimp only [State.secMap]
@[simp] theorem State.secMap_ms (s : State) (f : SecSt → SecSt) : (s.secMap f).ms = s.ms := by dsimp only [State.secMap]
@[simp] theorem State.secMap_core (s : State) (f : SecSt → SecSt) : (s.secMap f).core = s.core := by dsimp only [State.secMap]
@[simp] theorem State.secMap_vault (s : State) (f : SecSt → SecSt) : (s.secMap f).vault = s.vault := by dsimp only [State.secMap]
@[simp] theorem State.secMap_pwr (s : State) (f : SecSt → SecSt) : (s.secMap f).pwr = s.pwr := by dsimp only [State.secMap]
@[simp] theorem State.secMap_flt (s : State) (f : SecSt → SecSt) : (s.secMap f).flt = s.flt := by dsimp only [State.secMap]
@[simp] theorem State.secMap_evr (s : State) (f : SecSt → SecSt) : (s.secMap f).evr = s.evr := by dsimp only [State.secMap]
@[simp] theorem State.secMap_bok (s : State) (f : SecSt → SecSt) : (s.secMap f).bok = s.bok := by dsimp only [State.secMap]
@[simp] theorem State.secMap_sec (s : State) (f : SecSt → SecSt) : (s.secMap f).sec = f s.sec := by dsimp only [State.secMap]
@[simp] theorem State.secMap_brl (s : State) (f : SecSt → SecSt) : (s.secMap f).brl = s.brl := by dsimp only [State.secMap]
@[simp] theorem State.secMap_pins (s : State) (f : SecSt → SecSt) : (s.secMap f).pins = s.pins := by dsimp only [State.secMap]
@[simp] theorem State.secMap_flash (s : State) (f : SecSt → SecSt) : (s.secMap f).flash = s.flash := by dsimp only [State.secMap]
@[simp] theorem State.secMap_freeCtr (s : State) (f : SecSt → SecSt) : (s.secMap f).freeCtr = s.freeCtr := by dsimp only [State.secMap]

/-! pinMap -/
@[simp] theorem State.pinMap_pending (s : State) (f : PinSt → PinSt) : (s.pinMap f).pending = s.pending := by dsimp only [State.pinMap]
@[simp] theorem State.pinMap_regs (s : State) (f : PinSt → PinSt) : (s.pinMap f).regs = s.regs := by dsimp only [State.pinMap]
@[simp] theorem State.pinMap_live (s : State) (f : PinSt → PinSt) : (s.pinMap f).live = s.live := by dsimp only [State.pinMap]
@[simp] theorem State.pinMap_shadows (s : State) (f : PinSt → PinSt) : (s.pinMap f).shadows = s.shadows := by dsimp only [State.pinMap]
@[simp] theorem State.pinMap_mem (s : State) (f : PinSt → PinSt) : (s.pinMap f).mem = s.mem := by dsimp only [State.pinMap]
@[simp] theorem State.pinMap_ttb (s : State) (f : PinSt → PinSt) : (s.pinMap f).ttb = s.ttb := by dsimp only [State.pinMap]
@[simp] theorem State.pinMap_spc (s : State) (f : PinSt → PinSt) : (s.pinMap f).spc = s.spc := by dsimp only [State.pinMap]
@[simp] theorem State.pinMap_sac (s : State) (f : PinSt → PinSt) : (s.pinMap f).sac = s.sac := by dsimp only [State.pinMap]
@[simp] theorem State.pinMap_rwc (s : State) (f : PinSt → PinSt) : (s.pinMap f).rwc = s.rwc := by dsimp only [State.pinMap]
@[simp] theorem State.pinMap_ddp (s : State) (f : PinSt → PinSt) : (s.pinMap f).ddp = s.ddp := by dsimp only [State.pinMap]
@[simp] theorem State.pinMap_msq (s : State) (f : PinSt → PinSt) : (s.pinMap f).msq = s.msq := by dsimp only [State.pinMap]
@[simp] theorem State.pinMap_asc (s : State) (f : PinSt → PinSt) : (s.pinMap f).asc = s.asc := by dsimp only [State.pinMap]
@[simp] theorem State.pinMap_zne (s : State) (f : PinSt → PinSt) : (s.pinMap f).zne = s.zne := by dsimp only [State.pinMap]
@[simp] theorem State.pinMap_ste (s : State) (f : PinSt → PinSt) : (s.pinMap f).ste = s.ste := by dsimp only [State.pinMap]
@[simp] theorem State.pinMap_cqe (s : State) (f : PinSt → PinSt) : (s.pinMap f).cqe = s.cqe := by dsimp only [State.pinMap]
@[simp] theorem State.pinMap_hep (s : State) (f : PinSt → PinSt) : (s.pinMap f).hep = s.hep := by dsimp only [State.pinMap]
@[simp] theorem State.pinMap_ms (s : State) (f : PinSt → PinSt) : (s.pinMap f).ms = s.ms := by dsimp only [State.pinMap]
@[simp] theorem State.pinMap_core (s : State) (f : PinSt → PinSt) : (s.pinMap f).core = s.core := by dsimp only [State.pinMap]
@[simp] theorem State.pinMap_vault (s : State) (f : PinSt → PinSt) : (s.pinMap f).vault = s.vault := by dsimp only [State.pinMap]
@[simp] theorem State.pinMap_pwr (s : State) (f : PinSt → PinSt) : (s.pinMap f).pwr = s.pwr := by dsimp only [State.pinMap]
@[simp] theorem State.pinMap_flt (s : State) (f : PinSt → PinSt) : (s.pinMap f).flt = s.flt := by dsimp only [State.pinMap]
@[simp] theorem State.pinMap_evr (s : State) (f : PinSt → PinSt) : (s.pinMap f).evr = s.evr := by dsimp only [State.pinMap]
@[simp] theorem State.pinMap_bok (s : State) (f : PinSt → PinSt) : (s.pinMap f).bok = s.bok := by dsimp only [State.pinMap]
@[simp] theorem State.pinMap_sec (s : State) (f : PinSt → PinSt) : (s.pinMap f).sec = s.sec := by dsimp only [State.pinMap]
@[simp] theorem State.pinMap_brl (s : State) (f : PinSt → PinSt) : (s.pinMap f).brl = s.brl := by dsimp only [State.pinMap]
@[simp] theorem State.pinMap_pins (s : State) (f : PinSt → PinSt) : (s.pinMap f).pins = f s.pins := by dsimp only [State.pinMap]
@[simp] theorem State.pinMap_flash (s : State) (f : PinSt → PinSt) : (s.pinMap f).flash = s.flash := by dsimp only [State.pinMap]
@[simp] theorem State.pinMap_freeCtr (s : State) (f : PinSt → PinSt) : (s.pinMap f).freeCtr = s.freeCtr := by dsimp only [State.pinMap]

/-! sacMap -/
@[simp] theorem State.sacMap_pending (s : State) (a : Act) (f : SacSt → SacSt) : (s.sacMap a f).pending = s.pending := by rw [State.sacMap, State.sacSet_pending]
@[simp] theorem State.sacMap_regs (s : State) (a : Act) (f : SacSt → SacSt) : (s.sacMap a f).regs = s.regs := by rw [State.sacMap, State.sacSet_regs]
@[simp] theorem State.sacMap_live (s : State) (a : Act) (f : SacSt → SacSt) : (s.sacMap a f).live = s.live := by rw [State.sacMap, State.sacSet_live]
@[simp] theorem State.sacMap_shadows (s : State) (a : Act) (f : SacSt → SacSt) : (s.sacMap a f).shadows = s.shadows := by rw [State.sacMap, State.sacSet_shadows]
@[simp] theorem State.sacMap_mem (s : State) (a : Act) (f : SacSt → SacSt) : (s.sacMap a f).mem = s.mem := by rw [State.sacMap, State.sacSet_mem]
@[simp] theorem State.sacMap_ttb (s : State) (a : Act) (f : SacSt → SacSt) : (s.sacMap a f).ttb = s.ttb := by rw [State.sacMap, State.sacSet_ttb]
@[simp] theorem State.sacMap_spc (s : State) (a : Act) (f : SacSt → SacSt) : (s.sacMap a f).spc = s.spc := by rw [State.sacMap, State.sacSet_spc]
@[simp] theorem State.sacMap_rwc (s : State) (a : Act) (f : SacSt → SacSt) : (s.sacMap a f).rwc = s.rwc := by rw [State.sacMap, State.sacSet_rwc]
@[simp] theorem State.sacMap_ddp (s : State) (a : Act) (f : SacSt → SacSt) : (s.sacMap a f).ddp = s.ddp := by rw [State.sacMap, State.sacSet_ddp]
@[simp] theorem State.sacMap_msq (s : State) (a : Act) (f : SacSt → SacSt) : (s.sacMap a f).msq = s.msq := by rw [State.sacMap, State.sacSet_msq]
@[simp] theorem State.sacMap_asc (s : State) (a : Act) (f : SacSt → SacSt) : (s.sacMap a f).asc = s.asc := by rw [State.sacMap, State.sacSet_asc]
@[simp] theorem State.sacMap_zne (s : State) (a : Act) (f : SacSt → SacSt) : (s.sacMap a f).zne = s.zne := by rw [State.sacMap, State.sacSet_zne]
@[simp] theorem State.sacMap_ste (s : State) (a : Act) (f : SacSt → SacSt) : (s.sacMap a f).ste = s.ste := by rw [State.sacMap, State.sacSet_ste]
@[simp] theorem State.sacMap_cqe (s : State) (a : Act) (f : SacSt → SacSt) : (s.sacMap a f).cqe = s.cqe := by rw [State.sacMap, State.sacSet_cqe]
@[simp] theorem State.sacMap_hep (s : State) (a : Act) (f : SacSt → SacSt) : (s.sacMap a f).hep = s.hep := by rw [State.sacMap, State.sacSet_hep]
@[simp] theorem State.sacMap_ms (s : State) (a : Act) (f : SacSt → SacSt) : (s.sacMap a f).ms = s.ms := by rw [State.sacMap, State.sacSet_ms]
@[simp] theorem State.sacMap_core (s : State) (a : Act) (f : SacSt → SacSt) : (s.sacMap a f).core = s.core := by rw [State.sacMap, State.sacSet_core]
@[simp] theorem State.sacMap_vault (s : State) (a : Act) (f : SacSt → SacSt) : (s.sacMap a f).vault = s.vault := by rw [State.sacMap, State.sacSet_vault]
@[simp] theorem State.sacMap_pwr (s : State) (a : Act) (f : SacSt → SacSt) : (s.sacMap a f).pwr = s.pwr := by rw [State.sacMap, State.sacSet_pwr]
@[simp] theorem State.sacMap_flt (s : State) (a : Act) (f : SacSt → SacSt) : (s.sacMap a f).flt = s.flt := by rw [State.sacMap, State.sacSet_flt]
@[simp] theorem State.sacMap_evr (s : State) (a : Act) (f : SacSt → SacSt) : (s.sacMap a f).evr = s.evr := by rw [State.sacMap, State.sacSet_evr]
@[simp] theorem State.sacMap_bok (s : State) (a : Act) (f : SacSt → SacSt) : (s.sacMap a f).bok = s.bok := by rw [State.sacMap, State.sacSet_bok]
@[simp] theorem State.sacMap_sec (s : State) (a : Act) (f : SacSt → SacSt) : (s.sacMap a f).sec = s.sec := by rw [State.sacMap, State.sacSet_sec]
@[simp] theorem State.sacMap_brl (s : State) (a : Act) (f : SacSt → SacSt) : (s.sacMap a f).brl = s.brl := by rw [State.sacMap, State.sacSet_brl]
@[simp] theorem State.sacMap_pins (s : State) (a : Act) (f : SacSt → SacSt) : (s.sacMap a f).pins = s.pins := by rw [State.sacMap, State.sacSet_pins]
@[simp] theorem State.sacMap_flash (s : State) (a : Act) (f : SacSt → SacSt) : (s.sacMap a f).flash = s.flash := by rw [State.sacMap, State.sacSet_flash]
@[simp] theorem State.sacMap_freeCtr (s : State) (a : Act) (f : SacSt → SacSt) : (s.sacMap a f).freeCtr = s.freeCtr := by rw [State.sacMap, State.sacSet_freeCtr]

/-! rwcMap -/
@[simp] theorem State.rwcMap_pending (s : State) (a : Act) (f : RwcSt → RwcSt) : (s.rwcMap a f).pending = s.pending := by rw [State.rwcMap, State.rwcSet_pending]
@[simp] theorem State.rwcMap_regs (s : State) (a : Act) (f : RwcSt → RwcSt) : (s.rwcMap a f).regs = s.regs := by rw [State.rwcMap, State.rwcSet_regs]
@[simp] theorem State.rwcMap_live (s : State) (a : Act) (f : RwcSt → RwcSt) : (s.rwcMap a f).live = s.live := by rw [State.rwcMap, State.rwcSet_live]
@[simp] theorem State.rwcMap_shadows (s : State) (a : Act) (f : RwcSt → RwcSt) : (s.rwcMap a f).shadows = s.shadows := by rw [State.rwcMap, State.rwcSet_shadows]
@[simp] theorem State.rwcMap_mem (s : State) (a : Act) (f : RwcSt → RwcSt) : (s.rwcMap a f).mem = s.mem := by rw [State.rwcMap, State.rwcSet_mem]
@[simp] theorem State.rwcMap_ttb (s : State) (a : Act) (f : RwcSt → RwcSt) : (s.rwcMap a f).ttb = s.ttb := by rw [State.rwcMap, State.rwcSet_ttb]
@[simp] theorem State.rwcMap_spc (s : State) (a : Act) (f : RwcSt → RwcSt) : (s.rwcMap a f).spc = s.spc := by rw [State.rwcMap, State.rwcSet_spc]
@[simp] theorem State.rwcMap_sac (s : State) (a : Act) (f : RwcSt → RwcSt) : (s.rwcMap a f).sac = s.sac := by rw [State.rwcMap, State.rwcSet_sac]
@[simp] theorem State.rwcMap_ddp (s : State) (a : Act) (f : RwcSt → RwcSt) : (s.rwcMap a f).ddp = s.ddp := by rw [State.rwcMap, State.rwcSet_ddp]
@[simp] theorem State.rwcMap_msq (s : State) (a : Act) (f : RwcSt → RwcSt) : (s.rwcMap a f).msq = s.msq := by rw [State.rwcMap, State.rwcSet_msq]
@[simp] theorem State.rwcMap_asc (s : State) (a : Act) (f : RwcSt → RwcSt) : (s.rwcMap a f).asc = s.asc := by rw [State.rwcMap, State.rwcSet_asc]
@[simp] theorem State.rwcMap_zne (s : State) (a : Act) (f : RwcSt → RwcSt) : (s.rwcMap a f).zne = s.zne := by rw [State.rwcMap, State.rwcSet_zne]
@[simp] theorem State.rwcMap_ste (s : State) (a : Act) (f : RwcSt → RwcSt) : (s.rwcMap a f).ste = s.ste := by rw [State.rwcMap, State.rwcSet_ste]
@[simp] theorem State.rwcMap_cqe (s : State) (a : Act) (f : RwcSt → RwcSt) : (s.rwcMap a f).cqe = s.cqe := by rw [State.rwcMap, State.rwcSet_cqe]
@[simp] theorem State.rwcMap_hep (s : State) (a : Act) (f : RwcSt → RwcSt) : (s.rwcMap a f).hep = s.hep := by rw [State.rwcMap, State.rwcSet_hep]
@[simp] theorem State.rwcMap_ms (s : State) (a : Act) (f : RwcSt → RwcSt) : (s.rwcMap a f).ms = s.ms := by rw [State.rwcMap, State.rwcSet_ms]
@[simp] theorem State.rwcMap_core (s : State) (a : Act) (f : RwcSt → RwcSt) : (s.rwcMap a f).core = s.core := by rw [State.rwcMap, State.rwcSet_core]
@[simp] theorem State.rwcMap_vault (s : State) (a : Act) (f : RwcSt → RwcSt) : (s.rwcMap a f).vault = s.vault := by rw [State.rwcMap, State.rwcSet_vault]
@[simp] theorem State.rwcMap_pwr (s : State) (a : Act) (f : RwcSt → RwcSt) : (s.rwcMap a f).pwr = s.pwr := by rw [State.rwcMap, State.rwcSet_pwr]
@[simp] theorem State.rwcMap_flt (s : State) (a : Act) (f : RwcSt → RwcSt) : (s.rwcMap a f).flt = s.flt := by rw [State.rwcMap, State.rwcSet_flt]
@[simp] theorem State.rwcMap_evr (s : State) (a : Act) (f : RwcSt → RwcSt) : (s.rwcMap a f).evr = s.evr := by rw [State.rwcMap, State.rwcSet_evr]
@[simp] theorem State.rwcMap_bok (s : State) (a : Act) (f : RwcSt → RwcSt) : (s.rwcMap a f).bok = s.bok := by rw [State.rwcMap, State.rwcSet_bok]
@[simp] theorem State.rwcMap_sec (s : State) (a : Act) (f : RwcSt → RwcSt) : (s.rwcMap a f).sec = s.sec := by rw [State.rwcMap, State.rwcSet_sec]
@[simp] theorem State.rwcMap_brl (s : State) (a : Act) (f : RwcSt → RwcSt) : (s.rwcMap a f).brl = s.brl := by rw [State.rwcMap, State.rwcSet_brl]
@[simp] theorem State.rwcMap_pins (s : State) (a : Act) (f : RwcSt → RwcSt) : (s.rwcMap a f).pins = s.pins := by rw [State.rwcMap, State.rwcSet_pins]
@[simp] theorem State.rwcMap_flash (s : State) (a : Act) (f : RwcSt → RwcSt) : (s.rwcMap a f).flash = s.flash := by rw [State.rwcMap, State.rwcSet_flash]
@[simp] theorem State.rwcMap_freeCtr (s : State) (a : Act) (f : RwcSt → RwcSt) : (s.rwcMap a f).freeCtr = s.freeCtr := by rw [State.rwcMap, State.rwcSet_freeCtr]

/-! msqMap -/
@[simp] theorem State.msqMap_pending (s : State) (a : Act) (f : MsqSt → MsqSt) : (s.msqMap a f).pending = s.pending := by rw [State.msqMap, State.msqSet_pending]
@[simp] theorem State.msqMap_regs (s : State) (a : Act) (f : MsqSt → MsqSt) : (s.msqMap a f).regs = s.regs := by rw [State.msqMap, State.msqSet_regs]
@[simp] theorem State.msqMap_live (s : State) (a : Act) (f : MsqSt → MsqSt) : (s.msqMap a f).live = s.live := by rw [State.msqMap, State.msqSet_live]
@[simp] theorem State.msqMap_shadows (s : State) (a : Act) (f : MsqSt → MsqSt) : (s.msqMap a f).shadows = s.shadows := by rw [State.msqMap, State.msqSet_shadows]
@[simp] theorem State.msqMap_mem (s : State) (a : Act) (f : MsqSt → MsqSt) : (s.msqMap a f).mem = s.mem := by rw [State.msqMap, State.msqSet_mem]
@[simp] theorem State.msqMap_ttb (s : State) (a : Act) (f : MsqSt → MsqSt) : (s.msqMap a f).ttb = s.ttb := by rw [State.msqMap, State.msqSet_ttb]
@[simp] theorem State.msqMap_spc (s : State) (a : Act) (f : MsqSt → MsqSt) : (s.msqMap a f).spc = s.spc := by rw [State.msqMap, State.msqSet_spc]
@[simp] theorem State.msqMap_sac (s : State) (a : Act) (f : MsqSt → MsqSt) : (s.msqMap a f).sac = s.sac := by rw [State.msqMap, State.msqSet_sac]
@[simp] theorem State.msqMap_rwc (s : State) (a : Act) (f : MsqSt → MsqSt) : (s.msqMap a f).rwc = s.rwc := by rw [State.msqMap, State.msqSet_rwc]
@[simp] theorem State.msqMap_ddp (s : State) (a : Act) (f : MsqSt → MsqSt) : (s.msqMap a f).ddp = s.ddp := by rw [State.msqMap, State.msqSet_ddp]
@[simp] theorem State.msqMap_asc (s : State) (a : Act) (f : MsqSt → MsqSt) : (s.msqMap a f).asc = s.asc := by rw [State.msqMap, State.msqSet_asc]
@[simp] theorem State.msqMap_zne (s : State) (a : Act) (f : MsqSt → MsqSt) : (s.msqMap a f).zne = s.zne := by rw [State.msqMap, State.msqSet_zne]
@[simp] theorem State.msqMap_ste (s : State) (a : Act) (f : MsqSt → MsqSt) : (s.msqMap a f).ste = s.ste := by rw [State.msqMap, State.msqSet_ste]
@[simp] theorem State.msqMap_cqe (s : State) (a : Act) (f : MsqSt → MsqSt) : (s.msqMap a f).cqe = s.cqe := by rw [State.msqMap, State.msqSet_cqe]
@[simp] theorem State.msqMap_hep (s : State) (a : Act) (f : MsqSt → MsqSt) : (s.msqMap a f).hep = s.hep := by rw [State.msqMap, State.msqSet_hep]
@[simp] theorem State.msqMap_ms (s : State) (a : Act) (f : MsqSt → MsqSt) : (s.msqMap a f).ms = s.ms := by rw [State.msqMap, State.msqSet_ms]
@[simp] theorem State.msqMap_core (s : State) (a : Act) (f : MsqSt → MsqSt) : (s.msqMap a f).core = s.core := by rw [State.msqMap, State.msqSet_core]
@[simp] theorem State.msqMap_vault (s : State) (a : Act) (f : MsqSt → MsqSt) : (s.msqMap a f).vault = s.vault := by rw [State.msqMap, State.msqSet_vault]
@[simp] theorem State.msqMap_pwr (s : State) (a : Act) (f : MsqSt → MsqSt) : (s.msqMap a f).pwr = s.pwr := by rw [State.msqMap, State.msqSet_pwr]
@[simp] theorem State.msqMap_flt (s : State) (a : Act) (f : MsqSt → MsqSt) : (s.msqMap a f).flt = s.flt := by rw [State.msqMap, State.msqSet_flt]
@[simp] theorem State.msqMap_evr (s : State) (a : Act) (f : MsqSt → MsqSt) : (s.msqMap a f).evr = s.evr := by rw [State.msqMap, State.msqSet_evr]
@[simp] theorem State.msqMap_bok (s : State) (a : Act) (f : MsqSt → MsqSt) : (s.msqMap a f).bok = s.bok := by rw [State.msqMap, State.msqSet_bok]
@[simp] theorem State.msqMap_sec (s : State) (a : Act) (f : MsqSt → MsqSt) : (s.msqMap a f).sec = s.sec := by rw [State.msqMap, State.msqSet_sec]
@[simp] theorem State.msqMap_brl (s : State) (a : Act) (f : MsqSt → MsqSt) : (s.msqMap a f).brl = s.brl := by rw [State.msqMap, State.msqSet_brl]
@[simp] theorem State.msqMap_pins (s : State) (a : Act) (f : MsqSt → MsqSt) : (s.msqMap a f).pins = s.pins := by rw [State.msqMap, State.msqSet_pins]
@[simp] theorem State.msqMap_flash (s : State) (a : Act) (f : MsqSt → MsqSt) : (s.msqMap a f).flash = s.flash := by rw [State.msqMap, State.msqSet_flash]
@[simp] theorem State.msqMap_freeCtr (s : State) (a : Act) (f : MsqSt → MsqSt) : (s.msqMap a f).freeCtr = s.freeCtr := by rw [State.msqMap, State.msqSet_freeCtr]

/-! Pairs -/
@[simp] theorem Pair.get_set {α : Type} (p : Pair α) (i : Two) (v : α) : (p.set i v).get i = v := by cases i <;> rfl
theorem Pair.get_set_ne {α : Type} (p : Pair α) (i j : Two) (v : α) (h : i ≠ j) : (p.set i v).get j = p.get j := by
  cases i <;> cases j <;> first | rfl | exact absurd rfl h
@[simp] theorem State.sacOf_sacSet (s : State) (a : Act) (x : SacSt) : (s.sacSet a x).sacOf a = x := Pair.get_set _ _ _
@[simp] theorem State.rwcOf_rwcSet (s : State) (a : Act) (x : RwcSt) : (s.rwcSet a x).rwcOf a = x := Pair.get_set _ _ _
@[simp] theorem State.msqOf_msqSet (s : State) (a : Act) (x : MsqSt) : (s.msqSet a x).msqOf a = x := Pair.get_set _ _ _

end Sys2Proof.Machine
end

