-- ==== Sys2Proof/WellFormed.lean ====
section
/-! DEFINITION. Well-formed commands: every operand lies in the range that its field has on the hardware or in the standard that carries it.  The machine's meanings
do not rest on it: they are total. -/
namespace Sys2Proof

/-- A value of `w` bits. -/
def fits (w n : Nat) : Bool := decide (n < 2 ^ w)
/-- A value of at most `m`. -/
def upTo (m n : Nat) : Bool := decide (n ≤ m)
/-- A count of 1 to `m`. -/
def countOk (m n : Nat) : Bool := decide (1 ≤ n) && decide (n ≤ m)
/-- The size of an access in bytes (R4, R19). -/
def sizeOk (n : Nat) : Bool := n == 1 || n == 2 || n == 4 || n == 8
/-- A list of exactly `n` bytes. -/
def lengthIs (n : Nat) (l : List Byte) : Bool := l.length == n
/-- A list of at most `n` bytes. -/
def lengthUpTo (n : Nat) (l : List Byte) : Bool := decide (l.length ≤ n)
/-- An NVMe command's queue, command and namespace identifiers. -/
def headerOk (h : CmdHdr) : Bool := fits 16 h.qid && fits 16 h.cid && fits 32 h.nsid
/-- The failure code of a slot's own checks (Table 16.5). -/
def codeOk (c : Option Nat) : Bool :=
  match c with
  | none => true
  | some n => n == 0x12 || n == 0x13 || n == 0x14 || n == 0x16 || n == 0x17
/-- An image slot (R337): a failing one by its code, or 1 to 32 sections within the fields of Tables 16.1 and 16.2. -/
def imageOk (i : SlotImage) : Bool :=
  codeOk i.fail && fits 8 i.svn && fits 32 i.revision && (i.fail.isSome || countOk 32 i.sections.length) && i.sections.all (fun x => fits 16 x.typ && fits 32 x.dest)
/-- The flash's contents (R336): boot control names slot 1 or 2. -/
def flashOk (f : Option Flash) : Bool :=
  match f with
  | none => true
  | some x => imageOk x.slot1 && imageOk x.slot2 && (x.ctl0.toList ++ x.ctl1.toList).all (fun c => fits 32 c.seq && countOk 2 c.slot)

/-- Whether a command is well-formed. -/
def Instr.wf : Instr → Bool
  | .registerWrite off size _ => fits 32 off && sizeOk size
  | .wideLowRead off => fits 32 off
  | .wideHighRead off => fits 32 off
  | .powerOnResetRelease _ _ => true
  | .start flash => flashOk flash
  | .ddr5TrainingEnd _ gib => fits 4 gib
  | .configLock => true
  | .glbRstWrite _ => true
  | .deviceReset => true
  | .eventClaim _ _ => true
  | .eventComplete _ _ _ => true
  | .hartRelease _ _ _ => true
  | .coreAccess _ _ addr size _ _ => fits 64 addr && sizeOk size
  | .gatherIdleWriteback addr => fits 64 addr
  | .coreFence _ => true
  | .bankCopyEnd => true
  | .timetableEnable _ => true
  | .timetableDisable _ => true
  | .angleSourceSelect _ => true
  | .snapshotCapture _ => true
  | .missCounterClear _ => true
  | .slotArm _ _ => true
  | .slotDisarm _ _ => true
  | .slotFire _ => true
  | .windowOpen _ => true
  | .windowClose _ => true
  | .samDetected _ _ _ _ => true
  | .samMissed => true
  | .timetableLock => true
  | .flywheelEntry => true
  | .lostEntry => true
  | .stepEnd => true
  | .syncSend => true
  | .twinsyncSet => true
  | .twinsyncClear => true
  | .pwmPeriod _ => true
  | .speedLoopPeriod _ => true
  | .observerLoss => true
  | .commutationEvent interval ring _ => fits 32 interval && fits 32 ring
  | .bridgeFault => true
  | .spindleRun _ => true
  | .spindleStop _ => true
  | .lossCounterClear _ => true
  | .speedTargetWrite _ => true
  | .catchMeasurementEnd _ speed => fits 32 speed
  | .alignEnd => true
  | .openloopHandoff => true
  | .lockedRotorExpiry => true
  | .lockedRotorRetry => true
  | .inbandRise => true
  | .reacquisition => true
  | .reacquisitionTimeout => true
  | .brakeHoldTimeout => true
  | .standstillGap emf _ => fits 32 emf
  | .keUpdate => true
  | .wedgeDemodulated _ _ => true
  | .recoverEntry _ => true
  | .settleComplete _ => true
  | .sacSeek _ _ => true
  | .sacLoad _ _ => true
  | .sacUnload _ _ => true
  | .sacSelftest _ _ => true
  | .sacEndtest _ _ => true
  | .sacEnable _ _ => true
  | .sacDisable _ _ => true
  | .integratorClear _ _ => true
  | .sacCounterClear _ _ => true
  | .bankApplyRequest _ _ => true
  | .followingErrorExpiry _ => true
  | .currentPlausibilityTick _ _ => true
  | .implausible _ => true
  | .estimateIntervalClose _ aA aB => fits 32 aA && fits 32 aB
  | .loadServoFound _ => true
  | .loadTimeout _ => true
  | .unloadPushEnd _ => true
  | .unloadHoldEnd _ => true
  | .recoverSeek _ => true
  | .recoverTimeout _ => true
  | .bufferStopRetract _ => true
  | .bufferStopSecondPhase _ => true
  | .bufferStopHold _ => true
  | .bufferStopEnd _ => true
  | .gatePeriodOpen _ ready => fits 64 ready
  | .gatePeriodClose _ => true
  | .syncWindowClose _ _ => true
  | .sectorDecoded _ _ => true
  | .serialFrameCommand _ _ => true
  | .serialFrameStart _ => true
  | .serialFrameDone _ _ => true
  | .serialTimeout _ => true
  | .serialTrailerEnd _ => true
  | .latePreampReply _ => true
  | .preampFault _ => true
  | .channelEnable _ _ => true
  | .channelCounterClear _ _ => true
  | .poolDecodeComplete _ _ => true
  | .rereadPass slot _ => fits 16 slot
  | .accumulatorGrant => true
  | .jobAgeLimit slot => fits 16 slot
  | .poolEnable _ => true
  | .poolDisable _ => true
  | .poolCounterClear _ => true
  | .machineCheck _ _ _ => true
  | .cont _ _ => true
  | .jump _ _ => true
  | .br _ _ => true
  | .call _ _ => true
  | .ret _ _ => true
  | .disp _ _ => true
  | .eret _ _ => true
  | .nop _ _ => true
  | .mov _ _ => true
  | .add _ _ => true
  | .sub _ _ => true
  | .and _ _ => true
  | .or _ _ => true
  | .xor _ _ => true
  | .shl _ _ => true
  | .shr _ _ => true
  | .cmp _ _ => true
  | .lds _ _ => true
  | .ldd _ _ => true
  | .std _ _ => true
  | .angleWait _ _ => true
  | .condWait _ _ => true
  | .strobeWait _ _ => true
  | .waitEnd _ => true
  | .waitLimitExpiry _ => true
  | .yield _ _ => true
  | .gateRead _ _ => true
  | .gateWrite _ _ => true
  | .gateClear _ _ => true
  | .chanLoad _ _ => true
  | .chanStart _ _ => true
  | .chanAbort _ _ => true
  | .chanLoadr _ _ => true
  | .servoSeek _ _ => true
  | .servoUnload _ _ => true
  | .preHeadSelect _ _ => true
  | .preWriteFrame _ _ => true
  | .preReadFrame _ _ => true
  | .ascReadHeat _ _ => true
  | .ascWriteHeat _ _ => true
  | .ascIdle _ _ => true
  | .tchk _ _ => true
  | .endOp _ _ => true
  | .microcodeEvent _ _ => true
  | .operationSubmit _ _ => true
  | .hardwareSubmit _ => true
  | .operationCancel _ submitter _ => fits 2 submitter
  | .completionPost _ _ => true
  | .completionPop _ _ => true
  | .sequencerEnable _ _ => true
  | .sequencerStop _ _ => true
  | .sequencerCounterClear _ _ => true
  | .patchLoad _ _ => true
  | .patchLoadComplete _ _ _ _ => true
  | .setpointApplyArm _ => true
  | .telemetryFrame _ _ => true
  | .telemetryLoss _ => true
  | .temperatureScan _ => true
  | .windowEvaluation => true
  | .throttleGraceExpiry => true
  | .calibrationStart _ => true
  | .calibrationEnd _ => true
  | .calibrationRestore _ => true
  | .ageingMeasurement _ => true
  | .ascEnable _ => true
  | .ascCounterClear _ => true
  | .zoneEngineEnable _ => true
  | .zneCounterClear _ => true
  | .zoneActionApply => true
  | .chunkCommit zone k => fits 19 zone && upTo 287 k
  | .chunkIdleExpiry zone k => fits 19 zone && upTo 287 k
  | .chunkWriteComplete _ => true
  | .writeRetryTimer => true
  | .reclaimCopyComplete _ => true
  | .spareAdd _ => true
  | .stripeEngineEnable _ => true
  | .replayLoadEnd _ _ _ _ => true
  | .tagScanEnd _ => true
  | .parityPendingWrite => true
  | .steCounterClear _ => true
  | .checkpointRequest _ => true
  | .checkpointTimer => true
  | .checkpointStart => true
  | .checkpointWriteComplete _ _ => true
  | .journalRateRelease => true
  | .sectorReconstruction _ => true
  | .surfaceRetire _ => true
  | .mendChunk _ => true
  | .rinseStart _ => true
  | .rinseStop _ => true
  | .rinseChunkRead _ => true
  | .rinseEnd => true
  | .convWrite stamp => fits 64 stamp
  | .commandAdmission _ qid => fits 16 qid
  | .writeDataReceived stamp _ => fits 64 stamp
  | .interlockRequest _ => true
  | .interlockHeld index => fits 10 index
  | .interlockRelease index => fits 10 index
  | .interlockCapture => true
  | .flushComplete stamp => fits 64 stamp
  | .activationReady => true
  | .activationDone _ => true
  | .powerStateEntry _ => true
  | .entryCheckpoint => true
  | .powerStateReturnEnd => true
  | .cqeEnable _ => true
  | .cqeCounterClear _ => true
  | .linkUp _ speed width => countOk 5 speed && fits 3 width
  | .fundamentalReset _ => true
  | .hotReset _ => true
  | .functionLevelReset _ => true
  | .controllerDisable _ => true
  | .controllerEnable _ _ => true
  | .normalShutdown _ => true
  | .abruptShutdown _ => true
  | .configurationRequest _ _ reg _ => fits 12 reg
  | .configReady _ => true
  | .doorbellWrite _ _ qid _ => fits 16 qid
  | .pcieCompletion _ tag _ => fits 10 tag
  | .completionTimeout _ tag => fits 10 tag
  | .busMasterDisable _ => true
  | .busMasterEnable _ => true
  | .coalescingTimer _ qid => fits 16 qid
  | .expansionRomRead _ off => fits 18 off
  | .createIoSq h qid size cqid _ => headerOk h && fits 16 qid && countOk 65536 size && fits 16 cqid
  | .deleteIoSq h qid => headerOk h && fits 16 qid
  | .createIoCq h qid size vector _ => headerOk h && fits 16 qid && countOk 65536 size && upTo 128 vector
  | .deleteIoCq h qid => headerOk h && fits 16 qid
  | .identify h cns => headerOk h && fits 8 cns
  | .getLogPage h lid => headerOk h && fits 8 lid
  | .smartHealthLog h => headerOk h
  | .driveLifeLog h => headerOk h
  | .stationBookLog h first count => headerOk h && fits 64 first && fits 32 count
  | .bootStatusLog h => headerOk h
  | .abort h sqid cid => headerOk h && fits 16 sqid && fits 16 cid
  | .setFeatures h fid _ => headerOk h && fits 8 fid
  | .setPowerManagement h ps => headerOk h && fits 5 ps
  | .setTimestamp h ms => headerOk h && fits 48 ms
  | .setThermalManagement h tmt1 tmt2 => headerOk h && fits 16 tmt1 && fits 16 tmt2
  | .getFeatures h fid _ => headerOk h && fits 8 fid
  | .getTimestamp h => headerOk h
  | .asynchronousEventRequest h => headerOk h
  | .firmwareImageDownload h image => headerOk h && imageOk image
  | .firmwareCommit h slot action => headerOk h && fits 16 slot && fits 3 action
  | .firmwareCommitActivate h slot => headerOk h && fits 16 slot
  | .formatNvm h lbaf pi ses => headerOk h && fits 4 lbaf && fits 3 pi && fits 3 ses
  | .sanitize h => headerOk h
  | .securityProtocolDiscovery h => headerOk h
  | .authenticate h nsid _ => headerOk h && fits 32 nsid
  | .setCredential h nsid _ _ => headerOk h && fits 32 nsid
  | .lock h nsid => headerOk h && fits 32 nsid
  | .securityStatus h => headerOk h
  | .flush h => headerOk h
  | .write h slba nlb _ => headerOk h && fits 64 slba && countOk 65536 nlb
  | .read h slba nlb => headerOk h && fits 64 slba && countOk 65536 nlb
  | .writeZeroes h slba nlb => headerOk h && fits 64 slba && countOk 65536 nlb
  | .zoneAppend h zslba nlb _ => headerOk h && fits 64 zslba && countOk 65536 nlb
  | .zoneOpen h zslba _ => headerOk h && fits 64 zslba
  | .zoneClose h zslba _ => headerOk h && fits 64 zslba
  | .zoneFinish h zslba _ => headerOk h && fits 64 zslba
  | .zoneReset h zslba _ => headerOk h && fits 64 zslba
  | .zoneOffline h zslba _ => headerOk h && fits 64 zslba
  | .reportZones h slba count => headerOk h && fits 64 slba && fits 32 count
  | .unsupportedCommand h _ opcode => headerOk h && fits 8 opcode
  | .miBasicManagementRead => true
  | .readNvmeMiDataStructure dtyp => fits 8 dtyp
  | .subsystemHealthStatusPoll => true
  | .controllerHealthStatusPoll _ => true
  | .configurationGet cid => fits 16 cid
  | .configurationSet cid _ => fits 16 cid
  | .miTunneledCommand opcode arg => fits 8 opcode && fits 64 arg
  | .miUnsupportedRequest opcode => fits 8 opcode
  | .hepCounterClear _ => true
  | .scrubStart _ _ => true
  | .scrubTimer _ => true
  | .scrubEnd => true
  | .checkbitTestArm _ => true
  | .refreshRatePoll _ => true
  | .ddr5ReadComplete addr _ _ _ => fits 34 addr
  | .ddr5ReadTimeout addr _ _ => fits 34 addr
  | .lateDdr5Data addr => fits 34 addr
  | .mapCacheFill line => fits 34 line
  | .mergeDrain => true
  | .cacheLock _ => true
  | .cacheUnlock _ => true
  | .cacheInvalidate _ => true
  | .rangeOperationEnd => true
  | .mapCacheDisable _ => true
  | .mapCacheDisableEnd => true
  | .mapCacheEnable _ => true
  | .memCounterClear _ => true
  | .measurementRequest _ => true
  | .measurementTimer => true
  | .measurementEnd s0 s1 => fits 16 s0 && fits 16 s1
  | .powerFailFall => true
  | .powerLoss => true
  | .windowSaveEnd => true
  | .powerReturn => true
  | .restoreRequest _ => true
  | .restoreEnd => true
  | .governorPeriod util => upTo 100 util
  | .coresOff _ => true
  | .ps4Wake => true
  | .powerOnHour => true
  | .faultMessage => true
  | .fatalHoldEnd => true
  | .faultMessageRead => true
  | .fltCounterClear _ => true
  | .railOutOfRange _ _ mv => fits 16 mv
  | .railBackInRange _ => true
  | .clockFailure _ edges => fits 16 edges
  | .testUnlock _ => true
  | .forceFault _ => true
  | .forceLapse => true
  | .softwareEvent _ => true
  | .routeWrite _ _ => true
  | .gpioEdge _ _ => true
  | .recordWrite => true
  | .bucketRefill _ => true
  | .stationBookClear _ => true
  | .stationBookClearEnd => true
  | .firmwareRecord _ => true
  | .bokCounterClear _ => true
  | .svnUpdate _ => true
  | .debugChallenge => true
  | .debugResponse _ => true
  | .branchLineEnable _ => true
  | .linkTrained delay => fits 32 delay
  | .fence _ => true
  | .handBack _ => true
  | .handBackEnd => true
  | .brlCounterClear _ => true
  | .heartbeatKick _ => true
  | .heartbeatToggle _ => true
  | .kickExpiry => true
  | .heartbeatEdge => true
  | .partnerSilent => true
  | .guardExpiry => true
  | .tokenNetChange _ _ => true
  | .tokenGained _ => true
  | .tokenLost _ => true
  | .tokenWaitExpiry => true
  | .idleTimer => true
  | .idle _ => true
  | .hello _ _ _ _ _ _ => true
  | .sync _ _ _ => true
  | .spst _ _ _ target ceil _ => fits 3 target && fits 3 ceil
  | .jrec _ bytes => lengthIs 64 bytes
  | .win _ lba nsid stamp bytes => fits 64 lba && fits 32 nsid && fits 64 stamp && lengthIs 4112 bytes
  | .wrel _ _ => true
  | .mdcopy _ page off bytes => upTo 597 page && fits 20 off && lengthUpTo 1048576 bytes
  | .fwd _ e => headerOk e.hdr
  | .fdata _ cid bytes => fits 17 cid && lengthUpTo 1048576 bytes
  | .fcpl _ cid status dw0 => fits 17 cid && fits 15 status && fits 32 dw0
  | .fctl _ _ => true
  | .xrdy _ => true
  | .ack _ => true
  | .fltm _ _ => true
  | .fencePacket _ => true
  | .invalidFrame _ => true
  | .handshakeTimeout tag => fits 16 tag
  | .steer _ => true
  | .steeringDone _ => true
  | .bypass => true
  | .idcode => true
  | .samplePreload _ => true
  | .extest => true
  | .clamp => true
  | .highz => true
  | .preampFaultClear _ => true
  | .powerFailRise => true
  | .holdRailBelowVmin mv => fits 16 mv
  | .partnerHeartbeatLoss => true
  | .branchLineLinkLoss => true
  | .functionLevelResetEnd _ => true
  | .machineTimerInterrupt _ => true

end Sys2Proof
end

