-- ==== Sys2Proof/Tests/Slice0.lean ====
section
/-! SUPPORT. Small tests of the model: ill-formed commands that WellFormed refuses, single steps with results worked out by hand from the manual, and for each statement with
hypotheses a concrete state and operands that meet them, clause by clause in the statement's order. -/
namespace Sys2Proof.Tests
open Sys2Proof Sys2Proof.Machine
set_option Elab.async false

/-- The reset state with some register fields set. -/
def wit (l : List (Fld × Nat)) : State := l.foldl (fun s p => s.fset p.1 p.2) State.reset
/-- The state after a step from which nothing stops. -/
def after (c : Instr) (s : State) : State :=
  match exec c s with
  | .next t => t
  | _ => s
/-- A word with the one-bit field `f` set. -/
def bit (f : Fld) : Word := BitVec.ofNat 32 (1 <<< f.lo)
/-- An admin command's header on port 0. -/
def adm : CmdHdr := ⟨.zero, 0, 7, 1, false⟩
/-- An I/O command's header on port 0, queue 1. -/
def ioh : CmdHdr := ⟨.zero, 1, 7, 1, false⟩
/-- A microword of zeros: CONT, NOP and no action (Table 7.1). -/
def zw : Microword := ⟨0, 0, 0, false, false, 0, 0, 0, 0, 0, 0, false, false, 0, 0, 0, 0, 0, 0, 0, false, 0, 0⟩

/-! Well-formedness: one ill-formed command for each kind of check. -/
theorem test_wf_address : Instr.wf (.registerWrite 0x100000000 4 0) = false := by decide
theorem test_wf_size : Instr.wf (.registerWrite 0 3 0) = false := by decide
theorem test_wf_wide_offsets : Instr.wf (.wideLowRead 0x100000000) = false ∧ Instr.wf (.wideHighRead 0x100000000) = false := by decide
theorem test_wf_header : Instr.wf (.flush ⟨.zero, 0x10000, 0, 0, false⟩) = false ∧ Instr.wf (.flush ⟨.zero, 0, 0x10000, 0, false⟩) = false ∧
    Instr.wf (.flush ⟨.zero, 0, 0, 0x100000000, false⟩) = false ∧ Instr.wf (.flush ⟨.zero, 1, 2, 3, false⟩) = true := by decide
theorem test_wf_counts : Instr.wf (.read ioh 0 0) = false ∧ Instr.wf (.read ioh 0 65537) = false ∧ Instr.wf (.read ioh 0 65536) = true ∧
    Instr.wf (.linkUp .zero 0 4) = false ∧ Instr.wf (.linkUp .zero 6 4) = false := by decide
theorem test_wf_bounds : Instr.wf (.governorPeriod 101) = false ∧ Instr.wf (.chunkCommit 0 288) = false ∧ Instr.wf (.chunkCommit 524288 0) = false ∧
    Instr.wf (.createIoCq adm 1 2 129 true) = false := by decide
theorem test_wf_lengths : Instr.wf (.jrec ⟨0, true, false, 0⟩ [0]) = false ∧ Instr.wf (.win ⟨0, true, false, 0⟩ 0 1 0 []) = false ∧
    Instr.wf (.jrec ⟨0, true, false, 0⟩ (List.replicate 64 0)) = true := by decide +kernel
theorem test_wf_image : Instr.wf (.firmwareImageDownload adm ⟨none, 0, 0, []⟩) = false ∧ Instr.wf (.firmwareImageDownload adm ⟨some 0x15, 0, 0, []⟩) = false ∧
    Instr.wf (.firmwareImageDownload adm ⟨some 0x12, 0, 0, []⟩) = true := by decide
theorem test_wf_flash : Instr.wf (.start (some ⟨true, some ⟨0, 3⟩, none, ⟨some 0x12, 0, 0, []⟩, ⟨some 0x12, 0, 0, []⟩⟩)) = false := by decide
theorem test_wf_fields : Instr.wf (.ddr5TrainingEnd true 16) = false ∧ Instr.wf (.measurementEnd 0x10000 0) = false ∧ Instr.wf (.formatNvm adm 16 0 0) = false ∧
    Instr.wf (.gatePeriodOpen .zero (2 ^ 64)) = false := by decide
/-- The table gives its rows no bits, so no word spells a command. -/
theorem test_no_word_decodes (n w : Nat) : decodeTableWord n w = none := rfl

/-! Single steps, with the results that the manual gives. -/
/-- R33, Table 2.2: enabling the Timetable in IDLE makes its state ACQUIRE (1). -/
theorem test_timetable_enable : (after (.timetableEnable 1) (wit [])).fget F.TTB_STS_STATE = 1 := by decide +kernel
/-- R11: CLRMISS clears the wide miss counter. -/
theorem test_miss_clear : (after (.missCounterClear (bit F.TTB_SNAP_CLRMISS)) ((wit []).count Rg.TTB_MISS_LO 5)).wide Rg.TTB_MISS_LO = 0 := by decide +kernel
/-- R11: a counter stays at its greatest value. -/
theorem test_counter_saturates : (((wit []).wideSet Rg.TTB_MISS_LO 0xFFFFFFFFFFFF).count Rg.TTB_MISS_LO).wide Rg.TTB_MISS_LO = 0xFFFFFFFFFFFF := by decide +kernel
/-- R10: reading the low half holds the high half until it is read. -/
theorem test_wide_read_holds : (after (.wideHighRead Rg.TTB_MISS_HI) ((after (.wideLowRead Rg.TTB_MISS_LO) ((wit []).wideSet Rg.TTB_MISS_LO 0x500000007)).wideSet Rg.TTB_MISS_LO
    0x900000000)).core.rdata = 5 := by decide +kernel
/-- R8: GLB_LOCK, once set, stays set. -/
theorem test_lock : (after .configLock (wit [])).locked = true ∧ (after (.registerWrite 4 4 0) (after .configLock (wit []))).locked = true := by decide +kernel
/-- Table 1.5, R3: a byte access of a register changes nothing. -/
theorem test_byte_write_ignored : after (.registerWrite Rg.TTB_CTL 1 1) (wit []) = wit [] := by decide +kernel
theorem test_indexed_reads : (after (.wideLowRead 0x15014C) { wit [] with evr := { hart := BitVec.ofNat 640 (2 ^ 639) } }).core.rdata = 0x80000000 ∧
    (after (.wideLowRead (Rg.MSQ_CPL .one 3)) ((wit []).msqMap .one (fun m => { m with cpls := [BitVec.ofNat 128 (7 * 2 ^ 96)] }))).core.rdata = 7 := by decide +kernel
theorem test_indexed_writes : (after (.registerWrite 0x1519FC 4 0x2010F) (wit [])).rd (Rg.EVR_ROUTE 639) = 0x2010F ∧
    (after (.registerWrite 0xF00BC 4 5) (wit [])).asc.calBuf = [0, 0, 0, 5] := by decide +kernel
theorem test_slot_by_register_write : after (.registerWrite (Rg.TTB_SLOT_CTL 63) 4 1) (wit []) = after (.slotArm 63 1) (wit []) := by decide +kernel
/-- Table 3.2: RUN = 0 in RUN leads to STOPPING (9). -/
theorem test_spindle_stop : (after (.spindleStop 0) (wit [(F.SPC_STS_STATE, SpcS.run), (F.SPC_CTL_RUN, 1)])).fget F.SPC_STS_STATE = 9 := by decide +kernel
/-- Table 3.7: a target step outside 1 to 5 is ignored. -/
theorem test_target_ignored : after (.speedTargetWrite 7) (wit []) = wit [] := by decide +kernel
/-- R81: a SEEK in PARKED sets REJ. -/
theorem test_seek_rejected : (after (.sacSeek .zero 0) (wit [(F.SAC_CTL_EN .zero, 1)])).flag (F.SAC_STS_REJ .zero) = true := by decide +kernel
/-- Table 7.3: ADD wraps at 32 bits with Z and C set. -/
theorem test_alu_add : (let t := (({ wit [] with msq := ⟨{ g := [0, 0xFFFFFFFF] ++ List.replicate 14 0 }, {}⟩ } : State).aluStep .zero { zw with alu := 2, ra := 1, bimm := true, imm := 1, dst := 2, flg := true })
    ((t.msqOf .zero).reg 2, (t.msqOf .zero).z, (t.msqOf .zero).c, (t.msqOf .zero).n) = (0, true, true, false)) := by decide +kernel
/-- Table 7.3: SUB with a borrow sets C and N. -/
theorem test_alu_sub : (let t := ((wit []).aluStep .zero { zw with alu := 3, bimm := true, imm := 1, dst := 3, flg := true })
    ((t.msqOf .zero).reg 3, (t.msqOf .zero).z, (t.msqOf .zero).c, (t.msqOf .zero).n) = (0xFFFFFFFF, false, true, true)) := by decide +kernel
/-- R151: G0 reads as zero and discards writes. -/
theorem test_alu_g0 : (((wit []).aluStep .zero { zw with alu := 1, bimm := true, imm := 5, dst := 0 }).msqOf .zero).reg 0 = 0 := by decide +kernel
/-- R150: CALL in the last address stacks address 0. -/
theorem test_call_wraps : (((wit [(F.MSQ_PC_ADDR .zero, 0x3FFF)]).seqStep .zero { zw with seq := 3, na := 7 } false).msqOf .zero).stack = [0] := by decide +kernel
/-- R333: an event sets the hart latch that its route enables. -/
theorem test_event : (after (.softwareEvent 1) (wit [(F.EVR_ROUTE_HARTS 513, 1)])).evr.hart = bit640 513 ∧ (after (.softwareEvent 1) (wit [])).evr.hart = 0 := by decide +kernel
/-- R330: the two keys in turn unlock the tests; the second alone does not. -/
theorem test_unlock : (after (.testUnlock 0x0C3A) (after (.testUnlock 0x7E51) (wit []))).flag F.FLT_STS_UNLOCKED = true ∧
    (after (.testUnlock 0x0C3A) (wit [])).flag F.FLT_STS_UNLOCKED = false := by decide +kernel
/-- R327: a message of class 4 from a source without an actuator stops the device safely. -/
theorem test_safe_stop : (after .faultMessage { wit [] with flt := { inflight := [faultMsg (faultSource Blk.pwr 0) 1 4 0 false 0] } }).flag F.FLT_STS_SAFEDEV = true := by decide +kernel
/-- R319: high use raises the target by one step. -/
theorem test_governor : (after (.governorPeriod 100) (wit [(F.SPC_STS_STATE, SpcS.run), (F.SPC_TARGET_SEL, 2)])).fget F.SPC_TARGET_SEL = 3 := by decide +kernel
/-- R1: CRC-32C of the published check string 123456789. -/
theorem test_crc32c : crc32c [0x31, 0x32, 0x33, 0x34, 0x35, 0x36, 0x37, 0x38, 0x39] = 0xE3069283 := by decide +kernel
/-- R3: words lie in memory low byte first. -/
theorem test_little_endian : ((wit []).store 0x10000000 4 0x11223344).byte 0x10000000 = 0x44 ∧ ((wit []).store 0x10000000 4 0x11223344).byte 0x10000003 = 0x11 := by decide +kernel
/-- R352: a lower SVNMIN is discarded. -/
theorem test_svn : (after (.svnUpdate 3) (wit [(F.SEC_SVN_SVNMIN, 5)])).fget F.SEC_SVN_SVNMIN = 5 ∧ (after (.svnUpdate 6) (wit [(F.SEC_SVN_SVNMIN, 5)])).fget F.SEC_SVN_SVNMIN = 6 := by
  decide +kernel
/-- R246: an interlock takes the lowest free entry. -/
theorem test_interlock : (after (.interlockRequest ⟨1, 0, false, 0, 1⟩) (wit [])).cqe.il.map (fun e => e.index) = [0] := by decide +kernel
/-- Table 1.6: a core's load outside every region raises a load access fault (5). -/
theorem test_access_fault : ((after (.coreAccess 0 .load 0x20000 4 0 ⟨0, false⟩) (wit [])).hart 0).trap = some 5 := by decide +kernel
/-- Chapter 18: IDCODE reads 0x1842_0D6B. -/
theorem test_idcode : (after .idcode (wit [])).pins.dr = 0x18420D6B := by decide +kernel
/-- R304: disabling the Map Cache empties the merge buffer. -/
theorem test_cache_disable : (after (.mapCacheDisable 0) { wit [(F.MEM_MCC_CTL_EN, 1), (F.MEM_MCC_STS_OFF, 0)] with ms := { merge := [(5, 3)] } }).ms.merge = [] := by decide +kernel
/-- R1: a command of an opcode that the drive lacks completes Invalid Command Opcode (SCT 0, SC 1), which the error log takes. -/
theorem test_unsupported : ((after (.unsupportedCommand adm true 0x7F) (wit [(F.CQE_STS_RUN, 1), (F.HEP_STS_RDY0, 1)])).hep.ports.p0.errors.map (fun c => c.status)) = [1] := by decide +kernel
/-! Witnesses: the hypotheses of each statement's clauses are met, in the clauses' order. -/
theorem witness_TimetableControl : (((wit []).fsetB F.TTB_CTL_EN true).ttbIn TtbS.idle = true) ∧
    ((wit [(F.TTB_STS_STATE, 2)]).fsetB F.TTB_CTL_EN true).ttbIn TtbS.idle = false ∧ F.TTB_CTL_EN.on (bit F.TTB_CTL_EN) = true ∧ F.TTB_CTL_EN.on 0 = false := by
  decide +kernel
theorem witness_SnapshotAndMissCounter : F.TTB_SNAP_CLRMISS.on (bit F.TTB_SNAP_CAP) = false ∧ F.TTB_SNAP_CAP.on (bit F.TTB_SNAP_CLRMISS) = false ∧
    F.TTB_SNAP_CLRMISS.on (bit F.TTB_SNAP_CAP ||| bit F.TTB_SNAP_CLRMISS) = true ∧ F.TTB_SNAP_CAP.on (bit F.TTB_SNAP_CAP ||| bit F.TTB_SNAP_CLRMISS) = true := by decide +kernel
/-- LOCKED with source 0 and mark 1 coming at its own angle, and 4 × TOL + 16 late. -/
def locked0 : State := wit [(F.TTB_STS_STATE, 2), (F.TTB_LOCKCFG_TOL, 16), (F.TTB_LOCKCFG_LOCKN, 1), (F.TTB_LOCKCFG_MISSN, 1)]
theorem witness_TimetableLocking_marks : (wit []).ttbIn TtbS.idle = true ∧ locked0.fget F.TTB_CTL_SRC ≠ Two.one.num ∧ locked0.ttbIn TtbS.idle = false ∧
    locked0.fget F.TTB_CTL_SRC = Two.zero.num ∧ locked0.flag F.BRL_STEER_SET = false ∧
    (let e := fun (stamp : Angle) =>
      let u := (locked0.angleTo (BitVec.ofNat 64 (atCompare stamp.toNat))).fset F.TTB_STS_SRCACT 0
      (u.ttbIn TtbS.locked, lockError (BitVec.ofNat 64 (atCompare stamp.toNat)) 1 u.ttb.markSkew, u.ttbTol)
     e 0x10000 = (true, 0, 16) ∧ e 0xFFC0 = (true, 64, 16) ∧ e 0x10040 = (true, -64, 16) ∧ e 0xFFD0 = (true, 48, 16)) := by decide +kernel
theorem witness_TimetableLocking_states :
    locked0.ttbIn TtbS.locked = true ∧ locked0.ttb.acceptedInWedge = false ∧
    (let s := { locked0 with ttb := { locked0.ttb with acceptedInWedge := true } }; s.ttbIn TtbS.idle = false ∧ s.ttb.acceptedInWedge = true) ∧
    (let s := { wit [(F.TTB_STS_STATE, 1), (F.TTB_LOCKCFG_LOCKN, 1)] with ttb := { lockRun := 1 } };
      s.ttbIn TtbS.acquire = true ∧ max 1 (s.fget F.TTB_LOCKCFG_LOCKN) ≤ s.ttb.lockRun) ∧
    (let s := { wit [(F.TTB_STS_STATE, 3)] with ttb := { lockRun := 8 } }; s.ttbIn TtbS.flywheel = true ∧ 8 ≤ s.ttb.lockRun) ∧
    (let s := { locked0 with ttb := { missRun := 1 } }; s.ttbIn TtbS.locked = true ∧ max 1 (s.fget F.TTB_LOCKCFG_MISSN) ≤ s.ttb.missRun) ∧
    (wit [(F.TTB_STS_STATE, 3)]).ttbIn TtbS.flywheel = true ∧
    (let s := { wit [(F.TTB_STS_STATE, 2), (F.TTB_STS_STEP, 1)] with ttb := { stepSams := some 64 } };
      s.flag F.TTB_STS_STEP = true ∧ s.ttbIn TtbS.locked = true ∧ s.ttb.stepSams = some 64) ∧ (wit []).flag F.TTB_STS_STEP = false ∧
    (let s := { wit [(F.GLB_CFG_TWIN, 1)] with ttb := { syncRun := 16 } }; s.twin = true ∧ 16 ≤ s.ttb.syncRun) ∧ (wit []).twin = false ∧
    (let s := wit [(F.TTB_STS_TWINSYNC, 1)]; s.flag F.TTB_STS_TWINSYNC = true ∧ s.flag F.BRL_STS_SENIOR = false) := by decide +kernel
/-- The spindle in a state. -/
def spin (st : Nat) (x : SpcSt := {}) : State := { wit [(F.SPC_STS_STATE, st)] with spc := x }
theorem witness_SpindleLoops :
    (let s := spin SpcS.run { bridge := .foc }; s.spc.bridge = .foc ∧ s.spcIn SpcS.run = true) ∧
    (let s := spin SpcS.brake { bridge := .pulsed }; s.spc.bridge = .pulsed ∧ s.spcIn SpcS.brake = true) ∧
    ((spin SpcS.run).observerRuns = true ∧ ((spin SpcS.run).setSpeed 0).spcIn SpcS.run = true) ∧
    (let s := spin SpcS.stopped; s.observerRuns = false ∧ s.spcIn SpcS.run = false ∧ s.spcIn SpcS.stopping = false ∧ s.spcIn SpcS.harvest = false) ∧
    (let s := spin SpcS.stopped
     let u := fun (i : Nat) => (s.spcMap (fun x => { x with goodRun := 0, intervals := (i :: x.intervals).take (6 * s.polep) })).flywheelRate.ttbRate
     s.spcIn SpcS.stopped = true ∧ s.spc.brakeHold = false ∧ 60000000000 ≤ 400000 * (u 100).overLimit * (6 * s.polep) ∧ (u 100).forced Blk.spc 0 5 = false ∧
     200000 * (u 100).overLimit * (6 * s.polep) < 60000000000) ∧
    (let s := spin SpcS.run { failRun := 65536 }
     let u := ((s.fsetB F.SPC_STS_OBSLOSS true).count Rg.SPC_LOSSCNT_LO).bridgeSet .hiZ
     s.spcIn SpcS.run = true ∧ s.lossN ≤ s.spc.failRun ∧ u.spcIn SpcS.run = true) ∧ (spin SpcS.run).spc.failRun < (spin SpcS.run).lossN := by decide +kernel
theorem witness_SpindleCommands :
    F.SPC_CTL_CLRLOSS.on (bit F.SPC_CTL_RUN) = false ∧
    (let u := fun (s : State) => (s.fsetB F.SPC_CTL_RUN true).fsetB F.SPC_CTL_CATCH false
     ((u (spin 0)).spcIn SpcS.stopped = true ∧ (u (spin 0)).flag F.FLT_STS_SAFEDEV = false ∧ (u (spin 0)).spc.harvested = false ∧ (u (spin 0)).holdsSpindle = true) ∧
     (u (spin SpcS.run)).spcIn SpcS.stopped = false ∧ (u (spin 0 { harvested := true })).spc.harvested = true ∧ (u (wit [(F.FLT_STS_SAFEDEV, 1)])).flag F.FLT_STS_SAFEDEV = true ∧
     (u (wit [(F.GLB_CFG_TWIN, 1)])).holdsSpindle = false) ∧
    (let u := fun (st : Nat) => (((spin st).fsetB F.SPC_CTL_RUN false).fsetB F.SPC_CTL_CATCH false).spcMap (fun x => { x with retryDue := false })
     (u SpcS.run).spcIn SpcS.run = true ∧ (u SpcS.catching).spcIn SpcS.catching = true ∧ (u SpcS.align).spcIn SpcS.align = true ∧
     (u SpcS.openloop).spcIn SpcS.openloop = true ∧ (u 0).spcIn SpcS.stopped = true) ∧
    (let s := spin SpcS.run
     F.SPC_CTL_RUN.on (bit F.SPC_CTL_RUN) = true ∧ s.spcIn SpcS.run = true ∧
     (((s.fsetB F.SPC_CTL_RUN true).fsetB F.SPC_CTL_CATCH false).clearCount Rg.SPC_LOSSCNT_LO).spcIn SpcS.stopped = false) ∧
    F.SPC_TARGET_SEL.of 1 = 1 ∧ F.SPC_TARGET_SEL.of 5 = 5 ∧ (spin 0).twin = false ∧ F.SPC_TARGET_SEL.of 0 < 1 ∧ 5 < F.SPC_TARGET_SEL.of 6 := by decide +kernel
theorem witness_SpindleStartAndRun_start :
    (spin 0).spcIn SpcS.catching = false ∧ (spin SpcS.catching).spcIn SpcS.catching = true ∧ (spin SpcS.catching).spc.harvested = false ∧
    300 * 65536 ≤ 19660800 ∧ 19660799 < 300 * 65536 ∧ 60 * 65536 ≤ 3932160 ∧ 3932159 < 60 * 65536 ∧ (spin SpcS.align).spcIn SpcS.align = true ∧
    (let s := { wit [(F.SPC_STS_STATE, SpcS.openloop), (F.SPC_START_HANDOFF, 0)] with spc := { goodRun := 12 } }
     s.spcIn SpcS.openloop = true ∧ s.fget F.SPC_START_HANDOFF * 10 * 65536 ≤ mag s.speed ∧ 12 ≤ s.spc.goodRun) ∧
    (let s := spin SpcS.openloop
     let u := (s.fsetB F.SPC_STS_LOCKROT true).enterStopped
     s.spcIn SpcS.openloop = true ∧ s.spc.startEvents = 0 ∧ u.spc.locks + 1 ≤ u.fget F.SPC_START_RETRY) ∧
    (let s := spin SpcS.openloop { locks := 255 }
     let u := (s.fsetB F.SPC_STS_LOCKROT true).enterStopped
     s.spcIn SpcS.openloop = true ∧ s.spc.startEvents = 0 ∧ u.fget F.SPC_START_RETRY < u.spc.locks + 1) ∧
    (let s := { wit [(F.SPC_CTL_RUN, 1)] with spc := { retryDue := true } }
     s.spcIn SpcS.stopped = true ∧ s.spc.retryDue = true ∧ s.flag F.SPC_CTL_RUN = true ∧ s.flag F.FLT_STS_SAFEDEV = false ∧ s.spc.harvested = false ∧ s.holdsSpindle = true) ∧
    (spin 0).spc.retryDue = false := by decide +kernel
theorem witness_SpindleStartAndRun_run :
    (let s := spin SpcS.run { bandRevs := 4 }
     s.spcIn SpcS.run = true ∧ 4 ≤ s.spc.bandRevs ∧ s.flag F.SPC_STS_INBAND = false ∧ s.flag F.SPC_STS_STEP = false ∧
     (s.fsetB F.SPC_STS_INBAND true).flag F.SPC_STS_STEP = false) ∧ (spin SpcS.run { bandRevs := 3 }).spc.bandRevs < 4 ∧
    (let s := { wit [(F.SPC_STS_STATE, SpcS.coast), (F.SPC_CTL_RUN, 1)] with spc := { goodRun := 12 } }
     s.spcIn SpcS.coast = true ∧ 12 ≤ s.spc.goodRun ∧
     (((s.fsetB F.SPC_STS_OBSLOSS false).raiseFault Blk.spc 0 1 1 0).spcMap (fun x => { x with ints := 0, iqRef := 0, slewClk := 1 })).flag F.SPC_CTL_RUN = true) ∧
    ((spin SpcS.coast { goodRun := 11 }).spcIn SpcS.coast = true ∧ (spin SpcS.coast { goodRun := 11 }).spc.goodRun < 12) ∧
    (spin SpcS.brake { brakeHold := true }).spc.brakeHold = true ∧ (spin SpcS.brake).spc.brakeHold = false ∧
    (let s := spin SpcS.safebrake
     let u := (s.setSpeed 0).brakeThreshold
     s.spcIn SpcS.safebrake = true ∧ s.spc.brakeHold = false ∧ u.spcIn SpcS.safebrake = true ∧ 0 < u.fget F.SPC_CATCH_MINEMF ∧
       u.fget F.SPC_CATCH_MINEMF ≤ 65535) := by decide +kernel
/-- SAC0 enabled and in a state. -/
def act0 (st : Nat) (x : SacSt := {}) : State :=
  { wit [(F.SAC_STS_STATE .zero, st), (F.SAC_CTL_EN .zero, 1), (F.SPC_STS_STATE, SpcS.run), (F.SPC_STS_INBAND, 1)] with sac := ⟨x, {}⟩ }
theorem witness_ActuatorCommands :
    ((act0 SacS.follow).sacPermits .zero 1 0 = true ∧ ((act0 SacS.follow).sacOf .zero).head = 0 ∧ (F.SAC_CMD_HEAD .zero).of 0 = 0) ∧
    ((act0 SacS.seek).sacPermits .zero 1 ((F.SAC_CMD_HEAD .zero).of (BitVec.ofNat 32 (11 <<< (F.SAC_CMD_HEAD .zero).lo))) = true ∧
      (F.SAC_CMD_HEAD .zero).of (BitVec.ofNat 32 (11 <<< (F.SAC_CMD_HEAD .zero).lo)) ≠ ((act0 SacS.seek).sacOf .zero).head) ∧
    (act0 SacS.parked).sacPermits .zero 2 0 = true ∧ ((act0 SacS.load).sacPermits .zero 3 0 = true ∧ (act0 SacS.load).sacIn .zero SacS.load = true) ∧
    ((act0 SacS.recover).sacPermits .zero 3 0 = true ∧ (act0 SacS.recover).sacIn .zero SacS.load = false) ∧ (act0 SacS.parked).sacPermits .zero 4 0 = true ∧
    (act0 SacS.selftest).sacPermits .zero 5 0 = true ∧
    ((act0 SacS.follow).sacPermits .zero 1 12 = false ∧ (act0 SacS.bstop).sacPermits .zero 1 0 = false ∧ (act0 SacS.follow).sacPermits .zero 2 0 = false ∧
      (act0 SacS.parked).sacPermits .zero 3 0 = false ∧ (act0 SacS.follow).sacPermits .zero 4 0 = false ∧ (act0 SacS.parked).sacPermits .zero 5 0 = false) := by decide +kernel
theorem witness_ActuatorControl : (F.SAC_CTL_CLRINT .zero).on 0 = false ∧ (F.SAC_CTL_CLRCNT .zero).on 0 = false ∧ (act0 SacS.parked).sacIn .zero SacS.parked = true ∧
    (act0 SacS.load).sacIn .zero SacS.parked = false ∧ (F.SAC_CTL_EN .zero).on (bit (F.SAC_CTL_EN .zero)) = true ∧
    (F.SAC_CTL_CLRINT .zero).on (bit (F.SAC_CTL_EN .zero)) = false ∧ (F.SAC_CTL_CLRCNT .zero).on (bit (F.SAC_CTL_EN .zero)) = false ∧
    (act0 SacS.follow).judged .zero = true ∧ (act0 SacS.parked).judged .zero = false ∧ (act0 SacS.load).judged .zero = false := by decide +kernel
theorem witness_WedgeDemodulation : (act0 SacS.parked).sacIn .zero SacS.parked = true ∧ (act0 SacS.selftest).sacIn .zero SacS.selftest = true ∧
    (act0 SacS.bstop).sacIn .zero SacS.bstop = true ∧ (wit []).flag (F.SAC_CTL_EN .zero) = false ∧
    (let s := { act0 SacS.follow with ttb := { angle := 0x0C80 } }
     s.sacIn .zero SacS.follow = true ∧ s.flag (F.SAC_CTL_EN .zero) = true ∧ 0x0C80 ≤ phaseOf s.ttb.angle ∧
     (s.sacMap .zero (fun x => { x with sams := (true, x.sams.1), judging := true })).judged .zero = true) := by decide +kernel
theorem witness_ActuatorTransitions :
    (let s := act0 SacS.settle { settleRun := 255 }; s.sacIn .zero SacS.settle = true ∧ max 1 (s.coefU .zero F.SAC_BANK_C6_SETTLEN) ≤ (s.sacOf .zero).settleRun) ∧
    (let s := act0 SacS.load { loadValid := 4 }; s.sacIn .zero SacS.load = true ∧ 4 ≤ (s.sacOf .zero).loadValid) ∧
    (let s := act0 SacS.load { loadValid := 3 }; s.sacIn .zero SacS.load = true ∧ (s.sacOf .zero).loadValid < 4) ∧
    (let s := act0 SacS.follow { missRun := 255 }; s.sacIn .zero SacS.follow = true ∧ s.missMax .zero ≤ (s.sacOf .zero).missRun) ∧
    (let s := act0 SacS.recover { recGood := 4 }; s.sacIn .zero SacS.recover = true ∧ 4 ≤ (s.sacOf .zero).recGood) ∧
    (let s := act0 SacS.recover { recGood := 3, recWedges := 512 }; s.sacIn .zero SacS.recover = true ∧ (s.sacOf .zero).recGood < 4 ∧ 512 ≤ (s.sacOf .zero).recWedges) ∧
    (let s := act0 SacS.unload { unload := .push }; s.sacIn .zero SacS.unload = true ∧ (s.sacOf .zero).unload = .push) ∧
    (let s := act0 SacS.unload { unload := .hold }; s.sacIn .zero SacS.unload = true ∧ (s.sacOf .zero).unload = .hold) := by decide +kernel
/-- A channel's transfer of a kind that is under way, with one gate period of one whole sector. -/
def xfer (k : TransferKind) : Transfer := ⟨k, 0, 3, 0, 1, 0x20000000, [⟨0, 0x2000, [⟨0x3000, true⟩]⟩], true, false, 0, 0, [], false, [], []⟩
theorem witness_ActuatorSupervision :
    (act0 SacS.follow { feTimer := true }).sac.p0.feTimer = true ∧
    ((act0 SacS.follow).sacIn .zero SacS.bstop = false ∧ ((act0 SacS.follow).sset (F.SAC_IMEAS_CODE .zero) 5).sacIn .zero SacS.bstop = false) ∧
    (let s := act0 SacS.follow { ipFails := 8 }; s.sacIn .zero SacS.bstop = false ∧ 8 ≤ (s.sacOf .zero).ipFails) ∧
    (let s := act0 SacS.follow { plausFails := 4 }; s.sacIn .zero SacS.bstop = false ∧ 4 ≤ (s.sacOf .zero).plausFails) ∧
    (let s := { (wit [(F.SAC_WFG_OTEN .zero, 1), (F.SAC_WFG_OTLIM .zero, 1), (F.SAC_SCFG_OTAMIN .zero, 1), (F.SAC_OTCAL_GAIN .zero 0, 0x1000)]) with
        rwc := ⟨{ transfer := some (xfer .write), gate := some ⟨0, 0, []⟩ }, {}⟩ }
     let est := fun (x y : Int) => asr (truncDiv ((y - x) * 65536) (x + y) * (s.fget (F.SAC_OTCAL_GAIN .zero 0) : Int)) 12 + s.sget (F.SAC_OTCAL_BIAS .zero 0)
     let u := fun (x y : Int) => (s.sset (F.SAC_OTEST_EST .zero) (clampI (est x y) (-32767) 32767)).fsetB (F.SAC_OTEST_VALID .zero) true
     s.flag (F.SAC_WFG_OTEN .zero) = true ∧ s.writeInProgress .zero = true ∧ (s.rwcOf .zero).gate.isSome = true ∧ 0 + 15 < s.fget (F.SAC_SCFG_OTAMIN .zero) * 16 ∧
     s.fget (F.SAC_SCFG_OTAMIN .zero) * 16 ≤ 8 + 8 ∧ mag (est 8 8) ≤ (u 8 8).fget (F.SAC_WFG_OTLIM .zero) * 16 ∧ (u 8 8).forced (Blk.sac .zero) 0 1 = false ∧
     s.fget (F.SAC_SCFG_OTAMIN .zero) * 16 ≤ 0 + 16 ∧ (u 0 16).fget (F.SAC_WFG_OTLIM .zero) * 16 < mag (est 0 16)) := by decide +kernel
theorem witness_BufferStop :
    (let s := fun p => act0 SacS.bstop { bstop := p }
     ((s .invoked).sacIn .zero SacS.bstop = true ∧ ((s .invoked).sacOf .zero).bstop = .invoked) ∧ ((s .retract).sacOf .zero).bstop = .retract ∧
     ((s .second).sacOf .zero).bstop = .second ∧
     (let h := s .hold
      let u := (((h.sacMap .zero (fun x => { x with bstop := .ended, resetDue := false })).dac .zero 0 0).fsetB (F.SAC_STS_BSACT .zero) false).fsetB (F.SAC_STS_PARKED .zero) true
      (h.sacOf .zero).bstop = .hold ∧ h.flag F.BRL_STS_FENCED = false ∧ u.flag F.BRL_STS_FENCED = false ∧ (h.sacOf .zero).resetDue = false)) ∧
    ((act0 SacS.bstop { bstop := .hold, resetDue := true }).sacOf .zero).resetDue = true ∧ (act0 SacS.follow).sacIn .zero SacS.bstop = false := by decide +kernel
/-- Slot 0 armed as given. -/
def slot0 (l : SlotLatch) (now : Angle) : State := { wit [] with ttb := { angle := now, slots := [(0, l)] } }
theorem witness_TimetableSlots :
    (¬ ((0 : Fin 64).val % 2 = 1 ∧ (wit []).isWindow ((0 : Fin 64).val - 1) = true) ∧ ¬ ((1 : Fin 64).val % 2 = 1 ∧ (wit []).isWindow ((1 : Fin 64).val - 1) = true) ∧
      (F.TTB_SLOT_CTL_MODE 0).on 0 = false ∧ inHorizon ((wit []).slotDiff ((wit []).slotTarget 0)) = true ∧ inHorizon 0x7FFFFFFF = true ∧ inHorizon (-0x80000000) = true ∧
      (let s := (wit []).wideSet (Rg.TTB_SLOT_TGT_LO 0) 0x80000000; inHorizon (s.slotDiff (s.slotTarget 0)) = false)) ∧
    (let l : SlotLatch := ⟨0x100, 0, false, 0, false, false⟩
     (slot0 l 0x100).slotAt 0 = some l ∧ l.window = false ∧ ((slot0 l 0x100).angleTo 0x100).slotDiff 0x100 ≤ 0 ∧ 0 < ((slot0 l 0xFF).angleTo 0x100).slotDiff 0x100) ∧
    (let l : SlotLatch := ⟨0x100, 0x200, true, 0, false, false⟩
     (slot0 l 0x100).slotAt 0 = some l ∧ l.window = true ∧ l.opened = false ∧ l.late = false ∧ ((slot0 l 0x100).angleTo 0x100).slotDiff 0x100 ≤ 0) ∧
    (let l : SlotLatch := ⟨0x100, 0x200, true, 0, false, true⟩
     (slot0 l 0x200).slotAt 0 = some l ∧ l.opened = true ∧ ((slot0 l 0x200).angleTo 0x200).slotDiff 0x200 ≤ 0) ∧ (wit []).slotAt 0 = none := by decide +kernel
/-- Channel 0 with a transfer and a gate period, its sequencer's requests up. -/
def chan0 (l : List (Fld × Nat)) (t : Option Transfer) (g : Option GatePeriod) (m : MsqSt := { readReq := true, writeReq := true }) : State :=
  { wit ([(F.RWC_CTL_EN .zero, 1), (F.TTB_STS_WINH, 0), (F.TTB_STS_RINH, 0)] ++ l) with rwc := ⟨{ transfer := t, gate := g }, {}⟩, msq := ⟨m, {}⟩ }
/-- Channel 0 as it may write: locked, on track, the wedge good, the assist ready. -/
def writing0 : State :=
  { chan0 [(F.SAC_STS_STATE .zero, SacS.follow), (F.SAC_STS_ONTRK .zero, 1), (F.GLB_LOCK_LOCK, 1), (F.ASC_STS_TWIN, 1), (F.SAC_WFG_RECOV .zero, 0)] (some (xfer .write)) none with
    sac := ⟨{ wedgeOk := true }, {}⟩ }
theorem witness_ChannelGates :
    (let t := xfer .read; t.periods = ⟨0, 0x2000, [⟨0x3000, true⟩]⟩ :: [] ∧ t.started = true ∧ ((chan0 [] (some t) none).rwcOf .zero).gate = none ∧
      ((chan0 [] (some t) none {}).angleToPos 3 0x2000).gateAllowed .zero t = false ∧ ((chan0 [] (some t) none).angleToPos 3 0x2000).gateAllowed .zero t = true ∧ t.kind ≠ .write) ∧
    (let u := writing0.angleToPos 3 0x2000
     u.gateAllowed .zero (xfer .write) = true ∧ (xfer .write).kind = .write ∧ (xfer .write).stopped = false ∧ u.forced (Blk.rwc .zero) 0 2 = false ∧
     [(⟨0x3000, true⟩ : Frag)].length - (xfer .write).mid.toNat ≤ 1 ∧ [(⟨0x3000, true⟩ : Frag)].take 1 ≠ []) ∧
    (let g : GatePeriod := ⟨0, 0x2000, [⟨0x3000, true⟩]⟩
     ((chan0 [] (some (xfer .write)) (some g)).rwcOf .zero).gate = some g ∧ (xfer .write).kind = .write ∧ (xfer .reread).kind ≠ .write) ∧
    ((wit []).rwcOf .zero).transfer = none := by decide +kernel
theorem witness_ChannelPreamp : (wit []).flag (F.RWC_STS_PSBUSY .zero) = false ∧ (wit [(F.RWC_STS_PSBUSY .zero, 1)]).flag (F.RWC_STS_PSBUSY .zero) = true ∧
    (let f : SerFrame := ⟨.firmware, true, 1, 2⟩
     let s := fun (r : RwcSt) => { wit [] with rwc := ⟨r, {}⟩ }
     (((s { seqWait := [f] }).rwcOf .zero).frame = none ∧ ((s { seqWait := [f] }).rwcOf .zero).seqWait = f :: []) ∧
     (((s { fwWait := some f }).rwcOf .zero).seqWait = [] ∧ ((s { fwWait := some f }).rwcOf .zero).fwWait = some f) ∧
     (((s { frame := some f }).rwcOf .zero).frame = some f ∧ f.rd = true ∧ ((s { frame := some f }).rwcOf .zero).trailer = false) ∧
     ((s { trailer := true }).rwcOf .zero).trailer = true ∧
     (s {}).flag (F.RWC_STS_PFLT .zero) = false ∧
     (((s { transfer := some (xfer .write) }).fsetB (F.RWC_STS_PFLT .zero) true).raiseFault (Blk.rwc .zero) 0 5 3 0).writeInProgress .zero = true ∧
     (((s {}).fsetB (F.RWC_STS_PFLT .zero) true).raiseFault (Blk.rwc .zero) 0 5 3 0).writeInProgress .zero = false) ∧
    (F.RWC_CTL_CLRCNT .zero).on 0 = false ∧ (F.RWC_CTL_EN .zero).on (bit (F.RWC_CTL_EN .zero)) = true := by decide +kernel
/-- An operation that has loaded the channel. -/
def op1 (opc : Word) : MsqOp := { newOp [opc, 5, 0, 0, 9] none 0 with loaded := true }
/-- A pool job in a state. -/
def job1 (st : JobState) : Job := ⟨.zero, 0, 9, true, false, 2, 0, some 0x20000000, 0x30000000, 0, 0, [0x5], true, 0, 1, 1, 0, false, false,
  ⟨false, [], [], 0, [], [], 0, false⟩, none, 0, false, false, false, false, false, false, 0, 0, 0, st⟩
/-- The pool with one job. -/
def pool1 (st : JobState) (r : RwcSt := {}) : State := { wit [] with ddp := { jobs := [job1 st] }, rwc := ⟨r, {}⟩ }
theorem witness_SectorDecoding :
    (let t := xfer .read
     let g : GatePeriod := ⟨0, 0x2000, [⟨0x3000, true⟩]⟩
     let s := chan0 [] (some t) (some g)
     let l := fun (cs : List SyncCand) => keptCands (cs.filter (syncCandidate (s.dbits .zero 0) ((t.places.getD 0 ⟨0, 0, 0⟩).cell + 127) (min 4 (s.fget (F.RWC_DCFG_SMTOL .zero)))))
     (s.rwcOf .zero).transfer = some t ∧ (s.rwcOf .zero).gate = some g ∧ t.kind ≠ .write ∧ t.marks = [] ∧ t.mid = false ∧ t.nextWord < t.done + g.frags.length ∧
     l [⟨0, 0, 5⟩] ≠ [] ∧ l [] = []) ∧
    (let t := { xfer .read with done := 1, marks := [([⟨0, 0, 5⟩], none)] }
     let s := chan0 [] (some t) none { cur := some (op1 1) }
     let plan := attemptPlan false (s.flag (F.RWC_DCFG_APSEN .zero)) (s.flag (F.RWC_DCFG_SECOND .zero)) (min 9 (s.fget (F.RWC_DCFG_SYNCTRY .zero))) 0 [⟨0, 0, 5⟩] []
     (s.rwcOf .zero).transfer = some t ∧ t.kind = .read ∧ t.nextWord < t.done ∧
     ((s.msqOf .zero).cur.toList ++ (s.msqOf .zero).ended).find? MsqOp.owns = some (op1 1) ∧ descOpc (op1 1).desc = 1 ∧
     (runAttempts (failCode false [⟨0, 0, 5⟩] []) (decide ((t.extras.filter id).length < 3)) none [] plan [⟨true, true, 1, 0, 0⟩]).result ≤ 2) ∧
    ((wit []).rwcOf .zero).transfer = none ∧
    (let s := pool1 .waitPass
     s.jobAt 2 = some (job1 .waitPass) ∧ (job1 .waitPass).state = .waitPass ∧ (s.rwcOf .zero).transfer = none) ∧
    (let t := { xfer .reread with daddr := 2, done := 1 }
     let s := pool1 .waitPass { transfer := some t }
     s.jobAt 2 = some (job1 .waitPass) ∧ (s.rwcOf .zero).transfer = some t ∧ t.kind = .reread ∧ t.daddr = 2 ∧ t.done = 1 ∧ (s.rwcOf .zero).gate = none) := by decide +kernel
theorem witness_DecodePool :
    (let s := pool1 (.engine 3)
     let j := job1 (.engine 3)
     let good : AttemptOut := ⟨true, true, 4, 0, 0⟩
     s.ddp.jobs.find? (fun j => decide (j.state = .engine 3)) = some j ∧
     ((poolTries j [good]).1 ++ (poolTries j [good]).2).any (fun p => p.2.syndromeZero && p.2.crcOk) = true ∧
     s.jobAt 2 = some j ∧ j.state = .engine 3) ∧ (wit []).ddp.jobs.find? (fun j => decide (j.state = .engine 0)) = none ∧
    (let s := pool1 .waitPair; s.ddp.jobs.find? (fun j => decide (j.state = .waitPair)) = some (job1 .waitPair) ∧ s.freePair.isSome = true) ∧
    (let s := { wit [] with ddp := { jobs := [0, 1, 2, 3].map (fun p => { job1 .ready with pair := some p }) } }; s.freePair = none) ∧
    ((pool1 .ready).jobAt 2 = some (job1 .ready) ∧ (job1 .waitPass).state = .waitPass) ∧ F.DDP_CTL_CLRCNT.on 0 = false ∧ F.DDP_CTL_EN.on (bit F.DDP_CTL_EN) = true := by decide +kernel
theorem witness_AdaptiveSetPoints :
    (F.ASC_CCTL_APPLY0.on (bit F.ASC_CCTL_APPLY0) = true ∧ F.ASC_CCTL_APPLY1.on (bit F.ASC_CCTL_APPLY0) = false) ∧
    (F.ASC_CCTL_APPLY0.on (bit F.ASC_CCTL_APPLY1) = false ∧ F.ASC_CCTL_APPLY1.on (bit F.ASC_CCTL_APPLY1) = true) ∧
    (F.ASC_CCTL_APPLY0.on 0 = false ∧ F.ASC_CCTL_APPLY1.on 0 = false) ∧
    (let s := wit [(F.ASC_CTL_EN, 1)]; s.flag F.ASC_CTL_EN = true ∧ (s.telMap .zero (fun t => { t with seq := some 0 })).pairOn .zero = false) ∧
    (let s := { wit [(F.ASC_CTL_EN, 1), (F.RWC_STS_IDLE .zero, 0)] with asc := { tel := ⟨{ armed := some (0, some 5) }, {}⟩ } }; s.flag F.ASC_CTL_EN = true ∧ s.pairOn .zero = true) ∧
    (wit []).flag F.ASC_CTL_EN = false ∧ (wit []).locked = false ∧ F.ASC_CTL_CLRCNT.on 0 = false ∧
    ((wit [(F.GLB_LOCK_LOCK, 1)]).fset F.ASC_CTL_EN 0).locked = true := by decide +kernel
theorem witness_Temperature :
    (let s := wit [(F.ASC_CTL_EN, 1)]
     let u := fun (r : List (Option Int)) => s.scanAll 0 r
     s.flag F.ASC_CTL_EN = true ∧ s.flag F.ASC_CALSTS_BUSY = false ∧ (u (List.replicate 14 none)).hottest (List.range 12) = none ∧
     (u (List.replicate 14 none)).hottest ((List.range 14).filter (fun c => ((u (List.replicate 14 none)).fget F.ASC_DTMASK_MASK >>> c) % 2 == 1)) = none) := by decide +kernel
theorem witness_Temperature_hot :
    (let s := wit [(F.ASC_CTL_EN, 1), (F.ASC_DTMASK_MASK, 1)]
     let u := s.scanAll 0 (List.replicate 14 (some 400))
     let x := (u.sset F.ASC_JTEMP_TEMP 400).fset F.ASC_JTEMP_SRC 0
     u.hottest (List.range 12) = some (0, 400) ∧ x.hottest ((List.range 14).filter (fun c => (x.fget F.ASC_DTMASK_MASK >>> c) % 2 == 1)) = some (0, 400)) ∧
    (let s := { wit [(F.ASC_STS_THREQ, 1)] with asc := { grace := true } }; s.asc.grace = true ∧ s.flag F.ASC_STS_THREQ = true) := by decide +kernel
/-- The calibration's settings as a write of v leaves them. -/
def calU (s : State) (v : Word) : State :=
  ((s.fset F.ASC_CALCTL_IMMED (F.ASC_CALCTL_IMMED.of v)).fset F.ASC_CALCTL_AGREE (F.ASC_CALCTL_AGREE.of v)).fset F.ASC_CALCTL_AVG (F.ASC_CALCTL_AVG.of v)
theorem witness_Calibration : F.ASC_CALCTL_RESTORE.on (bit F.ASC_CALCTL_GO) = false ∧ (calU (wit []) 0).flag F.ASC_CALSTS_BUSY = false ∧
    (calU (wit [(F.ASC_CALSTS_BUSY, 1)]) 0).flag F.ASC_CALSTS_BUSY = true ∧ F.ASC_CALCTL_GO.on (bit F.ASC_CALCTL_RESTORE) = false ∧
    (calU (wit [(F.GLB_LOCK_LOCK, 1)]) 0).locked = true ∧
    ((calU (wit []) 0).locked = false ∧ crc32c (([0, 0, 0] : List Word).map (fun w => leBytes 4 w.toNat)).flatten ≠ (0 : Word).toNat) ∧
    (let b : List Word := [0, 0, 0, BitVec.ofNat 32 (crc32c (List.replicate 12 0))]
     crc32c ((b.take 3).map (fun w => leBytes 4 w.toNat)).flatten = (b.getD 3 0).toNat) ∧
    (wit [(F.ASC_CALSTS_BUSY, 1)]).flag F.ASC_CALSTS_BUSY = true ∧ (wit [(F.ASC_CTL_EN, 1)]).flag F.ASC_CTL_EN = true := by decide +kernel
/-- Whatever the unstated rounding is, references out of range, halves that disagree and halves that agree all come about. -/
theorem witness_CalibrationEnd (up : Bool) :
    calTries up 0 2 65535 0 [⟨0, 0, 0, 0⟩] = .outOfRange 1 ∧ calTries up 0 2 65535 0 [] = .disagree 0 ∧
    (∃ g, calTries up 0 2 65535 0 [⟨27000, 10, 27000, 10⟩] = .good 1 g 20) ∧ ((wit [(F.ASC_CALSTS_BUSY, 1)]).tick.fsetB F.ASC_CALSTS_BUSY false).forced Blk.asc 2 4 = false :=
  ⟨rfl, rfl, by cases up <;> exact ⟨_, rfl⟩, by decide +kernel⟩
/-- Sequencer 0 running at address 0 with what `m` holds. -/
def seq0 (m : MsqSt := {}) (l : List (Fld × Nat) := []) : State := { wit ([(F.MSQ_STS_RUN .zero, 1)] ++ l) with msq := ⟨m, {}⟩ }
theorem witness_readyToRun : seq0.readyToRun .zero := by refine ⟨?_, ?_, ?_, ?_⟩ <;> decide +kernel
/-- A word of zeros but for each of SEQ = CONT to ERET and ALU = NOP to STD runs on a running sequencer. -/
theorem witness_MicrowordsRun : ∀ v ∈ ((List.range 7).map (fun q => { zw with seq := BitVec.ofNat 3 q }) ++ (List.range 13).map (fun q => { zw with alu := BitVec.ofNat 4 q })),
    seq0.wordRuns .zero v := fun v h => by
  have k : ∀ v ∈ ((List.range 7).map (fun q => { zw with seq := BitVec.ofNat 3 q }) ++ (List.range 13).map (fun q => { zw with alu := BitVec.ofNat 4 q })),
      reservedWord v = false ∧ v.wait = 0 ∧ (v.y = true ∨ (seq0.msqOf .zero).sinceYield < 64) := by decide +kernel
  exact ⟨witness_readyToRun, k v h⟩
/-- So does a word of zeros but for each action. -/
theorem witness_ActionMicrowordsRun : ∀ v ∈ [{ zw with y := true }, { zw with gate := 1 }, { zw with gate := 2 }, { zw with gate := 3 }, { zw with chan := 1 }, { zw with chan := 2 },
      { zw with chan := 3 }, { zw with chan := 4 }, { zw with servo := 1 }, { zw with servo := 2 }, { zw with pre := 1 }, { zw with pre := 2 }, { zw with pre := 3 },
      { zw with asc := 1 }, { zw with asc := 2 }, { zw with asc := 3 }, { zw with asc := 4 }, { zw with rpt := 1 }, { zw with evt := true }],
    seq0.wordRuns .zero v := fun v h => by
  have k : ∀ v ∈ [{ zw with y := true }, { zw with gate := 1 }, { zw with gate := 2 }, { zw with gate := 3 }, { zw with chan := 1 }, { zw with chan := 2 },
      { zw with chan := 3 }, { zw with chan := 4 }, { zw with servo := 1 }, { zw with servo := 2 }, { zw with pre := 1 }, { zw with pre := 2 }, { zw with pre := 3 },
      { zw with asc := 1 }, { zw with asc := 2 }, { zw with asc := 3 }, { zw with asc := 4 }, { zw with rpt := 1 }, { zw with evt := true }],
      reservedWord v = false ∧ v.wait = 0 ∧ (v.y = true ∨ (seq0.msqOf .zero).sinceYield < 64) := by decide +kernel
  exact ⟨witness_readyToRun, k v h⟩
theorem witness_WordEffects :
    ((3 : BitVec 3) = 3 ∧ 8 ≤ ((seq0 { stack := List.replicate 8 0 }).msqOf .zero).stack.length) ∧ (seq0.msqOf .zero).stack = [] ∧
    (seq0.msqOf .zero).stack.length < 8 ∧ (zw.seq ≠ 3 ∧ zw.seq ≠ 4 ∧ zw.seq ≠ 6) ∧
    (seq0 {} [(F.RWC_STS_PSBUSY .zero, 1)]).preHolds .zero { zw with pre := 1 } = true ∧ seq0.preHolds .zero { zw with pre := 1 } = false := by decide +kernel
theorem witness_MicrowordSequencing : ((seq0 { stack := [5] }).msqOf .zero).stack = 5 :: [] ∧ 5 < 2 ^ 14 ∧ ((seq0 { stack := [0x3FFF] }).msqOf .zero).stack = 0x3FFF :: [] ∧
    0x3FFF < 2 ^ 14 ∧ (seq0.msqOf .zero).queue = [] := by decide +kernel
theorem witness_MicrowordWaits :
    (∀ v ∈ [{ zw with wait := 1 }, { zw with wait := 2 }, { zw with wait := 3 }], reservedWord v = false) ∧
    ((seq0 {} [(F.MSQ_STS_STRB .zero, 1)]).waitMet .zero { zw with wait := 3 } = true ∧ seq0.waitMet .zero { zw with wait := 2 } = true ∧
      seq0.waitMet .zero { zw with wait := 3 } = false ∧ (seq0.msqMap .zero (fun m => { m with sinceYield := 0 })).eventNext .zero = none ∧
      (seq0.msqMap .zero (fun m => { m with sinceYield := 0 })).stopsHere .zero = false ∧
      ((seq0 { stopAsked := true }).msqMap .zero (fun m => { m with sinceYield := 0 })).stopsHere .zero = true ∧ (seq0 { stopAsked := true }).waitMet .zero { zw with wait := 3 } = false) ∧
    (let s := seq0 { waiting := some ({ zw with wait := 3 }, 0) } [(F.TTB_STS_STATE, 2)]
     (s.msqOf .zero).waiting = some ({ zw with wait := 3 }, 0) ∧ s.ttbIn TtbS.idle = false ∧ (s.fsetB (F.MSQ_STS_STRB .zero) true).waitMet .zero { zw with wait := 3 } = true) ∧
    seq0.ttbIn TtbS.idle = true ∧
    (let f := fun (t : Bool) (src : FrameSrc) => { wit [] with rwc := ⟨{ frame := some ⟨src, true, 0, 0⟩, trailer := t }, {}⟩ }
     ((f false .firmware).rwcOf .zero).trailer = false ∧ ((f true .firmware).rwcOf .zero).trailer = true ∧ FrameSrc.firmware ≠ .pre ∧
     ((f true .pre).rwcOf .zero).frame = some ⟨.pre, true, 0, 0⟩) := by decide +kernel
theorem witness_OperationQueue :
    (seq0.msqOf .zero).queue.length < 32 ∧ 32 ≤ ((seq0 { queue := List.replicate 32 [] }).msqOf .zero).queue.length ∧
    (descOpc [0xDF] < 0xE0 ∧ writeKind (descOpc [0xDF]) = false) ∧ (descOpc [2] < 0xE0 ∧ (wit [(F.GLB_LOCK_LOCK, 1)]).locked = true) ∧
    ((seq0 { hwWait := [[1]] }).msqOf .zero).hwWait = [1] :: [] ∧
    (let s := seq0 { queue := [[0, 0, 0, 0, 9]] }; (s.msqOf .zero).queue.find? (fun d => descSub d == 0 && d.getD 4 0 == 9) = some [0, 0, 0, 0, 9]) ∧
    (let o := newOp [0, 0, 0, 0, 9] none 0
     ((seq0 { cur := some o }).msqOf .zero).queue = [] ∧ ((seq0 { cur := some o }).msqOf .zero).cur = some o ∧ descSub o.desc = 0 ∧ o.desc.getD 4 0 = 9) := by decide +kernel
theorem witness_SequencerControl :
    (F.MSQ_CTL_CLRCNT .zero).on 0 = false ∧
    (let u := fun (s : State) => s.fsetB (F.MSQ_CTL_EN .zero) true
     ((u (wit [])).flag (F.MSQ_STS_RUN .zero) = false ∧ (u (wit [])).flag (F.MSQ_STS_HALT .zero) = false) ∧
     ((u (wit [(F.MSQ_STS_HALT .zero, 1)])).flag (F.MSQ_STS_RUN .zero) = false ∧ (u (wit [(F.MSQ_STS_HALT .zero, 1)])).flag (F.MSQ_STS_HALT .zero) = true) ∧
     (u seq0).flag (F.MSQ_STS_RUN .zero) = true) ∧
    ((seq0.fsetB (F.MSQ_CTL_EN .zero) false).flag (F.MSQ_STS_RUN .zero) = true ∧ ((wit []).fsetB (F.MSQ_CTL_EN .zero) false).flag (F.MSQ_STS_RUN .zero) = false ∧
      (seq0.msqOf .zero).waiting = none ∧ ((seq0 { waiting := some (zw, 0) }).fsetB (F.MSQ_CTL_EN .zero) false).flag (F.MSQ_STS_RUN .zero) = true ∧
      ((seq0 { waiting := some (zw, 0) }).msqOf .zero).waiting ≠ none ∧ ((seq0 { waiting := some (zw, 0) }).msqOf .zero).cur = none) ∧
    ((F.MSQ_CTL_EN .zero).on 0 = false ∧
      ((((wit []).fsetB (F.MSQ_CTL_EN .zero) false).clearCount (Rg.MSQ_OPS_LO .zero)).clearCount (Rg.MSQ_PART_LO .zero)).flag (F.MSQ_STS_RUN .zero) = false) ∧
    seq0.flag (F.MSQ_STS_RUN .zero) = true ∧
    ((wit []).flag (F.MSQ_PSTS_BUSY .zero) = false ∧ (wit [(F.GLB_LOCK_LOCK, 1)]).locked = true ∧ (wit []).locked = false ∧
      (wit [(F.MSQ_CTL_EN .zero, 1)]).flag (F.MSQ_CTL_EN .zero) = true ∧ (wit []).flag (F.MSQ_CTL_EN .zero) = false) := by decide +kernel
/-- A good patch image: its header at the load address names target 0 and the chip's generation, and its plaintext is one section that writes overlay register 63. -/
def patchAt : State :=
  let s := wit [(F.MSQ_PSTS_BUSY .zero, 1), (F.MSQ_PLD_ADDR .zero, 0x11800000)]
  (((s.store 0x11800000 4 0x5051534D).store 0x11800004 2 1).store 0x11800006 2 1).store 0x11800008 2 (bitsOf (s.rd Rg.GLB_ID) 8 8)
theorem witness_PatchLoad :
    patchAt.flag (F.MSQ_PSTS_BUSY .zero) = true ∧ patchAt.forced (Blk.msq .zero) 0 1 = false ∧ patchAt.sec.patchKey = true ∧ patchAt.patchHeader .zero 0x11800000 = true ∧
    patchAt.load (0x11800000 + 8) 2 = bitsOf (patchAt.rd Rg.GLB_ID) 8 8 ∧
    (∀ l ∈ patchSections 16384 [2, 0, 1, 0, 63, 0, 0, 0, 1, 0, 0, 0], l.all PatchSection.inRange = true ∧ l.length = 1 ∧
      l.any (fun p => p.typ == 1 && (List.range p.count).any (fun i => badParity (BitVec.ofNat 144 (p.entry i)) != 0)) = false) ∧
    (patchSections 16384 [2, 0, 1, 0, 63, 0, 0, 0, 1, 0, 0, 0]).isSome = true := by decide +kernel
/-- The memory system's hidden state beside some fields. -/
def memSt (m : MemSt) (l : List (Fld × Nat) := []) : State := { wit l with ms := m }
theorem witness_MemoryCare :
    (let u := fun (s : State) =>
      let a := ((s.fset F.MEM_SCRCTL_TGT 0).fset F.MEM_SCRCTL_FIRST 0).fset F.MEM_SCRCTL_NBANKS 0
      if a.locked then a else (a.fset F.MEM_SCRCTL_INTV 0).effInterval
     (u (wit [])).flag F.MEM_SCRSTS_BUSY = false ∧ (u (wit [(F.MEM_SCRSTS_BUSY, 1)])).flag F.MEM_SCRSTS_BUSY = true) ∧
    (let s := wit [(F.MEM_SCRSTS_EFFINTV, 1)]; s.fget F.MEM_SCRSTS_EFFINTV ≠ 0 ∧ s.flag F.MEM_SCRSTS_BUSY = false) ∧
    (wit [(F.MEM_SCRSTS_EFFINTV, 0)]).fget F.MEM_SCRSTS_EFFINTV = 0 ∧ (wit [(F.MEM_SCRSTS_BUSY, 1)]).flag F.MEM_SCRSTS_BUSY = true ∧
    (((wit []).fset F.MEM_TEST_CHK 5).locked = false) ∧
    (let u := (wit [(F.GLB_LOCK_LOCK, 1), (F.FLT_STS_UNLOCKED, 1)]).fset F.MEM_TEST_CHK 5; u.locked = true ∧ u.flag F.FLT_STS_UNLOCKED = true) ∧
    (let u := (wit [(F.GLB_LOCK_LOCK, 1)]).fset F.MEM_TEST_CHK 5; u.locked = true ∧ u.flag F.FLT_STS_UNLOCKED = false) ∧
    (memSt { copies := [(5, 64)] }).ms.copies = (5, 64) :: [] := by decide +kernel
theorem witness_Ddr5 :
    (wit []).ms.misses.any (fun m => m.line == 0 / 128 && !m.arrived) = false ∧ (memSt { late := [1] }).ms.late.contains (128 / 128) = true ∧
    (wit []).ms.late.contains (128 / 128) = false ∧
    (let m : Miss := ⟨3, true, 0, [], false, true⟩; (memSt { misses := [m] }).ms.misses.find? (fun m => m.alloc && m.line == 3 && m.arrived) = some m) ∧ (wit []).ms.misses = [] := by
  decide +kernel
theorem witness_MapCache :
    ((wit [(F.MEM_MCC_STS_BUSY, 1)]).flag F.MEM_MCC_STS_BUSY = true ∧ (wit [(F.MEM_MCC_STS_OFF, 1)]).flag F.MEM_MCC_STS_OFF = true) ∧
    (let on := [(F.MEM_MCC_STS_BUSY, 0), (F.MEM_MCC_STS_OFF, 0)]
     let s := fun (locked : Bool) => memSt { lines := [(0, ⟨0, locked, 1⟩)] } on
     let n := min 16384 (max 1 ((s true).fget F.MEM_MCC_LLEN_LINES))
     let inr := fun (p : Nat × CLine) => decide (0 ≤ p.2.line p.1) && decide (p.2.line p.1 < 0 + n)
     let w := (((s false).fsetB F.MEM_MCC_STS_BUSY true).msMap (fun m => { m with rangeOp := some (3, 0, n) })).msMap (fun m => { m with lines := m.lines.filter (fun p => !inr p) })
     (s true).flag F.MEM_MCC_STS_BUSY = false ∧ (s true).flag F.MEM_MCC_STS_OFF = false ∧ (s true).fget F.MEM_MCC_LBASE_LINE = 0 ∧
     (s true).ms.lines.any (fun p => inr p && p.2.locked) = true ∧ (s false).ms.lines.any (fun p => inr p && p.2.locked) = false ∧ w.forced Blk.mem 0 2 = false) ∧
    (memSt { rangeOp := some (1, 0, 1) }).ms.rangeOp.isSome = true ∧ (wit []).ms.disabling = false ∧
    ((wit [(F.MEM_MCC_STS_OFF, 0)]).fsetB F.MEM_MCC_CTL_EN false).flag F.MEM_MCC_STS_OFF = false ∧
    ((wit [(F.MEM_MCC_STS_OFF, 1)]).fsetB F.MEM_MCC_CTL_EN false).flag F.MEM_MCC_STS_OFF = true ∧ (memSt { disabling := true }).ms.disabling = true := by decide +kernel
theorem witness_FaultCollector :
    (wit []).flt.inflight = [] ∧
    (let m := fun (c : Nat) => faultMsg (faultSource Blk.pwr 0) 1 c 0 false 0
     ({ wit [] with flt := { inflight := [m 1] } }).flt.inflight = m 1 :: [] ∧ msgClass (m 1) < 2 ∧ (wit []).flt.queue.length < 64 ∧
     64 ≤ ({ wit [] with flt := { queue := List.replicate 64 0 } } : State).flt.queue.length ∧ msgClass (m 2) = 2 ∧ msgClass (m 3) = 3 ∧ msgClass (m 4) = 4 ∧ msgClass (m 5) = 5) ∧
    ({ wit [] with flt := { fatalHold := true } } : State).flt.fatalHold = true ∧ (wit []).flt.fatalHold = false := by decide +kernel
theorem witness_MonitorsAndTests :
    ((5 : Fin 6).val = 5 ∧ (4 : Fin 6).val ≠ 5) ∧
    (F.FLT_UNLOCK_KEY.of 0x0C3A = 0x0C3A ∧ ({ wit [] with flt := { unlockArmed := true } } : State).flt.unlockArmed = true ∧ (wit []).locked = false ∧
      (wit [(F.GLB_LOCK_LOCK, 1), (F.SEC_STS_DBGOPEN, 1)]).flag F.SEC_STS_DBGOPEN = true) ∧ F.FLT_UNLOCK_KEY.of 0x7E51 = 0x7E51 ∧
    (let f := fun (x : Option (Nat × Nat)) (n : Nat) => ({ wit [(F.FLT_STS_UNLOCKED, n)] with flt := { force := x } } : State).fltTouched
     let w := BitVec.ofNat 32 (faultSource Blk.pwr 0 + 1 * 1024)
     (f (some (0, 1)) 1).flt.force.isSome = true ∧ (f none 0).flt.force = none ∧ (f none 0).flag F.FLT_STS_UNLOCKED = false ∧ (f none 1).flag F.FLT_STS_UNLOCKED = true ∧
     sourceKind (F.FLT_FORCE_SRC.of w) (F.FLT_FORCE_KIND.of w) = true) ∧
    ({ wit [] with flt := { force := some (0, 1) } } : State).flt.force.isSome = true ∧ (wit []).flt.force = none := by decide +kernel
theorem witness_EventsAndStationBook :
    eventSource 0 = true ∧ eventSource 64 = true ∧ eventSource 639 = true ∧ eventSource 65 = false ∧ eventSource 511 = false ∧
    (let r : BokRec := ⟨0, 0, 0, 0, false, false⟩
     let s := fun (n : Nat) (c : Bool) => { wit [] with bok := { queue := [r], written := n, clearing := c } }
     ((s 511 false).bok.second = (s 511 false).second ∧ (s 511 false).bok.queue = r :: [] ∧ (s 511 false).bok.clearing = false ∧ (s 511 false).bok.written < 512) ∧
     (s 0 true).bok.clearing = true ∧ 512 ≤ (s 512 false).bok.written) ∧ F.BOK_CTL_CLRCNT.on (bit F.BOK_CTL_CLR) = false ∧
    (wit [(F.SEC_STS_ADMIN, 1)]).flag F.SEC_STS_ADMIN = true ∧ (wit []).flag F.SEC_STS_ADMIN = false ∧ F.BOK_CTL_CLR.on (bit F.BOK_CTL_CLRCNT) = false ∧ (wit []).bok.clearing = false ∧
    (let c := F.BOK_FWREC_CODE.of (BitVec.ofNat 32 (faultSource Blk.bok 1 * 64)); c / 64 / 32 = Blk.bok ∧ 1 ≤ c / 64 % 32) ∧
    (let c := F.BOK_FWREC_CODE.of (BitVec.ofNat 32 (faultSource Blk.bok 0 * 64)); c / 64 % 32 = 0) ∧ F.BOK_FWREC_CODE.of 0 / 64 / 32 ≠ Blk.bok := by decide +kernel
/-- The power block's hidden state beside some fields. -/
def pwrSt (p : PwrSt) (l : List (Fld × Nat) := []) : State := { wit l with pwr := p }
theorem witness_HoldUp :
    (wit [(F.GLB_LOCK_LOCK, 1)]).locked = true ∧ (wit []).locked = false ∧ F.PWR_CTL_RPGO.on (bit F.PWR_CTL_MEAS) = false ∧ (wit []).pwr.measDue = false ∧
    (let u := (pwrSt { measDue := true } [(F.PWR_HCFG_DIV, 64), (F.PWR_HCFG_RTEST, 1)]).pwrMap (fun p => { p with measDue := false })
     let v := fun (x : Nat) => x * u.fget F.PWR_HCFG_DIV / 64 % 65536
     (pwrSt { measDue := true }).pwr.measDue = true ∧ v 1019 < v 1000 + 20 ∧ v 1000 + 20 ≤ v 1020 ∧
     ((u.fset F.PWR_HV_V0 (v 1020)).fset F.PWR_HV_V1 (v 1000)).fget F.PWR_HCFG_RTEST ≠ 0) ∧
    (((wit [(F.PWR_HCFG_RTEST, 0)]).fset F.PWR_HV_V0 0).fset F.PWR_HV_V1 0).fget F.PWR_HCFG_RTEST = 0 ∧ 6999 < (wit [(F.PWR_HREQ_VMIN, 700)]).vmin ∧
    (wit [(F.PWR_HREQ_VMIN, 700)]).vmin ≤ 7000 ∧ (wit [(F.PWR_STS_PFAIL, 1)]).flag F.PWR_STS_PFAIL = true ∧ (wit []).flag F.PWR_STS_PFAIL = false ∧
    (wit []).forced Blk.pwr 0 3 = false := by decide +kernel
theorem witness_SpeedGovernor :
    (wit [(F.PWR_RG_EN, 0)]).flag F.PWR_RG_EN = false ∧
    (let g := fun (l : List (Fld × Nat)) (dn util : Nat) =>
       let u := (pwrSt { dnRun := dn } ([(F.PWR_RG_EN, 1), (F.PWR_RG_UPTH, 80), (F.PWR_RG_DNTH, 20), (F.PWR_RG_DWELL, 4)] ++ l)).fset F.PWR_RGSTS_UTIL (min 100 util)
       (u, (if util < 20 then dn + 1 else 0), u.pwrMap (fun p => { p with dnRun := if util < 20 then dn + 1 else 0 }))
     let on := [(F.SPC_STS_STATE, SpcS.run), (F.SPC_STS_STEP, 0)]
     (g on 0 50).1.flag F.PWR_RG_EN = true ∧ (g on 0 50).1.fget F.PWR_RG_UPTH = 80 ∧ min 80 ((g on 0 50).1.fget F.PWR_RG_DNTH) = 20 ∧
     (g [(F.SPC_STS_STEP, 1)] 0 50).2.2.flag F.SPC_STS_STEP = true ∧ (g [] 0 50).2.2.spcIn SpcS.run = false ∧ (g on 0 80).2.2.flag F.SPC_STS_STEP = false ∧
     (g on 0 80).2.2.spcIn SpcS.run = true ∧ max 1 ((g on 3 19).2.2.fget F.PWR_RG_DWELL) ≤ (g on 3 19).2.1 ∧
     (g on 0 19).2.1 < max 1 ((g on 0 19).2.2.fget F.PWR_RG_DWELL) ∧
     (let k := fun (n : Nat) => g ((F.SPC_TARGET_SEL, n) :: on) 0 80
      (k 1).1.fget F.SPC_TARGET_SEL < (k 1).2.2.ceiling ∧ (k 5).2.2.ceiling ≤ (k 5).1.fget F.SPC_TARGET_SEL ∧ (k 1).1.fget F.SPC_TARGET_SEL ≤ 1 ∧ 2 ≤ (k 2).1.fget F.SPC_TARGET_SEL)) ∧
    (wit []).twin = false := by decide +kernel
theorem witness_SaveAndRestore :
    (wit []).pwr.saving = none ∧
    (let u := fun (f : Bool) => ((({ pwrSt { saving := some 1 } with ms := { faultReset := f } } : State).saveWindow 1).pwrMap (fun p => { p with saving := none }))
     (pwrSt { saving := some 1 }).pwr.saving = some 1 ∧ (u true).flt.fatalSeq = false ∧ (u true).ms.faultReset = true ∧ (u false).ms.faultReset = false) ∧
    (let s := pwrSt { held := true }; s.pwr.held = true ∧ s.flag F.PWR_STS_PFAIL = false ∧ s.flt.fatalHold = false) ∧ (wit []).pwr.held = false ∧
    (let u := fun (l : List (Fld × Nat)) (x : Bool) (v : VaultSt) => ((({ wit l with core := { replay := x }, vault := v } : State)).fsetB F.PWR_CTL_HEN false).armUpdate false
     let good : VaultSt := { saveHeader := List.replicate 60 0 ++ leBytes 4 (crc32c (List.replicate 60 0)) }
     F.PWR_CTL_MEAS.on 0 = false ∧ F.PWR_CTL_HEN.on 0 = false ∧ (u [] true good).twin = false ∧ (u [(F.ZNE_STS_RUN, 1)] true good).flag F.ZNE_STS_RUN = true ∧
     ((u [] false good).flag F.ZNE_STS_RUN = false ∧ (u [] false good).locked = false ∧ (u [] false good).core.replay = false) ∧
     ((u [] true good).core.replay = true ∧ (u [] true good).headerGood = true ∧ (u [] true good).forced Blk.pwr 0 2 = false) ∧ (u [] true {}).headerGood = false) ∧
    (let s := wit [(F.GLB_LOCK_LOCK, 1)]; s.locked = true ∧ s.twin = false) ∧ (wit [(F.PWR_STS_RPST, 1)]).fget F.PWR_STS_RPST = 1 ∧ (wit []).fget F.PWR_STS_RPST ≠ 1 := by decide +kernel
/-- Port 0's controller enabled, the command engine running, with further fields and port state. -/
def host (l : List (Fld × Nat) := []) (p : PortSt := {}) (c : CqeSt := {}) : State :=
  { wit ([(F.CQE_STS_RUN, 1), (F.HEP_STS_RDY0, 1), (F.HEP_CTL_CFGRDY, 1)] ++ l) with hep := { ports := ⟨p, {}⟩ }, cqe := c }
/-- The state after the stamp that an admission issues. -/
def stamped (s : State) : State := s.issueStamp.2
theorem witness_adminReady : (host).adminReady adm := ⟨rfl, by decide +kernel⟩
theorem witness_SecurityCommands :
    ((host [(F.HEP_AUTH_SECURITY 0, 0)]).adminReady adm ∧ (host [(F.HEP_AUTH_SECURITY 0, 0)]).flag (F.HEP_AUTH_SECURITY adm.port.num) = false) ∧
    ((host [(F.HEP_AUTH_SECURITY 0, 1)]).adminReady adm ∧ (host [(F.HEP_AUTH_SECURITY 0, 1)]).flag (F.HEP_AUTH_SECURITY adm.port.num) = true) ∧
    ((stamped (host)).isPartner 1 = false ∧ (stamped (host)).isPartner adm.nsid = false) ∧
    ((host).ownNs 1 = some .zero ∧ (host).ownNs 2 = some .one ∧ (host).fget F.SEC_STS_AUTHF < 5 ∧ ((host).sec.blocks.get .zero).isSome = true) ∧
    (wit [(F.SEC_STS_AUTHF, 4)]).fget F.SEC_STS_AUTHF < 5 :=
  ⟨⟨⟨rfl, by decide +kernel⟩, by decide +kernel⟩, ⟨⟨rfl, by decide +kernel⟩, by decide +kernel⟩, by decide +kernel, by decide +kernel, by decide +kernel⟩
theorem witness_FormatAndSanitize :
    (host [(F.HEP_AUTH_ADMIN 0, 0)]).portHeld .zero = false ∧ (host [(F.HEP_AUTH_ADMIN 0, 0)]).flag (F.HEP_AUTH_ADMIN 0) = false ∧
    (let s := host [(F.HEP_AUTH_ADMIN 0, 1), (F.ZNE_CONV_SIZE, 1)]
     adm.qid = 0 ∧ s.portHeld .zero = false ∧ s.flag (F.HEP_AUTH_ADMIN 0) = true ∧ (stamped s).isPartner 1 = false ∧ (stamped s).ownNs 1 = some .zero ∧ (stamped s).nsPresent 1 = true ∧
     ((stamped s).cryptoErase [0, 1] false).twin = false) ∧
    (let s := host [(F.HEP_AUTH_ADMIN 0, 1), (F.ZNE_CONV_SIZE, 0)]; (stamped s).ownNs 1 = some .zero ∧ (stamped s).nsPresent 1 = false) ∧
    (2 < 3 ∧ ((2 : Nat) ≠ 0 ∧ (2 : Nat) ≠ 1 ∧ (2 : Nat) ≠ 3)) := by decide +kernel
theorem witness_VersionAndDebug :
    (wit [(F.GLB_LOCK_LOCK, 1)]).locked = true ∧ F.SEC_SVN_SVNMIN.of 4 < (wit [(F.SEC_SVN_SVNMIN, 5)]).fget F.SEC_SVN_SVNMIN ∧
    ((wit [(F.SEC_SVN_SVNMIN, 5)]).locked = false ∧ (wit [(F.SEC_SVN_SVNMIN, 5)]).fget F.SEC_SVN_SVNMIN ≤ F.SEC_SVN_SVNMIN.of 5) ∧
    (let s := fun (n : Nat) (c : Option (List Byte)) => { wit [] with sec := { dbgFails := n, challenge := c } }
     3 ≤ (s 3 none).sec.dbgFails ∧ (s 2 none).sec.dbgFails < 3 ∧ (s 0 none).sec.challenge = none ∧ (s 2 (some [])).sec.challenge.isNone = false ∧
     (s 2 (some [])).flag F.SEC_STS_DBGOPEN = false) ∧ (wit [(F.SEC_STS_DBGOPEN, 1)]).flag F.SEC_STS_DBGOPEN = true := by decide +kernel
theorem witness_QueueCommands :
    (let x := fun (p : PortSt) => (stamped (host [] p)).port .zero
     ((x {}).cqs.any (fun q => q.qid == 64) = false ∧ 1 ≤ 64 ∧ 64 ≤ 64 ∧ 2 ≤ 4096 ∧ 4096 ≤ 4096 ∧ 128 ≤ 128) ∧
     ((x { cqs := [⟨1, 2, 0, 0, 0, 0⟩] }).sqs.any (fun q => q.qid == 1) = false ∧ (x { cqs := [⟨1, 2, 0, 0, 0, 0⟩] }).cqs.any (fun q => q.qid == 1) = true) ∧
     (64 < 65) ∧ (x { sqs := [⟨3, 2, 1, 0, []⟩] }).sqs.find? (fun q => q.qid == 3 && q.qid != 0) = some ⟨3, 2, 1, 0, []⟩ ∧
     (x { sqs := [⟨0, 2, 0, 0, []⟩] }).sqs.find? (fun q => q.qid == 0 && q.qid != 0) = none ∧
     (x { cqs := [⟨1, 2, 0, 0, 0, 0⟩] }).sqs.any (fun q => q.cqid == 1 && q.qid != 0) = false ∧
     ((x { cqs := [⟨1, 2, 0, 0, 0, 0⟩], sqs := [⟨3, 2, 1, 0, []⟩] }).cqs.any (fun q => q.qid == 1) = true ∧
       (x { cqs := [⟨1, 2, 0, 0, 0, 0⟩], sqs := [⟨3, 2, 1, 0, []⟩] }).sqs.any (fun q => q.cqid == 1 && q.qid != 0) = true) ∧
     4 ≤ (x { aers := [1, 2, 3, 4] }).aers.length ∧ (x { aers := [1, 2, 3] }).aers.length < 4) ∧
    ((stamped (host)).cqe.slots = [] ∧ (stamped (host)).brl.fwds = []) ∧
    (let y : Slot := ⟨5, ⟨ioh, .read 0 1⟩, 0, true, false, 0, [], false, 0⟩
     let u := stamped (host [] {} { slots := [y] })
     u.cqe.slots.find? (fun x => x.cmd.hdr.port == adm.port && x.cmd.hdr.qid == 1 && x.cmd.hdr.cid == 7) = some y ∧ y.cmd.kind = .read 0 1 ∧ u.readUnsent y.stamp = true ∧ y.mute = false) := by
  decide +kernel
theorem witness_IdentifyLogsFeatures :
    (host).portHeld .zero = false ∧ (host).logAllowed .zero 0x02 = true ∧ (host [(F.HEP_AUTH_SERVICE 0, 1)]).logAllowed .zero 0xC1 = true ∧
    (host [(F.HEP_AUTH_SERVICE 0, 0)]).logAllowed .zero 0xC2 = false ∧ driveFeature 1 = false ∧ driveFeature 2 = true ∧
    (host [(F.HEP_AUTH_ADMIN 0, 1)]).flag (F.HEP_AUTH_ADMIN 0) = true ∧ (host [(F.HEP_AUTH_ADMIN 0, 0)]).flag (F.HEP_AUTH_ADMIN 0) = false := by decide +kernel
theorem witness_FirmwareCommands :
    (host [(F.HEP_AUTH_FW 0, 0)]).portHeld .zero = false ∧ (host [(F.HEP_AUTH_FW 0, 0)]).flag (F.HEP_AUTH_FW 0) = false ∧ (host [(F.HEP_AUTH_FW 0, 1)]).flag (F.HEP_AUTH_FW 0) = true ∧
    (2 < 3 ∧ 3 < 4) ∧ (((stamped (host [(F.HEP_AUTH_FW 0, 1)])).commitActivate adm 3).2.map (fun a => a.status) = some 0x106) ∧
    ((stamped (host [(F.HEP_AUTH_FW 0, 1)])).commitActivate adm 1).2.isNone = true := by decide +kernel
theorem witness_ManagementInterface : (wit [(F.HEP_MI_EN, 0)]).flag F.HEP_MI_EN = false ∧ (wit [(F.HEP_MI_EN, 1)]).flag F.HEP_MI_EN = true ∧ 3 < 4 := by decide +kernel
theorem witness_HostPort :
    ((host).portOn .zero = true ∧ 1 ≤ 5 ∧ (host [(F.GLB_CFG_PORTS, 0)]).flag F.GLB_CFG_PORTS = false ∧ (host).cqe.stopped = false) ∧
    ((host [(F.GLB_CFG_PORTS, 0)]).portOn .one = false ∧ (host [] {} { stopped := true }).cqe.stopped = true) ∧
    (((host).port .zero).cfgWord 0x04).getLsbD 2 = false ∧ (((host [] { cfg := [(0x04, 4)] }).port .zero).cfgWord 0x04).getLsbD 2 = true ∧
    ((host).port .zero).flr = false ∧ ((host [] { flr := true }).port .zero).flr = true ∧
    ((host [] { cc := 1 }).port .zero).cc.getLsbD 0 = true ∧ ((host).port .zero).cc.getLsbD 0 = false ∧ bitsOf ((host [] { cc := 1 }).port .zero).cc 14 2 ≠ 1 ∧
    bitsOf ((host [] { cc := 1 }).port .zero).cc 14 2 ≠ 2 ∧
    (F.HEP_CTL_CFGRDY.on (bit F.HEP_CTL_CLRCNT) = false ∧ F.HEP_CTL_CLRCNT.on (bit F.HEP_CTL_CFGRDY) = false ∧ (host).flag F.HEP_CTL_CFGRDY = true ∧ (wit []).flag F.HEP_CTL_CFGRDY = false) ∧
    ((wit []).ps4Wake.flag F.HEP_CTL_CFGRDY = false ∧ (host).ps4Wake.flag F.HEP_CTL_CFGRDY = true ∧ ((host).ps4Wake.port .zero).flr = false ∧ cfgOpen (4 / 4 * 4) = false ∧ cfgOpen (0x7C / 4 * 4) = true) ∧
    (let s := host [(F.HEP_OPTLEN_LEN, 1)] { cfg := [(0x04, 2), (0x30, 1)] }
     (((s.port .zero).cfgWord 0x30).getLsbD 0 = true ∧ ((s.port .zero).cfgWord 0x04).getLsbD 1 = true ∧ s.portOn .zero = true ∧ 512 < 0x40000 ∧ s.fget F.HEP_OPTLEN_LEN ≠ 0) ∧
     511 < s.fget F.HEP_OPTLEN_LEN * 512 ∧ s.fget F.HEP_OPTLEN_LEN * 512 ≤ 512) := by decide +kernel
/-- A read request under way. -/
def tag1 (old late : Bool) : TagUse := ⟨9, 5, old, late⟩
theorem witness_HostTraffic :
    (wit []).rdy .zero = false ∧ (host).rdy .zero = true ∧
    (let u := (host [] { sqs := [⟨0, 2, 0, 0, []⟩, ⟨1, 2, 1, 0, []⟩], cqs := [⟨1, 2, 0, 0, 0, 3⟩, ⟨2, 2, 0, 0, 0, 0⟩] }).ps4Wake
     (u.port .zero).cqs.find? (fun q => q.qid == 5) = none ∧ (u.port .zero).sqs.find? (fun q => q.qid == 5) = none ∧
     (u.port .zero).cqs.find? (fun q => q.qid == 1) = some ⟨1, 2, 0, 0, 0, 3⟩ ∧ 2 ≤ (2 : Word).toNat ∧ (1 : Word).toNat < 2 ∧
     (u.port .zero).sqs.find? (fun q => q.qid == 1) = some ⟨1, 2, 1, 0, []⟩ ∧ (u.port .zero).sqs.find? (fun q => q.qid == 0) = some ⟨0, 2, 0, 0, []⟩ ∧
     (u.port .zero).cqs.find? (fun q => q.qid == 2) = some ⟨2, 2, 0, 0, 0, 0⟩) ∧
    ((host).port .zero).tags.find? (fun u => u.tag == 9) = none ∧
    (let f := fun (o l : Bool) => ((host [] { tags := [tag1 o l] }).port .zero).tags.find? (fun u => u.tag == 9)
     f true false = some (tag1 true false) ∧ f false true = some (tag1 false true) ∧ f false false = some (tag1 false false)) ∧
    (((host [] { cfg := [(0x98, 16)] }).port .zero).cfgWord 0x98).getLsbD 4 = true ∧ (((host).port .zero).cfgWord 0x98).getLsbD 4 = false ∧
    (let s := host [(F.HEP_AUTH_READ 0, 1), (F.HEP_AUTH_WRITE 0, 1), (F.ZNE_CONV_SIZE, 1)] { sqs := [⟨1, 2, 1, 0, []⟩] }
     s.rdy .zero = true ∧ s.portOn .zero = true ∧ ioh.qid ≠ 0 ∧ (s.port .zero).sqs.any (fun q => q.qid == 1) = true ∧ s.ioError ⟨ioh, .read 0 0⟩ = some St.field ∧
     s.ioError ⟨ioh, .read 0 256⟩ = none ∧ s.ioError ⟨ioh, .read 0 257⟩ = some St.field ∧ s.ioError ⟨ioh, .flush⟩ = none) := by decide +kernel
theorem witness_CommandQueue_enable :
    (let bad := fun (s : State) =>
       let base := s.fget F.CQE_CSTAGE_BLK * 0x1000000
       let size := max 1 (s.fget F.CQE_CSTAGE_SIZE) * 0x1000000
       !s.inDdrRw base size || (decide (base < s.mdBase + 0x1000000) && decide (s.mdBase < base + size))
     let good := memSt { fitted := 0x80000000 } [(F.CQE_CSTAGE_BLK, 0xB0), (F.CQE_CSTAGE_SIZE, 1), (F.ZNE_MDBASE_BLK, 0xA4)]
     F.CQE_CTL_CLRCNT.on (bit F.CQE_CTL_EN) = false ∧ (wit [(F.CQE_STS_RUN, 1)]).flag F.CQE_STS_RUN = true ∧ (wit []).flag F.CQE_STS_RUN = false ∧ bad (wit []) = true ∧
     bad good = false ∧ good.flag F.CQE_STS_RUN = false ∧ good.forced Blk.cqe 0 4 = false ∧ F.CQE_CTL_EN.on (bit F.CQE_CTL_CLRCNT) = false) := by decide +kernel
/-- A command slot that holds a command. -/
def slot1 (k : CmdKind) (applied dataIn : Bool) : Slot := ⟨5, ⟨ioh, k⟩, 0, applied, dataIn, 0, [], false, 0⟩
theorem witness_CommandQueue :
    (let c : Cmd := ⟨ioh, .read 0 1⟩
     let u := fun (l : List (Fld × Nat)) => (host l { sqs := [⟨1, 2, 1, 0, [c]⟩] }).jstallUpdate
     (u [(F.BRL_STS_FENCED, 1)]).flag F.BRL_STS_FENCED = true ∧ (u []).flag F.BRL_STS_FENCED = false ∧ (u []).pickNext ≠ some (.one, 1) ∧ (u []).pickNext = some (.zero, 1) ∧
     ((u []).port .zero).sqs.find? (fun q => q.qid == 1) = some ⟨1, 2, 1, 0, [c]⟩) ∧
    (5 < fwdStamp ∧ fwdStamp ≤ fwdStamp) ∧ (host).slotOf 5 = none ∧
    (let s := fun (x : Slot) (p : PortSt) => host [] p { slots := [x] }
     (s (slot1 .flush false false) {}).slotOf 5 = some (slot1 .flush false false) ∧ (slot1 .flush false false).cmd.kind.isData = false ∧
     (s (slot1 (.write 0 1 false) true false) {}).slotOf 5 = some (slot1 (.write 0 1 false) true false) ∧ (slot1 (.write 0 1 false) true false).cmd.kind.isData = true ∧
     ((s (slot1 (.write 0 1 false) true false) {}).port .zero).fetch.contains 5 = false ∧ ((s (slot1 (.write 0 1 false) true false) { fetch := [5] }).port .zero).fetch.contains 5 = true ∧
     DataOutcome.guardError ≠ .good ∧ (s (slot1 (.write 0 1 false) false false) {}).cqe.slots.find? (s (slot1 (.write 0 1 false) false false) {}).canApply = some (slot1 (.write 0 1 false) false false) ∧
     (host).cqe.slots.find? (host).canApply = none ∧
     (let x := s (slot1 .flush true true) {}
      let w := x.cqe.slots.any (fun y => y.cmd.kind.isData && decide (y.stamp < 5)) || x.cqe.buffer.any (fun b => !b.media && decide (b.stamp < 5) && !b.poison)
      w = false ∧ (slot1 .flush true true).cmd.kind = .flush) ∧ (slot1 (.read 0 1) true true).cmd.kind ≠ .flush) := by decide +kernel
theorem witness_Interlocks :
    (let m : IlockReq := ⟨1, 0, false, 0, 1⟩
     let s := fun (n : Nat) (w : List IlockReq) => host [] {} { il := (List.range n).map (fun i => ⟨i, m, 0, false⟩), ilWait := w }
     (s 3 []).ilFree = some 3 ∧ (s 0 []).cqe.il.find? (fun e => e.index == 0) = none ∧
     (s 1 []).cqe.il.find? (fun e => e.index == 0) = some ⟨0, m, 0, false⟩ ∧ (s 1 []).ilCan ⟨0, m, 0, false⟩ = true ∧ (s 2 []).ilCan ⟨1, m, 0, false⟩ = false ∧
     (s 0 []).cqe.il.any (fun e => e.index == 0) = false ∧ (s 1 []).cqe.il.any (fun e => e.index == 0) = true ∧ (s 1 []).cqe.ilWait = [] ∧ (s 1 [m]).cqe.ilWait = m :: [] ∧
     (s 1 []).cqe.il.find? (fun e => e.index == (s 1 []).fget F.CQE_ILSEL_INDEX) = some ⟨0, m, 0, false⟩) := by decide +kernel
/-- All 1,024 interlock entries. -/
def ilAll : List IlEntry := (List.range 1024).map (fun i => ⟨i, ⟨1, 0, false, 0, 1⟩, 0, false⟩)
theorem host_cqe (p : PortSt) (c : CqeSt) : (host [] p c).cqe = c := rfl
theorem witness_Interlocks_full : (host [] {} { il := ilAll }).ilFree = none := by
  unfold State.ilFree
  rw [List.find?_eq_none]
  intro i hi
  have h : ilAll.any (fun e => e.index == i) = true := List.any_eq_true.2 ⟨_, List.mem_map_of_mem hi, beq_self_eq_true i⟩
  rw [host_cqe, h]
  exact Bool.false_ne_true
theorem witness_PowerStates :
    ((host [(F.CQE_FWA_REQ, 1)]).flag F.CQE_FWA_REQ = true ∧ (host [(F.CQE_FWA_REQ, 1)]).cqe.slots = [] ∧ (host).flag F.CQE_FWA_REQ = false ∧ (host).flag F.CQE_FWA_READY = false) ∧
    (let s := host [(F.CQE_FWA_READY, 1)]
     let u := (((s.fsetB F.CQE_FWA_REQ false).fsetB F.CQE_FWA_READY false).fsetB F.CQE_STS_FWACT false).quiesce
     s.flag F.CQE_FWA_READY = true ∧ u.cqe.fwCmd = none ∧ u.cqe.entryWait = none) ∧
    (let en := fun (n : Nat) => host [(F.CQE_PSTS_ENTRY, 1), (F.CQE_PSTS_CKPT, n), (F.CQE_PSTS_TARGET, 4)]
     (host).flag F.CQE_PSTS_ENTRY = false ∧ F.CQE_PSCTL_TARGET.of 3 = 3 ∧ F.CQE_PSCTL_TARGET.of 4 = 4 ∧ F.CQE_PSCTL_TARGET.of 2 ≠ 3 ∧ (en 0).flag F.CQE_PSTS_ENTRY = true ∧
     ((en 0).fget F.CQE_PSTS_CKPT = 0 ∧ (en 0).cqe.slots = [] ∧ (en 0).cqe.buffer = []) ∧ ((en 1).fget F.CQE_PSTS_CKPT = 1 ∧ (en 1).ste.cpPend = false ∧ (en 1).ste.cp = none) ∧
     ({ en 1 with ste := { cpPend := true } } : State).ste.cpPend = true ∧ (en 2).fget F.CQE_PSTS_CKPT = 2 ∧ (en 3).fget F.CQE_PSTS_CKPT = 3 ∧ (en 3).bothParked = true ∧
     ((en 3).fsetB (F.SAC_STS_PARKED .zero) false).bothParked = false ∧ (en 4).fget F.CQE_PSTS_CKPT = 4 ∧ ((en 4).fset F.SPC_STS_STATE 5).spcIn SpcS.stopped = false ∧
     5 ≤ (en 5).fget F.CQE_PSTS_CKPT ∧ ((en 5).fget F.CQE_PSTS_CKPT = 5 ∧ (en 5).fget F.CQE_PSTS_TARGET = 4)) ∧
    (let s := host [(F.CQE_PSTS_RETURN, 1), (F.SPC_STS_STATE, 5), (F.SPC_STS_INBAND, 1), (F.SAC_STS_PARKED .zero, 0), (F.SAC_STS_PARKED .one, 0)]
     s.flag F.CQE_PSTS_RETURN = true ∧ s.spcIn SpcS.run = true ∧ s.flag F.SPC_STS_INBAND = true ∧ s.flag (F.SAC_STS_PARKED .zero) = false ∧ s.flag (F.SAC_STS_PARKED .one) = false) ∧
    ((host).pwr.ps4Off = false ∧ (host).fget F.CQE_PSTS_CUR ≠ 4 ∧ (host [(F.CQE_PSTS_CUR, 4)]).fget F.CQE_PSTS_CUR = 4 ∧ (pwrSt { ps4Off := true }).pwr.ps4Off = true) := by decide +kernel
/-- 18 surfaces of one shingled region each, two journal areas, 2 GiB of DDR5. -/
def media (l : List (Nat × Word) := []) : State :=
  { memSt { fitted := 0x80000000 } with
    regs := l ++ [(Rg.ZNE_CFG, 1), (Rg.ZNE_SURF, 0x003F0FFF), (Rg.ZNE_MDBASE, 0xA4), (Rg.RWC_FMT .zero 0, 40000), (Rg.RWC_FMT .one 0, 40000), (Rg.STE_JAREA_W0 0, 100000),
        (Rg.STE_JAREA_W0 1, 100000), (Rg.STE_JAREA_W1 0, 0x08000000 + 600), (Rg.STE_JAREA_W1 1, 0x08100000 + 600)] ++
      (List.range 18).map (fun i => (Rg.ZNE_RGN_W0 i 0, 0x40000000)) ++ (List.range 18).map (fun i => (Rg.ZNE_RGN_W1 i 0, 1)) }
theorem witness_ZoneEngine_enable :
    F.ZNE_CTL_CLRCNT.on (bit F.ZNE_CTL_EN) = false ∧ (wit [(F.ZNE_STS_RUN, 1)]).flag F.ZNE_STS_RUN = true ∧ (wit [(F.GLB_CFG_TWIN, 1), (F.BRL_TKSTS_LEVEL, 3)]).homeLost = true ∧
    ((wit []).flag F.ZNE_STS_RUN = false ∧ (wit []).homeLost = false ∧ (wit []).zneCode ≠ 0) ∧ (media.flag F.ZNE_STS_RUN = false ∧ media.homeLost = false ∧ media.forced Blk.zne 0 4 = false) ∧
    F.ZNE_CTL_EN.on (bit F.ZNE_CTL_CLRCNT) = false := by decide +kernel
theorem witness_ZoneEngine_code : media.zneCode = 0 := by decide +kernel
theorem witness_StripeJournal_code : media.steCode = 0 := by decide +kernel
/-- A chunk write of chunk 0 of zone 0, sent under tag 3. -/
def cw (reclaim : Bool) : ChunkWr := { freshWrite 0 0 0 1 0 with tags := [3], sent := true, reclaim := reclaim, copy := reclaim }
/-- Zone 0 open with one block written, which is in the buffer; with the chunk's place reserved on surface 2 as told. -/
def zone0 (e : Word) (places : List (Nat × Nat)) : State :=
  let s := { wit [(F.ZNE_STS_RUN, 1), (F.GLB_LOCK_LOCK, 1)] with
    cqe := { buffer := [⟨2, 0, 5, false, true, false, false, [], []⟩] }, zne := { places := places } }
  (s.setBytes (s.descAddr 0) (ZoneDesc.mk 2 false 1 0 0 0 0).bytes).store (s.entryAddr 0 0) 4 e.toNat
theorem witness_ZoneEngine_chunks :
    (let due := fun (s : State) => 0 % 18 < 16 ∧ 0 < 288 ∧ chunkStart 0 < (s.zdesc 0).end_ ∧ s.chunkDirty 0 0 = true ∧ s.chunkPending 0 0 = false ∧
       s.zne.writes.any (fun w => w.zone == 0 && w.k == 0 && !w.copy) = false ∧ s.flag F.ZNE_STS_RUN = true ∧ s.locked = true
     ¬ due (wit []) ∧ due (zone0 0 []) ∧ (zone0 0 []).chunkSurf 0 0 = none ∧ (zone0 0 [(0, 2)]).chunkSurf 0 0 = some 2 ∧ entryState ((zone0 0 [(0, 2)]).entry 0 0) ≠ 1 ∧
     due (zone0 (mkEntry 1 0 2 9) []) ∧ (zone0 (mkEntry 1 0 2 9) []).chunkSurf 0 0 = some 2 ∧ entryState ((zone0 (mkEntry 1 0 2 9) []).entry 0 0) = 1) ∧
    (let s := fun (r : Bool) => { wit [] with zne := { writes := [cw r] } }
     (wit []).zne.writes.find? (fun w => w.sent && w.tags.contains 3) = none ∧ (s false).zne.writes.find? (fun w => w.sent && w.tags.contains 3) = some (cw false) ∧
     (wit []).zne.writes.find? (fun w => w.reclaim && w.sent) = none ∧ (s true).zne.writes.find? (fun w => w.reclaim && w.sent) = some (cw true) ∧
     (((s true).chunkComplete ⟨0, 1, 3⟩).zne.writes.any (fun x => x.reclaim && x.zone == 0 && x.k == 0) = false ∧ (cw false).reclaim = false) ∧
     ({ cw true with tags := [] } : ChunkWr).tags = [] ∧ (cw true).tags ≠ [] ∧
     (((cw true).tags ++ (cw true).reads.map (fun x => x.1)).foldl (fun (s : State) t => s.takeHwCpl (BitVec.ofNat 32 t)) (s true)).journalRoom 3 = true ∧
     (((cw true).tags ++ (cw true).reads.map (fun x => x.1)).foldl (fun (s : State) t => s.takeHwCpl (BitVec.ofNat 32 t))
       { s true with vault := { jseq := 65536 } }).journalRoom 3 = false) ∧
    (let w := { cw false with retry := true }
     (wit []).zne.writes.filter (fun w => w.retry) = [] ∧ ({ wit [] with zne := { writes := [w, cw false] } } : State).zne.writes.filter (fun w => w.retry) = [w] ∧ w.dead = false) := by
  decide +kernel
theorem witness_ZoneEngine_spares :
    (wit [(F.ZNE_SPSTS_BUSY, 1)]).flag F.ZNE_SPSTS_BUSY = true ∧ ((1 <<< 28 : Word).getLsbD 28 = true ∧ (wit [(F.GLB_LOCK_LOCK, 1)]).locked = true) ∧
    ((wit []).flag F.ZNE_SPSTS_BUSY = false ∧ (0 : Word).getLsbD 28 = false ∧ (wit []).locked = false) ∧ 12 ≤ bitsOf (setBits (0x06000000 : Word) 31 1 1) 23 5 % 16 ∧
    (let w := setBits (0 : Word) 31 1 1
     (wit []).surfOn (surfIndex (bitsOf w 23 5)) = false ∧ bitsOf w 23 5 % 16 < 12 ∧ (wit [(F.ZNE_SURF_MASK0, 1)]).surfOn (surfIndex (bitsOf w 23 5)) = true ∧
     (wit [(F.ZNE_SURF_MASK0, 1)]).journalRoom 2 = true ∧ ({ wit [(F.ZNE_SURF_MASK0, 1)] with vault := { jseq := 65536 } } : State).journalRoom 2 = false) := by decide +kernel
/-- The stripe engine's hidden state beside some fields. -/
def steSt (x : SteSt) (l : List (Fld × Nat) := []) : State := { wit l with ste := x }
theorem witness_StripeJournal :
    (F.STE_CTL_CLRCNT.on (bit F.STE_CTL_EN) = false ∧ F.STE_CTL_CPREQ.on (bit F.STE_CTL_EN) = false) ∧ (wit [(F.STE_STS_RUN, 1)]).flag F.STE_STS_RUN = true ∧
    (wit [(F.GLB_CFG_TWIN, 1), (F.BRL_TKSTS_LEVEL, 3)]).homeLost = true ∧ ((wit []).flag F.STE_STS_RUN = false ∧ (wit []).homeLost = false ∧ (wit []).flag F.ZNE_STS_RUN = false) ∧
    ((wit [(F.ZNE_STS_RUN, 1)]).flag F.ZNE_STS_RUN = true ∧ (wit [(F.ZNE_STS_RUN, 1)]).steCode ≠ 0) ∧ (media).forced Blk.ste 0 7 = false ∧
    (F.STE_CTL_EN.on (bit F.STE_CTL_CLRCNT) = false ∧ F.STE_CTL_CPREQ.on (bit F.STE_CTL_CLRCNT) = false) ∧
    (F.STE_CTL_EN.on (bit F.STE_CTL_CPREQ) = false ∧ F.STE_CTL_CLRCNT.on (bit F.STE_CTL_CPREQ) = false) ∧
    (0 < (wit [(F.STE_STS_RUN, 1), (F.STE_JOCC_OCC, 1)]).fget F.STE_JOCC_OCC ∧ (wit [(F.STE_JOCC_OCC, 0)]).fget F.STE_JOCC_OCC = 0) ∧
    (let s := steSt { cpPend := true } [(F.STE_STS_RUN, 1), (F.GLB_LOCK_LOCK, 1)]
     s.flag F.STE_STS_RUN = true ∧ s.ste.cpPend = true ∧ s.ste.cp = none ∧ s.fget F.STE_STS_RPHASE ≠ 1 ∧ s.locked = true ∧ (wit []).ste.cpPend = false ∧
     (wit [(F.STE_STS_RPHASE, 1)]).fget F.STE_STS_RPHASE = 1) ∧
    (let c : Checkpoint := ⟨5, [], [], [⟨0, 3, 4⟩], [0], [], 0, 0⟩
     let s := fun (n : Nat) => steSt { cp := some c, fails := [(0, n)] } [(F.ZNE_CFG_WRETRY, 3)]
     (s 0).ste.cp = some c ∧ c.todo.find? (fun w => w.area == 0) = some ⟨0, 3, 4⟩ ∧ look (fun _ => 0) (0 : Fin 4).val (s 1).ste.fails + 1 < max 1 ((s 1).fget F.ZNE_CFG_WRETRY) ∧
     max 1 ((s 2).fget F.ZNE_CFG_WRETRY) ≤ look (fun _ => 0) (0 : Fin 4).val (s 2).ste.fails + 1 ∧ (wit []).ste.cp = none) ∧
    ((wit []).fget F.STE_STS_RPHASE ≠ 1 ∧ (wit []).fget F.STE_STS_RPHASE ≠ 2 ∧ (wit [(F.STE_STS_RPHASE, 2)]).fget F.STE_STS_RPHASE = 2 ∧
      (wit [(F.STE_STS_RPHASE, 3)]).fget F.STE_STS_RPHASE = 3) := by decide +kernel
theorem witness_StripeRepair_retire :
    12 ≤ F.STE_RETIRE_SURF.of 12 % 16 ∧ (wit []).surfOn (surfIndex (F.STE_RETIRE_SURF.of 0)) = false ∧ F.STE_RETIRE_SURF.of 27 % 16 < 12 ∧
    (wit [(F.ZNE_SURF_MASK1, 0x800)]).surfOn (surfIndex (F.STE_RETIRE_SURF.of 27)) = true ∧ (wit [(F.ZNE_SURF_MASK1, 0x800)]).journalRoom 3 = true ∧
    ({ wit [(F.ZNE_SURF_MASK1, 0x800)] with vault := { jseq := 65536 } } : State).journalRoom 3 = false := by decide +kernel
/-- Surface 0 retired with chunk `k` of zone 0 lost on it, the zone's write pointer at `wp`; surface 1 has free slots when told. -/
def lost0 (k wp : Nat) (free : Bool) : State :=
  let s := { memSt { fitted := 0x80000000 } with
    regs := [(Rg.ZNE_FAIL, 1), (Rg.STE_MSTS, 1), (Rg.GLB_LOCK, 1)] ++
      (if free then [(Rg.ZNE_SURF, 2), (Rg.ZNE_RGN_W0 1 0, 0x40000000), (Rg.ZNE_RGN_W1 1 0, 1), (Rg.ZNE_RGN_W2 1 0, 548 + 137 * 4096)] else [])
    zne := { owners := [(5, k)] } }
  (s.setBytes (s.descAddr 0) (ZoneDesc.mk 2 false wp 0 0 0 0).bytes).store (s.entryAddr 0 k) 4 (mkEntry 1 0 0 5).toNat
theorem witness_StripeRepair_mend :
    ((wit [(F.STE_MSTS_PEND, 0)]).fget F.STE_MSTS_PEND = 0 ∧ (host [] {} { paused := true }).cqe.paused = true) ∧
    (let s := { (lost0 0 0 false) with zne := {} }
     s.fget F.STE_MSTS_PEND ≠ 0 ∧ s.cqe.paused = false ∧ s.moversRest = false ∧ s.locked = true ∧ s.mendNext.1 = none) ∧
    (let s := lost0 0 0 false
     s.mendNext.1 = some 0 ∧ min 256 ((s.mendNext.2.zdesc 0).end_ - chunkStart 0) = 0 ∧ s.mendNext.2.chooseSurf 0 0 = none) ∧
    ((lost0 0 0 true).mendNext.1 = some 0 ∧ (lost0 0 0 true).mendNext.2.chooseSurf 0 0 = some 1) ∧
    ((lost0 16 0 true).mendNext.1 = some 16 ∧ (lost0 16 0 true).mendNext.2.chooseSurf 0 16 = some 1) := by decide +kernel
theorem witness_StripeRepair_mend_data :
    (let u := (lost0 0 2 true).mendNext.2
     let row := fun (reads : List MemberRead) (i : Nat) => (u.reconstruct 0 0 i reads 0).isSome
     min 256 ((u.zdesc 0).end_ - chunkStart 0) = 2 ∧ row [⟨16, true, []⟩] 0 = true ∧ row [] 1 = false ∧ row [] 0 = false ∧ u.chooseSurf 0 0 = some 1 ∧ (wit [(F.CQE_PSTS_ENTRY, 1)]).moversRest = true) := by
  decide +kernel
/-- One sector of a read's media operation waits for its reconstruction; its member 0 is on the chunk map when told. -/
def part1 (stale : Bool) : ReadPart := ⟨5, 9, 0, 0, 0, 0, 0, 1, 0xB0000000, 0xB1000000, [0], if stale then [0] else [], false⟩
def recon1 (stale placed : Bool) : State :=
  { lost0 0 1 false with cqe := { parts := [part1 stale] }, zne := { places := if placed then [(0, 2)] else [] }, mem := if placed then (lost0 0 1 false).mem else [] }
theorem witness_StripeRepair_sectors :
    (wit []).cqe.parts.find? (fun p => p.zone == 0 && p.k == 0 && decide (p.first ≤ 0) && p.waiting.contains (0 - p.first)) = none ∧
    (recon1 false true).cqe.parts.find? (fun p => p.zone == 0 && p.k == 0 && decide (p.first ≤ 0) && p.waiting.contains (0 - p.first)) = some (part1 false) ∧
    (let m : ReconIn := ⟨0, 0, 0, 0, [⟨16, true, []⟩], [], true, true⟩
     ((recon1 false true).reconGot m).isSome = true ∧ (recon1 false true).reconGot { m with first := [] } = none ∧ m.checkOk = true ∧ { m with checkOk := false }.checkOk = false) ∧
    (let w := { cw true with waiting := [0] }
     ({ wit [] with zne := { writes := [w] } } : State).zne.writes.find? (fun w => w.zone == 0 && w.k == 0 && w.waiting.contains 0) = some w ∧
     (wit []).zne.writes.find? (fun w => w.zone == 0 && w.k == 0 && w.waiting.contains 0) = none) ∧
    ((part1 false).stale.contains 0 = false ∧ (part1 true).stale.contains 0 = true) ∧
    (let u := fun (b : Bool) => (recon1 false b).partSet (part1 false) (fun x => { x with waiting := x.waiting.filter (fun y => y != 0) })
     (u true).chunkSurf 0 0 = some 2 ∧ (u false).chunkSurf 0 0 = none) := by decide +kernel
theorem witness_StripeRepair_rinse :
    F.STE_RCTL_STOP.on (bit F.STE_RCTL_GO) = false ∧ F.STE_RCTL_GO.on (bit F.STE_RCTL_STOP) = false ∧
    (let r : Rinse := ⟨0, false, 0, 0, List.replicate 24 noRinse⟩
     let u := fun (s : State) => (s.fset F.STE_RCTL_CHECKP 0).fset F.STE_RCTL_RELOCREV 0
     (u (steSt { rinse := some r })).ste.rinse ≠ none ∧ (u (wit [])).ste.rinse = none ∧ (u (wit [])).inDdrRw ((u (wit [])).wide Rg.STE_RSADDR_LO) 832 = false ∧
     (let s := u ((memSt { fitted := 0x80000000 }).wideSet Rg.STE_RSADDR_LO 0xA4000000); s.wide Rg.STE_RSADDR_LO % 64 = 0 ∧ s.inDdrRw (s.wide Rg.STE_RSADDR_LO) 832 = true) ∧
     (wit []).ste.rinse = none ∧ (wit []).chunkSurf 0 0 = none ∧
     (let s := { lost0 0 1 false with ste := { rinse := some r } }
      s.ste.rinse = some r ∧ s.chunkSurf 0 0 = some 0 ∧ s.surfFailed 0 = true ∧
      (let t := ((s.wr Rg.ZNE_FAIL 0).wr Rg.STE_RMASK 1)
       t.surfFailed 0 = false ∧ (t.rd Rg.STE_RMASK).getLsbD (surfBit 0) = true ∧ entryState (t.entry 0 0) = 1 ∧ t.cqe.paused = false ∧ t.moversRest = false ∧ t.flag F.STE_RCTL_CHECKP = false ∧
       (let c := ((t.fsetB F.STE_RCTL_CHECKP true).store (t.entryAddr 0 16) 4 (mkEntry 1 0 2 3).toNat).store (t.entryAddr 0 17) 4 (mkEntry 1 0 3 3).toNat
        c.flag F.STE_RCTL_CHECKP = true ∧ c.stripeClosed 0 (0 / 18) = true)))) := by decide +kernel
theorem witness_StripeRepair_conv :
    (let b : WinBlk := ⟨1, 0, 5, false, true, false, false, [], []⟩
     let s := { (wit [(F.GLB_LOCK_LOCK, 1), (F.STE_STS_RUN, 1)]) with cqe := { buffer := [b] } }
     (wit []).convBlocks 5 = [] ∧ s.convBlocks 5 = [b] ∧ [b].any s.mediaRead = false ∧ [b].any s.olderWrite = false ∧ s.locked = true ∧ s.flag F.STE_STS_RUN = true ∧ s.journalRoom 10 = true ∧
     { s with vault := { jseq := 65536 } }.journalRoom 10 = false) := by decide +kernel
/-- A frame with a SEQ, whose check holds. -/
def frame (seq : Word) (req : Bool) : FrameIn := ⟨seq, true, req, 3⟩
/-- The twin chip with Branch Line fields. -/
def twin (l : List (Fld × Nat) := []) (b : BrlSt := {}) : State := { wit ([(F.GLB_CFG_TWIN, 1), (F.BRL_CTL_EN, 1), (F.BRL_STS_LINK, 1)] ++ l) with brl := b }
theorem witness_BranchLineFrames :
    (wit []).flag F.BRL_STS_LINK = false ∧ twin.flag F.BRL_STS_LINK = true ∧ ({ frame 8 false with crcOk := false } : FrameIn).crcOk = false ∧
    (∃ q, (twin [] { rxSeq := some 7 }).brl.rxSeq = some q ∧ (frame 9 false).seq ≠ q + 1) ∧
    (∀ q, (twin [] { rxSeq := some 7 }).brl.rxSeq = some q → (frame 8 false).seq = q + 1) ∧ (frame 8 true).crcOk = true ∧ (frame 8 true).req = true ∧
    ((1 : Word) ≠ (wit []).rd Rg.BRL_TWINID ∧ false = (wit [(F.GLB_CFG_SIDE, 0)]).flag F.GLB_CFG_SIDE) ∧
    (let u : FwdUse := ⟨4, ioh, .io .flush, true, []⟩
     (twin [] { fwds := [u] }).brl.dropped.contains 4 = false ∧ (twin [] { fwds := [u] }).brl.fwds.find? (fun u => u.slot == 4) = some u) ∧
    ((twin [(F.BRL_TKSTS_HELD, 4)]).twin = true ∧ (twin [(F.BRL_TKSTS_HELD, 4)]).holdsSpindle = true ∧ (twin [(F.BRL_TKSTS_HELD, 3)]).holdsSpindle = false) ∧
    ((twin [(F.BRL_STS_LINK, 0)]).flag F.BRL_CTL_EN = true ∧ (twin [(F.BRL_STS_LINK, 0)]).flag F.BRL_STS_LINK = false ∧ twin.flag F.BRL_STS_FENCED = false) ∧
    (let w : LineWait := ⟨3, .xrdy, false, true⟩
     twin.brl.waits.find? (fun w => w.tag == 3) = none ∧ (twin [] { waits := [w] }).brl.waits.find? (fun w => w.tag == 3) = some w ∧ w.again = true ∧ ({ w with again := false } : LineWait).again = false) :=
  ⟨by decide +kernel, by decide +kernel, rfl, ⟨7, rfl, by decide⟩, fun q h => by cases h; rfl, rfl, rfl, by decide +kernel, by decide +kernel, by decide +kernel, by decide +kernel, by decide +kernel⟩
theorem witness_TwinCommands_line :
    (F.BRL_CTL_CLRCNT.on 0 = false ∧ F.BRL_CTL_HANDBACK.on 0 = false ∧ F.BRL_CTL_FENCE.on 0 = false ∧ F.BRL_CTL_EN.on 0 = false) ∧
    twin.flag F.BRL_CTL_EN = true ∧ ((twin [(F.BRL_CTL_EN, 0)]).flag F.BRL_CTL_EN = false ∧ (twin [(F.BRL_CTL_EN, 0)]).mirrorGood = false) ∧
    (let s := { twin [(F.BRL_CTL_EN, 0), (F.BRL_MIRBASE_BLK, 0xB0), (F.ZNE_MDBASE_BLK, 0xA4), (F.CQE_CSTAGE_BLK, 0xA8), (F.CQE_CSTAGE_SIZE, 1)] with ms := { fitted := 0x100000000 } }
     s.flag F.BRL_CTL_EN = false ∧ s.mirrorGood = true) ∧
    (let u := fun (bad : Nat) (pad : Bool) => (twin [] { kicked := true, hbBad := bad }).brlMap (fun b => { b with hbo := !b.hbo, hbBad := if pad = !b.hbo then 0 else b.hbBad + 1 })
     (twin [] { kicked := true }).twin = true ∧ (twin [] { kicked := true }).flag F.BRL_STS_FENCED = false ∧ (twin [] { kicked := true }).brl.kicked = true ∧
     (u 0 false).brl.hbBad < 2 ∧ (u 1 true).brl.hbBad < 2 ∧ 2 ≤ (u 1 false).brl.hbBad) ∧
    ((wit []).twin = false ∧ (twin [(F.BRL_CTL_EN, 0)]).flag F.BRL_CTL_EN = false ∧ (twin [(F.BRL_STS_FENCED, 1)]).flag F.BRL_STS_FENCED = true ∧ twin.brl.kicked = false) ∧
    (twin.flag F.BRL_STS_LINK = true ∧ twin.flag F.BRL_STS_HBLOSS = false ∧ (twin [(F.BRL_STS_HBLOSS, 1)]).flag F.BRL_STS_HBLOSS = true) ∧
    (let u := fun (s : State) => ((((((s.fsetB F.BRL_STS_PSILENT true).fsetB F.BRL_STS_HBLOSS true).raiseEvent 117).raiseFault Blk.brl 0 2 2 0)).quiesce).anaUpdate
     twin.flag F.BRL_STS_PSILENT = false ∧ (u (twin [(F.BRL_STS_SENIOR, 1)])).flag F.BRL_STS_SENIOR = true ∧ (u (twin [(F.BRL_STS_SENIOR, 0)])).flag F.BRL_STS_SENIOR = false) := by
  decide +kernel
theorem witness_TwinCommands_takeover :
    (let due := fun (s : State) => s.twin = true ∧ s.flag F.BRL_STS_PSILENT = true ∧ s.flag F.BRL_STS_FENCED = false ∧ s.brl.synced = true ∧ s.flag F.BRL_STS_CARRY = false ∧ s.brl.tokWait = false
     let s := fun (n : Nat) => twin [(F.BRL_STS_PSILENT, 1), (F.BRL_STS_SENIOR, n)] { synced := true }
     ¬ due (wit []) ∧ due (s 1) ∧ (s 1).flag F.BRL_STS_SENIOR = true ∧ (s 0).flag F.BRL_STS_SENIOR = false) ∧
    (twin [] { tokWait := true }).brl.tokWait = true ∧ twin.brl.tokWait = false := by decide +kernel
theorem witness_TwinCommands_tokens :
    (let s := fun (level held : Nat) => twin [(F.GLB_CFG_SIDE, 0), (F.BRL_TKSTS_LEVEL, level), (F.BRL_TKSTS_HELD, held)]
     ((s 0 0).fget F.BRL_TKSTS_LEVEL).testBit 0 = (s 0 0).tokenLevel 0 ∧ (s 0 0).held.testBit 0 = false ∧ TokenBit .tokA = 0 ∧ TokenBit .tokB = 1 ∧ TokenBit .tokS = 2 ∧
     ((s 2 0).fget F.BRL_TKSTS_LEVEL).testBit 1 = (s 2 0).tokenLevel 1 ∧ ((s 0 0).fget F.BRL_TKSTS_LEVEL).testBit 2 = (s 0 0).tokenLevel 2 ∧
     (s 0 0).ownToken = 0 ∧ (1 : Nat) ≠ 2 ∧ (1 : Nat) ≠ (s 0 0).ownToken ∧ ((s 1 1).fget F.BRL_TKSTS_LEVEL).testBit 0 ≠ (s 1 1).tokenLevel 0 ∧ (s 1 1).held.testBit 0 = true ∧
     (1 == (s 0 2).partToken && !((s 0 2).fget F.BRL_TKSTS_DRIVE).testBit 1) = true ∧ (0 == (s 1 1).partToken && !((s 1 1).fget F.BRL_TKSTS_DRIVE).testBit 0) = false) := by decide +kernel
theorem witness_TwinCommands_steering :
    (F.BRL_STEER_SET.on (bit F.BRL_STEER_SET) = true ∧ F.BRL_STEER_SET.on 0 = twin.flag F.BRL_STEER_SET ∧ F.BRL_STEER_SET.on (bit F.BRL_STEER_SET) ≠ twin.flag F.BRL_STEER_SET) ∧
    (let may := fun (u : State) => u.twin && u.held.testBit u.partToken && u.sacIn .zero SacS.parked && u.sacIn .one SacS.parked && (u.msqOf .zero).cur.isNone && (u.msqOf .one).cur.isNone
     may twin = false ∧ may (twin [(F.BRL_TKSTS_HELD, 7)]) = true) ∧ twin.flag F.BRL_STEER_BUSY = false ∧
    ((twin [(F.BRL_STEER_BUSY, 1)]).flag F.BRL_STEER_BUSY = true ∧ (twin [(F.BRL_STEER_BUSY, 1)]).flag F.BRL_STEER_SET = false) ∧
    (let s := fun (h : HandBack) => twin [] { handBack := h }
     (s .idle).brl.handBack = .idle ∧ ((s .locks).brl.handBack = .locks ∧ ((s .locks).cqe.il.filter (fun e => e.req.owner == 5 && e.req.part && e.held)).length < 2) ∧
     (let c := { s .commit with cqe := { buffer := [⟨(s .commit).zonedNsid true, 0, 0, false, true, false, false, [], []⟩] } }
      c.brl.handBack = .commit ∧ c.cqe.buffer.any (fun b => b.early && c.isPartner b.nsid) = true) ∧
     ({ s .checkpoint with ste := { cpPend := true } } : State).ste.cpPend = true ∧ (twin [] { handBack := .copy, copyNext := some 0 }).brl.copyNext ≠ none ∧
     (let p := twin [(F.BRL_STEER_SET, 1), (F.SAC_STS_PARKED .zero, 0)] { handBack := .park }
      p.brl.handBack = .park ∧ p.flag F.BRL_STEER_SET = true ∧ p.bothParked = false) ∧ ((s .park).brl.handBack = .park ∧ (s .park).flag F.BRL_STEER_SET = false)) := by decide +kernel
/-- A slot image that passes its checks, and one that fails them. -/
def goodImage : SlotImage := ⟨none, 0, 1, [⟨1, true, 0, [0, 0, 0, 0, 1]⟩, ⟨2, true, 0, []⟩]⟩
def badImage : SlotImage := ⟨some 0x12, 0, 1, []⟩
theorem witness_ChipCommands_reset :
    ({ wit [] with flt := { fatalHold := true } } : State).flt.fatalHold = true ∧ (wit []).flt.fatalHold = false ∧
    (let taken := fun (s : State) (v : Word) => F.GLB_RST_KEY.of v = 0x5A17 ∧ F.GLB_RST_DEVRST.on v = true ∧ s.core.resetDue = none ∧ s.ms.faultReset = false ∧ s.flt.fatalSeq = false ∧
       s.pwr.saving = none ∧ s.pwr.held = false
     taken (wit []) (0x5A170000 ||| bit F.GLB_RST_DEVRST) ∧ ¬ taken (wit []) 0) ∧
    ((wit []).core.resetDue = none ∧ ({ wit [] with core := { resetDue := some 2 } } : State).core.resetDue = some 2) ∧ (wit [(F.SEC_BOOTSTS_STEP, 7)]).fget F.SEC_BOOTSTS_STEP ≠ 0 := by
  decide +kernel
theorem witness_ChipCommands_start :
    (let s := wit []
     s.fget F.SEC_BOOTSTS_STEP = 0 ∧ s.fget F.SEC_BOOTSTS_CODE = 0 ∧ s.core.resetDue = none ∧ s.pwr.held = false ∧ s.flt.fatalHold = false) ∧
    (let u := fun (n : Nat) => (wit [(F.GLB_CFG_STRAP, n)]).vaultLoads.markWord.startRecord.startLoads.bootStep 1
     let w := fun (f : Option Flash) => ((u 0).flashPlaced f).bootStep 2
     let fl := fun (r : Bool) (a b : SlotImage) => (⟨r, none, none, a, b⟩ : Flash)
     (u 2).fget F.GLB_CFG_STRAP = 2 ∧ (u 0).fget F.GLB_CFG_STRAP ≠ 2 ∧ (u 1).fget F.GLB_CFG_STRAP = 1 ∧ (w none).flash = none ∧
     (w (some (fl false badImage badImage))).flash = some (fl false badImage badImage) ∧ (fl true goodImage badImage).responds = true ∧
     slotCheck (flashSlot (fl true goodImage badImage) 1) (((w none).bootStep 3).fget F.SEC_SVN_SVNMIN) = none ∧
     slotCheck (flashSlot (fl true badImage goodImage) 1) (((w none).bootStep 3).fget F.SEC_SVN_SVNMIN) = some 0x12 ∧
     slotCheck (flashSlot (fl true badImage goodImage) (3 - 1)) (((w none).bootStep 3).fget F.SEC_SVN_SVNMIN) = none ∧
     slotCheck (flashSlot (fl true badImage badImage) (3 - 1)) (((w none).bootStep 3).fget F.SEC_SVN_SVNMIN) = some 0x12) := by decide +kernel
theorem witness_ChipCommands_training :
    (let s := fun (l : List (Fld × Nat)) (z : Byte) => { wit ([(F.SEC_BOOTSTS_STEP, 4), (F.SEC_BOOTSTS_SLOT, 1)] ++ l) with
        flash := some ⟨true, none, none, ⟨none, 0, 1, [⟨1, true, 0, [0, 0, 0, 0, 1, 0, z, 0]⟩, ⟨2, true, 0, []⟩]⟩, badImage⟩ }
     let u := fun (l : List (Fld × Nat)) => ((((s l 0).fsetB F.MEM_DDRSTS_TRAINED true).msMap (fun m => { m with fitted := 2 * 2 ^ 30 })).bootStep 5)
     (s [] 0).fget F.SEC_BOOTSTS_STEP = 4 ∧ (s [] 0).fget F.SEC_BOOTSTS_CODE = 0 ∧ (s [] 0).flag F.MEM_DDRSTS_TRAINED = false ∧ (s [] 0).bootImage.isSome = true ∧
     (wit []).fget F.SEC_BOOTSTS_STEP ≠ 4 ∧ (s [(F.MEM_DDRCFG_SIZE, 3)] 0).fget F.MEM_DDRCFG_SIZE = 3 ∧ (s [] 0).fget F.MEM_DDRCFG_SIZE ≠ 3 ∧ (1 : Nat) < 2 ∧
     ((u [(F.GLB_CFG_TWIN, 1)]).twin = true ∧ (3 : Nat) < 4) ∧ (u []).twin = false ∧ (∀ i ∈ (s [] 0).bootImage, imageZones i ≤ 524288) ∧ (∀ i ∈ (s [] 16).bootImage, 524288 < imageZones i)) ∧
    (wit [(F.GLB_LOCK_LOCK, 1)]).locked = true ∧ (wit []).locked = false := by decide +kernel
theorem witness_RegisterCommands :
    (Rg.TTB_CTL % 4 = 0 ∧ bar0Of Rg.TTB_CTL = none ∧ Rg.TTB_MISS_LO % 8 = 0) ∧ (∃ p k, bar0Of 0x4000014 = some (p, k)) ∧ (0x4000014 % 4 = 0) ∧
    (¬ (3 = 4 ∧ Rg.TTB_CTL % 4 = 0) ∧ ¬ (4 = 4 ∧ 2 % 4 = 0) ∧ ¬ (8 = 8 ∧ 4 % 8 = 0)) ∧ (0x160000 ≤ 0x160000 ∧ 0x160000 < 0x2000000 ∧ 0x1FFFFFC < 0x2000000 ∧ 0x1FFFFFC % 4 = 0) ∧
    regRow 0x160000 = none ∧ (wideLow Rg.TTB_MISS_LO = true ∧ Rg.TTB_MISS_LO ≠ Rg.FLT_MSG_LO ∧ Rg.TTB_MISS_LO ≠ Rg.CQE_ILDATA 0 ∧ bar0Of Rg.TTB_MISS_LO = none) ∧
    (4 ≤ Rg.TTB_MISS_HI ∧ wideLow (Rg.TTB_MISS_HI - 4) = true ∧ wideLow Rg.TTB_MISS_HI = false ∧ bar0Of Rg.TTB_MISS_HI = none) ∧
    ({ wit [] with shadows := [(Rg.TTB_MISS_LO, 9)] } : State).shadows.find? (fun p => p.1 == Rg.TTB_MISS_HI - 4) = some (Rg.TTB_MISS_LO, 9) ∧
    (wit []).shadows.find? (fun p => p.1 == Rg.TTB_MISS_HI - 4) = none :=
  ⟨by decide +kernel, ⟨.zero, 0x14, by decide +kernel⟩, by decide +kernel, by decide +kernel, by decide +kernel, by decide +kernel, by decide +kernel, by decide +kernel, by decide +kernel,
    by decide +kernel⟩
theorem witness_ProcessorCluster :
    (wit []).hartRuns 1 = false ∧ (wit []).hartRuns 0 = true ∧ ((wit []).region 0x20000 4).isNone = true ∧ ((wit []).region 0x1FFFE 4).isNone = true ∧
    ((wit []).region 0x10000000 8).isSome = true ∧ (∀ g ∈ (wit []).region 0x11840000 4, g.fetches = true ∧ g.stores = true) ∧ (∀ g ∈ (wit []).region 0x18000000 4, g.fetches = false) ∧
    (∀ g ∈ (wit []).region 0x1FFFC 4, g.stores = false) ∧ ((wit []).region 0x1FFFC 4).isSome = true ∧ (0x7C0 ∈ [0x7C0, 0x7C1, 0x7C2, 0xFC0, 0xFC1]) ∧ (wit []).claimNext 0 = none ∧
    ({ wit [(F.EVR_ROUTE_HARTS 3, 1), (F.EVR_ROUTE_PRIO 3, 15)] with evr := { hart := bit640 3 } } : State).claimNext 0 = some 3 ∧ (1 : Fin 4) ≠ 0 ∧
    (({ wit [] with core := { gather := [(0x2000000, 1, 0)] } } : State).core.gather.any (fun p => p.1 == 0x10000000 / 8) = true) ∧
    (wit []).core.gather.any (fun p => p.1 == 0x10000000 / 8) = false := by decide +kernel
theorem witness_StepTakesTheFront : ({ wit [] with pending := [.mergeDrain] } : State).pending = .mergeDrain :: [] ∧ State.reset.pending = [] := by decide +kernel
/-- The reset state is canonical, and a step from it answers a next state. -/
theorem witness_StepKeepsCanonicalForm : State.reset.canonical ∧ ∃ t, step { State.reset with pending := [.mergeDrain] } = .next t :=
  ⟨⟨by decide, by decide, by decide⟩, ⟨_, rfl⟩⟩
theorem witness_RegisterWriteCodes : (regRow Rg.TTB_CTL).isSome = true ∧ regRow 0x160000 = none ∧ (0x160000 : Nat) ≠ Rg.TTB_CTL ∧ F.TTB_CTL_EN.lo + F.TTB_CTL_EN.w ≤ 32 ∧
    F.TTB_CTL_EN.lo + F.TTB_CTL_EN.w ≤ F.TTB_CTL_SRC.lo := by decide +kernel
theorem witness_CountersSaturate : (wit []).wide Rg.TTB_MISS_LO ≤ 0xFFFFFFFFFFFF ∧ ((wit []).wideSet Rg.TTB_MISS_LO 0xFFFFFFFFFFFF).wide Rg.TTB_MISS_LO = 0xFFFFFFFFFFFF ∧
    (Rg.TTB_CTL ≠ Rg.TTB_MISS_LO ∧ Rg.TTB_CTL ≠ Rg.TTB_MISS_LO + 4) := by decide +kernel
theorem witness_EventsAndFaultMessages : (eventSource 0 = true ∧ 639 < 640) ∧ (wit []).forced Blk.pwr 0 1 = false ∧ faultSource Blk.pwr 0 ≠ faultSource Blk.flt 0 := by decide +kernel
theorem witness_MemoryReadsBack : (0x10000000 + 4 ≤ 0x10000004) ∧ Memory.wf (wit []).mem = true ∧ (0x10000003 < 0x10000000 + ([1, 2, 3, 4] : List Byte).length) := by decide +kernel
/-- Two bytes of the S-box and one column of MixColumns, as the standard that R348 names prints them. -/
theorem test_cipher_sbox : aesSub 0x53 = 0xED ∧ aesUnsub 0xED = 0x53 ∧ aesSub 0x00 = 0x63 := by decide +kernel
theorem test_cipher_mix : (aesMix [2, 3, 1, 1] [0xDB, 0x13, 0x53, 0x45, 0, 0, 0, 0, 0, 0, 0, 0, 0, 0, 0, 0]).take 4 = [0x8E, 0x4D, 0xA1, 0xBC] := by decide +kernel

end Sys2Proof.Tests
end

section
/-! What register accesses and statistical counters do (spec/00_scope.md: R4, R5, R10, R11, R18), and the two statements about them.  First one equation per
case of each access of Machine/Vendor.lean, then the offsets above the last block, where every case ends in the plain one; the statements are put together
from these. -/
namespace Sys2Proof.Machine

/-! Accesses by size -/

theorem exec_registerWrite (s : State) (o n : Nat) (v : BitVec 64) : exec (.registerWrite o n v) s = .next (s.sizedWrite o n v) := rfl

theorem sizedWrite_word (s : State) {o : Nat} (v : BitVec 64) (h : o % 4 = 0) : s.sizedWrite o 4 v = s.busWrite o (v.setWidth 32) :=
  if_pos ⟨rfl, h⟩

theorem sizedWrite_doubleword (s : State) {o : Nat} (v : BitVec 64) (h : o % 8 = 0) :
    s.sizedWrite o 8 v = (s.busWrite o (v.setWidth 32)).busWrite (o + 4) (v.extractLsb' 32 32) :=
  (if_neg (by omega)).trans (if_pos ⟨rfl, h⟩)

theorem sizedWrite_discarded (s : State) {o n : Nat} (v : BitVec 64) (h4 : ¬ (n = 4 ∧ o % 4 = 0)) (h8 : ¬ (n = 8 ∧ o % 8 = 0)) : s.sizedWrite o n v = s :=
  (if_neg h4).trans (if_neg h8)

theorem sizedRead_word (s : State) {o : Nat} (h : o % 4 = 0) : s.sizedRead o 4 = ((s.busRead o).1.setWidth 64, (s.busRead o).2) :=
  if_pos ⟨rfl, h⟩

theorem sizedRead_doubleword (s : State) {o : Nat} (h : o % 8 = 0) :
    s.sizedRead o 8 = (((s.busRead o).2.busRead (o + 4)).1 ++ (s.busRead o).1, ((s.busRead o).2.busRead (o + 4)).2) :=
  (if_neg (by omega)).trans (if_pos ⟨rfl, h⟩)

theorem sizedRead_discarded (s : State) {o n : Nat} (h4 : ¬ (n = 4 ∧ o % 4 = 0)) (h8 : ¬ (n = 8 ∧ o % 8 = 0)) : s.sizedRead o n = (0, s) :=
  (if_neg h4).trans (if_neg h8)

/-- An aligned word read is kept whole: widening it to the 64 bits of a sized read and cutting it again loses nothing. -/
theorem readKept_sizedRead_word (s : State) {o : Nat} (h : o % 4 = 0) :
    State.readKept (s.sizedRead o 4) = (s.busRead o).2.coreMap (fun c => { c with rdata := (s.busRead o).1 }) := by
  rw [sizedRead_word s h, State.readKept, BitVec.setWidth_setWidth_of_le _ (by decide), BitVec.setWidth_eq]

/-! The vendor window and a port's registers -/

theorem busWrite_window (s : State) {o : Nat} (v : Word) (h : bar0Of o = none) : s.busWrite o v = s.write32 o v := by
  rw [State.busWrite, h]

theorem busWrite_port (s : State) {o k : Nat} {p : Port} (v : Word) (h : bar0Of o = some (p, k)) : s.busWrite o v = s.nvmeWrite p k v := by
  rw [State.busWrite, h]

theorem busRead_window (s : State) {o : Nat} (h : bar0Of o = none) : s.busRead o = s.read32 o := by
  rw [State.busRead, h]

/-- A word read in the vendor window: the two commands differ in name only, and keep what the window answers. -/
theorem exec_wideRead_window (s : State) {o : Nat} (h4 : o % 4 = 0) (hb : bar0Of o = none) :
    exec (.wideLowRead o) s = .next ((s.read32 o).2.coreMap (fun c => { c with rdata := (s.read32 o).1 })) ∧
    exec (.wideHighRead o) s = .next ((s.read32 o).2.coreMap (fun c => { c with rdata := (s.read32 o).1 })) := by
  rw [← busRead_window s hb, ← readKept_sizedRead_word s h4]
  exact ⟨rfl, rfl⟩

/-! Wide pairs (R10): neither register is one whose read has an effect of its own -/

theorem read32_wideLow (s : State) {o : Nat} (hm : o ≠ Rg.FLT_MSG_LO) (hi : o ≠ Rg.CQE_ILDATA 0) (hl : wideLow o = true) :
    s.read32 o = (s.view o, { s with shadows := insertKey o (s.view (o + 4)) (dropKey o s.shadows) }) := by
  rw [State.read32, if_neg hm, if_neg hi, if_pos hl]

theorem read32_wideHigh_held (s : State) {o : Nat} {p : Nat × Word} (hm : o ≠ Rg.FLT_MSG_LO) (hi : o ≠ Rg.CQE_ILDATA 0) (hl : wideLow o = false)
    (hh : 4 ≤ o ∧ wideLow (o - 4) = true) (hp : s.shadows.find? (fun p => p.1 == o - 4) = some p) :
    s.read32 o = (p.2, { s with shadows := dropKey (o - 4) s.shadows }) := by
  rw [State.read32, if_neg hm, if_neg hi, if_neg (by simp [hl]), if_pos hh, hp]

theorem read32_wideHigh_live (s : State) {o : Nat} (hm : o ≠ Rg.FLT_MSG_LO) (hi : o ≠ Rg.CQE_ILDATA 0) (hl : wideLow o = false)
    (hh : 4 ≤ o ∧ wideLow (o - 4) = true) (hp : s.shadows.find? (fun p => p.1 == o - 4) = none) : s.read32 o = (s.view o, s) := by
  rw [State.read32, if_neg hm, if_neg hi, if_neg (by simp [hl]), if_pos hh, hp]

theorem read32_plain (s : State) {o : Nat} (hm : o ≠ Rg.FLT_MSG_LO) (hi : o ≠ Rg.CQE_ILDATA 0) (hl : wideLow o = false) (hh : wideLow (o - 4) = false) :
    s.read32 o = (s.view o, s) := by
  rw [State.read32, if_neg hm, if_neg hi, if_neg (by simp [hl]), if_neg (by simp [hh])]

/-! Offsets without a register (R5, R18) -/

theorem codeWrite_noRegister (s : State) {o : Nat} (v : Word) (h : regRow o = none) : s.codeWrite o v = s := by
  rw [State.codeWrite, h]

theorem view_noRegister (s : State) {o : Nat} (h : regRow o = none) : s.view o = 0 := by
  rw [State.view, h]; rfl

/-- No block has a window with a number above 21 (Table 1.5). -/
theorem blockRows_above {k : Nat} (h : 22 ≤ k) : blockRows k = [] := by
  obtain ⟨j, rfl⟩ := Nat.exists_eq_add_of_le' h
  rfl

theorem regRow_above {o : Nat} (h : 0x160000 ≤ o) : regRow o = none := by
  rw [regRow, blockRows_above (by omega)]; rfl

/-- The last window that holds a wide pair is that of BRL, number 20. -/
theorem wideOffsets_above {k : Nat} (h : 21 ≤ k) : wideOffsets k = [] := by
  obtain ⟨j, rfl⟩ := Nat.exists_eq_add_of_le' h
  rfl

theorem wideLow_above {o : Nat} (h : 0x150000 ≤ o) : wideLow o = false := by
  rw [wideLow, wideOffsets_above (by omega)]; rfl

theorem bar0Of_below {o : Nat} (h : o < 0x4000000) : bar0Of o = none := by
  rw [bar0Of, if_neg (by simp only [bar0Base]; omega), if_neg (by simp only [bar0Base]; omega)]

theorem evrRoute_lt (n : Nat) : Rg.EVR_ROUTE n < 0x160000 := by
  unfold Rg.EVR_ROUTE; omega

/-- Above the last window no register has a meaning of its own: what is left is the plain write. -/
theorem safetyWrite_above (s : State) {o : Nat} (v : Word) (h : 0x160000 ≤ o) : s.safetyWrite o v = s.codeWrite o v := by
  have hne : ∀ r, r < 0x160000 → o ≠ r := by omega
  have hroute := evrRoute_lt 639
  rw [State.safetyWrite, if_neg (hne _ (by decide)), if_neg (hne _ (by decide)), if_neg (hne _ (by decide)), if_neg (by omega),
    if_neg (hne _ (by decide)), if_neg (by omega), if_neg (hne _ (by decide)), if_neg (hne _ (by decide)), if_neg (hne _ (by decide))]

theorem write32_above (s : State) {o : Nat} (v : Word) (h : 0x160000 ≤ o) : s.write32 o v = s := by
  obtain ⟨j, hj⟩ : ∃ j, o / 0x10000 = j + 22 := Nat.exists_eq_add_of_le' (by omega)
  have hw : s.write32 o v = s.safetyWrite o v := by rw [State.write32, hj]; rfl
  rw [hw, safetyWrite_above s v h, codeWrite_noRegister s v (regRow_above h)]

theorem read32_above (s : State) {o : Nat} (h : 0x160000 ≤ o) : s.read32 o = (0, s) := by
  have hne : ∀ r, r < 0x160000 → o ≠ r := by omega
  rw [read32_plain s (hne _ (by decide)) (hne _ (by decide)) (wideLow_above (by omega)) (wideLow_above (by omega)),
    view_noRegister s (regRow_above h)]

/-! Counters (R11) -/

theorem rd_wideSet_ne (s : State) {o p : Nat} (n : Nat) (hl : p ≠ o) (hh : p ≠ o + 4) : (s.wideSet o n).rd p = s.rd p := by
  rw [State.wideSet, rd_wr, if_neg hh, rd_wr, if_neg hl]

theorem wide_count (s : State) (o n : Nat) : (s.count o n).wide o = min countMax (s.wide o + n) :=
  wide_wideSet _ _ _ (Nat.lt_of_le_of_lt (Nat.min_le_left _ _) (by decide))

theorem wide_clearCount (s : State) (o : Nat) : (s.clearCount o).wide o = 0 :=
  wide_wideSet _ _ _ (by decide)

end Sys2Proof.Machine

open Sys2Proof Sys2Proof.Machine

/-- Settles O57: a count is a wide write of the sum cut at the largest count, which reads back whole; clearing is a wide write of 0. -/
theorem countersSaturate : Obligations.CountersSaturate := by
  refine ⟨fun s o n _ => ⟨wide_count s o n, ?_⟩, fun s o n hfull => ?_, wide_clearCount, fun s o p n hl hh => ?_, fun s o n => ?_⟩
  · rw [wide_count]
    exact Nat.min_le_left _ _
  · rw [wide_count, hfull]
    exact Nat.min_eq_left (Nat.le_add_right _ _)
  · exact ⟨rd_wideSet_ne s _ hl hh, rd_wideSet_ne s _ hl hh⟩
  · exact ⟨count_mem s o n, clearCount_mem s o⟩

/-- Settles O50, clause by clause: size and alignment choose the case of the sized access, the offset that of the word access. -/
theorem registerCommands : Obligations.RegisterCommands := by
  refine ⟨fun s o v => ⟨fun h4 => ?_, fun h8 => ?_⟩, fun s o n v h4 h8 => ?_, fun s o => ⟨sizedRead_word s, sizedRead_doubleword s⟩,
    fun s o v hlo hhi h4 => ?_, fun s o v hr => ⟨codeWrite_noRegister s v hr, view_noRegister s hr⟩, fun s o h4 hb hl hm hi => ?_,
    fun s o h4 ho hb hh hl hm hi => ?_⟩
  · rw [exec_registerWrite, sizedWrite_word s v h4]
    exact ⟨fun hb => by rw [busWrite_window s _ hb], fun p k hb => by rw [busWrite_port s _ hb]⟩
  · rw [exec_registerWrite, sizedWrite_doubleword s v h8]
  · rw [exec_registerWrite, sizedWrite_discarded s v h4 h8]
    exact ⟨rfl, sizedRead_discarded s h4 h8⟩
  · have hb : bar0Of o = none := bar0Of_below (by omega)
    rw [exec_registerWrite, sizedWrite_word s v h4, busWrite_window s _ hb, write32_above s _ hlo, busRead_window s hb, read32_above s hlo]
    exact ⟨rfl, rfl⟩
  · obtain ⟨hread, -⟩ := exec_wideRead_window s h4 hb
    rw [hread, read32_wideLow s hm hi hl]; rfl
  · obtain ⟨-, hread⟩ := exec_wideRead_window s h4 hb
    rw [hread]
    refine ⟨fun p hp => ?_, fun hp => ?_⟩
    · rw [read32_wideHigh_held s hm hi hl ⟨ho, hh⟩ hp]; rfl
    · rw [read32_wideHigh_live s hm hi hl ⟨ho, hh⟩ hp]; rfl
end

section
/-! Near angles (spec/02_timetable.md: R30) and the statement about them.  The model's `sext` is the library's `BitVec.toInt`, so the difference of two near
angles is the signed reading of their difference as words, and a near angle is widened by adding a sign-extended word, which the low half undoes. -/
namespace Sys2Proof.Machine

theorem sext_toNat {w : Nat} (x : BitVec w) : sext w x.toNat = x.toInt := by
  have hhalf : x.toNat < 2 ^ (w - 1) ↔ 2 * x.toNat < 2 ^ w := by
    cases w with
    | zero => simp [BitVec.of_length_zero]
    | succ w => rw [Nat.add_sub_cancel, Nat.pow_succ']; omega
  rw [sext, Nat.mod_eq_of_lt x.isLt, BitVec.toInt_eq_toNat_cond]
  exact if_congr hhalf rfl rfl

/-! The difference of two near angles -/

theorem nearDiff_eq_toInt (a b : Word) : nearDiff a b = (a - b).toInt := sext_toNat (a - b)

theorem neg_two_pow_le_nearDiff (a b : Word) : -(2 ^ 31) ≤ nearDiff a b := by
  rw [nearDiff_eq_toInt]; exact BitVec.le_toInt _

theorem nearDiff_lt_two_pow (a b : Word) : nearDiff a b < 2 ^ 31 := by
  rw [nearDiff_eq_toInt]; exact BitVec.toInt_lt

/-- The subtraction of words and the signed reading each add a multiple of 2^32. -/
theorem nearDiff_congr_sub (a b : Word) : (nearDiff a b - ((a.toNat : Int) - b.toNat)) % 2 ^ 32 = 0 := by
  have hsub : (a - b).toNat = (2 ^ 32 - b.toNat + a.toNat) % 2 ^ 32 := BitVec.toNat_sub a b
  have hb : b.toNat < 2 ^ 32 := b.isLt
  rw [nearDiff_eq_toInt, BitVec.toInt_eq_toNat_cond]
  split <;> omega

theorem nearDiff_eq_zero_iff (a b : Word) : nearDiff a b = 0 ↔ a = b := by
  rw [nearDiff_eq_toInt, ← BitVec.toInt_zero (w := 32), BitVec.toInt_inj]
  exact sub_eq_zero

/-! The near angle and the full angle -/

theorem nearOf_toNat (x : Angle) : (nearOf x).toNat = x.toNat % 2 ^ 32 := BitVec.toNat_setWidth 32 x

theorem nearOf_add (x y : Angle) : nearOf (x + y) = nearOf x + nearOf y := BitVec.setWidth_add x y (by decide)

theorem nearOf_signExtend (d : Word) : nearOf (d.signExtend 64) = d := by
  refine BitVec.eq_of_getLsbD_eq fun i hi => ?_
  have hi64 : i < 64 := by omega
  rw [nearOf, BitVec.getLsbD_setWidth, BitVec.getLsbD_signExtend, if_pos hi, decide_eq_true hi, decide_eq_true hi64, Bool.true_and, Bool.true_and]

theorem fullOf_eq_add_signExtend (now : Angle) (n : Word) : fullOf now n = now + (n - nearOf now).signExtend 64 := by
  rw [fullOf, nearDiff_eq_toInt, BitVec.signExtend]

theorem nearOf_fullOf (now : Angle) (n : Word) : nearOf (fullOf now n) = n := by
  rw [fullOf_eq_add_signExtend, nearOf_add, nearOf_signExtend]
  exact add_sub_cancel _ _

end Sys2Proof.Machine

open Sys2Proof Sys2Proof.Machine

/-- Settles O60: the distance from now to the full angle that a near angle means is a difference of near angles, and 64 revolutions are 2^31 phase units. -/
theorem nearAngles : Obligations.NearAngles := by
  refine ⟨nearOf_toNat, fun a b => ?_, fun now n => ⟨nearOf_fullOf now n, nearDiff n (nearOf now), ?_, ?_, rfl⟩⟩
  · exact ⟨neg_two_pow_le_nearDiff a b, nearDiff_lt_two_pow a b, nearDiff_congr_sub a b, nearDiff_eq_zero_iff a b⟩
  · exact neg_two_pow_le_nearDiff n (nearOf now)
  · exact nearDiff_lt_two_pow n (nearOf now)
end

section
/-! The step of the block and the state after reset (spec/00_scope.md: R5, R6; assumptions 1 to 3), and the statements about them: every command answers a next
state, a step takes the front of the queue, and a canonical state stays canonical. -/
namespace Sys2Proof.Machine

/-- Every arm of the dispatch calls a meaning that answers `next`. -/
theorem exec_next (c : Instr) (s : State) : ∃ t, exec c s = .next t := by
  cases c <;> exact ⟨_, rfl⟩

theorem exec_not_stops (c : Instr) (s : State) : ¬ stops (exec c s) := by
  obtain ⟨t, ht⟩ := exec_next c s
  rw [ht]
  exact id

theorem step_of_pending_nil {s : State} (h : s.pending = []) : step s = .next s.cycle := by
  rw [step, h]

theorem step_of_pending_cons {s : State} {c : Instr} {rest : List Instr} (h : s.pending = c :: rest) : step s = exec c { s with pending := rest } := by
  rw [step, h]

theorem rd_reset (o : Nat) : State.reset.rd o = regReset o := by
  rw [State.rd, State.reset]; unfold look; rfl

theorem byte_reset (a : Nat) : State.reset.byte a = memDefault a := by
  rw [State.byte, State.reset]; unfold look; rfl

theorem regReset_noRegister {o : Nat} (h : regRow o = none) : regReset o = 0 := by
  rw [regReset, h]

theorem fget_reset (f : Fld) : State.reset.fget f = bitsOf (regReset f.addr) f.lo f.w := by
  rw [State.fget, rd_reset]

end Sys2Proof.Machine

open Sys2Proof Sys2Proof.Machine

/-- Settles O54: a command keeps the rest of the queue and the forms, and so does a cycle of the clock. -/
theorem stepKeepsCanonicalForm : Obligations.StepKeepsCanonicalForm := by
  intro s t hs hstep
  cases hp : s.pending with
  | nil =>
    rw [step_of_pending_nil hp] at hstep
    obtain ⟨hpend, hfree, hcanon⟩ := keeps_next hstep (State.cycle_keeps (Keeps.refl s))
    exact ⟨hcanon hs, hpend.trans hp, hfree⟩
  | cons c rest =>
    rw [step_of_pending_cons hp] at hstep
    obtain ⟨hpend, hfree, hcanon⟩ := exec_keeps (Keeps.refl { s with pending := rest }) c t hstep
    exact ⟨hcanon hs, hpend, hfree⟩

/-- Settles O52, from the two cases of the queue. -/
theorem stepTakesTheFront : Obligations.StepTakesTheFront :=
  ⟨fun _ _ _ => step_of_pending_cons rfl, fun _ _ _ => step_of_pending_cons, fun _ => step_of_pending_nil⟩

/-- Settles O55: no command stops, and a step is a command or a cycle of the clock. -/
theorem noCommandStops : Obligations.NoCommandStops := by
  refine ⟨exec_not_stops, fun s => ?_⟩
  cases hp : s.pending with
  | nil => rw [step_of_pending_nil hp]; exact id
  | cons c rest => rw [step_of_pending_cons hp]; exact exec_not_stops c _

/-- Settles O53: an empty map of registers and an empty memory read their defaults. -/
theorem resetState : Obligations.ResetState := by
  refine ⟨rfl, rfl, rfl, ⟨rfl, rfl, rfl⟩, rd_reset, byte_reset, fun o ho => ?_, ?_, ?_, ?_⟩
  · rw [rd_reset, regReset_noRegister ho]
  · rw [State.locked, State.flag, fget_reset]; decide
  · rw [rd_reset]; decide
  · rw [State.flag, fget_reset]; decide
end

section
/-! Register bits, memory, events and fault messages (spec/00_scope.md: R3, R5 to R8; spec/15_faults_safety.md: R324, R331, R333), and the statements about
them. -/
namespace Sys2Proof.Machine

/-! A plain register write by its access codes -/

theorem rd_codeWrite_ne (s : State) {o p : Nat} (v : Word) (h : p ≠ o) : (s.codeWrite o v).rd p = s.rd p := by
  cases hr : regRow o with
  | none => rw [codeWrite_noRegister s v hr]
  | some r => rw [State.codeWrite, hr]; exact (rd_wr _ _ _ _).trans (if_neg h)

/-- The bits that a plain write may replace: RW bits, and RWL bits while GLB_LOCK is clear. -/
def State.writable (s : State) (r : RegRow) : Nat := if s.locked then r.rw else r.rw ||| r.rwl

theorem testBit_writable (s : State) (r : RegRow) (i : Nat) :
    (s.writable r).testBit i = true ↔ r.rw.testBit i = true ∨ (r.rwl.testBit i = true ∧ s.locked = false) := by
  cases hl : s.locked <;> simp [State.writable, hl, Nat.testBit_or]

theorem rd_codeWrite_same (s : State) {o : Nat} {r : RegRow} (v : Word) (h : regRow o = some r) :
    (s.codeWrite o v).rd o = ((s.rd o &&& ~~~ BitVec.ofNat 32 (s.writable r)) ||| (v &&& BitVec.ofNat 32 (s.writable r))) &&& ~~~ (v &&& BitVec.ofNat 32 r.w1c) |||
      (v &&& BitVec.ofNat 32 r.w1s) := by
  rw [State.codeWrite, h]
  exact (rd_wr _ _ _ _).trans (if_pos rfl)

theorem getLsbD_codeWrite (s : State) {o i : Nat} {r : RegRow} (v : Word) (h : regRow o = some r) (hi : i < 32) :
    ((s.codeWrite o v).rd o).getLsbD i =
      (if r.w1s.testBit i = true ∧ v.getLsbD i = true then true
       else if r.w1c.testBit i = true ∧ v.getLsbD i = true then false
       else if r.rw.testBit i = true ∨ (r.rwl.testBit i = true ∧ s.locked = false) then v.getLsbD i
       else (s.rd o).getLsbD i) := by
  rw [rd_codeWrite_same s v h]
  simp only [← testBit_writable, BitVec.getLsbD_or, BitVec.getLsbD_and, BitVec.getLsbD_not, BitVec.getLsbD_ofNat, hi, decide_true, Bool.true_and]
  cases r.w1s.testBit i <;> cases r.w1c.testBit i <;> cases (s.writable r).testBit i <;> cases v.getLsbD i <;> simp

/-! Stored numbers -/

theorem load_store_same (s : State) (a n v : Nat) : (s.store a n v).load a n = v % 256 ^ n := by
  have hb : (s.store a n v).bytes a n = leBytes n v := by
    have := bytes_setBytes s a (leBytes n v)
    rwa [length_leBytes] at this
  rw [State.load, hb, ofLe_leBytes]

theorem load_store_apart (s : State) {a n b m : Nat} (v : Nat) (h : b + m ≤ a ∨ a + n ≤ b) : (s.store a n v).load b m = s.load b m := by
  rw [State.load, State.store, bytes_setBytes_apart _ _ _ _ _ (by rwa [length_leBytes])]; rfl

theorem setBytes_wf (s : State) (a : Nat) (l : List Byte) (h : Memory.wf s.mem = true) : Memory.wf (s.setBytes a l).mem = true := by
  rw [State.setBytes, checkBits_mem]
  exact putBytes_wf s a l h

/-! Events -/

theorem getLsbD_bit640 {k : Nat} (n : Nat) (h : k < 640) : (bit640 n).getLsbD k = decide (k = n) := by
  rw [bit640, BitVec.getLsbD_ofNat, Nat.one_shiftLeft, Nat.testBit_two_pow, decide_eq_true h, Bool.true_and]
  exact decide_eq_decide.2 eq_comm

/-- A latch that takes a source's bit where its route enables it. -/
theorem getLsbD_latch (b : Bool) (l : BitVec 640) {k : Nat} (n : Nat) (h : k < 640) :
    (if b = true then l ||| bit640 n else l).getLsbD k = (l.getLsbD k || (decide (k = n) && b)) := by
  cases b
  · rw [if_neg Bool.false_ne_true, Bool.and_false, Bool.or_false]
  · rw [if_pos rfl, BitVec.getLsbD_or, getLsbD_bit640 n h, Bool.and_true]

theorem raiseEvent_reserved (s : State) {n : Nat} (h : eventSource n = false) : s.raiseEvent n = s :=
  if_neg (by rw [h]; exact Bool.false_ne_true)

theorem raiseEvent_source (s : State) {n : Nat} (h : eventSource n = true) : s.raiseEvent n = { s with evr := { s.evr with
    hart := if s.fget (F.EVR_ROUTE_HARTS n) = 0 then s.evr.hart else s.evr.hart ||| bit640 n
    msq := ⟨if s.flag (F.EVR_ROUTE_M0EN n) then s.evr.msq.p0 ||| bit640 n else s.evr.msq.p0,
            if s.flag (F.EVR_ROUTE_M1EN n) then s.evr.msq.p1 ||| bit640 n else s.evr.msq.p1⟩ } } := if_pos h

theorem raiseEvent_frame (s : State) (n : Nat) :
    (s.raiseEvent n).regs = s.regs ∧ (s.raiseEvent n).mem = s.mem ∧ (s.raiseEvent n).evr.claimed = s.evr.claimed := by
  cases h : eventSource n with
  | false => rw [raiseEvent_reserved s h]; exact ⟨rfl, rfl, rfl⟩
  | true => rw [raiseEvent_source s h]; exact ⟨rfl, rfl, rfl⟩

theorem getLsbD_raiseEvent (s : State) {n k : Nat} (h : eventSource n = true) (hk : k < 640) :
    ((s.raiseEvent n).evr.hart.getLsbD k = (s.evr.hart.getLsbD k || (decide (k = n) && decide (s.fget (F.EVR_ROUTE_HARTS n) ≠ 0)))) ∧
    ((s.raiseEvent n).evr.msq.p0.getLsbD k = (s.evr.msq.p0.getLsbD k || (decide (k = n) && s.flag (F.EVR_ROUTE_M0EN n)))) ∧
    ((s.raiseEvent n).evr.msq.p1.getLsbD k = (s.evr.msq.p1.getLsbD k || (decide (k = n) && s.flag (F.EVR_ROUTE_M1EN n)))) := by
  rw [raiseEvent_source s h]
  refine ⟨?_, getLsbD_latch _ _ n hk, getLsbD_latch _ _ n hk⟩
  rw [← getLsbD_latch _ _ n hk]
  simp only [decide_eq_true_eq, ne_eq, ite_not]

/-! Fault messages -/

theorem toNat_faultMsg (src kind cls seq : Nat) (forced : Bool) (info : Nat) : (faultMsg src kind cls seq forced info).toNat =
    src % 1024 * 2 ^ 54 + kind % 64 * 2 ^ 48 + cls % 8 * 2 ^ 45 + seq % 32 * 2 ^ 40 + forced.toNat * 2 ^ 39 + info % 2 ^ 36 := by
  have hf := forced.toNat_le
  rw [faultMsg, BitVec.toNat_ofNat]
  omega

theorem msgField_faultMsg (src kind cls seq info : Nat) (forced : Bool) : let m := faultMsg src kind cls seq forced info
    msgField m 54 10 = src % 1024 ∧ msgField m 48 6 = kind % 64 ∧ msgField m 45 3 = cls % 8 ∧ msgField m 40 5 = seq % 32 ∧ msgField m 39 1 = forced.toNat ∧
    msgField m 36 3 = 0 ∧ msgField m 0 36 = info % 2 ^ 36 := by
  have hf := forced.toNat_le
  simp only [msgField, toNat_faultMsg, Nat.shiftRight_eq_div_pow]
  omega

/-- The Fault Collector's state once a fault of `src` is on its way. -/
theorem raiseFault_flt (s : State) (b u k c info : Nat) (real : Bool) : (s.raiseFault b u k c info real).flt = { s.flt with
    inflight := s.flt.inflight ++ [faultMsg (faultSource b u) k c (look (fun _ => 0) (faultSource b u) s.flt.seqs) (s.forced b u k && !real) info]
    seqs := put (fun _ => 0) (faultSource b u) ((look (fun _ => 0) (faultSource b u) s.flt.seqs + 1) % 32) s.flt.seqs
    force := if s.forced b u k then none else s.flt.force } := by
  cases h : s.forced b u k <;> simp [State.raiseFault, h]

theorem raiseFault_mem (s : State) (b u k c info : Nat) (real : Bool) : (s.raiseFault b u k c info real).mem = s.mem := by
  cases h : s.forced b u k <;> simp [State.raiseFault, h]

theorem raiseFault_regs (s : State) {b u k : Nat} (c info : Nat) (real : Bool) (h : s.forced b u k = false) :
    (s.raiseFault b u k c info real).regs = s.regs := by
  simp [State.raiseFault, h]

end Sys2Proof.Machine

open Sys2Proof Sys2Proof.Machine

/-- Settles O56: the written word bit by bit, and fields as bits of their words. -/
theorem registerWriteCodes : Obligations.RegisterWriteCodes := by
  refine ⟨fun s o v r hr i hi => getLsbD_codeWrite s v hr hi, fun s o p v h => rd_codeWrite_ne s v h, fun s o v h => codeWrite_noRegister s v h,
    fun s f g n => ⟨fun hw => ?_, fun hap => ?_⟩⟩
  · exact fget_fset_same s f n (decide_eq_true hw)
  · refine fget_fset_apart s f g n ?_
    simpa only [Fld.apart, Bool.or_eq_true, bne_iff_ne, decide_eq_true_eq, or_assoc] using hap

/-- Settles O59: the bytes of a store read back, and the number is the one its bytes spell. -/
theorem memoryReadsBack : Obligations.MemoryReadsBack :=
  ⟨byte_setBytes, load_store_same, fun s _ _ _ _ v h => load_store_apart s v h, setBytes_wf⟩

/-- Settles O58: the latches as bits of their words, the message as the sum of its fields, the sequence numbers as a map. -/
theorem eventsAndFaultMessages : Obligations.EventsAndFaultMessages := by
  refine ⟨fun s n k => getLsbD_raiseEvent s, raiseEvent_frame, msgField_faultMsg, fun s b u k c info real => ?_⟩
  intro t seq
  refine ⟨by rw [raiseFault_flt], ?_, fun x hx => ?_, raiseFault_regs s c info real, raiseFault_mem s b u k c info real⟩
  · rw [raiseFault_flt]
    exact (look_put _ _ _ _ _).trans (if_pos rfl)
  · rw [raiseFault_flt]
    exact (look_put _ _ _ _ _).trans (if_neg hx)
end

section
/-! A microword's arithmetic and where it goes next (spec/07_media_sequencers.md: R150, R151), and the statements about them. -/
namespace Sys2Proof.Machine

theorem Pair.get_other_set {α : Type} (p : Pair α) (i : Two) (v : α) : (p.set i v).get i.other = p.get i.other :=
  Pair.get_set_ne p i _ v (by cases i <;> decide)

/-! Arithmetic -/

/-- ALU operation `op` gives `r` with carry `c` and touches nothing but the sequencer's own state. -/
def State.aluGives (s : State) (a : Act) (op : Nat) (x y r : Word) (c : Bool) : Prop := s.aluResult a op x y = (some r, c, s) ∧ op ≠ 12

theorem aluGives_table (s : State) (a : Act) (x y : Word) {op : Nat} {f : Word → Word → Word} {cy : Word → Word → Bool}
    (h : (op, f, cy) ∈ ([(1, fun _ y => y, fun _ _ => false), (2, fun x y => x + y, fun x y => decide (2 ^ 32 ≤ x.toNat + y.toNat)),
      (3, fun x y => x - y, fun x y => decide (x.toNat < y.toNat)), (4, fun x y => x &&& y, fun _ _ => false), (5, fun x y => x ||| y, fun _ _ => false),
      (6, fun x y => x ^^^ y, fun _ _ => false), (7, fun x y => x <<< (y.toNat % 32), fun _ _ => false),
      (8, fun x y => x >>> (y.toNat % 32), fun _ _ => false), (9, fun x y => x - y, fun x y => decide (x.toNat < y.toNat))] :
      List (Nat × (Word → Word → Word) × (Word → Word → Bool)))) : s.aluGives a op x y (f x y) (cy x y) := by
  simp only [List.mem_cons, List.not_mem_nil, or_false, Prod.mk.injEq] at h
  rcases h with ⟨rfl, rfl, rfl⟩ | ⟨rfl, rfl, rfl⟩ | ⟨rfl, rfl, rfl⟩ | ⟨rfl, rfl, rfl⟩ | ⟨rfl, rfl, rfl⟩ | ⟨rfl, rfl, rfl⟩ | ⟨rfl, rfl, rfl⟩ | ⟨rfl, rfl, rfl⟩ |
    ⟨rfl, rfl, rfl⟩ <;> exact ⟨rfl, by decide⟩

/-- What the result and the flags make of a sequencer's state. -/
def MsqSt.aluPut (m : MsqSt) (w : Microword) (r : Word) (c : Bool) : MsqSt :=
  let m := if w.alu.toNat = 9 ∨ w.dst = 0 then m else { m with g := m.g.set w.dst.toNat r }
  if w.flg then { m with z := r == 0, n := r.getLsbD 31, c := c } else m

theorem aluStep_eq_msqMap (s : State) (a : Act) (w : Microword) {r : Word} {c : Bool}
    (h : s.aluGives a w.alu.toNat ((s.msqOf a).reg w.ra) (if w.bimm then w.imm else (s.msqOf a).reg w.rb) r c) :
    s.aluStep a w = s.msqMap a (fun m => m.aluPut w r c) := by
  obtain ⟨hr, h12⟩ := h
  unfold State.aluStep MsqSt.aluPut
  simp only [hr, if_neg h12]
  by_cases hd : w.alu.toNat = 9 ∨ w.dst = 0 <;> cases w.flg <;> cases a <;> simp only [hd, if_true, if_false, Bool.false_eq_true] <;> rfl

theorem aluPut_fields (m : MsqSt) (w : Microword) (r : Word) (c : Bool) :
    (m.aluPut w r c).g = (if w.alu.toNat = 9 ∨ w.dst = 0 then m.g else m.g.set w.dst.toNat r) ∧ (m.aluPut w r c).z = (if w.flg then r == 0 else m.z) ∧
    (m.aluPut w r c).n = (if w.flg then r.getLsbD 31 else m.n) ∧ (m.aluPut w r c).c = (if w.flg then c else m.c) ∧ (m.aluPut w r c).work = m.work := by
  unfold MsqSt.aluPut
  by_cases hd : w.alu.toNat = 9 ∨ w.dst = 0 <;> cases w.flg <;> simp only [hd, if_true, if_false, Bool.false_eq_true, and_self]

/-! Sequencing -/

theorem fget_pc_fset (s : State) (a : Act) (n : Nat) : (s.fset (F.MSQ_PC_ADDR a) n).fget (F.MSQ_PC_ADDR a) = n % 2 ^ 14 :=
  fget_fset_same _ _ _ rfl

theorem fget_pc_fset_lt (s : State) (a : Act) {n : Nat} (h : n < 2 ^ 14) : (s.fset (F.MSQ_PC_ADDR a) n).fget (F.MSQ_PC_ADDR a) = n := by
  rw [fget_pc_fset, Nat.mod_eq_of_lt h]

theorem stack_msqSet_fset (s : State) (a : Act) (m : MsqSt) (f : Fld) (n : Nat) : (((s.msqSet a m).fset f n).msqOf a).stack = m.stack :=
  congrArg MsqSt.stack (State.msqOf_msqSet s a m)

theorem even_fset_pc (s : State) (a : Act) (n : Nat) : (s.fset (F.MSQ_PC_ADDR a) n).flag (F.MSQ_STS_EVEN a) = s.flag (F.MSQ_STS_EVEN a) := by
  rw [State.flag, fget_fset_apart _ _ _ _ (by cases a <;> decide)]; rfl

theorem flag_fsetB_same (s : State) {f : Fld} (b : Bool) (hw : f.w = 1) (hf : f.fitsWord = true) : (s.fsetB f b).flag f = b := by
  rw [State.flag, State.fsetB, fget_fset_same s f _ hf, hw]
  cases b <;> rfl

/-! One equation per sequencing field: `go` to an address is a write of MSQ_PC -/

theorem seqStep_cont (s : State) (a : Act) {w : Microword} (ok : Bool) (h : w.seq = 0) :
    s.seqStep a w ok = s.fset (F.MSQ_PC_ADDR a) (s.fget (F.MSQ_PC_ADDR a) + 1) := by
  simp only [State.seqStep, h]; rfl

theorem seqStep_jump (s : State) (a : Act) {w : Microword} (ok : Bool) (h : w.seq = 1) : s.seqStep a w ok = s.fset (F.MSQ_PC_ADDR a) w.na.toNat := by
  simp only [State.seqStep, h]; rfl

theorem seqStep_branch (s : State) (a : Act) {w : Microword} (ok : Bool) (h : w.seq = 2) :
    s.seqStep a w ok = s.fset (F.MSQ_PC_ADDR a) (if ok then w.na.toNat else s.fget (F.MSQ_PC_ADDR a) + 1) := by
  simp only [State.seqStep, h]; rfl

theorem seqStep_call (s : State) (a : Act) {w : Microword} (ok : Bool) (h : w.seq = 3) : s.seqStep a w ok =
    (s.msqSet a { s.msqOf a with stack := (s.fget (F.MSQ_PC_ADDR a) + 1) % 2 ^ 14 :: (s.msqOf a).stack }).fset (F.MSQ_PC_ADDR a) w.na.toNat := by
  simp only [State.seqStep, h]; rfl

theorem seqStep_return (s : State) (a : Act) {w : Microword} (ok : Bool) {top : Nat} {rest : List Nat} (h : w.seq = 4) (hst : (s.msqOf a).stack = top :: rest) :
    s.seqStep a w ok = (s.msqSet a { s.msqOf a with stack := rest }).fset (F.MSQ_PC_ADDR a) top := by
  simp only [State.seqStep, h, hst]; rfl

theorem seqStep_dispatch_empty (s : State) (a : Act) {w : Microword} (ok : Bool) (h : w.seq = 5) (hq : (s.msqOf a).queue = []) :
    s.seqStep a w ok = s.fset (F.MSQ_PC_ADDR a) w.na.toNat := by
  simp only [State.seqStep, h, hq]; rfl

theorem seqStep_eventReturn (s : State) (a : Act) {w : Microword} (ok : Bool) {top : Nat} {rest : List Nat} (h : w.seq = 6)
    (hst : (s.msqOf a).stack = top :: rest) :
    s.seqStep a w ok = ((s.msqSet a { s.msqOf a with stack := rest }).fsetB (F.MSQ_STS_EVEN a) true).fset (F.MSQ_PC_ADDR a) top := by
  simp only [State.seqStep, h, hst]; rfl

/-- Registers of a sequencer other than its address and its status stay, and memory with them. -/
def SameButPcSts (a : Act) (s t : State) : Prop := t.mem = s.mem ∧ ∀ o, o ≠ Rg.MSQ_PC a → o ≠ Rg.MSQ_STS a → t.rd o = s.rd o

theorem SameButPcSts.of_regs {a : Act} {s t : State} (hm : t.mem = s.mem) (hr : t.regs = s.regs) : SameButPcSts a s t :=
  ⟨hm, fun o _ _ => by rw [State.rd, State.rd, hr]⟩

theorem SameButPcSts.trans {a : Act} {s t u : State} (h : SameButPcSts a s t) (k : SameButPcSts a t u) : SameButPcSts a s u :=
  ⟨k.1.trans h.1, fun o hp hs => (k.2 o hp hs).trans (h.2 o hp hs)⟩

theorem sameButPcSts_fset_pc {a : Act} {s t : State} (n : Nat) (h : SameButPcSts a s t) : SameButPcSts a s (t.fset (F.MSQ_PC_ADDR a) n) :=
  h.trans ⟨State.fset_mem _ _ _, fun _ hp _ => rd_fset_ne _ _ _ _ hp⟩

theorem sameButPcSts_fset_sts {a : Act} {s t : State} {f : Fld} (n : Nat) (hf : f.addr = Rg.MSQ_STS a) (h : SameButPcSts a s t) :
    SameButPcSts a s (t.fset f n) :=
  h.trans ⟨State.fset_mem _ _ _, fun _ _ hs => rd_fset_ne _ _ _ _ (hf ▸ hs)⟩

theorem sameButPcSts_seqStep (s : State) (a : Act) (w : Microword) (ok : Bool) : SameButPcSts a s (s.seqStep a w ok) := by
  have hself : SameButPcSts a s s := .of_regs rfl rfl
  have hset : ∀ m, SameButPcSts a s (s.msqSet a m) := fun m => .of_regs rfl rfl
  unfold State.seqStep
  dsimp only
  split
  · exact sameButPcSts_fset_pc _ hself
  · exact sameButPcSts_fset_pc _ hself
  · exact sameButPcSts_fset_pc _ hself
  · exact sameButPcSts_fset_pc _ (hset _)
  · exact sameButPcSts_fset_pc _ (hset _)
  · split
    · split
      · refine sameButPcSts_fset_pc _ ?_
        exact sameButPcSts_fset_sts _ rfl (sameButPcSts_fset_sts _ rfl (.of_regs rfl rfl))
      · exact sameButPcSts_fset_pc _ hself
    · exact sameButPcSts_fset_pc _ hself
  · exact sameButPcSts_fset_pc _ (sameButPcSts_fset_sts _ rfl (hset _))
  · exact hself

end Sys2Proof.Machine

open Sys2Proof Sys2Proof.Machine

/-- Settles O21: each operation gives its result and carry, and the step puts them into the sequencer's own state. -/
theorem microwordArithmetic : Obligations.MicrowordArithmetic := by
  intro s a w op f cy hmem hop m x y t
  subst hop
  have ht : t = s.msqMap a (fun m => m.aluPut w (f x y) (cy x y)) := aluStep_eq_msqMap s a w (aluGives_table s a x y hmem)
  have hof : t.msqOf a = m.aluPut w (f x y) (cy x y) := by rw [ht, State.msqMap, State.msqOf_msqSet]
  obtain ⟨hg, hz, hn, hc, hwork⟩ := aluPut_fields m w (f x y) (cy x y)
  rw [← hof] at hg hz hn hc hwork
  refine ⟨hg, hz, hn, hc, hwork, ?_, ?_, ?_⟩
  · rw [ht]; exact Pair.get_other_set _ _ _
  · rw [ht]; exact State.msqMap_regs _ _ _
  · rw [ht]; exact State.msqMap_mem _ _ _

/-- Settles O22, sequencing field by sequencing field. -/
theorem microwordSequencing : Obligations.MicrowordSequencing := by
  intro s a w ok pc t
  obtain ⟨hmem, hregs⟩ := sameButPcSts_seqStep s a w ok
  refine ⟨fun h => ?_, fun h => ?_, fun h => ?_, fun h => ?_, fun top rest hst htop => ⟨fun h => ?_, fun h => ?_⟩, fun h hq => ?_, hmem, hregs⟩
  · rw [show t = _ from seqStep_cont s a ok h]
    exact ⟨fget_pc_fset s a _, rfl⟩
  · rw [show t = _ from seqStep_jump s a ok h]
    exact ⟨fget_pc_fset_lt s a w.na.isLt, rfl⟩
  · rw [show t = _ from seqStep_branch s a ok h]
    refine ⟨?_, rfl⟩
    cases ok
    · exact fget_pc_fset s a _
    · exact fget_pc_fset_lt s a w.na.isLt
  · rw [show t = _ from seqStep_call s a ok h]
    exact ⟨fget_pc_fset_lt _ a w.na.isLt, stack_msqSet_fset s a _ _ _⟩
  · rw [show t = _ from seqStep_return s a ok h hst]
    exact ⟨fget_pc_fset_lt _ a htop, stack_msqSet_fset s a _ _ _, even_fset_pc _ a top⟩
  · rw [show t = _ from seqStep_eventReturn s a ok h hst]
    refine ⟨fget_pc_fset_lt _ a htop, congrArg MsqSt.stack (State.msqOf_msqSet s a _), ?_⟩
    rw [even_fset_pc, flag_fsetB_same _ _ rfl rfl]
  · rw [show t = _ from seqStep_dispatch_empty s a ok h hq]
    exact ⟨fget_pc_fset_lt s a w.na.isLt, rfl⟩
end

section
/-! Fields of written words and states of blocks: the facts that the statements about single commands share. -/
namespace Sys2Proof.Machine

/-! A field of a word of which some bits were replaced -/

/-- Whether a field lies clear of `w` bits from `lo`. -/
def Fld.clearOf (f : Fld) (lo w : Nat) : Bool := decide (lo + w ≤ f.lo) || decide (f.lo + f.w ≤ lo)

theorem of_setBits_apart {f : Fld} {lo w : Nat} (v : Word) (n : Nat) (h : f.clearOf lo w = true) : f.of (setBits v lo w n) = f.of v :=
  bitsOf_setBits_apart v lo w n f.lo f.w (by simpa [Fld.clearOf] using h)

theorem on_setBits_apart {f : Fld} {lo w : Nat} (v : Word) (n : Nat) (h : f.clearOf lo w = true) : f.on (setBits v lo w n) = f.on v := by
  rw [Fld.on, of_setBits_apart v n h, Fld.on]

theorem of_setBits_same (f : Fld) (v : Word) (n : Nat) (h : f.fitsWord = true) : f.of (setBits v f.lo f.w n) = n % 2 ^ f.w :=
  bitsOf_setBits_same v f.lo f.w n (of_decide_eq_true h)

theorem on_setBits_one (f : Fld) (v : Word) (h : f.fitsWord = true) (hw : f.w = 1) : f.on (setBits v f.lo f.w 1) = true := by
  rw [Fld.on, of_setBits_same f v 1 h, hw]; rfl

theorem on_setBits_zero (f : Fld) (v : Word) (h : f.fitsWord = true) (hw : f.w = 1) : f.on (setBits v f.lo f.w 0) = false := by
  rw [Fld.on, of_setBits_same f v 0 h, hw]; rfl

theorem setBits_of (f : Fld) (v : Word) : setBits v f.lo f.w (f.of v) = v := by
  refine BitVec.eq_of_getLsbD_eq fun i hi => ?_
  rw [getLsbD_setBits v _ _ _ i hi]
  split
  · rename_i hin
    rw [Fld.of, testBit_bitsOf, decide_eq_true (by omega), Bool.true_and, Nat.add_sub_cancel' hin.1]
  · rfl

theorem of_lt_two {f : Fld} (v : Word) (hw : f.w = 1) : f.of v < 2 := by
  have h : f.of v < 2 ^ f.w := BitVec.isLt _
  rwa [hw] at h

/-- A one-bit field that is set already is not changed by setting it. -/
theorem setBits_one_of_on (f : Fld) {v : Word} (h : f.on v = true) : setBits v f.lo f.w 1 = v := by
  have hv : f.of v = 1 := eq_of_beq h
  rw [← hv]
  exact setBits_of f v

theorem setBits_zero_of_off (f : Fld) {v : Word} (hw : f.w = 1) (h : f.on v = false) : setBits v f.lo f.w 0 = v := by
  have hne : f.of v ≠ 1 := ne_of_beq_false h
  have hv : f.of v = 0 := by have := of_lt_two v hw; omega
  rw [← hv]
  exact setBits_of f v

/-! What a command answers is the state that its meaning builds -/

theorem next_eq {t u : State} (h : t = u) : (.next t : Host.Outcome State Fault Refusal) = .next u := congrArg _ h

/-- The branch of a cleared bit. -/
theorem if_off {α : Type} {b : Bool} {x y : α} (h : b = false) : (if b = true then x else y) = y := if_neg (Bool.eq_false_iff.1 h)

/-! A block is in one state -/

theorem ttbIn_of_ttbIn {s : State} {a b : Nat} (h : s.ttbIn a = true) (hab : a ≠ b) : s.ttbIn b = false := by
  rw [State.ttbIn, eq_of_beq h]
  exact beq_false_of_ne hab

theorem spcIn_of_spcIn {s : State} {a b : Nat} (h : s.spcIn a = true) (hab : a ≠ b) : s.spcIn b = false := by
  rw [State.spcIn, eq_of_beq h]
  exact beq_false_of_ne hab

theorem sacIn_of_sacIn {s : State} {a : Act} {x y : Nat} (h : s.sacIn a x = true) (hxy : x ≠ y) : s.sacIn a y = false := by
  rw [State.sacIn, eq_of_beq h]
  exact beq_false_of_ne hxy

end Sys2Proof.Machine
end

section
/-! The Timetable (spec/02_timetable.md: R33 to R39, R45, R46), and the statements about it. -/
namespace Sys2Proof.Machine

/-! TTB_CTL -/

/-- The source fields of a write of TTB_CTL: AUTOSRC always, SRC where it is unreserved and new. -/
def State.ttbSourceWrite (s : State) (auto : Bool) (src : Nat) : State :=
  let a := s.fsetB F.TTB_CTL_AUTOSRC auto
  if src ≤ 1 ∧ src ≠ a.fget F.TTB_CTL_SRC then ({ a with ttb := { a.ttb with markSkew := 0 } }).fset F.TTB_CTL_SRC src else a

/-- The Timetable forgets its runs of marks. -/
def State.ttbFresh (s : State) : State := { s with ttb := { s.ttb with lockRun := 0, missRun := 0, slew := 0, acceptedInWedge := false } }

theorem ttbCtlWrite_eq (s : State) (v : Word) : s.ttbCtlWrite v =
    let u := (s.ttbSourceWrite (F.TTB_CTL_AUTOSRC.on v) (F.TTB_CTL_SRC.of v)).fsetB F.TTB_CTL_EN (F.TTB_CTL_EN.on v)
    if F.TTB_CTL_EN.on v then if u.ttbIn TtbS.idle then ((u.ttbFresh.ttbEnter TtbS.acquire).inhUpdate).ttbRate else u
    else (u.ttbFresh.ttbEnter TtbS.idle).inhUpdate.fset F.TTB_INC_INC 0 := by
  simp only [State.ttbCtlWrite, State.ttbSourceWrite, Bool.and_eq_true, decide_eq_true_eq, bne_iff_ne]
  rfl

theorem ttbCtlWrite_setEn (s : State) (v : Word) : s.ttbCtlWrite (setBits v 0 1 1) =
    let u := (s.ttbSourceWrite (F.TTB_CTL_AUTOSRC.on v) (F.TTB_CTL_SRC.of v)).fsetB F.TTB_CTL_EN true
    if u.ttbIn TtbS.idle then ((u.ttbFresh.ttbEnter TtbS.acquire).inhUpdate).ttbRate else u := by
  have hen : F.TTB_CTL_EN.on (setBits v 0 1 1) = true := on_setBits_one F.TTB_CTL_EN v rfl rfl
  have hauto : F.TTB_CTL_AUTOSRC.on (setBits v 0 1 1) = F.TTB_CTL_AUTOSRC.on v := on_setBits_apart v 1 rfl
  have hsrc : F.TTB_CTL_SRC.of (setBits v 0 1 1) = F.TTB_CTL_SRC.of v := of_setBits_apart v 1 rfl
  rw [ttbCtlWrite_eq, hen, hauto, hsrc]
  exact if_pos rfl

theorem ttbCtlWrite_clearEn (s : State) (v : Word) : s.ttbCtlWrite (setBits v 0 1 0) =
    ((((s.ttbSourceWrite (F.TTB_CTL_AUTOSRC.on v) (F.TTB_CTL_SRC.of v)).fsetB F.TTB_CTL_EN false).ttbFresh.ttbEnter TtbS.idle).inhUpdate).fset
      F.TTB_INC_INC 0 := by
  have hen : F.TTB_CTL_EN.on (setBits v 0 1 0) = false := on_setBits_zero F.TTB_CTL_EN v rfl rfl
  have hauto : F.TTB_CTL_AUTOSRC.on (setBits v 0 1 0) = F.TTB_CTL_AUTOSRC.on v := on_setBits_apart v 0 rfl
  have hsrc : F.TTB_CTL_SRC.of (setBits v 0 1 0) = F.TTB_CTL_SRC.of v := of_setBits_apart v 0 rfl
  rw [ttbCtlWrite_eq, hen, hauto, hsrc]
  exact if_neg Bool.false_ne_true

/-! TTB_SNAP -/

theorem ttbSnapWrite_capture (s : State) {v : Word} (hc : F.TTB_SNAP_CAP.on v = true) (hm : F.TTB_SNAP_CLRMISS.on v = false) :
    s.ttbSnapWrite v = (s.wideSet Rg.TTB_SNAPANG_LO s.ttb.angle.toNat).wideSet Rg.TTB_SNAPCLK_LO s.clock.toNat := by
  rw [State.ttbSnapWrite, hc, hm]; rfl

theorem ttbSnapWrite_clear (s : State) {v : Word} (hc : F.TTB_SNAP_CAP.on v = false) (hm : F.TTB_SNAP_CLRMISS.on v = true) :
    s.ttbSnapWrite v = s.clearCount Rg.TTB_MISS_LO := by
  rw [State.ttbSnapWrite, hc, hm]; rfl

theorem ttbSnapWrite_both (s : State) {v : Word} (hc : F.TTB_SNAP_CAP.on v = true) (hm : F.TTB_SNAP_CLRMISS.on v = true) :
    s.ttbSnapWrite v = ((s.wideSet Rg.TTB_SNAPANG_LO s.ttb.angle.toNat).wideSet Rg.TTB_SNAPCLK_LO s.clock.toNat).clearCount Rg.TTB_MISS_LO := by
  rw [State.ttbSnapWrite, hc, hm]; rfl

/-- A wide value stands in a wide register apart from the one written. -/
theorem wide_wideSet_apart (s : State) {o p : Nat} (n : Nat) (h : p + 4 < o ∨ o + 4 < p) : (s.wideSet o n).wide p = s.wide p := by
  rw [State.wide, rd_wideSet_ne s n (by omega) (by omega), rd_wideSet_ne s n (by omega) (by omega)]; rfl

/-! Marks, lock, flywheel -/

theorem samDetected_unjudged (s : State) {a : Act} (stamp : Angle) (index : Fin 512) (ok : Bool)
    (h : s.ttbIn TtbS.idle = true ∨ s.fget F.TTB_CTL_SRC ≠ a.num) : samDetectedOp a stamp index ok s = s :=
  if_pos (by simpa using h)

/-- A mark of the source actuator in LOCKED, with no steering set: `u` is the state with the angle at the mark. -/
theorem samDetected_locked (s : State) {a : Act} (stamp : Angle) (index : Fin 512) (ok : Bool) (hidle : s.ttbIn TtbS.idle = false)
    (hsrc : s.fget F.TTB_CTL_SRC = a.num) (hset : s.flag F.BRL_STEER_SET = false) :
    let u := (s.angleTo (BitVec.ofNat 64 (atCompare stamp.toNat))).fset F.TTB_STS_SRCACT a.num
    let e := lockError (BitVec.ofNat 64 (atCompare stamp.toNat)) index.val u.ttb.markSkew
    u.ttbIn TtbS.locked = true → samDetectedOp a stamp index ok s =
      if ok = true ∧ -(4 * u.ttbTol) < e ∧ e ≤ 4 * u.ttbTol then
        let w := (u.samAccept e).loopCorrect e
        { w with ttb := { w.ttb with stepSams := w.ttb.stepSams.map (· + 1) } }
      else u := by
  intro u e hlocked
  have hlost : u.ttbIn TtbS.lost = false := ttbIn_of_ttbIn hlocked (by decide)
  have hstamp : stamp + BitVec.ofNat 64 0 = stamp := BitVec.add_zero stamp
  simp only [samDetectedOp, hidle, hsrc, hset, bne_self_eq_false, Bool.or_self, Bool.false_eq_true, if_false, hstamp]
  change (if (if (u.ttbIn TtbS.lost && ok) = true then _ else u).ttbIn TtbS.locked = true then _ else _) = _
  rw [hlost, Bool.false_and, if_neg Bool.false_ne_true, hlocked, if_pos rfl]
  exact if_congr (by simp only [Bool.and_eq_true, decide_eq_true_eq, and_assoc]; rfl) rfl rfl

end Sys2Proof.Machine

open Sys2Proof Sys2Proof.Machine

/-- Settles O1: the three commands are one write of TTB_CTL, with EN forced or as written. -/
theorem timetableControl : Obligations.TimetableControl := by
  intro s v a u on off fresh
  have hset : exec (.timetableEnable v) s = .next (s.ttbCtlWrite (setBits v 0 1 1)) := rfl
  have hclear : exec (.timetableDisable v) s = .next (s.ttbCtlWrite (setBits v 0 1 0)) := rfl
  refine ⟨fun h => ?_, fun h => ?_, ?_, fun h => ?_, fun h => ?_⟩
  · rw [hset, ttbCtlWrite_setEn]
    exact next_eq (if_pos h)
  · rw [hset, ttbCtlWrite_setEn]
    exact next_eq (if_neg (Bool.eq_false_iff.1 h))
  · rw [hclear, ttbCtlWrite_clearEn]
    rfl
  · rw [hset, show setBits v 0 1 1 = v from setBits_one_of_on F.TTB_CTL_EN h]
    rfl
  · rw [hclear, show setBits v 0 1 0 = v from setBits_zero_of_off F.TTB_CTL_EN rfl h]
    rfl

/-- Settles O2: a capture is two wide writes, a clear a third, in registers apart from one another. -/
theorem snapshotAndMissCounter : Obligations.SnapshotAndMissCounter := by
  refine ⟨fun s v h => ⟨_, next_eq (ttbSnapWrite_capture s ?_ ?_), rfl, ?_, ?_, fun o h1 h2 h3 h4 => ?_⟩,
    fun s v h => ⟨_, next_eq (ttbSnapWrite_clear s ?_ ?_), rfl, wide_clearCount _ _, fun o h1 h2 => rd_wideSet_ne s _ h1 h2⟩, fun s v hm hc => ?_⟩
  · exact on_setBits_one F.TTB_SNAP_CAP v rfl rfl
  · exact (on_setBits_apart v 1 rfl).trans h
  · rw [wide_wideSet_apart _ _ (by decide)]
    exact wide_wideSet _ _ _ s.ttb.angle.isLt
  · exact wide_wideSet _ _ _ s.clock.isLt
  · rw [rd_wideSet_ne _ _ h3 h4, rd_wideSet_ne _ _ h1 h2]
  · exact (on_setBits_apart v 1 rfl).trans h
  · exact on_setBits_one F.TTB_SNAP_CLRMISS v rfl rfl
  · have h1 : setBits v 0 1 1 = v := setBits_one_of_on F.TTB_SNAP_CAP hc
    have h2 : setBits v 1 1 1 = v := setBits_one_of_on F.TTB_SNAP_CLRMISS hm
    have hcap : exec (.snapshotCapture v) s = .next (s.ttbSnapWrite v) := next_eq (congrArg s.ttbSnapWrite h1)
    have hclr : exec (.missCounterClear v) s = .next (s.ttbSnapWrite v) := next_eq (congrArg s.ttbSnapWrite h2)
    rw [hcap, hclr, ttbSnapWrite_both s hc hm]
    exact ⟨rfl, rfl⟩

/-- Settles O3, row by row: each is its operation in the case its premises name. -/
theorem timetableLockingAndSteps : Obligations.TimetableLockingAndSteps := by
  refine ⟨fun s a stamp index ok h => next_eq (samDetected_unjudged s stamp index ok h), ?_, fun s hl ha => ?_, fun s hidle ha => ?_, fun s h => ?_,
    fun s hl hm => ?_, fun s hf => next_eq (if_pos hf), fun s n hstep hl hn h64 => next_eq (if_pos ?_), fun s h => next_eq (if_neg ?_),
    fun s ht h16 => next_eq (if_pos ?_), fun s ht => next_eq (if_neg ?_), fun s ht hs => next_eq (if_pos ?_)⟩
  · intro s a stamp index hidle hsrc hset u e hlocked
    have hop := fun ok => samDetected_locked s stamp index ok hidle hsrc hset hlocked
    refine ⟨fun hlo hhi => next_eq ((hop true).trans (if_pos ⟨rfl, hlo, hhi⟩)), fun hout => next_eq ((hop true).trans (if_neg ?_)),
      next_eq ((hop false).trans (if_neg fun h => Bool.false_ne_true h.1))⟩
    rintro ⟨-, hlo, hhi⟩
    exact hout.elim (fun h => absurd hlo (not_lt.2 h)) (fun h => absurd hhi (not_le.2 h))
  · have hidle : s.ttbIn TtbS.idle = false := ttbIn_of_ttbIn hl (by decide)
    refine next_eq ?_
    rw [samMissedOp, hidle, ha]
    exact if_pos hl
  · refine next_eq ?_
    rw [samMissedOp, hidle, ha]; rfl
  · refine next_eq (if_pos ?_)
    rcases h with ⟨ha, hn⟩ | ⟨hf, hn⟩
    · have hf : s.ttbIn TtbS.flywheel = false := ttbIn_of_ttbIn ha (by decide)
      simpa [ha, hf] using hn
    · simpa [hf] using hn
  · have hreal : decide (max 1 (s.fget F.TTB_LOCKCFG_MISSN) ≤ s.ttb.missRun) = true := decide_eq_true hm
    refine next_eq ?_
    rw [flywheelEntryOp, hreal, hl]; rfl
  · simp [hstep, hl, hn, h64]
  · simp [h]
  · simp [ht, h16]
  · simp [ht]
  · simp [ht, hs]
end

section
/-! The spindle's and the actuators' commands (spec/03_spindle.md: R60 to R65; spec/04_actuators.md: R80 to R100), and the statements about them. -/
namespace Sys2Proof.Machine

/-! SPC_CTL -/

/-- The control bits that a write of SPC_CTL stores. -/
def State.spcCtlBits (s : State) (run : Bool) (v : Word) : State := (s.fsetB F.SPC_CTL_RUN run).fsetB F.SPC_CTL_CATCH (F.SPC_CTL_CATCH.on v)

/-- What RUN = 1 does once the bits are stored. -/
def State.spcStart (u : State) (catching : Bool) : State :=
  if u.spcIn SpcS.stopped && !u.flag F.FLT_STS_SAFEDEV && !u.spc.harvested && u.holdsSpindle then u.spinUp catching else u

theorem spcStart_stays {u : State} (catching : Bool)
    (h : u.spcIn SpcS.stopped = false ∨ u.flag F.FLT_STS_SAFEDEV = true ∨ u.spc.harvested = true ∨ u.holdsSpindle = false) : u.spcStart catching = u := by
  refine if_neg ?_
  rcases h with h | h | h | h <;> simp [h]

/-- What RUN = 0 does once the bits are stored and the waiting retry is dropped. -/
def State.spcHalt (u : State) : State :=
  if u.spcIn SpcS.run then ((u.spcMap (fun x => { x with rampRef := u.speed * 100000000 })).fsetB F.SPC_STS_STEP false).spcEnter SpcS.stopping
  else if u.spcIn SpcS.catching || u.spcIn SpcS.align || u.spcIn SpcS.openloop then u.enterBrake .standstill
  else u

theorem spcCtlWrite_run (s : State) {v : Word} (hloss : F.SPC_CTL_CLRLOSS.on v = false) :
    s.spcCtlWrite (setBits v 0 1 1) = (s.spcCtlBits true v).spcStart (F.SPC_CTL_CATCH.on v) := by
  have hrun : F.SPC_CTL_RUN.on (setBits v 0 1 1) = true := on_setBits_one F.SPC_CTL_RUN v rfl rfl
  have hcatch : F.SPC_CTL_CATCH.on (setBits v 0 1 1) = F.SPC_CTL_CATCH.on v := on_setBits_apart v 1 rfl
  have hclr : F.SPC_CTL_CLRLOSS.on (setBits v 0 1 1) = false := (on_setBits_apart v 1 rfl).trans hloss
  rw [State.spcCtlWrite, hrun, hcatch, hclr]; rfl

theorem spcCtlWrite_stop (s : State) {v : Word} (hloss : F.SPC_CTL_CLRLOSS.on v = false) :
    s.spcCtlWrite (setBits v 0 1 0) = ((s.spcCtlBits false v).spcMap (fun x => { x with retryDue := false })).spcHalt := by
  have hrun : F.SPC_CTL_RUN.on (setBits v 0 1 0) = false := on_setBits_zero F.SPC_CTL_RUN v rfl rfl
  have hcatch : F.SPC_CTL_CATCH.on (setBits v 0 1 0) = F.SPC_CTL_CATCH.on v := on_setBits_apart v 0 rfl
  have hclr : F.SPC_CTL_CLRLOSS.on (setBits v 0 1 0) = false := (on_setBits_apart v 0 rfl).trans hloss
  rw [State.spcCtlWrite, hrun, hcatch, hclr]; rfl

theorem spcCtlWrite_clearLoss (s : State) {v : Word} (hrun : F.SPC_CTL_RUN.on v = true) :
    s.spcCtlWrite (setBits v 2 1 1) = ((s.spcCtlBits true v).clearCount Rg.SPC_LOSSCNT_LO).spcStart (F.SPC_CTL_CATCH.on v) := by
  have hrun' : F.SPC_CTL_RUN.on (setBits v 2 1 1) = true := (on_setBits_apart v 1 rfl).trans hrun
  have hcatch : F.SPC_CTL_CATCH.on (setBits v 2 1 1) = F.SPC_CTL_CATCH.on v := on_setBits_apart v 1 rfl
  have hclr : F.SPC_CTL_CLRLOSS.on (setBits v 2 1 1) = true := on_setBits_one F.SPC_CTL_CLRLOSS v rfl rfl
  rw [State.spcCtlWrite, hrun', hcatch, hclr]; rfl

/-! SACn_CMD -/

theorem sacCmdWrite_op (s : State) (a : Act) (v : Word) {op : Nat} (h : op < 16) :
    s.sacCmdWrite a (setBits v 0 4 op) = s.sacCommand a op ((F.SAC_CMD_HEAD a).of v) := by
  have hop : (F.SAC_CMD_OP a).of (setBits v 0 4 op) = op := (of_setBits_same (F.SAC_CMD_OP a) v op rfl).trans (Nat.mod_eq_of_lt h)
  have hhead : (F.SAC_CMD_HEAD a).of (setBits v 0 4 op) = (F.SAC_CMD_HEAD a).of v := of_setBits_apart v op rfl
  rw [State.sacCmdWrite, hop, hhead]

theorem sacCommand_refused (s : State) {a : Act} {op head : Nat} (h : s.sacPermits a op head = false) :
    s.sacCommand a op head = s.fsetB (F.SAC_STS_REJ a) true := by
  exact if_off h

/-! SACn_CTL -/

theorem sacCtlWrite_enable (s : State) (a : Act) (v : Word) (en : Bool) (hint : (F.SAC_CTL_CLRINT a).on v = false) (hcnt : (F.SAC_CTL_CLRCNT a).on v = false) :
    s.sacCtlWrite a (setBits v 0 1 en.toNat) = if en || s.sacIn a SacS.parked then s.fsetB (F.SAC_CTL_EN a) en else s := by
  have hen : (F.SAC_CTL_EN a).on (setBits v 0 1 en.toNat) = en := by
    cases en
    · exact on_setBits_zero (F.SAC_CTL_EN a) v rfl rfl
    · exact on_setBits_one (F.SAC_CTL_EN a) v rfl rfl
  have hint' : (F.SAC_CTL_CLRINT a).on (setBits v 0 1 en.toNat) = false := (on_setBits_apart v _ rfl).trans hint
  have hcnt' : (F.SAC_CTL_CLRCNT a).on (setBits v 0 1 en.toNat) = false := (on_setBits_apart v _ rfl).trans hcnt
  rw [State.sacCtlWrite, hen, hint', hcnt']; rfl

theorem sacCtlWrite_clearIntegrator (s : State) (a : Act) {v : Word} (hen : (F.SAC_CTL_EN a).on v = true) (hcnt : (F.SAC_CTL_CLRCNT a).on v = false) :
    s.sacCtlWrite a (setBits v 1 1 1) = (s.fsetB (F.SAC_CTL_EN a) true).accSet a 0 := by
  have hen' : (F.SAC_CTL_EN a).on (setBits v 1 1 1) = true := (on_setBits_apart v 1 rfl).trans hen
  have hint : (F.SAC_CTL_CLRINT a).on (setBits v 1 1 1) = true := on_setBits_one (F.SAC_CTL_CLRINT a) v rfl rfl
  have hcnt' : (F.SAC_CTL_CLRCNT a).on (setBits v 1 1 1) = false := (on_setBits_apart v 1 rfl).trans hcnt
  rw [State.sacCtlWrite, hen', hint, hcnt']; rfl

theorem sacCtlWrite_clearCounters (s : State) (a : Act) {v : Word} (hen : (F.SAC_CTL_EN a).on v = true) (hint : (F.SAC_CTL_CLRINT a).on v = false) :
    s.sacCtlWrite a (setBits v 2 1 1) = ((s.fsetB (F.SAC_CTL_EN a) true).clearCount (Rg.SAC_MISS_LO a)).clearCount (Rg.SAC_WFCNT_LO a) := by
  have hen' : (F.SAC_CTL_EN a).on (setBits v 2 1 1) = true := (on_setBits_apart v 1 rfl).trans hen
  have hint' : (F.SAC_CTL_CLRINT a).on (setBits v 2 1 1) = false := (on_setBits_apart v 1 rfl).trans hint
  have hcnt : (F.SAC_CTL_CLRCNT a).on (setBits v 2 1 1) = true := on_setBits_one (F.SAC_CTL_CLRCNT a) v rfl rfl
  rw [State.sacCtlWrite, hen', hint', hcnt]; rfl

theorem sacCctlWrite_apply (s : State) (a : Act) (v : Word) :
    s.sacCctlWrite a (setBits v 0 1 1) = if s.judged a then s.sacMap a (fun x => { x with applyPend := true }) else s.bankCopy a 40 := by
  have happly : (F.SAC_CCTL_APPLY a).on (setBits v 0 1 1) = true := on_setBits_one (F.SAC_CCTL_APPLY a) v rfl rfl
  rw [State.sacCctlWrite, happly]; rfl

end Sys2Proof.Machine

open Sys2Proof Sys2Proof.Machine

/-- Settles O5: SPC_CTL is written with RUN forced or as it stands, and the start, the halt and the target each have their cases. -/
theorem spindleCommands : Obligations.SpindleCommands := by
  refine ⟨?_, ?_, ?_, fun s v hlo hhi ht => next_eq ?_, fun s v h => next_eq (if_neg (by omega))⟩
  · intro s v hloss u
    have hop : exec (.spindleRun v) s = .next (u.spcStart (F.SPC_CTL_CATCH.on v)) := next_eq (spcCtlWrite_run s hloss)
    rw [hop]
    refine ⟨fun hst hsafe hharv hheld => next_eq (if_pos (by simp [hst, hsafe, hharv, hheld])), fun h => next_eq (spcStart_stays _ h)⟩
  · intro s v hloss u
    have hop : exec (.spindleStop v) s = .next u.spcHalt := next_eq (spcCtlWrite_stop s hloss)
    rw [hop]
    refine ⟨fun hrun => next_eq (if_pos hrun), fun h => ?_, fun hst => ?_⟩
    · have hrun : u.spcIn SpcS.run = false := by
        rcases h with h | h | h <;> exact spcIn_of_spcIn h (by decide)
      refine next_eq ?_
      rw [State.spcHalt, hrun]
      refine (if_neg Bool.false_ne_true).trans (if_pos ?_)
      simpa [or_assoc] using h
    · have hnot : ∀ x, SpcS.stopped ≠ x → u.spcIn x = false := fun _ => spcIn_of_spcIn hst
      refine next_eq ?_
      rw [State.spcHalt, hnot _ (by decide), hnot SpcS.catching (by decide), hnot SpcS.align (by decide), hnot SpcS.openloop (by decide)]
      rfl
  · intro s v hrun _ u hst
    exact next_eq ((spcCtlWrite_clearLoss s hrun).trans (spcStart_stays _ (.inl hst)))
  · rw [State.targetWrite, if_pos ⟨hlo, hhi⟩, State.targetAsk, ht]; rfl

/-- Settles O7: a write of SACn_CMD is the command of its OP field. -/
theorem actuatorCommands : Obligations.ActuatorCommands := by
  have hop : ∀ {s : State} {a : Act} {v : Word} {op : Nat} {t : State}, op < 16 → s.sacCommand a op ((F.SAC_CMD_HEAD a).of v) = t →
      s.sacCmdWrite a (setBits v 0 4 op) = t := fun h ht => (sacCmdWrite_op _ _ _ h).trans ht
  refine ⟨fun s a v h => ⟨fun hh => next_eq (hop (by decide) ((if_pos h).trans (if_pos hh))), fun hh => next_eq (hop (by decide) ((if_pos h).trans (if_neg hh)))⟩,
    fun s a v h => next_eq (hop (by decide) (if_pos h)),
    fun s a v h => ⟨fun hl => next_eq (hop (by decide) ((if_pos h).trans (if_pos hl))), fun hl => next_eq (hop (by decide) ((if_pos h).trans (if_off hl)))⟩,
    fun s a v h => next_eq (hop (by decide) (if_pos h)), fun s a v h => next_eq (hop (by decide) (if_pos h)), fun s a v op c hc h => ?_⟩
  · have hrej : s.sacCommand a op ((F.SAC_CMD_HEAD a).of v) = s.fsetB (F.SAC_STS_REJ a) true := sacCommand_refused s h
    simp only [List.mem_cons, List.not_mem_nil, or_false, Prod.mk.injEq] at hc
    rcases hc with ⟨rfl, rfl⟩ | ⟨rfl, rfl⟩ | ⟨rfl, rfl⟩ | ⟨rfl, rfl⟩ | ⟨rfl, rfl⟩ <;> exact next_eq (hop (by decide) hrej)

/-- Settles O8: SACn_CTL is written with one bit forced, SACn_CCTL with APPLY. -/
theorem actuatorControl : Obligations.ActuatorControl := by
  refine ⟨fun s a v hint hcnt => ⟨next_eq (sacCtlWrite_enable s a v true hint hcnt), fun hp => next_eq ?_, fun hp => next_eq ?_⟩,
    fun s a v hen hcnt => next_eq (sacCtlWrite_clearIntegrator s a hen hcnt), fun s a v hen hint => next_eq (sacCtlWrite_clearCounters s a hen hint),
    fun s a v hj => next_eq ?_, fun s a v hj => next_eq ?_⟩
  · exact (sacCtlWrite_enable s a v false hint hcnt).trans (if_pos hp)
  · exact (sacCtlWrite_enable s a v false hint hcnt).trans (if_off hp)
  · exact (sacCctlWrite_apply s a v).trans (if_pos hj)
  · exact (sacCctlWrite_apply s a v).trans (if_off hj)

/-- Settles O10: each transition in the state and the case its premises name. -/
theorem actuatorTransitions : Obligations.ActuatorTransitions := by
  refine ⟨fun s a hst hn => next_eq (if_pos ?_), fun s a hst hn => ⟨next_eq (if_pos ?_), next_eq (if_neg ?_)⟩,
    fun s a hst hn => ⟨next_eq (if_pos ?_), next_eq (if_neg ?_)⟩, fun s a hst hn => next_eq ?_, fun s a hst hn => next_eq (if_pos ?_),
    fun s a hst hn => ⟨next_eq (if_neg ?_), fun hw => next_eq ?_⟩, fun s a hst hu => next_eq (if_pos ?_), fun s a hst hu => next_eq (if_pos ?_)⟩
  · simp [hst, hn]
  · simp [hst, hn]
  · simp [hst, hn]
  · simp [hst, hn]
  · simp [hst, hn]
  · have hreal : decide (s.missMax a ≤ (s.sacOf a).missRun) = true := decide_eq_true hn
    have hfollow : s.sacState a = SacS.follow := eq_of_beq hst
    rw [recoverEntryOp, hreal, hfollow]
    exact if_pos ⟨.inr (.inr rfl), rfl⟩
  · simp [hst, hn]
  · simp [hst, hn]
  · have hreal : (decide (512 ≤ (s.sacOf a).recWedges) && decide ((s.sacOf a).recGood < 4)) = true := by simp [hw, hn]
    rw [recoverTimeoutOp, hreal, hst]; rfl
  · simp [hst, hu]
  · simp [hst, hu]

/-- Settles O11: supervision in the case that its premises name, and Buffer Stop phase by phase. -/
theorem actuatorSupervisionAndStop : Obligations.ActuatorSupervisionAndStop := by
  refine ⟨fun s a h => next_eq ?_, ?_, fun s a hst h => next_eq ?_, ?_, fun s a hst hb => next_eq (if_pos ?_), fun s a hst hb => next_eq (if_pos ?_),
    fun s a hst hb => next_eq (if_pos ?_), ?_, fun s a hst => ⟨next_eq (if_neg ?_), next_eq (if_neg ?_), next_eq (if_neg ?_), next_eq (if_neg ?_)⟩⟩
  · rw [followingErrorExpiryOp, h]; rfl
  · intro s a vcms _ u hst diff
    refine next_eq ?_
    rw [currentPlausibilityTickOp]
    refine (if_neg (by rw [show State.sacIn _ a SacS.bstop = false from hst]; exact Bool.false_ne_true)).trans ?_
    simp only [decide_eq_true_eq]; rfl
  · have hreal : (!s.sacIn a SacS.bstop && (decide (8 ≤ (s.sacOf a).ipFails) || decide (4 ≤ (s.sacOf a).plausFails))) = true := by simpa [hst] using h
    rw [implausibleOp, hreal]; rfl
  · intro s a aA aB hot hw hg x y q est u
    have hopen : (s.flag (F.SAC_WFG_OTEN a) && (s.writeInProgress a && (s.rwcOf a).gate.isSome)) = true := by simp [hot, hw, hg]
    have hop : estimateIntervalCloseOp a aA aB s = if s.fget (F.SAC_SCFG_OTAMIN a) * 16 ≤ x + y ∧ 0 < x + y then
        (let fail := decide (u.fget (F.SAC_WFG_OTLIM a) * 16 < mag est)
         if fail || u.forced (Blk.sac a) 0 1 then (u.sacMap a (fun z => { z with estFail := true })).writeFault a fail else u)
        else s.fsetB (F.SAC_OTEST_VALID a) false := if_pos hopen
    refine ⟨fun h => next_eq (hop.trans (if_neg (by omega))), fun hmin hpos hlim hforced => next_eq (hop.trans ((if_pos ⟨hmin, hpos⟩).trans ?_)),
      fun hmin hpos hlim => next_eq (hop.trans ((if_pos ⟨hmin, hpos⟩).trans ?_))⟩
    · rw [decide_eq_false (not_lt.2 hlim), hforced]; rfl
    · rw [decide_eq_true hlim]; rfl
  · simp [hst, hb]
  · simp [hst, hb]
  · simp [hst, hb]
  · intro s a hst hb _ u hfenced
    have hop : bufferStopEndOp a s = if (s.sacOf a).resetDue then (u.sacMap a (fun x => { x with bstop := .idle })).sacEnter a SacS.parked else u.spcParked := by
      rw [bufferStopEndOp, if_pos (by simp [hst, hb])]
      change (let x := if (u.flag F.BRL_STS_FENCED && !u.flag (F.SAC_STS_BSACT .zero) && !u.flag (F.SAC_STS_BSACT .one)) = true then _ else u
        if (s.sacOf a).resetDue = true then _ else x.spcParked) = _
      rw [hfenced]; rfl
    exact ⟨fun h => next_eq (hop.trans (if_off h)), fun h => next_eq (hop.trans (if_pos h))⟩
  · simp [hst]
  · simp [hst]
  · simp [hst]
  · simp [hst]
end

section
/-! Slots and windows of the Timetable (spec/02_timetable.md: R40 to R44), and the statement about them. -/
namespace Sys2Proof.Machine

/-- MODE and HW, which every write of TTB_SLOTn_CTL stores. -/
def State.slotStore (s : State) (n : Nat) (mode : Bool) (hw : Nat) : State := (s.fsetB (F.TTB_SLOT_CTL_MODE n) mode).fset (F.TTB_SLOT_CTL_HW n) hw

theorem slotCtlWrite_disarm (s : State) (n : Nat) (v : Word) (hpair : ¬ (n % 2 = 1 ∧ s.isWindow (n - 1) = true)) :
    s.slotCtlWrite n (setBits v 0 1 0) =
      ((s.slotStore n ((F.TTB_SLOT_CTL_MODE n).on v) ((F.TTB_SLOT_CTL_HW n).of v)).slotSet n none).fsetB (F.TTB_SLOT_CTL_INSIDE n) false := by
  have harm : (F.TTB_SLOT_CTL_ARM n).on (setBits v 0 1 0) = false := on_setBits_zero (F.TTB_SLOT_CTL_ARM n) v rfl rfl
  have hmode : (F.TTB_SLOT_CTL_MODE n).on (setBits v 0 1 0) = (F.TTB_SLOT_CTL_MODE n).on v := on_setBits_apart v 0 rfl
  have hhw : (F.TTB_SLOT_CTL_HW n).of (setBits v 0 1 0) = (F.TTB_SLOT_CTL_HW n).of v := of_setBits_apart v 0 rfl
  rw [State.slotCtlWrite, harm, hmode, hhw]
  exact (if_neg hpair).trans (if_neg Bool.false_ne_true)

/-- Arming a single slot: the target is latched inside the horizon and refused outside it. -/
theorem slotCtlWrite_arm (s : State) (n : Nat) (v : Word) (hpair : ¬ (n % 2 = 1 ∧ s.isWindow (n - 1) = true)) (hsingle : (F.TTB_SLOT_CTL_MODE n).on v = false) :
    s.slotCtlWrite n (setBits v 0 1 1) = if inHorizon (s.slotDiff (s.slotTarget n)) then
      ((((s.slotStore n false ((F.TTB_SLOT_CTL_HW n).of v)).fsetB (F.TTB_SLOT_CTL_LATE n) false).fsetB (F.TTB_SLOT_CTL_FAR n) false).slotSet n
        (some ⟨s.slotTarget n, 0, false, (F.TTB_SLOT_CTL_HW n).of v, decide (s.slotDiff (s.slotTarget n) < 0), false⟩)).fsetB (F.TTB_SLOT_CTL_INSIDE n) false
      else s.slotReject n := by
  have harm : (F.TTB_SLOT_CTL_ARM n).on (setBits v 0 1 1) = true := on_setBits_one (F.TTB_SLOT_CTL_ARM n) v rfl rfl
  have hmode : (F.TTB_SLOT_CTL_MODE n).on (setBits v 0 1 1) = false := (on_setBits_apart v 1 rfl).trans hsingle
  have hhw : (F.TTB_SLOT_CTL_HW n).of (setBits v 0 1 1) = (F.TTB_SLOT_CTL_HW n).of v := of_setBits_apart v 1 rfl
  rw [State.slotCtlWrite, harm, hmode, hhw]
  refine (if_neg hpair).trans ((if_pos rfl).trans ?_)
  dsimp only
  cases inHorizon (s.slotDiff (s.slotTarget n)) with
  | false => exact if_pos rfl
  | true => exact if_neg Bool.false_ne_true

end Sys2Proof.Machine

open Sys2Proof Sys2Proof.Machine

/-- Settles O12: TTB_SLOTn_CTL is written with ARM forced; a latched slot fires, opens or closes once its angle has come. -/
theorem timetableSlots : Obligations.TimetableSlots := by
  refine ⟨?_, ?_, ?_, ?_, ?_⟩
  · intro s n v hpair hmode t d hw u
    have harm := slotCtlWrite_arm s n.val v hpair hmode
    refine ⟨fun h => next_eq (harm.trans (if_pos h)), fun h => next_eq (harm.trans (if_off h)), next_eq ((slotCtlWrite_disarm s n.val v hpair).trans ?_)⟩
    rw [hmode]; rfl
  · intro s n l hl hw u
    have hop : slotFireOp n s = if l.window || decide (u.slotDiff l.target > 0) then s
        else (((u.fsetB (F.TTB_SLOT_CTL_LATE n.val) l.late).slotFired n.val).strobe l.hw).slotNext n.val l := by
      rw [slotFireOp, hl]
    refine ⟨fun h => next_eq (hop.trans (if_neg ?_)), fun h => next_eq (hop.trans (if_pos ?_)), next_eq ?_⟩
    · simpa [hw] using h
    · simpa [hw] using h
    · rw [windowOpenOp, hl]
      dsimp only
      rw [hw]; rfl
  · intro s n l hl hw hopened hlate u h
    refine next_eq ?_
    rw [windowOpenOp, hl]
    dsimp only
    rw [hw, hopened, hlate]
    refine (if_neg ?_).trans (if_neg Bool.false_ne_true)
    simpa using h
  · intro s n l hl hopened u h
    refine next_eq ?_
    rw [windowCloseOp, hl]
    dsimp only
    rw [hopened]
    refine if_neg ?_
    simpa using h
  · intro s n hl
    exact ⟨next_eq (by rw [slotFireOp, hl]), next_eq (by rw [windowOpenOp, hl]), next_eq (by rw [windowCloseOp, hl])⟩
end

section
/-! The channels (spec/05_channel.md: R112 to R128) and the Deep Decode Pool (spec/06_read_recovery.md: R133 to R146), and the statements about them. -/
namespace Sys2Proof.Machine

/-! Gate periods -/

/-- The opening of a write's gate period, of which `ready` sectors have all their bytes (R114). -/
def State.openWriteGate (s : State) (a : Act) (t : Transfer) (g : GatePeriod) (rest : List GatePeriod) (ready : Nat) : State :=
  let begins := g.frags.length - t.mid.toNat
  let forced := s.forced (Blk.rwc a) 0 2
  let ready := if forced then 0 else min ready begins
  let short := decide (ready < begins)
  let s := if short then (s.fsetB (F.RWC_STS_UNDERRUN a) true).raiseFault (Blk.rwc a) 0 2 1 (s.sacInfo a) (short && !forced) else s
  let frags := g.frags.take (t.mid.toNat + ready)
  let split := match frags.getLast? with
    | some f => !f.last
    | none => false
  let t := { t with stopped := t.stopped || short, periods := if short then (if split then secondOnly rest else []) else rest }
  let s := s.rwcMap a (fun r => { r with transfer := some t })
  if frags.isEmpty then s.settleTransfer a
  else
    ((s.rwcMap a (fun r => { r with gate := some { g with frags := frags }, wdata := s.writeBytes (t.daddr + 4128 * (t.done + frags.length - 1)) })).fsetB
      (F.RWC_STS_IDLE a) false).telMap a (fun x => { x with overs := 0, missing := 0, frames := 0, sum := 0, n := 0 })

theorem gatePeriodOpen_eq (s : State) {a : Act} (ready : Nat) {t : Transfer} {g : GatePeriod} {rest : List GatePeriod} (ht : (s.rwcOf a).transfer = some t)
    (hp : t.periods = g :: rest) (hst : t.started = true) (hg : (s.rwcOf a).gate = none) :
    gatePeriodOpenOp a ready s =
      let u := s.angleToPos (t.swedge + g.wedge) g.openPh
      if !u.gateAllowed a t then u.stopTransfer a
      else if t.kind = .write then u.openWriteGate a t g rest ready
      else u.rwcMap a (fun r => { r with gate := some g, transfer := some { t with periods := rest } }) := by
  rw [gatePeriodOpenOp, ht]
  dsimp only
  rw [hp]
  exact if_neg (by simp [hst, hg])

theorem openWriteGate_ready (s : State) {a : Act} {ready : Nat} {t : Transfer} {g : GatePeriod} (rest : List GatePeriod) (hstop : t.stopped = false)
    (hforced : s.forced (Blk.rwc a) 0 2 = false) (hready : g.frags.length - t.mid.toNat ≤ ready) :
    let frags := g.frags.take (t.mid.toNat + (g.frags.length - t.mid.toNat))
    let w := s.rwcMap a (fun r => { r with transfer := some { t with periods := rest } })
    frags ≠ [] → s.openWriteGate a t g rest ready =
      ((w.rwcMap a (fun r => { r with gate := some { g with frags := frags }, wdata := w.writeBytes (t.daddr + 4128 * (t.done + frags.length - 1)) })).fsetB
        (F.RWC_STS_IDLE a) false).telMap a (fun y => { y with overs := 0, missing := 0, frames := 0, sum := 0, n := 0 }) := by
  intro frags w hne
  have hempty : frags.isEmpty = false := by rwa [List.isEmpty_eq_false_iff]
  have hkeep : ({ t with stopped := t.stopped || false, periods := rest } : Transfer) = { t with periods := rest } := by rw [hstop]; rfl
  rw [State.openWriteGate, hforced]
  simp only [Bool.false_eq_true, if_false, min_eq_right hready, lt_irrefl, decide_false, hkeep]
  exact if_off hempty

theorem gatePeriodClose_eq (s : State) {a : Act} {t : Transfer} {g : GatePeriod} (ht : (s.rwcOf a).transfer = some t) (hg : (s.rwcOf a).gate = some g) :
    gatePeriodCloseOp a s =
      let last := (g.frags.getLast?).getD ⟨0, true⟩
      let t' := { t with done := t.done + (g.frags.filter (·.last)).length, mid := !last.last }
      let u := (s.angleToPos (t.swedge + g.wedge) last.endPh).rwcMap a (fun r => { r with gate := none, transfer := some t' })
      State.settleTransfer (if t.kind = .write then (u.fsetB (F.RWC_STS_IDLE a) true).trimUpdate a else u) a := by
  rw [gatePeriodCloseOp, ht, hg]

theorem gatePeriodOpen_idle (s : State) {a : Act} (ready : Nat) (ht : (s.rwcOf a).transfer = none) : gatePeriodOpenOp a ready s = s := by
  rw [gatePeriodOpenOp, ht]

theorem gatePeriodClose_idle (s : State) {a : Act} (ht : (s.rwcOf a).transfer = none) : gatePeriodCloseOp a s = s := by
  rw [gatePeriodCloseOp, ht]

/-! RWCn_CTL and RWCn_PSCMD -/

theorem rwcCtlWrite_enable (s : State) (a : Act) {v : Word} (hcnt : (F.RWC_CTL_CLRCNT a).on v = false) :
    s.rwcCtlWrite a (setBits v 0 1 1) = s.fsetB (F.RWC_CTL_EN a) true := by
  have hen : (F.RWC_CTL_EN a).on (setBits v 0 1 1) = true := on_setBits_one (F.RWC_CTL_EN a) v rfl rfl
  have hcnt' : (F.RWC_CTL_CLRCNT a).on (setBits v 0 1 1) = false := (on_setBits_apart v 1 rfl).trans hcnt
  rw [State.rwcCtlWrite, hen, hcnt']; rfl

theorem rwcCtlWrite_clearCounters (s : State) (a : Act) {v : Word} (hen : (F.RWC_CTL_EN a).on v = true) : s.rwcCtlWrite a (setBits v 1 1 1) =
    ((((s.fsetB (F.RWC_CTL_EN a) true).clearCount (Rg.RWC_SECT_LO a)).clearCount (Rg.RWC_FAIL_LO a)).clearCount (Rg.RWC_SMISS_LO a)).clearCount
      (Rg.RWC_LATE_CPL_LO a) := by
  have hen' : (F.RWC_CTL_EN a).on (setBits v 1 1 1) = true := (on_setBits_apart v 1 rfl).trans hen
  have hcnt : (F.RWC_CTL_CLRCNT a).on (setBits v 1 1 1) = true := on_setBits_one (F.RWC_CTL_CLRCNT a) v rfl rfl
  rw [State.rwcCtlWrite, hen', hcnt]; rfl

theorem pscmdWrite_go (s : State) (a : Act) (v : Word) : s.pscmdWrite a (setBits v 31 1 1) = if !s.flag (F.RWC_STS_PSBUSY a) then
      (s.rwcMap a (fun r => { r with fwWait := some (SerFrame.mk .firmware ((F.RWC_PSCMD_RD a).on v) (BitVec.ofNat 16 ((F.RWC_PSCMD_ADDR a).of v))
        (BitVec.ofNat 16 (s.fget (F.RWC_PSDATA_DATA a)))) })).portStatus a
    else s := by
  have hgo : (F.RWC_PSCMD_GO a).on (setBits v 31 1 1) = true := on_setBits_one (F.RWC_PSCMD_GO a) v rfl rfl
  have hrd : (F.RWC_PSCMD_RD a).on (setBits v 31 1 1) = (F.RWC_PSCMD_RD a).on v := on_setBits_apart v 1 rfl
  have haddr : (F.RWC_PSCMD_ADDR a).of (setBits v 31 1 1) = (F.RWC_PSCMD_ADDR a).of v := of_setBits_apart v 1 rfl
  rw [State.pscmdWrite, hgo, hrd, haddr]; rfl

/-! Sync windows and decoded sectors -/

theorem syncWindowClose_eq (s : State) {a : Act} (cands : List SyncCand) {t : Transfer} {g : GatePeriod} (ht : (s.rwcOf a).transfer = some t)
    (hg : (s.rwcOf a).gate = some g) (hk : t.kind ≠ .write) (hm : t.marks = []) (hmid : t.mid = false) (hn : t.nextWord < t.done + g.frags.length) :
    let l := keptCands (cands.filter (syncCandidate (s.dbits a t.fmt) ((t.places.getD t.nextWord ⟨0, 0, 0⟩).cell + 127) (min 4 (s.fget (F.RWC_DCFG_SMTOL a)))))
    let u := s.rwcMap a (fun r => { r with transfer := some { t with marks := [(l, none)] } })
    syncWindowCloseOp a cands s = if l.isEmpty then u.count (Rg.RWC_SMISS_LO a) else u := by
  intro l u
  rw [syncWindowCloseOp, ht, hg]
  dsimp only
  rw [if_neg hk, hm]
  simp only [List.getLast?_nil, List.length_nil, Nat.add_zero, List.nil_append]
  exact if_pos (by simpa [hmid] using hn)

/-- Whether the transfer of a re-read's pass stands ready for it. -/
def State.passHeld (s : State) (slot : Nat) (a : Act) : Bool :=
  match (s.rwcOf a).transfer with
  | some t => decide (t.kind = .reread) && t.daddr == slot && t.done == 1 && (s.rwcOf a).gate.isNone
  | none => false

theorem rereadPass_eq (s : State) {slot : Nat} (m : PassIn) {j : Job} (hj : s.jobAt slot = some j) (hst : j.state = .waitPass)
    (h : s.passHeld slot j.act = true ∨ m.result = 8) : rereadPassOp slot m s =
      let u := if 3 ≤ m.result then (s.count (Rg.RWC_SECT_LO j.act)).count (Rg.RWC_FAIL_LO j.act) else s.count (Rg.RWC_SECT_LO j.act)
      if s.passHeld slot j.act then (u.passArrives slot m).chDone j.act else u.passArrives slot m := by
  rw [rereadPassOp, hj]
  have hgo : (s.passHeld slot j.act || m.result == 8) = true := by simpa using h
  exact if_pos ⟨hst, hgo⟩

end Sys2Proof.Machine

open Sys2Proof Sys2Proof.Machine

/-- Settles O13: gate periods by the transfer's kind, and the port, the preamplifier and the channel's control register by their cases. -/
theorem channelGatesAndPreamp : Obligations.ChannelGatesAndPreamp := by
  refine ⟨?_, ?_, fun s a ready ht => ⟨next_eq (gatePeriodOpen_idle s ready ht), next_eq (gatePeriodClose_idle s ht)⟩,
    fun s a v h => next_eq ((pscmdWrite_go s a v).trans (if_pos (by rw [h]; rfl))), fun s a v h => next_eq ((pscmdWrite_go s a v).trans (if_off (by rw [h]; rfl))),
    fun s a f hf => ⟨fun t hs => next_eq ?_, fun hs hw => next_eq ?_⟩, ?_, fun s a h => next_eq (if_pos h), ?_, fun s a => rfl,
    fun s a v h => next_eq (rwcCtlWrite_enable s a h), fun s a v h => next_eq (rwcCtlWrite_clearCounters s a h)⟩
  · intro s a ready t g rest ht hp hst hg u
    have hop := gatePeriodOpen_eq s ready ht hp hst hg
    refine ⟨fun hno => next_eq (hop.trans (if_pos (congrArg _ hno))), fun hok hk => next_eq (hop.trans ((if_off (congrArg _ hok)).trans (if_neg hk))), ?_⟩
    intro hok hk hstop hforced hready frags w x hne
    exact next_eq (hop.trans ((if_off (congrArg _ hok)).trans ((if_pos hk).trans (openWriteGate_ready u rest hstop hforced hready hne))))
  · intro s a t g ht hg last t' u
    have hop := gatePeriodClose_eq s ht hg
    exact ⟨fun hk => next_eq (hop.trans (congrArg (fun x => State.settleTransfer x a) (if_pos hk))),
      fun hk => next_eq (hop.trans (congrArg (fun x => State.settleTransfer x a) (if_neg hk)))⟩
  · rw [serialFrameStartOp, hf, hs]; rfl
  · rw [serialFrameStartOp, hf, hs, hw]; rfl
  · intro s a f hf hrd htr u
    refine next_eq ?_
    rw [serialTimeoutOp, hf]
    dsimp only
    rw [hrd, htr]; rfl
  · intro s a h u
    have hop : preampFaultOp a s = if u.writeInProgress a then u.writeFault a true else u.permUpdate a := if_off h
    exact ⟨fun hw => next_eq (hop.trans (if_pos hw)), fun hw => next_eq (hop.trans (if_off hw))⟩

/-- Settles O14: a window by what it keeps, a good sector of a read, and a re-read pass by whether its transfer is held. -/
theorem sectorDecoding : Obligations.SectorDecoding := by
  refine ⟨?_, ?_, fun s a m ht => next_eq (by rw [sectorDecodedOp, ht]), fun s slot m j hj hst hr ht => next_eq ?_, fun s slot m j t hj hst hr ht hk hd hdone hg => next_eq ?_⟩
  · intro s a cands t g ht hg hk hm hmid hn l u
    have hop := syncWindowClose_eq s cands ht hg hk hm hmid hn
    exact ⟨fun hl => next_eq (hop.trans (if_off (List.isEmpty_eq_false_iff.2 hl))), fun hl => next_eq (hop.trans (if_pos (List.isEmpty_iff.2 hl)))⟩
  · intro s a m t o ht hk hn ho hopc split mk track lastOff plan v u hv
    have hreach : ¬ (t.kind ≠ .read ∨ t.done + (((s.rwcOf a).gate.map (fun (g : GatePeriod) => (g.frags.filter (·.last)).length)).getD 0) ≤ t.nextWord) := by
      rintro (h | h)
      · exact h hk
      · omega
    refine next_eq ?_
    rw [sectorDecodedOp, ht]
    dsimp only
    rw [if_neg hreach, ho]
    dsimp only
    refine congrArg (fun x => State.settleTransfer x a) ((if_off ?_).trans (if_pos ?_))
    · change (decide (3 ≤ v.result) && decide (v.result ≤ 7) && _) = false
      rw [decide_eq_false (by omega)]; rfl
    · change (decide (v.result ≤ 2) && descOpc o.desc != 3) = true
      rw [decide_eq_true hv, hopc]; rfl
  · have hheld : s.passHeld slot j.act = false := by rw [State.passHeld, ht]
    rw [rereadPass_eq s m hj hst (.inr hr), hr]
    exact if_off hheld
  · have hheld : s.passHeld slot j.act = true := by rw [State.passHeld, ht]; simp [hk, hd, hdone, hg]
    rw [rereadPass_eq s m hj hst (.inl hheld), if_neg (not_le.2 hr)]
    exact if_pos hheld
end

section
/-! The Deep Decode Pool (spec/06_read_recovery.md: R133, R134, R142 to R146), and the statement about it. -/
namespace Sys2Proof.Machine

theorem poolDecodeComplete_good (s : State) {e : Fin 4} {m : PoolDecode} {j : Job} (hj : s.ddp.jobs.find? (fun j => decide (j.state = .engine e.val)) = some j)
    (hgood : j.decodesGood m.attempts = true) : poolDecodeCompleteOp e m s =
      (((s.wr (Rg.DDP_ENG e.val) 0).putRecovered (j.decoded m.attempts) m.data).endJob (j.decoded m.attempts) (j.decoded m.attempts).goodOutcome).grants := by
  rw [poolDecodeCompleteOp, hj]
  exact congrArg State.grants (if_pos hgood)

theorem jobAgeLimit_eq (s : State) {slot : Nat} {j : Job} (hj : s.jobAt slot = some j) : jobAgeLimitOp slot s =
    let u := s.angleTo (j.created + BitVec.ofNat 64 (s.jobAge j * revUnits))
    match j.state with
    | .engine _ => u.jobMap slot (fun j => { j with aged := true })
    | _ => (u.endJob j 4).grants := by
  rw [jobAgeLimitOp, hj] <;> rfl

theorem ddpCtlWrite_enable (s : State) {v : Word} (hcnt : F.DDP_CTL_CLRCNT.on v = false) :
    s.ddpCtlWrite (setBits v 0 1 1) = s.fsetB F.DDP_CTL_EN true := by
  have hen : F.DDP_CTL_EN.on (setBits v 0 1 1) = true := on_setBits_one F.DDP_CTL_EN v rfl rfl
  have hcnt' : F.DDP_CTL_CLRCNT.on (setBits v 0 1 1) = false := (on_setBits_apart v 1 rfl).trans hcnt
  rw [State.ddpCtlWrite, hen, hcnt']; rfl

theorem ddpCtlWrite_disable (s : State) {v : Word} (hcnt : F.DDP_CTL_CLRCNT.on v = false) :
    s.ddpCtlWrite (setBits v 0 1 0) = (s.fsetB F.DDP_CTL_EN false).abortJobs (fun _ => true) s.ddp.jobs := by
  have hen : F.DDP_CTL_EN.on (setBits v 0 1 0) = false := on_setBits_zero F.DDP_CTL_EN v rfl rfl
  have hcnt' : F.DDP_CTL_CLRCNT.on (setBits v 0 1 0) = false := (on_setBits_apart v 0 rfl).trans hcnt
  rw [State.ddpCtlWrite, hen, hcnt']; rfl

theorem ddpCtlWrite_clearCounters (s : State) {v : Word} (hen : F.DDP_CTL_EN.on v = true) : s.ddpCtlWrite (setBits v 1 1 1) =
    (((((s.fsetB F.DDP_CTL_EN true).clearCount Rg.DDP_JOBS_LO).clearCount Rg.DDP_RECOV_LO).clearCount Rg.DDP_UNREC_LO).clearCount Rg.DDP_REVS_LO).clearCount
      Rg.DDP_REFUSED_LO := by
  have hen' : F.DDP_CTL_EN.on (setBits v 1 1 1) = true := (on_setBits_apart v 1 rfl).trans hen
  have hcnt : F.DDP_CTL_CLRCNT.on (setBits v 1 1 1) = true := on_setBits_one F.DDP_CTL_CLRCNT v rfl rfl
  rw [State.ddpCtlWrite, hen', hcnt]; rfl

end Sys2Proof.Machine

open Sys2Proof Sys2Proof.Machine

/-- Settles O15: decodes, grants and ages by the job they find, and DDP_CTL with one bit forced. -/
theorem decodePool : Obligations.DecodePool := by
  refine ⟨fun s e m j hj hgood => next_eq (poolDecodeComplete_good s hj hgood), fun s e m hj => next_eq (by rw [poolDecodeCompleteOp, hj]),
    fun s j hj hp => next_eq ?_, fun s hp => next_eq ?_, ?_, fun s v h => ⟨next_eq (ddpCtlWrite_enable s h), next_eq (ddpCtlWrite_disable s h)⟩,
    fun s v h => next_eq (ddpCtlWrite_clearCounters s h)⟩
  · rw [accumulatorGrantOp, hj]
    exact if_pos hp
  · rw [accumulatorGrantOp, hp]
    cases s.ddp.jobs.find? (fun j => decide (j.state = .waitPair)) <;> rfl
  · intro s slot j hj u
    refine ⟨fun h => next_eq ?_, fun e h => next_eq ?_⟩
    · rw [jobAgeLimit_eq s hj]
      rcases h with h | h | h <;> rw [h]
    · rw [jobAgeLimit_eq s hj, h]
end

section
/-! Temperatures and calibration (spec/08_energy_assist.md: R180 to R189), and the statement about them. -/
namespace Sys2Proof.Machine

/-! Temperature scans -/

theorem temperatureScan_eq (s : State) (r : List (Option Int)) (hen : s.flag F.ASC_CTL_EN = true) (hbusy : s.flag F.ASC_CALSTS_BUSY = false) :
    temperatureScanOp r s =
      let u := s.scanAll 0 r
      let x := match u.hottest (List.range 12) with
        | some (c, v) => (u.sset F.ASC_JTEMP_TEMP v).fset F.ASC_JTEMP_SRC c
        | none => u
      let y := match x.hottest ((List.range 14).filter (fun c => (x.fget F.ASC_DTMASK_MASK >>> c) % 2 == 1)) with
        | some (c, v) => ((x.sset F.ASC_DTEMP_TEMP v).fset F.ASC_DTEMP_SRC c).fsetB F.ASC_STS_DTVALID true
        | none => x.fsetB F.ASC_STS_DTVALID false
      let z := match u.hottest (List.range 12) with
        | some (_, v) => (y.throttleCheck v).criticalCheck v
        | none => y
      z.recalCheck.hctmUpdate.warnUpdate :=
  if_off (by rw [hen, hbusy]; rfl)

/-! ASC_CALCTL -/

/-- The fields that every write of ASC_CALCTL stores. -/
def State.calFields (s : State) (v : Word) : State :=
  ((s.fset F.ASC_CALCTL_IMMED (F.ASC_CALCTL_IMMED.of v)).fset F.ASC_CALCTL_AGREE (F.ASC_CALCTL_AGREE.of v)).fset F.ASC_CALCTL_AVG (F.ASC_CALCTL_AVG.of v)

/-- What RESTORE = 1 does (R186). -/
def State.calRestore (s : State) : State :=
  let b := s.asc.calBuf
  if s.locked then s.fset F.ASC_CALSTS_CODE 5
  else if crc32c ((b.take 3).map (fun w => leBytes 4 w.toNat)).flatten = (b.getD 3 0).toNat then
    let w := (((s.wr Rg.ASC_CALRES0 (b.getD 0 0)).wr Rg.ASC_CALRES1 (b.getD 1 0)).fset F.ASC_CALRES2_TEMP (bitsOf (b.getD 2 0) 0 16)).wr
      Rg.ASC_CALRES3 (b.getD 3 0)
    ((({ w with asc := { w.asc with recTemp := some (w.sget F.ASC_CALRES2_TEMP) } }).fset F.ASC_CALSTS_SRC 2).fset F.ASC_CALSTS_CODE 0).wideSet
      Rg.ASC_CALTIME_LO 0
  else s.fset F.ASC_CALSTS_CODE 4

theorem calFields_setBits (s : State) (v : Word) {lo : Nat} (h : lo = 0 ∨ lo = 1) : s.calFields (setBits v lo 1 1) = s.calFields v := by
  have himmed : F.ASC_CALCTL_IMMED.of (setBits v lo 1 1) = F.ASC_CALCTL_IMMED.of v := of_setBits_apart v 1 (by rcases h with rfl | rfl <;> rfl)
  have hagree : F.ASC_CALCTL_AGREE.of (setBits v lo 1 1) = F.ASC_CALCTL_AGREE.of v := of_setBits_apart v 1 (by rcases h with rfl | rfl <;> rfl)
  have havg : F.ASC_CALCTL_AVG.of (setBits v lo 1 1) = F.ASC_CALCTL_AVG.of v := of_setBits_apart v 1 (by rcases h with rfl | rfl <;> rfl)
  rw [State.calFields, himmed, hagree, havg]; rfl

theorem calCtlWrite_eq (s : State) (v : Word) : s.calCtlWrite v =
    let u := if F.ASC_CALCTL_RESTORE.on v then (s.calFields v).calRestore else s.calFields v
    if F.ASC_CALCTL_GO.on v then u.calStart else u := rfl

theorem calCtlWrite_start (s : State) {v : Word} (h : F.ASC_CALCTL_RESTORE.on v = false) : s.calCtlWrite (setBits v 0 1 1) = (s.calFields v).calStart := by
  have hgo : F.ASC_CALCTL_GO.on (setBits v 0 1 1) = true := on_setBits_one F.ASC_CALCTL_GO v rfl rfl
  have hrestore : F.ASC_CALCTL_RESTORE.on (setBits v 0 1 1) = false := (on_setBits_apart v 1 rfl).trans h
  rw [calCtlWrite_eq, calFields_setBits s v (.inl rfl), hgo, hrestore]; rfl

theorem calCtlWrite_restore (s : State) {v : Word} (h : F.ASC_CALCTL_GO.on v = false) : s.calCtlWrite (setBits v 1 1 1) = (s.calFields v).calRestore := by
  have hgo : F.ASC_CALCTL_GO.on (setBits v 1 1 1) = false := (on_setBits_apart v 1 rfl).trans h
  have hrestore : F.ASC_CALCTL_RESTORE.on (setBits v 1 1 1) = true := on_setBits_one F.ASC_CALCTL_RESTORE v rfl rfl
  rw [calCtlWrite_eq, calFields_setBits s v (.inr rfl), hgo, hrestore]; rfl

/-! The end of a run -/

/-- What a run that comes out as `r` leaves (R184, R185): `s` is the state before its end, `n` the samples to a half. -/
def State.calEnd (s : State) (n : Nat) (r : CalResult) : State :=
  let u := s.tick.fsetB F.ASC_CALSTS_BUSY false
  match r with
  | .outOfRange k => ((u.fset F.ASC_CALSTS_CODE 3).fset F.ASC_CALSTS_TRIES k).raiseFault Blk.asc 2 4 2 0
  | .disagree k => ((u.fset F.ASC_CALSTS_CODE 2).fset F.ASC_CALSTS_TRIES k).raiseFault Blk.asc 2 4 2 0
  | .good k gain zs =>
    if u.forced Blk.asc 2 4 then ((u.fset F.ASC_CALSTS_CODE 3).fset F.ASC_CALSTS_TRIES k).raiseFault Blk.asc 2 4 2 0 false
    else
      let off : Int := zs / (2 * n) + (if zs % (2 * n) = 0 then 0 else (Config.roundUp s.freeCtr).toNat)
      let x := ((u.fset F.ASC_CALSTS_CODE 0).fset F.ASC_CALSTS_TRIES k).fset F.ASC_CALSTS_SRC 1
      let y := x.wr Rg.ASC_CALRES1 (BitVec.ofNat 32 (min 0xFFFFFFFF ((x.rd Rg.ASC_CALRES1).toNat + 1)))
      let z := (y.sset F.ASC_CALRES2_TEMP (u.sget F.ASC_DTEMP_TEMP)).wideSet Rg.ASC_CALTIME_LO y.clock.toNat
      let w := { z with asc := { z.asc with recTemp := some (u.sget F.ASC_DTEMP_TEMP) } }
      if w.flag F.ASC_CALCTL_IMMED then (({ w with asc := { w.asc with calPend := none } }).fsetB F.ASC_CALSTS_PEND false).calLive gain off
      else (({ w with asc := { w.asc with calPend := some (gain, off) } }).fsetB F.ASC_CALSTS_PEND true).calCrc

theorem calibrationEnd_busy (s : State) {tries : List CalTry} {r : CalResult} (hb : s.flag F.ASC_CALSTS_BUSY = true)
    (hr : calTries (Config.roundUp s.freeCtr) s.freeCtr (2 ^ min 12 (max 1 (s.fget F.ASC_CALCTL_AVG))) (s.fget F.ASC_CALCTL_AGREE) 0 tries = r) :
    calibrationEndOp tries s = s.calEnd (2 ^ min 12 (max 1 (s.fget F.ASC_CALCTL_AVG))) r := by
  rw [← hr, calibrationEndOp, hb]
  rfl

end Sys2Proof.Machine

open Sys2Proof Sys2Proof.Machine

/-- Settles O17: a scan by the sensors it finds, ASC_CALCTL with GO or RESTORE forced, a run by how its tries come out. -/
theorem temperatureAndCalibration : Obligations.TemperatureAndCalibration := by
  refine ⟨?_, ?_, fun s hg ht => next_eq (if_pos (by rw [hg, ht]; rfl)), ?_, ?_, ?_, fun s degr hen => next_eq (if_pos hen)⟩
  · intro s r hen hbusy u mask hj hd
    refine next_eq ?_
    rw [temperatureScan_eq s r hen hbusy]
    dsimp only
    rw [hj]
    dsimp only
    rw [show State.hottest _ _ = none from hd]
  · intro s r c d v w hen hbusy u hj x hd
    refine next_eq ?_
    rw [temperatureScan_eq s r hen hbusy]
    dsimp only
    rw [hj]
    dsimp only
    rw [show State.hottest _ _ = some (d, w) from hd]
  · intro s v h u
    have hop : exec (.calibrationStart v) s = .next u.calStart := next_eq (calCtlWrite_start s h)
    rw [hop]
    exact ⟨fun hb => next_eq (if_off hb), fun hb => next_eq (if_pos hb)⟩
  · intro s v h u b
    have hop : exec (.calibrationRestore v) s = .next u.calRestore := next_eq (calCtlWrite_restore s h)
    rw [hop]
    exact ⟨fun hl => next_eq (if_pos hl), fun hl hcrc => next_eq ((if_off hl).trans (if_neg hcrc)), fun hl hcrc => next_eq ((if_off hl).trans (if_pos hcrc))⟩
  · intro s tries k hb u n res
    refine ⟨fun h => next_eq (calibrationEnd_busy s hb h), fun h => next_eq (calibrationEnd_busy s hb h), ?_⟩
    intro gain zs h hforced off x y z w
    have hop := (calibrationEnd_busy s hb h).trans (if_off hforced)
    exact ⟨fun hi => next_eq (hop.trans (if_pos hi)), fun hi => next_eq (hop.trans (if_off hi))⟩
end

section
/-! The media sequencers (spec/07_media_sequencers.md: R148 to R171), and the statements about them: a ready word runs whole, its fields take effect in their
order, and queue, control register and patches follow their cases. -/
namespace Sys2Proof.Machine

/-! Running a word -/

theorem seqCycle_readyToRun (s : State) {a : Act} (w : Microword) (h : s.readyToRun a) : s.seqCycle a w = s.runFetched a w := by
  obtain ⟨hrun, hheld, hwait, hpatch⟩ := h
  rw [State.seqCycle, hrun, hheld, hwait, hpatch]
  rfl

theorem runFetched_noWait (s : State) {a : Act} {w : Microword} (hres : reservedWord w = false) (hw : w.wait = 0)
    (hy : w.y = true ∨ (s.msqOf a).sinceYield < 64) : s.runFetched a w = s.runFields a w := by
  rw [State.runFetched, hres]
  refine (if_neg Bool.false_ne_true).trans ((if_neg ?_).trans (if_pos hw))
  rcases hy with hy | hy
  · simp [hy]
  · simp [not_le.2 hy]

theorem seqCycle_wordRuns (s : State) {a : Act} {w : Microword} (h : s.wordRuns a w) : s.seqCycle a w = s.runFields a w := by
  obtain ⟨hready, hres, hw, hy⟩ := h
  rw [seqCycle_readyToRun s w hready, runFetched_noWait s hres hw hy]

/-! The fields of a word -/

/-- The stack use of a word that is a machine check (R150). -/
def State.badStack (s : State) (a : Act) (w : Microword) : Bool :=
  (w.seq == 3 && decide (8 ≤ (s.msqOf a).stack.length)) || ((w.seq == 4 || w.seq == 6) && (s.msqOf a).stack.isEmpty)

/-- The ASC field (R174, R181). -/
def State.ascStep (s : State) (a : Act) (head : Nat) (n : Nat) : State :=
  match n with
  | 0 => s
  | 4 => s.ascTchk a
  | n => s.ascAction a head n

theorem ascStep_eq (s : State) (a : Act) (head n : Nat) :
    s.ascStep a head n = if n = 0 then s else if n = 4 then s.ascTchk a else s.ascAction a head n := by
  unfold State.ascStep
  split
  · rfl
  · rfl
  · rename_i h0 h4
    rw [if_neg h0, if_neg h4]

theorem runFields_badStack (s : State) {a : Act} {w : Microword} (h : s.badStack a w = true) : s.runFields a w = s.machineCheck a 3 0 := if_pos h

theorem runFields_held (s : State) {a : Act} {w : Microword} (h : s.badStack a w = false) (hp : s.preHolds a w = true) :
    s.runFields a w = (s.msqMap a (fun m => { m with held := some w, waiting := none })).fsetB (F.MSQ_STS_WAITING a) false :=
  (if_off h).trans (if_pos hp)

theorem runFields_runs (s : State) {a : Act} {w : Microword} (h : s.badStack a w = false) (hp : s.preHolds a w = false) :
    s.runFields a w =
      let m := s.msqOf a
      let b := (s.msqMap a (fun m => { m with held := none, waiting := none })).fsetB (F.MSQ_STS_WAITING a) false
      let c := ((((b.aluStep a w).gateStep a w.gate.toNat).chanStep a m w.chan.toNat).servoStep a m.motionDesc w.servo.toNat (m.reg w.ra)).preStep a
        m.motionDesc w.pre.toNat (m.reg w.rb) w.imm
      let d := c.ascStep a (descHead m.work) w.asc.toNat
      let e := if w.rpt = 1 then d.endStep a w.code.toNat else d
      let f := (if w.evt then e.raiseEvent (a.sel 88 89) else e).seqStep a w (s.condition a w.cond.toNat != w.cinv)
      if w.y || w.wait != 0 then f.yieldPoint a else f.msqMap a (fun m => { m with sinceYield := m.sinceYield + 1 }) :=
  (if_off h).trans (if_off hp)

theorem badStack_iff (s : State) (a : Act) (w : Microword) : s.badStack a w = true ↔
    (w.seq = 3 ∧ 8 ≤ (s.msqOf a).stack.length) ∨ ((w.seq = 4 ∨ w.seq = 6) ∧ (s.msqOf a).stack = []) := by
  simp [State.badStack]

/-! The operation queue -/

theorem opsubWrite_go (s : State) (a : Act) (v : Word) : s.opsubWrite a (setBits v 0 1 1) =
    if 32 ≤ (s.msqOf a).queue.length then s.fsetB (F.MSQ_STS_QREJ a) true else s.enqueue a ((List.range 16).map (fun i => s.rd (Rg.MSQ_OPD a i))) :=
  if_pos (on_setBits_one (F.MSQ_OPSUB_GO a) v rfl rfl)

theorem enqueue_accepted (s : State) (a : Act) {d : List Word} (hopc : descOpc d < 0xE0) (hw : writeKind (descOpc d) = false ∨ s.locked = true) :
    s.enqueue a d = (((s.msqMap a (fun m => { m with queue := m.queue ++ [d] })).seqEvent a 0).msqCounts a).haltDrain a 32 := by
  refine (if_neg (not_le.2 hopc)).trans (if_neg ?_)
  rcases hw with hw | hw <;> simp [hw]

theorem operationCancel_queued (s : State) (a : Act) (sub : Nat) (tag : Word) {d : List Word}
    (hd : (s.msqOf a).queue.find? (fun d => descSub d == sub && d.getD 4 0 == tag) = some d) :
    operationCancelOp a sub tag s =
      let mine := fun (d : List Word) => descSub d == sub && d.getD 4 0 == tag
      let m := s.msqOf a
      ((s.msqSet a { m with
        queue := m.queue.takeWhile (fun x => !mine x) ++ (m.queue.dropWhile (fun x => !mine x)).drop 1
        ended := m.ended ++ [newOp d (some 0x23) s.near] }).postReady a 16).msqCounts a := by
  rw [operationCancelOp]
  dsimp only
  rw [hd]

theorem operationCancel_current (s : State) {a : Act} {sub : Nat} {tag : Word} {o : MsqOp} (hq : (s.msqOf a).queue = []) (ho : (s.msqOf a).cur = some o)
    (hsub : descSub o.desc = sub) (htag : o.desc.getD 4 0 = tag) :
    operationCancelOp a sub tag s =
      let u := (s.msqSet a { s.msqOf a with cur := some { o with cancel := true } }).seqEvent a 1
      u.abortJobs (fun j => decide (j.act = a) && j.tag == tag) u.ddp.jobs := by
  rw [operationCancelOp]
  dsimp only
  rw [hq, ho]
  exact if_pos (by rw [hsub, htag, beq_self_eq_true, beq_self_eq_true]; rfl)

theorem cplpopWrite_pop (s : State) (a : Act) (v : Word) : s.cplpopWrite a (setBits v 0 1 1) =
    (((s.msqMap a (fun m => { m with cpls := m.cpls.tail })).msqCounts a).postReady a 16).haltDrain a 32 :=
  if_pos (on_setBits_one (F.MSQ_CPLPOP_POP a) v rfl rfl)

/-! MSQn_CTL -/

/-- EN = 1 for a sequencer whose control bits stand (R171). -/
def State.seqStart (u : State) (a : Act) : State :=
  if u.flag (F.MSQ_STS_RUN a) then u.msqMap a (fun m => { m with stopAsked := false })
  else if u.flag (F.MSQ_STS_HALT a) then u
  else
    (((u.msqMap a (fun m => { m with stack := [], g := List.replicate 16 0, sinceYield := 0, waiting := none, held := none, stopAsked := false })).fset
      (F.MSQ_PC_ADDR a) 0).fsetB (F.MSQ_STS_EVEN a) false).fsetB (F.MSQ_STS_RUN a) true

/-- EN = 0 for a sequencer whose control bits stand (R171). -/
def State.seqAskStop (u : State) (a : Act) : State :=
  if u.flag (F.MSQ_STS_RUN a) then
    let t := u.msqMap a (fun m => { m with stopAsked := true })
    if (t.msqOf a).waiting.isSome && t.stopsHere a then t.seqStop a else t
  else u

theorem msqCtlWrite_enable (s : State) (a : Act) {v : Word} (hcnt : (F.MSQ_CTL_CLRCNT a).on v = false) :
    s.msqCtlWrite a (setBits v 0 1 1) = (s.fsetB (F.MSQ_CTL_EN a) true).seqStart a := by
  have hen : (F.MSQ_CTL_EN a).on (setBits v 0 1 1) = true := on_setBits_one (F.MSQ_CTL_EN a) v rfl rfl
  have hcnt' : (F.MSQ_CTL_CLRCNT a).on (setBits v 0 1 1) = false := (on_setBits_apart v 1 rfl).trans hcnt
  rw [State.msqCtlWrite, hen, hcnt']; rfl

theorem msqCtlWrite_stop (s : State) (a : Act) {v : Word} (hcnt : (F.MSQ_CTL_CLRCNT a).on v = false) :
    s.msqCtlWrite a (setBits v 0 1 0) = (s.fsetB (F.MSQ_CTL_EN a) false).seqAskStop a := by
  have hen : (F.MSQ_CTL_EN a).on (setBits v 0 1 0) = false := on_setBits_zero (F.MSQ_CTL_EN a) v rfl rfl
  have hcnt' : (F.MSQ_CTL_CLRCNT a).on (setBits v 0 1 0) = false := (on_setBits_apart v 0 rfl).trans hcnt
  rw [State.msqCtlWrite, hen, hcnt']; rfl

theorem msqCtlWrite_clearCounters (s : State) (a : Act) {v : Word} (hen : (F.MSQ_CTL_EN a).on v = false) : s.msqCtlWrite a (setBits v 1 1 1) =
    (((s.fsetB (F.MSQ_CTL_EN a) false).clearCount (Rg.MSQ_OPS_LO a)).clearCount (Rg.MSQ_PART_LO a)).seqAskStop a := by
  have hen' : (F.MSQ_CTL_EN a).on (setBits v 1 1 1) = false := (on_setBits_apart v 1 rfl).trans hen
  have hcnt : (F.MSQ_CTL_CLRCNT a).on (setBits v 1 1 1) = true := on_setBits_one (F.MSQ_CTL_CLRCNT a) v rfl rfl
  rw [State.msqCtlWrite, hen', hcnt]; rfl

theorem msqOf_msqMap (s : State) (a : Act) (f : MsqSt → MsqSt) : (s.msqMap a f).msqOf a = f (s.msqOf a) := State.msqOf_msqSet s a _

theorem pldctlWrite_go (s : State) (a : Act) (v : Word) (hb : s.flag (F.MSQ_PSTS_BUSY a) = false) : s.pldctlWrite a (setBits v 0 1 1) =
    if s.locked then s.patchEnd a 1 else if s.flag (F.MSQ_CTL_EN a) then s.patchEnd a 2 else s.fsetB (F.MSQ_PSTS_BUSY a) true := by
  have hgo : (F.MSQ_PLDCTL_GO a).on (setBits v 0 1 1) = true := on_setBits_one (F.MSQ_PLDCTL_GO a) v rfl rfl
  exact if_pos (by rw [hgo, hb]; rfl)

/-- An image that nothing refuses is written section by section (R164, R165). -/
theorem patchLoadComplete_good (s : State) {a : Act} {plain : List Byte} {l : List PatchSection} (hb : s.flag (F.MSQ_PSTS_BUSY a) = true)
    (hforced : s.forced (Blk.msq a) 0 1 = false) (hkey : s.sec.patchKey = true) (hhead : s.patchHeader a (s.fget (F.MSQ_PLD_ADDR a)) = true)
    (hsecs : patchSections 16384 plain = some l) (hchip : s.load (s.fget (F.MSQ_PLD_ADDR a) + 8) 2 = bitsOf (s.rd Rg.GLB_ID) 8 8)
    (hrange : l.all PatchSection.inRange = true)
    (hpar : l.any (fun p => p.typ == 1 && (List.range p.count).any (fun i => badParity (BitVec.ofNat 144 (p.entry i)) != 0)) = false) :
    patchLoadCompleteOp a true true plain s =
      ((s.patchWriteAll a l).fset (F.MSQ_PSTS_PREV a) (s.load (s.fget (F.MSQ_PLD_ADDR a) + 0xA) 2)).patchEnd a 0 := by
  rw [patchLoadCompleteOp]
  dsimp only
  rw [hsecs]
  refine (if_off ?_).trans ((if_off hforced).trans ((if_off ?_).trans ((if_off ?_).trans ((if_neg (not_not.2 hchip)).trans ((if_off ?_).trans (if_off hpar))))))
  · rw [hb]; rfl
  · rw [hkey]; rfl
  · rw [hhead]; rfl
  · exact congrArg _ hrange

end Sys2Proof.Machine

open Sys2Proof Sys2Proof.Machine

/-- Settles O18: each row is a cycle of the sequencer with its own field forced, and a ready word's cycle runs its fields. -/
theorem microwordsRun : Obligations.MicrowordsRun := by
  intro s a w v c hc hruns
  have hrow : exec c s = .next (s.seqCycle a v) := by
    simp only [List.mem_cons, List.not_mem_nil, or_false, Prod.mk.injEq] at hc
    rcases hc with ⟨rfl, rfl⟩ | ⟨rfl, rfl⟩ | ⟨rfl, rfl⟩ | ⟨rfl, rfl⟩ | ⟨rfl, rfl⟩ | ⟨rfl, rfl⟩ | ⟨rfl, rfl⟩ | ⟨rfl, rfl⟩ | ⟨rfl, rfl⟩ | ⟨rfl, rfl⟩ |
      ⟨rfl, rfl⟩ | ⟨rfl, rfl⟩ | ⟨rfl, rfl⟩ | ⟨rfl, rfl⟩ | ⟨rfl, rfl⟩ | ⟨rfl, rfl⟩ | ⟨rfl, rfl⟩ | ⟨rfl, rfl⟩ | ⟨rfl, rfl⟩ | ⟨rfl, rfl⟩ <;> rfl
  rw [hrow, seqCycle_wordRuns s hruns]

/-- Settles O19, as O18. -/
theorem actionMicrowordsRun : Obligations.ActionMicrowordsRun := by
  intro s a w v c hc hruns
  have hrow : exec c s = .next (s.seqCycle a v) := by
    simp only [List.mem_cons, List.not_mem_nil, or_false, Prod.mk.injEq] at hc
    rcases hc with ⟨rfl, rfl⟩ | ⟨rfl, rfl⟩ | ⟨rfl, rfl⟩ | ⟨rfl, rfl⟩ | ⟨rfl, rfl⟩ | ⟨rfl, rfl⟩ | ⟨rfl, rfl⟩ | ⟨rfl, rfl⟩ | ⟨rfl, rfl⟩ | ⟨rfl, rfl⟩ |
      ⟨rfl, rfl⟩ | ⟨rfl, rfl⟩ | ⟨rfl, rfl⟩ | ⟨rfl, rfl⟩ | ⟨rfl, rfl⟩ | ⟨rfl, rfl⟩ | ⟨rfl, rfl⟩ | ⟨rfl, rfl⟩ | ⟨rfl, rfl⟩ <;> rfl
  rw [hrow, seqCycle_wordRuns s hruns]

/-- Settles O20: a bad stack use, a frame to wait for, or every field in its order. -/
theorem wordEffects : Obligations.WordEffects := by
  intro s a w
  refine ⟨fun h => runFields_badStack s ((badStack_iff s a w).2 h), fun hfull hbare => ?_⟩
  have hstack : s.badStack a w = false := by
    rw [Bool.eq_false_iff, Ne, badStack_iff]
    rintro (⟨h3, h8⟩ | ⟨h46, hnil⟩)
    · exact hfull.elim (fun h => h h3) (fun h => absurd h8 (not_le.2 h))
    · exact hbare.elim (fun h => h46.elim h.1 h.2) (fun h => h hnil)
  refine ⟨runFields_held s hstack, fun hp => ?_⟩
  intro m b c d e f
  have hd : c.ascStep a (descHead m.work) w.asc.toNat = d := ascStep_eq _ _ _ _
  refine (runFields_runs s hstack hp).trans ?_
  dsimp only
  change (let d := c.ascStep a (descHead m.work) w.asc.toNat
    let e := if w.rpt = 1 then d.endStep a w.code.toNat else d
    let f := (if w.evt then e.raiseEvent (a.sel 88 89) else e).seqStep a w (s.condition a w.cond.toNat != w.cinv)
    if w.y || w.wait != 0 then f.yieldPoint a else f.msqMap a (fun m => { m with sinceYield := m.sinceYield + 1 })) = _
  rw [hd]
  exact if_congr (by simp) rfl rfl

/-- Settles O24: submissions by the room in the queue, a cancel by where the operation stands. -/
theorem operationQueue : Obligations.OperationQueue := by
  refine ⟨fun s a v h => next_eq ((opsubWrite_go s a v).trans (if_neg (not_le.2 h))), fun s a v h => next_eq ((opsubWrite_go s a v).trans (if_pos h)),
    fun s a d => enqueue_accepted s a, fun s a d t h => ⟨fun hlt => next_eq ?_, fun hge => next_eq ?_⟩, ?_, ?_, fun s a v => next_eq (cplpopWrite_pop s a v)⟩
  · rw [hardwareSubmitOp, h]
    exact if_pos hlt
  · rw [hardwareSubmitOp, h]
    exact if_neg (not_lt.2 hge)
  · intro s a sub tag d mine m hd
    exact next_eq (operationCancel_queued s a sub tag hd)
  · intro s a sub tag o hq ho hsub htag u
    exact next_eq (operationCancel_current s hq ho hsub htag)

/-- Settles O25: MSQn_CTL with one bit forced, and a patch load by what refuses it. -/
theorem sequencerControl : Obligations.SequencerControl := by
  refine ⟨?_, ?_, ?_, fun s a cause pb hrun => next_eq (if_pos hrun), fun s a v hb => ?_, ?_⟩
  · intro s a v hcnt u
    have hop : exec (.sequencerEnable a v) s = .next (u.seqStart a) := next_eq (msqCtlWrite_enable s a hcnt)
    rw [hop]
    exact ⟨fun hrun hhalt => next_eq ((if_off hrun).trans (if_off hhalt)), fun hrun hhalt => next_eq ((if_off hrun).trans (if_pos hhalt)),
      fun hrun => next_eq (if_pos hrun)⟩
  · intro s a v hcnt u t
    have hop : exec (.sequencerStop a v) s = .next (u.seqAskStop a) := next_eq (msqCtlWrite_stop s a hcnt)
    have hwait : (t.msqOf a).waiting = (s.msqOf a).waiting := by rw [msqOf_msqMap]; rfl
    have hstops : t.stopsHere a = (s.msqOf a).cur.isNone := by rw [State.stopsHere, msqOf_msqMap]; rfl
    have hcond : ((t.msqOf a).waiting.isSome && t.stopsHere a) = true ↔ (s.msqOf a).waiting ≠ none ∧ (s.msqOf a).cur = none := by
      rw [hwait, hstops, Bool.and_eq_true, Option.isSome_iff_ne_none, Option.isNone_iff_eq_none]
    rw [hop]
    refine ⟨fun hrun h => next_eq ((if_pos hrun).trans (if_neg ?_)), fun hrun hw hc => next_eq ((if_pos hrun).trans (if_pos ?_)), fun hrun => next_eq (if_off hrun)⟩
    · rw [hcond]
      rintro ⟨hw, hc⟩
      exact h.elim hw (fun hne => hne hc)
    · exact hcond.2 ⟨hw, hc⟩
  · intro s a v hen u hrun
    exact next_eq ((msqCtlWrite_clearCounters s a hen).trans (if_off hrun))
  · have hop : exec (.patchLoad a v) s = .next _ := next_eq (pldctlWrite_go s a v hb)
    rw [hop]
    exact ⟨fun hl => next_eq (if_pos hl), fun hl hen => next_eq ((if_off hl).trans (if_pos hen)), fun hl hen => next_eq ((if_off hl).trans (if_off hen))⟩
  · intro s a plain l hb hforced img
    have hop : ∀ sigOk tagOk, patchLoadCompleteOp a sigOk tagOk plain s = _ := fun sigOk tagOk => if_neg (by rw [hb]; exact Bool.false_ne_true)
    refine ⟨fun tagOk => next_eq ((hop false tagOk).trans (if_pos rfl)), next_eq ((hop true false).trans ((if_off hforced).trans (if_pos rfl))), ?_⟩
    intro hkey hhead hsecs hchip hrange hpar
    exact next_eq (patchLoadComplete_good s hb hforced hkey hhead hsecs hchip hrange hpar)
end

section
/-! The memories (spec/13_memories.md: R289 to R304), and the statements about them: scrubbing, check-bit tests and bank copies, DDR5 reads, the merge
buffer and the Map Cache. -/
namespace Sys2Proof.Machine

/-! Scrubbing and the check-bit test -/

/-- The fields of MEM_SCRCTL that a write takes over, and the interval that follows (R293). -/
def State.scrubFields (s : State) (v : Word) : State :=
  let a := ((s.fset F.MEM_SCRCTL_TGT (F.MEM_SCRCTL_TGT.of v)).fset F.MEM_SCRCTL_FIRST (F.MEM_SCRCTL_FIRST.of v)).fset F.MEM_SCRCTL_NBANKS
    (F.MEM_SCRCTL_NBANKS.of v)
  if a.locked then a else (a.fset F.MEM_SCRCTL_INTV (F.MEM_SCRCTL_INTV.of v)).effInterval

theorem scrctlWrite_start (s : State) (v : Word) (found : List FoundErr) : s.scrctlWrite (setBits v 0 1 1) found =
    if (!(s.scrubFields v).flag F.MEM_SCRSTS_BUSY) = true then (s.scrubFields v).scrubPass (F.MEM_SCRCTL_FIRST.of v)
      (if F.MEM_SCRCTL_TGT.of v = 1 then 0 else min (max 1 (F.MEM_SCRCTL_NBANKS.of v)) (64 - F.MEM_SCRCTL_FIRST.of v)) (F.MEM_SCRCTL_TGT.of v != 0) found
    else s.scrubFields v := by
  have hgo : F.MEM_SCRCTL_GO.on (setBits v 0 1 1) = true := on_setBits_one F.MEM_SCRCTL_GO v rfl rfl
  have htgt : F.MEM_SCRCTL_TGT.of (setBits v 0 1 1) = F.MEM_SCRCTL_TGT.of v := of_setBits_apart v 1 rfl
  have hfirst : F.MEM_SCRCTL_FIRST.of (setBits v 0 1 1) = F.MEM_SCRCTL_FIRST.of v := of_setBits_apart v 1 rfl
  have hbanks : F.MEM_SCRCTL_NBANKS.of (setBits v 0 1 1) = F.MEM_SCRCTL_NBANKS.of v := of_setBits_apart v 1 rfl
  have hintv : F.MEM_SCRCTL_INTV.of (setBits v 0 1 1) = F.MEM_SCRCTL_INTV.of v := of_setBits_apart v 1 rfl
  rw [State.scrctlWrite, hgo, htgt, hfirst, hbanks, hintv]
  rfl

theorem memTestWrite_arm (s : State) (v : Word) : s.memTestWrite (setBits v 0 1 1) =
    if (!(s.fset F.MEM_TEST_CHK (F.MEM_TEST_CHK.of v)).locked || (s.fset F.MEM_TEST_CHK (F.MEM_TEST_CHK.of v)).flag F.FLT_STS_UNLOCKED) = true
    then (s.fset F.MEM_TEST_CHK (F.MEM_TEST_CHK.of v)).fsetB F.MEM_TEST_ARM true else s.fset F.MEM_TEST_CHK (F.MEM_TEST_CHK.of v) := by
  have harm : F.MEM_TEST_ARM.on (setBits v 0 1 1) = true := on_setBits_one F.MEM_TEST_ARM v rfl rfl
  have hchk : F.MEM_TEST_CHK.of (setBits v 0 1 1) = F.MEM_TEST_CHK.of v := of_setBits_apart v 1 rfl
  rw [State.memTestWrite, harm, hchk]
  rfl

/-! DDR5 reads: a core's read whose miss no register holds is answered by nothing -/

theorem ddr5ReadComplete_unknown (s : State) {addr : Nat} (err : DdrErr) (place : DdrPlace)
    (h : s.ms.misses.any (fun m => m.line == addr / 128 && !m.arrived) = false) : ddr5ReadCompleteOp addr true err place s = s := by
  refine if_pos ?_
  rw [h]
  rfl

theorem ddr5ReadTimeout_unknown (s : State) {addr : Nat} (place : DdrPlace) (h : s.ms.misses.any (fun m => m.line == addr / 128 && !m.arrived) = false) :
    ddr5ReadTimeoutOp addr true place s = s := by
  refine if_pos ?_
  rw [h]
  rfl

/-! The Map Cache -/

theorem mapCacheFill_eq (s : State) {line : Nat} {m : Miss} (h : s.ms.misses.find? (fun m => m.alloc && m.line == line && m.arrived) = some m) :
    let u := s.msMap (fun x => { x with misses := x.misses.filter (fun y => !(y.alloc && y.line == line)) })
    let w := if u.cacheOn then u.cacheInstall line 1 (m.locked && decide (u.lockedIn (lineSet line) < 8)) else u
    mapCacheFillOp line s = (m.waiters.foldl (fun s w => s.deliver w) w).retryStalled := by
  rw [mapCacheFillOp, h]

theorem mapCacheFill_none (s : State) {line : Nat} (h : s.ms.misses = []) : mapCacheFillOp line s = s := by
  rw [mapCacheFillOp, h]
  rfl

/-- The code of a range operation in a written word of MEM_MCC_OP. -/
theorem mccOp_setBits (v : Word) {op : Nat} (h : op < 4) : F.MEM_MCC_OP_OP.of (setBits v 0 2 op) = op :=
  (of_setBits_same F.MEM_MCC_OP_OP v op rfl).trans (Nat.mod_eq_of_lt h)

theorem mccOpWrite_discarded (s : State) (v : Word) (h : s.flag F.MEM_MCC_STS_BUSY = true ∨ s.flag F.MEM_MCC_STS_OFF = true) : s.mccOpWrite v = s :=
  if_pos (by rcases h with h | h <;> simp [h])

/-- What a range operation begins with: BUSY is set and the operation, its base and its lines are held. -/
def State.rangeBegun (s : State) (op base n : Nat) : State :=
  (s.fsetB F.MEM_MCC_STS_BUSY true).msMap (fun m => { m with rangeOp := some (op, base, n) })

/-- The first line of a range operation. -/
def State.rangeBase (s : State) : Nat := s.fget F.MEM_MCC_LBASE_LINE

/-- How many lines a range operation covers. -/
def State.rangeLines (s : State) : Nat := min 16384 (max 1 (s.fget F.MEM_MCC_LLEN_LINES))

/-- Whether a cached line lies in the range of an operation. -/
def State.inRange (s : State) (p : Nat × CLine) : Bool :=
  decide (s.rangeBase ≤ p.2.line p.1) && decide (p.2.line p.1 < s.rangeBase + s.rangeLines)

/-- The lines of the range are gone. -/
def State.rangeDropped (s : State) : State :=
  (s.rangeBegun 3 s.rangeBase s.rangeLines).msMap (fun m => { m with lines := m.lines.filter (fun p => !s.inRange p) })

theorem mccOpWrite_cases (s : State) (v : Word) (hbusy : s.flag F.MEM_MCC_STS_BUSY = false) (hoff : s.flag F.MEM_MCC_STS_OFF = false)
    (hop : F.MEM_MCC_OP_OP.of v ≠ 0) : s.mccOpWrite v =
    if F.MEM_MCC_OP_OP.of v = 1 then (s.rangeBegun (F.MEM_MCC_OP_OP.of v) s.rangeBase s.rangeLines).lockLines s.rangeBase s.rangeLines
    else if F.MEM_MCC_OP_OP.of v = 2 then (s.rangeBegun (F.MEM_MCC_OP_OP.of v) s.rangeBase s.rangeLines).msMap
      (fun m => { m with lines := m.lines.map (fun p => if s.inRange p then (p.1, { p.2 with locked := false }) else p) })
    else
      let w := (s.rangeBegun (F.MEM_MCC_OP_OP.of v) s.rangeBase s.rangeLines).msMap (fun m => { m with lines := m.lines.filter (fun p => !s.inRange p) })
      let lost := s.ms.lines.any (fun p => s.inRange p && p.2.locked)
      if lost || w.forced Blk.mem 0 2 then
        ((w.fsetB F.MEM_MCC_STS_LOCK_LOST true).raiseEvent 96).raiseFault Blk.mem 0 2 0 (addrInfo (s.rangeBase * 128)) lost
      else w := by
  refine (if_neg ?_).trans rfl
  simp [hbusy, hoff, hop]

theorem cacheLock_eq (s : State) (v : Word) (hbusy : s.flag F.MEM_MCC_STS_BUSY = false) (hoff : s.flag F.MEM_MCC_STS_OFF = false) :
    s.mccOpWrite (setBits v 0 2 1) = (s.rangeBegun 1 s.rangeBase s.rangeLines).lockLines s.rangeBase s.rangeLines := by
  have hop := mccOp_setBits v (op := 1) (by decide)
  rw [mccOpWrite_cases s _ hbusy hoff (by omega), hop, if_pos rfl]

theorem cacheUnlock_eq (s : State) (v : Word) (hbusy : s.flag F.MEM_MCC_STS_BUSY = false) (hoff : s.flag F.MEM_MCC_STS_OFF = false) :
    s.mccOpWrite (setBits v 0 2 2) = (s.rangeBegun 2 s.rangeBase s.rangeLines).msMap
      (fun m => { m with lines := m.lines.map (fun p => if s.inRange p then (p.1, { p.2 with locked := false }) else p) }) := by
  have hop := mccOp_setBits v (op := 2) (by decide)
  rw [mccOpWrite_cases s _ hbusy hoff (by omega), hop, if_neg (by decide), if_pos rfl]

theorem cacheInvalidate_eq (s : State) (v : Word) (hbusy : s.flag F.MEM_MCC_STS_BUSY = false) (hoff : s.flag F.MEM_MCC_STS_OFF = false) :
    let lost := s.ms.lines.any (fun p => s.inRange p && p.2.locked)
    s.mccOpWrite (setBits v 0 2 3) = if lost || s.rangeDropped.forced Blk.mem 0 2 then
        ((s.rangeDropped.fsetB F.MEM_MCC_STS_LOCK_LOST true).raiseEvent 96).raiseFault Blk.mem 0 2 0 (addrInfo (s.rangeBase * 128)) lost
      else s.rangeDropped := by
  have hop := mccOp_setBits v (op := 3) (by decide)
  rw [mccOpWrite_cases s _ hbusy hoff (by omega), hop, if_neg (by decide), if_neg (by decide)]
  rfl

theorem mccCtlWrite_enable (s : State) (v : Word) : s.mccCtlWrite (setBits v 0 1 1) =
    if (s.fsetB F.MEM_MCC_CTL_EN true).ms.disabling then (s.fsetB F.MEM_MCC_CTL_EN true).msMap (fun m => { m with enAsked := true })
    else (s.fsetB F.MEM_MCC_CTL_EN true).fsetB F.MEM_MCC_STS_OFF false := by
  have hen : F.MEM_MCC_CTL_EN.on (setBits v 0 1 1) = true := on_setBits_one F.MEM_MCC_CTL_EN v rfl rfl
  rw [State.mccCtlWrite, hen]
  rfl

theorem mccCtlWrite_disable (s : State) (v : Word) : let u := s.fsetB F.MEM_MCC_CTL_EN false
    s.mccCtlWrite (setBits v 0 1 0) =
    if u.ms.disabling then u.msMap (fun m => { m with enAsked := false })
    else if u.flag F.MEM_MCC_STS_OFF then u
    else (u.msMap (fun m => { m with disabling := true, enAsked := false, merge := [] })).fsetB F.MEM_MCC_STS_BUSY true := by
  have hen : F.MEM_MCC_CTL_EN.on (setBits v 0 1 0) = false := on_setBits_zero F.MEM_MCC_CTL_EN v rfl rfl
  rw [State.mccCtlWrite, hen]
  rfl

end Sys2Proof.Machine

open Sys2Proof Sys2Proof.Machine

/-- Settles O26: the words that start a pass and arm the test are resolved once; the other clauses are cases of their command. -/
theorem memoryCare : Obligations.MemoryCare := by
  refine ⟨?_, ?_, ?_, ?_, ?_, ?_, ?_, fun s double => rfl⟩
  · intro s v found a u
    refine ⟨fun h => next_eq ?_, fun h => next_eq ?_⟩
    · refine (scrctlWrite_start s v found).trans (if_pos ?_)
      exact congrArg Bool.not h
    · refine (scrctlWrite_start s v found).trans (if_off ?_)
      exact congrArg Bool.not h
  · exact fun s found hi hb => next_eq (if_off (by simp [hi, hb]))
  · exact fun s found hi => next_eq (if_pos (by simp [hi]))
  · exact fun s hb => next_eq (if_pos hb)
  · intro s v u
    refine ⟨fun h => next_eq ?_, fun hl hu => next_eq ?_⟩
    · refine (memTestWrite_arm s v).trans (if_pos ?_)
      exact Bool.or_eq_true_iff.2 (h.imp (congrArg Bool.not) id)
    · refine (memTestWrite_arm s v).trans (if_off ?_)
      exact Bool.or_eq_false_iff.2 ⟨congrArg Bool.not hl, hu⟩
  · exact fun s v => next_eq (if_pos (on_setBits_one F.MEM_CTL_CLRCNT v rfl rfl))
  · intro s b k rest h
    refine next_eq ?_
    rw [bankCopyEndOp, h]

/-- Settles O27: the range operations share one form, from which each takes its case; the other clauses are cases of their command. -/
theorem ddr5AndMapCache : Obligations.Ddr5AndMapCache := by
  refine ⟨fun s addr place => ⟨rfl, rfl, rfl, rfl⟩, ?_, ?_, ?_, fun s => rfl, ?_, ?_, ?_, ?_, ?_, ?_, ?_⟩
  · exact fun s addr err place h => ⟨next_eq (ddr5ReadComplete_unknown s err place h), next_eq (ddr5ReadTimeout_unknown s place h)⟩
  · exact fun s addr h => next_eq (if_pos h)
  · exact fun s addr h => next_eq (if_off h)
  · exact fun s line m h => next_eq (mapCacheFill_eq s h)
  · exact fun s line h => next_eq (mapCacheFill_none s h)
  · exact fun s v h => ⟨next_eq (mccOpWrite_discarded s _ h), next_eq (mccOpWrite_discarded s _ h), next_eq (mccOpWrite_discarded s _ h)⟩
  · intro s v hb ho base n inr u
    refine ⟨next_eq (cacheLock_eq s v hb ho), next_eq (cacheUnlock_eq s v hb ho), ?_⟩
    intro w
    refine ⟨fun hl => next_eq ?_, fun hl hf => next_eq ?_⟩
    · have hlost : s.ms.lines.any (fun p => s.inRange p && p.2.locked) = true := hl
      refine (cacheInvalidate_eq s v hb ho).trans ?_
      rw [hlost]
      exact if_pos rfl
    · have hlost : s.ms.lines.any (fun p => s.inRange p && p.2.locked) = false := hl
      refine (cacheInvalidate_eq s v hb ho).trans (if_off ?_)
      exact Bool.or_eq_false_iff.2 ⟨hlost, hf⟩
  · exact fun s h => next_eq (if_pos h)
  · intro s v hd
    refine ⟨next_eq ((mccCtlWrite_enable s v).trans (if_off hd)), ?_⟩
    intro u
    exact ⟨fun h => next_eq ((mccCtlWrite_disable s v).trans ((if_off hd).trans (if_off h))),
      fun h => next_eq ((mccCtlWrite_disable s v).trans ((if_off hd).trans (if_pos h)))⟩
  · exact fun s v hd => ⟨next_eq ((mccCtlWrite_enable s v).trans (if_pos hd)), next_eq ((mccCtlWrite_disable s v).trans (if_pos hd)),
      next_eq (if_pos hd)⟩
end

section
/-! The Fault Collector, the monitors, forced faults, the Event Router's sources and the Station Book (spec/15_faults_safety.md,
spec/16_boot_records_security.md: R324 to R346), and the statements about them. -/
namespace Sys2Proof.Machine

/-! The oldest message reaches the Collector -/

/-- The oldest message leaves its way and meets the queue. -/
def State.messageArrives (s : State) (m : BitVec 64) (rest : List (BitVec 64)) : State :=
  (s.fltMap (fun f => { f with inflight := rest })).enqueueMessage m

/-- SEEN takes the class of a message. -/
def State.seenClass (s : State) (c : Nat) : State := s.fset F.FLT_STS_SEEN (s.fget F.FLT_STS_SEEN ||| 1 <<< c)

theorem faultMessage_eq (s : State) {m : BitVec 64} {rest : List (BitVec 64)} (h : s.flt.inflight = m :: rest) :
    let u := s.messageArrives m rest
    let w := if (decide (s.flt.queue.length < 64) || decide (2 ≤ msgClass m)) = true then u.seenClass (msgClass m) else u
    faultMessageOp s = if msgClass m = 4 then w.safeStopSet (msgSource m) else if msgClass m = 5 then w.fatal (msgSource m) (msgKind m) else w := by
  rw [faultMessageOp, h]
  rfl

/-- A message that the queue takes, or of class 2 and above, marks SEEN and has its class's effect. -/
theorem faultMessage_seen (s : State) {m : BitVec 64} {rest : List (BitVec 64)} (h : s.flt.inflight = m :: rest)
    (hq : s.flt.queue.length < 64 ∨ 2 ≤ msgClass m) :
    let w := (s.messageArrives m rest).seenClass (msgClass m)
    faultMessageOp s = if msgClass m = 4 then w.safeStopSet (msgSource m) else if msgClass m = 5 then w.fatal (msgSource m) (msgKind m) else w := by
  have hseen : (decide (s.flt.queue.length < 64) || decide (2 ≤ msgClass m)) = true := by simpa using hq
  rw [faultMessage_eq s h, if_pos hseen]

/-- A message of class 0 or 1 that finds the queue full is discarded unseen. -/
theorem faultMessage_discarded (s : State) {m : BitVec 64} {rest : List (BitVec 64)} (h : s.flt.inflight = m :: rest)
    (hc : msgClass m < 2) (hq : 64 ≤ s.flt.queue.length) : faultMessageOp s = s.messageArrives m rest := by
  have hseen : ¬ (decide (s.flt.queue.length < 64) || decide (2 ≤ msgClass m)) = true := by
    simp only [Bool.or_eq_true, decide_eq_true_eq]
    omega
  rw [faultMessage_eq s h, if_neg hseen, if_neg (by omega), if_neg (by omega)]

/-! The test unlock and forced faults -/

theorem unlockWrite_second (s : State) {v : Word} (hk : F.FLT_UNLOCK_KEY.of v = 0x0C3A) (harm : s.flt.unlockArmed = true)
    (hl : s.locked = false ∨ s.flag F.SEC_STS_DBGOPEN = true) : s.unlockWrite v =
      ((s.fltTouched.fsetB F.FLT_STS_UNLOCKED true).offerRecord (BitVec.ofNat 16 (Config.unstated s.freeCtr)) 0 false false false).tick := by
  refine if_pos ?_
  rcases hl with h | h <;> simp [hk, harm, h]

theorem unlockWrite_first (s : State) {v : Word} (hk : F.FLT_UNLOCK_KEY.of v = 0x7E51) : s.unlockWrite v =
    (s.fltMap (fun f => { f with unlockArmed := true })).fsetB F.FLT_STS_UNLOCKED false := by
  refine (if_neg (by simp [hk])).trans ?_
  rw [hk]
  rfl

theorem forceWrite_go (s : State) (v : Word) : let u := s.fltTouched
    s.forceWrite (setBits v 16 1 1) = if u.flt.force.isSome then u
      else if !u.flag F.FLT_STS_UNLOCKED || !sourceKind (F.FLT_FORCE_SRC.of v) (F.FLT_FORCE_KIND.of v) then u.fset F.FLT_FORCE_RESULT 3
      else (u.fltMap (fun f => { f with force := some (F.FLT_FORCE_SRC.of v, F.FLT_FORCE_KIND.of v) })).fset F.FLT_FORCE_RESULT 0 := by
  have hgo : F.FLT_FORCE_GO.on (setBits v 16 1 1) = true := on_setBits_one F.FLT_FORCE_GO v rfl rfl
  have hsrc : F.FLT_FORCE_SRC.of (setBits v 16 1 1) = F.FLT_FORCE_SRC.of v := of_setBits_apart v 1 rfl
  have hkind : F.FLT_FORCE_KIND.of (setBits v 16 1 1) = F.FLT_FORCE_KIND.of v := of_setBits_apart v 1 rfl
  rw [State.forceWrite, hgo, hsrc, hkind]
  rfl

/-! The Event Router's sources -/

theorem swsetWrite_go (s : State) (v : Word) : s.swsetWrite (setBits v 31 1 1) = s.raiseEvent (512 + F.EVR_SWSET_IDX.of v) := by
  have hgo : F.EVR_SWSET_GO.on (setBits v 31 1 1) = true := on_setBits_one F.EVR_SWSET_GO v rfl rfl
  have hidx : F.EVR_SWSET_IDX.of (setBits v 31 1 1) = F.EVR_SWSET_IDX.of v := of_setBits_apart v 1 rfl
  rw [State.swsetWrite, hgo, hidx]
  rfl

/-- Every pin of GPIO is an event source. -/
theorem eventSource_pin (n : Fin 16) : eventSource (136 + n.val) = true := by
  have hn := n.isLt
  have hrange : (decide (136 ≤ 136 + n.val) && decide (136 + n.val ≤ 151)) = true := by simp only [Bool.and_eq_true, decide_eq_true_eq]; omega
  rw [eventSource, hrange]
  simp

/-! The Station Book -/

theorem recordWrite_sameSecond (s : State) {r : BokRec} {rest : List BokRec} (hs : s.bok.second = s.second) (hq : s.bok.queue = r :: rest) :
    recordWriteOp s = if (s.bok.clearing || decide (512 ≤ s.bok.written)) = true then s
      else ((s.bokMap (fun b => { b with queue := rest, written := b.written + 1 })).writeRecord r).bokBusy := by
  rw [recordWriteOp, if_pos hs, hq]

theorem bokCtlWrite_clear (s : State) {v : Word} (h : F.BOK_CTL_CLRCNT.on v = false) : s.bokCtlWrite (setBits v 0 1 1) =
    if s.flag F.SEC_STS_ADMIN then (s.bokMap (fun b => { b with clearing := true })).bokBusy else s := by
  have hclr : F.BOK_CTL_CLR.on (setBits v 0 1 1) = true := on_setBits_one F.BOK_CTL_CLR v rfl rfl
  have hcnt : F.BOK_CTL_CLRCNT.on (setBits v 0 1 1) = false := (on_setBits_apart v 1 rfl).trans h
  rw [State.bokCtlWrite, hclr, hcnt]
  rfl

theorem bokCtlWrite_clearCounters (s : State) {v : Word} (h : F.BOK_CTL_CLR.on v = false) : s.bokCtlWrite (setBits v 1 1 1) =
    (s.clearCount Rg.BOK_DROP_LO).clearCount Rg.BOK_SUPP_LO := by
  have hclr : F.BOK_CTL_CLR.on (setBits v 1 1 1) = false := (on_setBits_apart v 1 rfl).trans h
  have hcnt : F.BOK_CTL_CLRCNT.on (setBits v 1 1 1) = true := on_setBits_one F.BOK_CTL_CLRCNT v rfl rfl
  rw [State.bokCtlWrite, hclr, hcnt]
  rfl

theorem fwrecWrite_go (s : State) (v : Word) : let code := F.BOK_FWREC_CODE.of v
    s.fwrecWrite (setBits v 31 1 1) = if (code / 64 / 32 == Blk.bok && decide (1 ≤ code / 64 % 32)) = true then
      s.offerRecord (BitVec.ofNat 16 code) (BitVec.ofNat 64 (s.wide Rg.BOK_FWINFO_LO)) false false false else s := by
  have hgo : F.BOK_FWREC_GO.on (setBits v 31 1 1) = true := on_setBits_one F.BOK_FWREC_GO v rfl rfl
  have hcode : F.BOK_FWREC_CODE.of (setBits v 31 1 1) = F.BOK_FWREC_CODE.of v := of_setBits_apart v 1 rfl
  rw [State.fwrecWrite, hgo, hcode]
  rfl

end Sys2Proof.Machine

open Sys2Proof Sys2Proof.Machine

/-- Settles O28: a message marks SEEN or is discarded, and its class picks what follows. -/
theorem faultCollector : Obligations.FaultCollector := by
  refine ⟨?_, ?_, fun s => rfl, fun s h => next_eq (if_pos h), fun s h => next_eq (if_off h),
    fun s v => next_eq (if_pos (on_setBits_one F.FLT_CTL_CLRCNT v rfl rfl))⟩
  · intro s h
    refine next_eq ?_
    rw [faultMessageOp, h]
  · intro s m rest h u w
    refine ⟨fun hc hq => next_eq ?_, fun hc hq => next_eq (faultMessage_discarded s h hc hq), fun hc => next_eq ?_, fun hc => next_eq ?_, fun hc => next_eq ?_⟩
    · refine (faultMessage_seen s h (.inl hq)).trans ?_
      rw [if_neg (by omega), if_neg (by omega)]
      rfl
    · refine (faultMessage_seen s h (.inr (by omega))).trans ?_
      rw [if_neg (by omega), if_neg (by omega)]
      rfl
    · exact (faultMessage_seen s h (.inr (by omega))).trans (if_pos hc)
    · exact (faultMessage_seen s h (.inr (by omega))).trans ((if_neg (by omega)).trans (if_pos hc))

/-- Settles O29: each monitor's, key's and force's case by its condition. -/
theorem monitorsAndTests : Obligations.MonitorsAndTests := by
  refine ⟨fun s u mv => ⟨rfl, ?_, rfl⟩, fun s pll edges => rfl, ?_, ?_, fun s h => next_eq (if_pos h), ?_⟩
  · refine ⟨fun hu => next_eq ?_, fun hu => next_eq ?_⟩
    · obtain rfl : u = 5 := Fin.ext hu
      rfl
    · change (if u.val = 5 then _ else _) = _
      rw [if_neg hu, if_neg hu]
      rfl
  · exact fun s v => ⟨fun hk harm hl => next_eq (unlockWrite_second s hk harm hl), fun hk => next_eq (unlockWrite_first s hk)⟩
  · intro s v u
    refine ⟨fun hf => next_eq ((forceWrite_go s v).trans (if_pos hf)), fun hf hu => next_eq ?_, fun hf hu hsk => next_eq ?_⟩
    · have hnone : u.flt.force.isSome = false := by rw [hf]; rfl
      have hrefused : (!u.flag F.FLT_STS_UNLOCKED || !sourceKind (F.FLT_FORCE_SRC.of v) (F.FLT_FORCE_KIND.of v)) = true := by rw [hu]; rfl
      exact (forceWrite_go s v).trans ((if_off hnone).trans (if_pos hrefused))
    · have hnone : u.flt.force.isSome = false := by rw [hf]; rfl
      have htaken : (!u.flag F.FLT_STS_UNLOCKED || !sourceKind (F.FLT_FORCE_SRC.of v) (F.FLT_FORCE_KIND.of v)) = false := by rw [hu, hsk]; rfl
      exact (forceWrite_go s v).trans ((if_off hnone).trans (if_off htaken))
  · intro s h
    refine next_eq (if_off ?_)
    rw [h]
    rfl

/-- Settles O30: the words that command the router and the book are resolved once; the queue, the buckets and the clearing follow their cases. -/
theorem eventsAndStationBook : Obligations.EventsAndStationBook := by
  refine ⟨fun s v => next_eq (swsetWrite_go s v), fun s n v => ⟨fun h => next_eq (if_pos h), fun h => next_eq (if_off h)⟩, ?_, ?_, fun s code => rfl, ?_,
    fun s v h => next_eq (bokCtlWrite_clearCounters s h), fun s h => next_eq (if_pos h), fun s h => next_eq (if_off h), ?_⟩
  · intro s n level
    refine ⟨gpioEdgeOp n level s, rfl, ?_⟩
    rw [gpioEdgeOp, raiseEvent_source _ (eventSource_pin n)]
    exact ⟨rfl, rfl, rfl, rfl, rfl⟩
  · intro s r rest hs hq
    refine ⟨fun hc hw => next_eq ?_, fun h => next_eq ?_⟩
    · exact (recordWrite_sameSecond s hs hq).trans (if_neg (by simp only [hc, Bool.false_or, decide_eq_true_eq]; omega))
    · exact (recordWrite_sameSecond s hs hq).trans (if_pos (by simpa using h))
  · exact fun s v h => ⟨fun ha => next_eq ((bokCtlWrite_clear s h).trans (if_pos ha)), fun ha => next_eq ((bokCtlWrite_clear s h).trans (if_off ha))⟩
  · intro s v code
    refine ⟨fun hb hu => next_eq ?_, fun h => next_eq ?_⟩
    · exact (fwrecWrite_go s v).trans (if_pos (Bool.and_eq_true_iff.2 ⟨beq_iff_eq.2 hb, decide_eq_true hu⟩))
    · refine (fwrecWrite_go s v).trans (if_neg ?_)
      simp only [Bool.and_eq_true, beq_iff_eq, decide_eq_true_eq]
      omega
end

section
/-! Power (spec/14_power_holdup.md: R309 to R322), and the statements about it: the hold-up measurement, the speed governor, saving and restoring. -/
namespace Sys2Proof.Machine

/-! The hold-up measurement -/

/-- What a measurement leaves (R309, R310), given the two voltages and whether they are bad. -/
def State.measured (w : State) (v0 v1 : Nat) (bad : Bool) : State :=
  let r := w.fget F.PWR_HCFG_RTEST
  let cap := if bad then 0 else max 1 (w.fget F.PWR_HCFG_TTEST) * 100 * (v0 + v1) / 2 / (r * (v0 - v1))
  let ecap := if bad || decide (v0 ≤ 7000) then 0 else cap * (v0 * v0 - 7000 * 7000) / 2000000
  let u := w.pwrMap (fun p => { p with measOk := !bad, ecap := ecap, rail := v0, railLow := false })
  let u := if bad then (u.fsetB F.PWR_STS_MEASERR true).raiseFault Blk.pwr 0 1 2 0 else u.wr Rg.PWR_HCAP (BitVec.ofNat 32 cap)
  u.henUpdate.armUpdate true

theorem measurementEnd_due (s : State) (s0 s1 : Nat) (h : s.pwr.measDue = true) :
    let u := s.pwrMap (fun p => { p with measDue := false })
    let v0 := s0 * u.fget F.PWR_HCFG_DIV / 64 % 65536
    let v1 := s1 * u.fget F.PWR_HCFG_DIV / 64 % 65536
    let w := (u.fset F.PWR_HV_V0 v0).fset F.PWR_HV_V1 v1
    measurementEndOp s0 s1 s = w.measured v0 v1 (decide (v0 < v1 + 20) || w.fget F.PWR_HCFG_RTEST == 0) := if_pos h

theorem measured_bad (w : State) (v0 v1 : Nat) : w.measured v0 v1 true = (((w.pwrMap (fun p => { p with
      measOk := false, ecap := 0, rail := v0, railLow := false })).fsetB F.PWR_STS_MEASERR true).raiseFault Blk.pwr 0 1 2 0).henUpdate.armUpdate true := rfl

theorem measured_good (w : State) (v0 v1 : Nat) :
    let cap := max 1 (w.fget F.PWR_HCFG_TTEST) * 100 * (v0 + v1) / 2 / (w.fget F.PWR_HCFG_RTEST * (v0 - v1))
    w.measured v0 v1 false = ((w.pwrMap (fun p => { p with
      measOk := true, ecap := if v0 ≤ 7000 then 0 else cap * (v0 * v0 - 7000 * 7000) / 2000000, rail := v0, railLow := false })).wr Rg.PWR_HCAP
        (BitVec.ofNat 32 cap)).henUpdate.armUpdate true := by
  simp only [State.measured, Bool.false_or, decide_eq_true_eq, Bool.false_eq_true, if_false, Bool.not_false]

theorem measureRequest_locked (s : State) {v : Word} (hl : s.locked = true) (hr : F.PWR_CTL_RPGO.on v = false) :
    s.pwrCtlWrite (setBits v 1 1 1) = s.measAsk := by
  have hmeas : F.PWR_CTL_MEAS.on (setBits v 1 1 1) = true := on_setBits_one F.PWR_CTL_MEAS v rfl rfl
  have hrpgo : F.PWR_CTL_RPGO.on (setBits v 1 1 1) = false := (on_setBits_apart v 1 rfl).trans hr
  rw [State.pwrCtlWrite, hl, hmeas, hrpgo]
  rfl

theorem measureRequest_open (s : State) {v : Word} (hl : s.locked = false) (hr : F.PWR_CTL_RPGO.on v = false) :
    s.pwrCtlWrite (setBits v 1 1 1) = ((s.fsetB F.PWR_CTL_HEN (F.PWR_CTL_HEN.on v)).armUpdate false).measAsk := by
  have hmeas : F.PWR_CTL_MEAS.on (setBits v 1 1 1) = true := on_setBits_one F.PWR_CTL_MEAS v rfl rfl
  have hrpgo : F.PWR_CTL_RPGO.on (setBits v 1 1 1) = false := (on_setBits_apart v 1 rfl).trans hr
  have hhen : F.PWR_CTL_HEN.on (setBits v 1 1 1) = F.PWR_CTL_HEN.on v := on_setBits_apart v 1 rfl
  rw [State.pwrCtlWrite, hl, hmeas, hrpgo, hhen]
  rfl

/-! The speed governor -/

/-- The down run of the speed governor counted on (R319). -/
def State.governed (u : State) (util : Nat) : State :=
  u.pwrMap (fun p => { p with dnRun := if util < min (u.fget F.PWR_RG_UPTH) (u.fget F.PWR_RG_DNTH) then u.pwr.dnRun + 1 else 0 })

theorem governorPeriod_on (s : State) (util : Nat) (h : s.flag F.PWR_RG_EN = true) :
    let u := s.fset F.PWR_RGSTS_UTIL (min 100 util)
    let k := u.fget F.SPC_TARGET_SEL
    let w := u.governed util
    governorPeriodOp util s = if w.flag F.SPC_STS_STEP || !w.spcIn SpcS.run then w
      else if u.fget F.PWR_RG_UPTH ≤ util then (if k < w.ceiling then w.targetAsk (k + 1) else w)
      else if util < min (u.fget F.PWR_RG_UPTH) (u.fget F.PWR_RG_DNTH) ∧ max 1 (w.fget F.PWR_RG_DWELL) ≤ w.pwr.dnRun then
        (if k ≤ 1 then w.pwrMap (fun p => { p with dnRun := 0 }) else (w.pwrMap (fun p => { p with dnRun := 0 })).targetAsk (k - 1))
      else w := by
  refine (if_pos h).trans ?_
  simp only [State.governed, decide_eq_true_eq, Bool.and_eq_true]
  rfl

/-! Saving and restoring -/

theorem windowSaveEnd_none (s : State) (h : s.pwr.saving = none) : windowSaveEndOp s = s := by
  rw [windowSaveEndOp, h]

theorem windowSaveEnd_some (s : State) {cause : Nat} (h : s.pwr.saving = some cause) :
    let u := (s.saveWindow cause).pwrMap (fun p => { p with saving := none })
    windowSaveEndOp s = if u.flt.fatalSeq then u.fatalHoldStart
      else if u.ms.faultReset then (u.recordNow (recCode Blk.mem 0 6)).coreMap (fun c => { c with resetDue := some 1 })
      else ((u.recordNow (recCode Blk.pwr 0 3)).pwrMap (fun p => { p with held := true })).pinsHeld := by
  rw [windowSaveEndOp, h]

/-- A restore of a chip without a partner (R315). -/
def State.restoreAlone (u : State) : State :=
  if u.flag F.ZNE_STS_RUN || u.locked then (u.fset F.PWR_STS_RPST 3).fset F.PWR_STS_RPCODE 2
  else if !u.core.replay then (u.fset F.PWR_STS_RPST 3).fset F.PWR_STS_RPCODE 3
  else if u.headerGood && !u.forced Blk.pwr 0 2 then (u.fset F.PWR_STS_RPST 1).fset F.PWR_STS_RPCODE 0
  else ((u.fset F.PWR_STS_RPST 2).fset F.PWR_STS_RPCODE 1).raiseFault Blk.pwr 0 2 3 0 (!u.headerGood)

theorem restoreRequest_open (s : State) {v : Word} (hl : s.locked = false) (hm : F.PWR_CTL_MEAS.on v = false) :
    let u := (s.fsetB F.PWR_CTL_HEN (F.PWR_CTL_HEN.on v)).armUpdate false
    u.twin = false → s.pwrCtlWrite (setBits v 2 1 1) = u.restoreAlone := by
  intro u ht
  have hmeas : F.PWR_CTL_MEAS.on (setBits v 2 1 1) = false := (on_setBits_apart v 1 rfl).trans hm
  have hrpgo : F.PWR_CTL_RPGO.on (setBits v 2 1 1) = true := on_setBits_one F.PWR_CTL_RPGO v rfl rfl
  have hhen : F.PWR_CTL_HEN.on (setBits v 2 1 1) = F.PWR_CTL_HEN.on v := on_setBits_apart v 1 rfl
  have halone : (u.twin && (u.fget F.BRL_TKSTS_LEVEL).testBit u.ownToken) = false := by rw [ht]; rfl
  rw [State.pwrCtlWrite, hl, hmeas, hrpgo, hhen]
  exact if_off halone

theorem restoreRequest_locked (s : State) {v : Word} (hl : s.locked = true) (hm : F.PWR_CTL_MEAS.on v = false) (ht : s.twin = false) :
    s.pwrCtlWrite (setBits v 2 1 1) = s.restoreAlone := by
  have hmeas : F.PWR_CTL_MEAS.on (setBits v 2 1 1) = false := (on_setBits_apart v 1 rfl).trans hm
  have hrpgo : F.PWR_CTL_RPGO.on (setBits v 2 1 1) = true := on_setBits_one F.PWR_CTL_RPGO v rfl rfl
  have halone : (s.twin && (s.fget F.BRL_TKSTS_LEVEL).testBit s.ownToken) = false := by rw [ht]; rfl
  rw [State.pwrCtlWrite, if_pos hl, hmeas, hrpgo]
  exact if_off halone

end Sys2Proof.Machine

open Sys2Proof Sys2Proof.Machine

/-- Settles O31: the measurement is split by its voltages, the governor by its thresholds; the other clauses are cases of their command. -/
theorem holdUpAndSpeedGovernor : Obligations.HoldUpAndSpeedGovernor := by
  refine ⟨fun s => rfl, fun s v hl hr => next_eq (measureRequest_locked s hl hr), fun s v hl hr => next_eq (measureRequest_open s hl hr),
    fun s s0 s1 h => next_eq (if_off h), ?_, fun s => rfl, ?_, fun s => ⟨rfl, rfl⟩, ?_, ?_, fun s util h => next_eq (if_off h), ?_,
    fun s k h => if_off h⟩
  · intro s s0 s1 hd u v0 v1 w r cap end_
    refine ⟨fun hbad => next_eq ?_, fun hv hr => next_eq ?_⟩
    · have hb : (decide (v0 < v1 + 20) || w.fget F.PWR_HCFG_RTEST == 0) = true := by simpa using hbad
      refine (measurementEnd_due s s0 s1 hd).trans ?_
      rw [hb]
      exact measured_bad w v0 v1
    · have hb : (decide (v0 < v1 + 20) || w.fget F.PWR_HCFG_RTEST == 0) = false := by
        simp only [Bool.or_eq_false_iff, decide_eq_false_iff_not, beq_eq_false_iff_ne]
        exact ⟨by omega, hr⟩
      refine (measurementEnd_due s s0 s1 hd).trans ?_
      rw [hb]
      exact measured_good w v0 v1
  · exact fun s mv => ⟨fun h => next_eq (if_pos h), fun h => next_eq (if_neg (by omega))⟩
  · intro s h
    refine next_eq ((if_pos (by simp [h])).trans ?_)
    rw [h]
  · exact fun s hp hf => next_eq (if_off (by simp [hp, hf]))
  · intro s util hen u up dn run w
    refine ⟨fun h => next_eq ?_, fun hstep hrun => ?_⟩
    · have hheld : (w.flag F.SPC_STS_STEP || !w.spcIn SpcS.run) = true := by simpa using h
      exact (governorPeriod_on s util hen).trans (if_pos hheld)
    · have hfree : (w.flag F.SPC_STS_STEP || !w.spcIn SpcS.run) = false := by rw [hstep, hrun]; rfl
      have hgov := (governorPeriod_on s util hen).trans (if_off hfree)
      have hdn : dn ≤ up := Nat.min_le_left _ _
      refine ⟨fun hu hk => next_eq ?_, fun hu hk => next_eq ?_, fun hd hu => next_eq ?_, fun hd hr => next_eq ?_, fun hd hr => ?_⟩
      · exact hgov.trans ((if_pos hu).trans (if_pos hk))
      · exact hgov.trans ((if_pos hu).trans (if_neg (Nat.not_lt.2 hk)))
      · exact hgov.trans ((if_neg (Nat.not_le.2 hu)).trans (if_neg fun h => absurd h.1 (Nat.not_lt.2 hd)))
      · exact hgov.trans ((if_neg (Nat.not_le.2 (Nat.lt_of_lt_of_le hd hdn))).trans (if_neg fun h => absurd h.2 (Nat.not_le.2 hr)))
      · intro x
        have hlow := hgov.trans ((if_neg (Nat.not_le.2 (Nat.lt_of_lt_of_le hd hdn))).trans (if_pos ⟨hd, hr⟩))
        exact ⟨fun hk => next_eq (hlow.trans (if_pos hk)), fun hk => next_eq (hlow.trans (if_neg (Nat.not_le.2 hk)))⟩

/-- Settles O32: the save's end, the return of power and the restore take their case. -/
theorem saveAndRestore : Obligations.SaveAndRestore := by
  refine ⟨fun s h => next_eq (windowSaveEnd_none s h), ?_, ?_, ?_, ?_, ?_, fun s h => next_eq (if_pos h), fun s h => next_eq (if_neg h), fun s => rfl⟩
  · intro s cause h u hf
    exact ⟨fun hm => next_eq ((windowSaveEnd_some s h).trans ((if_off hf).trans (if_pos hm))),
      fun hm => next_eq ((windowSaveEnd_some s h).trans ((if_off hf).trans (if_off hm)))⟩
  · exact fun s hh hp hf => next_eq (if_pos (by simp [hh, hp, hf]))
  · intro s h
    refine next_eq (if_neg ?_)
    rcases h with h | h | h <;> simp [h]
  · intro s v hl hm u ht
    have hop := restoreRequest_open s hl hm ht
    refine ⟨fun hr => next_eq ?_, fun hr hul hc => next_eq ?_, fun hr hul hc hg hf => next_eq ?_, fun hr hul hc hg => next_eq ?_⟩
    · exact hop.trans (if_pos (by simp [u, hr]))
    all_goals have hfree : (u.flag F.ZNE_STS_RUN || u.locked) = false := by rw [hr, hul]; rfl
    · exact hop.trans ((if_off hfree).trans (if_pos (by rw [hc]; rfl)))
    · exact hop.trans ((if_off hfree).trans ((if_off (by rw [hc]; rfl)).trans (if_pos (by rw [hg, hf]; rfl))))
    · refine hop.trans ((if_off hfree).trans ((if_off (by rw [hc]; rfl)).trans ((if_off (by rw [hg]; rfl)).trans ?_)))
      rw [hg]
      rfl
  · exact fun s v hl ht hm => next_eq ((restoreRequest_locked s hl hm ht).trans (if_pos (by rw [hl, Bool.or_true])))
end

section
/-! Admin commands of a host port and the management interface (spec/12_host_endpoint.md, spec/16_boot_records_security.md: R252 to R282, R336, R347 to
R352), and the statements about them.  Each admin command is one use of the lemmas about `State.adminDo`. -/
namespace Sys2Proof.Machine

/-! An admin command of a port that may run it -/

theorem adminDo_ready (s : State) {h : CmdHdr} (allowed : Bool) (f : State → State × Option Answer) (hr : s.adminReady h) :
    s.adminDo h allowed f = if !allowed then s.issueStamp.2.complete h St.denied else match f s.issueStamp.2 with
      | (s, some a) => s.complete h a.status a.dw0 a.data
      | (s, none) => s := by
  obtain ⟨hq, hp⟩ := hr
  exact if_neg (by simp [hq, hp])

theorem adminDo_denied (s : State) {h : CmdHdr} {allowed : Bool} (f : State → State × Option Answer) (hr : s.adminReady h) (ha : allowed = false) :
    s.adminDo h allowed f = s.issueStamp.2.complete h St.denied :=
  (adminDo_ready s allowed f hr).trans (if_pos (by rw [ha]; rfl))

/-- A command that is permitted and answers. -/
theorem adminDo_answers (s : State) {h : CmdHdr} {allowed : Bool} {f : State → State × Option Answer} {t : State} {st d : Nat} {l : List Byte}
    (hr : s.adminReady h) (ha : allowed = true) (hf : f s.issueStamp.2 = (t, some ⟨st, d, l⟩)) : s.adminDo h allowed f = t.complete h st d l := by
  rw [adminDo_ready s allowed f hr, ha, hf]
  rfl

/-- A command that is permitted and whose answer comes later. -/
theorem adminDo_silent (s : State) {h : CmdHdr} {allowed : Bool} {f : State → State × Option Answer} {t : State} (hr : s.adminReady h)
    (ha : allowed = true) (hf : f s.issueStamp.2 = (t, none)) : s.adminDo h allowed f = t := by
  rw [adminDo_ready s allowed f hr, ha, hf]
  rfl

/-! Security -/

/-- A security command for an own namespace (R348). -/
theorem secDo_own (s : State) {h : CmdHdr} {nsid : Nat} (k : FwdKind) {f : State → State × Nat} {data : State → List Byte} {t : State} {st : Nat}
    (hr : s.adminReady h) (ha : s.flag (F.HEP_AUTH_SECURITY h.port.num) = true) (hp : s.issueStamp.2.isPartner nsid = false)
    (hf : f s.issueStamp.2 = (t, st)) : s.secDo h nsid k f data = t.complete h st 0 (data t) := by
  refine adminDo_answers s hr ha ((if_off hp).trans ?_)
  rw [hf]

theorem authOp_unlocks (s : State) {nsid : Nat} {n : Two} (hn : s.ownNs nsid = some n) (h0 : nsid ≠ 0) (hf : s.fget F.SEC_STS_AUTHF < 5)
    (hb : (s.sec.blocks.get n).isSome = true) : s.authOp nsid true = (s.unwrap n, 0) := by
  obtain ⟨b, hb⟩ := Option.isSome_iff_exists.1 hb
  rw [State.authOp, if_neg (Nat.not_le.2 hf), if_neg h0, hn]
  dsimp only
  rw [hb]
  rfl

theorem authOp_admin (s : State) (hf : s.fget F.SEC_STS_AUTHF < 5) : s.authOp 0 true = (s.fsetB F.SEC_STS_ADMIN true, 0) := by
  rw [State.authOp, if_neg (Nat.not_le.2 hf)]
  rfl

theorem lockOp_own (s : State) {nsid : Nat} {n : Two} (hn : s.ownNs nsid = some n) :
    s.lockOp nsid = ((s.secMap (fun x => { x with slots := x.slots.set n none })).secStatus, 0) := by
  rw [State.lockOp, hn]

/-! Queue management -/

/-- The status that CREATE_IO_CQ answers (R273). -/
def State.newCqStatus (s : State) (p : Port) (qid size vector : Nat) (contig : Bool) : Nat :=
  if qid = 0 ∨ 64 < qid ∨ (s.port p).cqs.any (fun q => q.qid == qid) then St.queueId
  else if size < 2 ∨ 4096 < size then St.queueSize
  else if !contig then St.field
  else if 128 < vector then St.vector
  else 0

/-- The status that CREATE_IO_SQ answers (R273). -/
def State.newSqStatus (s : State) (p : Port) (qid size cqid : Nat) (contig : Bool) : Nat :=
  if qid = 0 ∨ 64 < qid ∨ (s.port p).sqs.any (fun q => q.qid == qid) then St.queueId
  else if cqid = 0 ∨ !(s.port p).cqs.any (fun q => q.qid == cqid) then St.cqInvalid
  else if size < 2 ∨ 4096 < size then St.queueSize
  else if !contig then St.field
  else 0

theorem createIoCq_eq (s : State) {h : CmdHdr} (qid size vector : Nat) (contig : Bool) (hr : s.adminReady h) :
    let u := s.issueStamp.2
    exec (.createIoCq h qid size vector contig) s = .next ((if u.newCqStatus h.port qid size vector contig = 0 then
      u.portMap h.port (fun x => { x with cqs := x.cqs ++ [⟨qid, size, vector, 0, 0, 0⟩] }) else u).complete h (u.newCqStatus h.port qid size vector contig)) :=
  next_eq (adminDo_answers s hr rfl rfl)

theorem createIoSq_eq (s : State) {h : CmdHdr} (qid size cqid : Nat) (contig : Bool) (hr : s.adminReady h) :
    let u := s.issueStamp.2
    exec (.createIoSq h qid size cqid contig) s = .next ((if u.newSqStatus h.port qid size cqid contig = 0 then u.portMap h.port (fun x => { x with
        sqs := x.sqs.takeWhile (fun q => decide (q.qid < qid)) ++ ⟨qid, size, cqid, 0, []⟩ :: x.sqs.dropWhile (fun q => decide (q.qid < qid)) })
      else u).complete h (u.newSqStatus h.port qid size cqid contig)) :=
  next_eq (adminDo_answers s hr rfl rfl)

theorem newCqStatus_legal (s : State) {p : Port} {qid size vector : Nat} (h1 : 1 ≤ qid) (h2 : qid ≤ 64) (h3 : (s.port p).cqs.any (fun q => q.qid == qid) = false)
    (h4 : 2 ≤ size) (h5 : size ≤ 4096) (h6 : vector ≤ 128) : s.newCqStatus p qid size vector true = 0 := by
  have hid : ¬ (qid = 0 ∨ 64 < qid ∨ (s.port p).cqs.any (fun q => q.qid == qid) = true) := by rw [h3]; simp only [Bool.false_eq_true, or_false]; omega
  rw [State.newCqStatus, if_neg hid, if_neg (by omega), if_neg (by decide), if_neg (by omega)]

theorem newSqStatus_legal (s : State) {p : Port} {qid size cqid : Nat} (h1 : 1 ≤ qid) (h2 : qid ≤ 64) (h3 : (s.port p).sqs.any (fun q => q.qid == qid) = false)
    (h4 : 1 ≤ cqid) (h5 : (s.port p).cqs.any (fun q => q.qid == cqid) = true) (h6 : 2 ≤ size) (h7 : size ≤ 4096) :
    s.newSqStatus p qid size cqid true = 0 := by
  have hid : ¬ (qid = 0 ∨ 64 < qid ∨ (s.port p).sqs.any (fun q => q.qid == qid) = true) := by rw [h3]; simp only [Bool.false_eq_true, or_false]; omega
  have hcq : ¬ (cqid = 0 ∨ (!(s.port p).cqs.any (fun q => q.qid == cqid)) = true) := by rw [h5]; simp only [Bool.not_true, Bool.false_eq_true, or_false]; omega
  rw [State.newSqStatus, if_neg hid, if_neg hcq, if_neg (by omega), if_neg (by decide)]

theorem newCqStatus_badId (s : State) {p : Port} {qid : Nat} (size vector : Nat) (contig : Bool) (h : qid = 0 ∨ 64 < qid) :
    s.newCqStatus p qid size vector contig = St.queueId := if_pos (h.imp_right .inl)

theorem newSqStatus_badId (s : State) {p : Port} {qid : Nat} (size cqid : Nat) (contig : Bool) (h : qid = 0 ∨ 64 < qid) :
    s.newSqStatus p qid size cqid contig = St.queueId := if_pos (h.imp_right .inl)

/-! The management interface -/

theorem mctpDo_on (s : State) (l : List Byte) (h : s.flag F.HEP_MI_EN = true) : s.mctpDo l = s.miAnswer l := if_pos h

theorem mctpDo_off (s : State) (l : List Byte) (h : s.flag F.HEP_MI_EN = false) : s.mctpDo l = s := if_off h

/-- Whether CONFIGURATION_SET takes a value (R282). -/
def configGood (cid : Nat) (v : Word) : Bool := (cid == 1 && (v == 1 || v == 2)) || cid == 2 || (cid == 3 && v == 64)

theorem configurationSet_eq (s : State) (cid : Nat) (v : Word) : exec (.configurationSet cid v) s =
    .next ((if cid = 1 ∧ configGood cid v ∧ s.flag F.HEP_MI_EN then s.hepMap (fun h => { h with miFreq := v.toNat }) else s).mctpDo
      [if configGood cid v then 0 else 4]) := rfl

theorem configGood_other {cid : Nat} (v : Word) (h : 3 < cid) : configGood cid v = false := by
  have h1 : (cid == 1) = false := beq_eq_false_iff_ne.2 (by omega)
  have h2 : (cid == 2) = false := beq_eq_false_iff_ne.2 (by omega)
  have h3 : (cid == 3) = false := beq_eq_false_iff_ne.2 (by omega)
  rw [configGood, h1, h2, h3]
  rfl

end Sys2Proof.Machine

open Sys2Proof Sys2Proof.Machine

/-- Settles O33: outside the authority every command is denied; inside it each answers with its operation. -/
theorem securityCommands : Obligations.SecurityCommands := by
  refine ⟨?_, ?_, ?_, fun s hf => authOp_admin s hf, fun s newEmpty => rfl⟩
  · intro s h hr ha c hc
    simp only [List.mem_cons, List.not_mem_nil, or_false] at hc
    rcases hc with rfl | rfl | rfl | rfl | rfl | rfl <;> exact next_eq (adminDo_denied s _ hr ha)
  · intro s h hr ha u
    refine ⟨next_eq (adminDo_answers s hr ha rfl), fun nsid ok oldOk newEmpty hp => ⟨?_, ?_, ?_⟩, fun hp => next_eq (secDo_own s _ hr ha hp Prod.mk.eta.symm)⟩
    · exact next_eq (secDo_own s _ hr ha hp Prod.mk.eta.symm)
    · exact next_eq (secDo_own s _ hr ha hp Prod.mk.eta.symm)
    · exact next_eq (secDo_own s _ hr ha hp Prod.mk.eta.symm)
  · exact fun s nsid n hn h0 => ⟨fun hf hb => authOp_unlocks s hn h0 hf hb, lockOp_own s hn⟩

/-- Settles O34: denied without the authority; with it the own namespace's format, and sanitize on both namespaces. -/
theorem formatAndSanitize : Obligations.FormatAndSanitize := by
  refine ⟨fun s h lbaf pi ses hr ha => ⟨next_eq (adminDo_denied s _ hr ha), next_eq (adminDo_denied s _ hr ha)⟩, ?_, ?_, ?_⟩
  · intro s h lbaf pi ses n hr ha u hp hn
    have hown : (u.isPartner h.nsid && u.anaState true == 1) = false := by rw [hp]; rfl
    refine ⟨fun hns => next_eq (adminDo_answers s hr ha ((if_off hown).trans ((if_off hp).trans ?_))),
      fun hns => next_eq (adminDo_answers s hr ha ((if_off hown).trans ((if_off hp).trans ?_)))⟩
    · rw [hn]
      exact if_pos hns
    · rw [hn]
      exact if_off hns
  · intro s h hr ha u ht
    exact next_eq (adminDo_answers s hr ha (if_off (by rw [ht]; rfl)))
  · exact fun s n nsid lbaf pi ses h => if_pos (by omega)

/-- Settles O35: the version write, the challenge and the response take their case. -/
theorem versionAndDebug : Obligations.VersionAndDebug := by
  refine ⟨?_, fun s h => next_eq (if_pos h), ?_, ?_, ?_⟩
  · intro s v
    refine ⟨fun h => next_eq (if_pos (by simpa using h)), fun hl hv => next_eq (if_neg ?_)⟩
    simp only [hl, Bool.false_or, decide_eq_true_eq]
    omega
  · exact fun s hf => next_eq (if_neg (Nat.not_le.2 hf))
  · intro s ok h
    refine next_eq (if_pos ?_)
    rcases h with h | h | h <;> simp [h]
  · intro s hc hf ho u
    have hopen : (s.sec.challenge.isNone || decide (3 ≤ s.sec.dbgFails) || s.flag F.SEC_STS_DBGOPEN) = false := by
      rw [hc, ho, decide_eq_false (Nat.not_le.2 hf)]
      rfl
    exact ⟨next_eq (if_off hopen), next_eq (if_off hopen)⟩

/-- Settles O36: a queue's status is resolved first; the queue is made where it is 0. -/
theorem queueCommands : Obligations.QueueCommands := by
  refine ⟨?_, ?_⟩
  · intro s h qid size vec cqid hr u x
    refine ⟨fun h1 h2 h3 h4 h5 h6 => ?_, fun h1 h2 h3 h4 h5 h6 h7 => ?_, fun hid contig => ⟨?_, ?_⟩, fun q hq => ?_, fun hq => ?_, fun h1 h2 h3 => ?_,
      fun h1 h2 h3 => ?_, fun h4 => ?_, fun h4 => ?_⟩
    · rw [createIoCq_eq s _ _ _ _ hr, newCqStatus_legal _ h1 h2 h3 h4 h5 h6]
      rfl
    · rw [createIoSq_eq s _ _ _ _ hr, newSqStatus_legal _ h1 h2 h3 h4 h5 h6 h7]
      rfl
    · rw [createIoCq_eq s _ _ _ _ hr, newCqStatus_badId _ _ _ _ hid]
      rfl
    · rw [createIoSq_eq s _ _ _ _ hr, newSqStatus_badId _ _ _ _ hid]
      rfl
    · refine next_eq (adminDo_answers s hr rfl ?_)
      rw [hq]
    · refine next_eq (adminDo_answers s hr rfl ?_)
      rw [hq]
    · have hid : ¬ (qid = 0 ∨ (!x.cqs.any (fun q => q.qid == qid)) = true) := by rw [h2]; simp only [Bool.not_true, Bool.false_eq_true, or_false]; omega
      exact next_eq (adminDo_answers s hr rfl ((if_neg hid).trans (if_off h3)))
    · have hid : ¬ (qid = 0 ∨ (!x.cqs.any (fun q => q.qid == qid)) = true) := by rw [h2]; simp only [Bool.not_true, Bool.false_eq_true, or_false]; omega
      exact next_eq (adminDo_answers s hr rfl ((if_neg hid).trans (if_pos h3)))
    · exact next_eq (adminDo_answers s hr rfl (if_pos h4))
    · exact next_eq (adminDo_silent s hr rfl (if_neg (Nat.not_le.2 h4)))
  · intro s h sqid cid hr u
    refine ⟨fun hs hf => next_eq (adminDo_answers s hr rfl ?_), fun x a n hx hk hun hm => next_eq (adminDo_answers s hr rfl ?_)⟩
    · rw [hs, hf]
      rfl
    · rw [hx]
      dsimp only
      rw [hk]
      exact if_pos (by rw [hm, hun]; rfl)

/-- Settles O37: each read answers with its data, each feature with its operation, and a denied one with the status alone. -/
theorem identifyLogsFeatures : Obligations.IdentifyLogsFeatures := by
  refine ⟨?_, ?_⟩
  · intro s h cns lid fid first count v hr u
    refine ⟨next_eq (adminDo_answers s hr rfl rfl), ?_, fun ha => next_eq (adminDo_answers s hr ha rfl), next_eq (adminDo_answers s hr rfl rfl),
      next_eq (adminDo_answers s hr rfl rfl), fun ha => next_eq (adminDo_answers s hr ?_ rfl), fun hd ha => next_eq (adminDo_denied s _ hr ?_)⟩
    · intro c l hc
      simp only [List.mem_cons, List.not_mem_nil, or_false, Prod.mk.injEq] at hc
      rcases hc with ⟨rfl, rfl⟩ | ⟨rfl, rfl⟩ | ⟨rfl, rfl⟩ | ⟨rfl, rfl⟩ <;>
        exact ⟨fun ha => next_eq (adminDo_answers s hr ha rfl), fun ha => next_eq (adminDo_denied s _ hr ha)⟩
    · simpa using ha
    · rw [hd, ha]
      rfl
  · intro s h ps ms tmt1 tmt2 hr u
    refine ⟨fun ha => ⟨?_, ?_, ?_⟩, fun ha => ⟨?_, ?_, ?_⟩⟩
    · exact next_eq (adminDo_answers s hr ha rfl)
    · exact next_eq (adminDo_answers s hr ha rfl)
    · exact next_eq (adminDo_answers s hr ha rfl)
    all_goals exact next_eq (adminDo_denied s _ hr ha)

/-- Settles O38: without the firmware authority all three are denied; with it each answers with its operation, or later. -/
theorem firmwareCommands : Obligations.FirmwareCommands := by
  refine ⟨?_, ?_⟩
  · intro s h image slot action hr ha c hc
    simp only [List.mem_cons, List.not_mem_nil, or_false] at hc
    rcases hc with rfl | rfl | rfl <;> exact next_eq (adminDo_denied s _ hr ha)
  · intro s h image slot action hr ha u
    refine ⟨next_eq (adminDo_answers s hr ha rfl), fun hact => next_eq (adminDo_answers s hr ha ?_), fun hact => next_eq (adminDo_answers s hr ha (if_pos hact)),
      fun a hans => ⟨next_eq (adminDo_answers s hr ha ?_), rfl⟩, fun hnone => next_eq (adminDo_silent s hr ha ?_)⟩
    · rw [if_neg (by omega), if_neg (by omega)]
    · exact Prod.ext rfl hans
    · exact Prod.ext rfl hnone

/-- Settles O39: an MCTP request answers while EN is set and does nothing while it is clear. -/
theorem managementInterface : Obligations.ManagementInterface := by
  refine ⟨fun s => rfl, fun s l => ⟨_, rfl, rfl, rfl, rfl, rfl, rfl⟩, ?_, ?_⟩
  · intro s p v n arg opcode hen c hc
    simp only [List.mem_cons, List.not_mem_nil, or_false] at hc
    rcases hc with rfl | rfl | rfl | rfl | rfl | rfl | rfl
    case inr.inr.inr.inr.inl =>
      rw [configurationSet_eq, if_neg (by simp [hen])]
      exact next_eq (mctpDo_off s _ hen)
    all_goals exact next_eq (mctpDo_off s _ hen)
  · intro s p hen
    have hans : ∀ l, s.mctpDo l = s.miAnswer l := fun l => mctpDo_on s l hen
    refine ⟨next_eq ((hans _).trans ?_), next_eq (hans _), fun n hn => next_eq ?_, next_eq (hans _), next_eq (hans _), next_eq (hans _), next_eq (hans _),
      fun v hv => ?_, fun n v hn => ?_, fun arg => next_eq (hans _), fun opcode => next_eq (hans _)⟩
    · rw [if_pos rfl, Nat.add_sub_cancel_left]
    · refine (hans _).trans ?_
      rw [if_neg (by omega), if_neg (by omega), if_neg (by omega), if_neg (by omega)]
    · have hgood : configGood 1 v = true := by rcases hv with rfl | rfl <;> rfl
      rw [configurationSet_eq, hgood, if_pos ⟨rfl, rfl, hen⟩]
      rfl
    · rw [configurationSet_eq, configGood_other v hn, if_neg (by simp)]
      exact next_eq (hans _)

end

section
/-! A host port (spec/12_host_endpoint.md: R260 to R272, R283), and the statements about it: its link, resets, controller registers, configuration
space and traffic. -/
namespace Sys2Proof.Machine

/-! The link and Bus Master Enable -/

theorem linkUp_trains (s : State) {p : Port} {speed width : Nat} (hon : s.portOn p = true) (h1 : 1 ≤ speed) (h5 : speed ≤ 5)
    (hw : width = 1 ∨ width = 2 ∨ (width = 4 ∧ s.flag F.GLB_CFG_PORTS = false)) (hc : s.cqe.stopped = false) :
    linkUpOp p speed width s = (s.fset (F.HEP_LINK_SPEED p.num) speed).fset (F.HEP_LINK_WIDTH p.num) width := by
  have hwide : (width == 1 || width == 2 || (width == 4 && !s.flag F.GLB_CFG_PORTS)) = true := by
    rcases hw with rfl | rfl | ⟨rfl, hp⟩
    · rfl
    · rfl
    · rw [hp]; rfl
  refine if_pos ?_
  rw [hon, decide_eq_true h1, decide_eq_true h5, hwide, hc]
  rfl

theorem linkUp_stays (s : State) {p : Port} {speed : Nat} (width : Nat) (h : s.portOn p = false ∨ speed = 0 ∨ 5 < speed ∨ s.cqe.stopped = true) :
    linkUpOp p speed width s = s := by
  refine if_neg fun hall => ?_
  simp only [Bool.and_eq_true, decide_eq_true_eq, Bool.not_eq_true'] at hall
  obtain ⟨⟨⟨⟨hon, h1⟩, h5⟩, -⟩, hc⟩ := hall
  rcases h with h | h | h | h
  · rw [hon] at h; cases h
  · omega
  · omega
  · rw [hc] at h; cases h

theorem bmeSet_same (s : State) {p : Port} {b : Bool} (h : ((s.port p).cfgWord 0x04).getLsbD 2 = b) : s.bmeSet p b = s := if_pos h

theorem bmeSet_set (s : State) {p : Port} (h : ((s.port p).cfgWord 0x04).getLsbD 2 = false) : s.bmeSet p true =
    (((((s.cfgPut p 0x04 (setBits ((s.port p).cfgWord 0x04) 2 1 1)).raiseEvent (174 + p.num)).fetchPump p 256).heldPump p).portMap p
      (fun x => x.messagePump 129)).bmepUpdate p := if_neg (by rw [h]; exact Bool.false_ne_true)

theorem bmeSet_clear (s : State) {p : Port} (h : ((s.port p).cfgWord 0x04).getLsbD 2 = true) : s.bmeSet p false =
    ((s.cfgPut p 0x04 (setBits ((s.port p).cfgWord 0x04) 2 1 0)).raiseEvent (174 + p.num)).bmepUpdate p := if_neg (by rw [h]; decide)

/-! A write of CC -/

theorem ccWrite_absent (s : State) {p : Port} (v : Word) (h : s.portOn p = false) : s.ccWrite p v = s := if_pos (by rw [h]; rfl)

theorem ccWrite_disable (s : State) {p : Port} {v : Word} (hon : s.portOn p = true) (hcc : (s.port p).cc.getLsbD 0 = true) (hv : v.getLsbD 0 = false) :
    s.ccWrite p v = (s.controllerReset p).raiseEvent (170 + p.num) := by
  rw [State.ccWrite, hon, hcc, hv]
  rfl

theorem ccWrite_enable (s : State) {p : Port} {v : Word} (hon : s.portOn p = true) (hcc : (s.port p).cc.getLsbD 0 = false) (hv : v.getLsbD 0 = true) :
    s.ccWrite p v = s.ccEnable p v := by
  rw [State.ccWrite, hon, hcc, hv]
  rfl

theorem ccWrite_held (s : State) {p : Port} {v : Word} (hon : s.portOn p = true) (hcc : (s.port p).cc.getLsbD 0 = false) (hv : v.getLsbD 0 = false) :
    s.ccWrite p v = s.portMap p (fun x => { x with cc := v &&& 0xFFFFF0 }) := by
  rw [State.ccWrite, hon, hcc, hv]
  rfl

theorem ccWrite_shutdown (s : State) {p : Port} {v : Word} (hon : s.portOn p = true) (hcc : (s.port p).cc.getLsbD 0 = true) (hv : v.getLsbD 0 = true)
    (hn : bitsOf v 14 2 = 1 ∨ bitsOf v 14 2 = 2) (hd : bitsOf (s.port p).cc 14 2 ≠ bitsOf v 14 2) : s.ccWrite p v = s.shutdown p (bitsOf v 14 2 == 2) := by
  have hshn : (true && (bitsOf v 14 2 == 1 || bitsOf v 14 2 == 2) && bitsOf (s.port p).cc 14 2 != bitsOf v 14 2) = true := by simpa [hd] using hn
  rw [State.ccWrite, hon, hcc, hv, hshn]
  rfl

theorem getLsbD_setBits_zero (v : Word) (b : Bool) : (setBits v 0 1 b.toNat).getLsbD 0 = b := by
  rw [getLsbD_setBits v 0 1 b.toNat 0 (by decide), if_pos (by decide)]
  cases b <;> rfl

theorem getLsbD_setBits_shn (v : Word) (n : Nat) : (setBits v 14 2 n).getLsbD 0 = v.getLsbD 0 := by
  rw [getLsbD_setBits v 14 2 n 0 (by decide), if_neg (by decide)]

/-- A write of CC that asks for a shutdown alone. -/
theorem ccWrite_askShutdown (s : State) {p : Port} (n : Nat) (hon : s.portOn p = true) (hcc : (s.port p).cc.getLsbD 0 = true) (hn : n = 1 ∨ n = 2)
    (hd : bitsOf (s.port p).cc 14 2 ≠ n) : s.ccWrite p (setBits (s.port p).cc 14 2 n) = s.shutdown p (n == 2) := by
  have hshn : bitsOf (setBits (s.port p).cc 14 2 n) 14 2 = n := by
    rw [bitsOf_setBits_same _ 14 2 n (by decide)]
    omega
  rw [ccWrite_shutdown s hon hcc ((getLsbD_setBits_shn _ n).trans hcc) (by rw [hshn]; exact hn) (by rw [hshn]; exact hd), hshn]

/-! HEP_CTL -/

theorem hepCtlWrite_clearCounters (s : State) {v : Word} (h : F.HEP_CTL_CFGRDY.on v = false) : s.hepCtlWrite (setBits v 1 1 1) =
    ([0, 1] : List Nat).foldl (fun s n => ((s.clearCount (Rg.HEP_LATE_CPL_LO n)).clearCount (Rg.HEP_STALE_LO n)).clearCount (Rg.HEP_CTO_LO n)) s := by
  have hcnt : F.HEP_CTL_CLRCNT.on (setBits v 1 1 1) = true := on_setBits_one F.HEP_CTL_CLRCNT v rfl rfl
  have hrdy : F.HEP_CTL_CFGRDY.on (setBits v 1 1 1) = false := (on_setBits_apart v 1 rfl).trans h
  rw [State.hepCtlWrite, hcnt, hrdy]
  rfl

theorem hepCtlWrite_ready (s : State) {v : Word} (h : F.HEP_CTL_CLRCNT.on v = false) :
    let one := fun (s : State) (p : Port) => s.portMap p (fun x => { x with bar2 := s.flag (F.HEP_AUTH_SERVICE p.num) })
    s.hepCtlWrite (setBits v 0 1 1) = if (!s.flag F.HEP_CTL_CFGRDY) = true then (one (one s .zero) .one).fsetB F.HEP_CTL_CFGRDY true else s := by
  have hcnt : F.HEP_CTL_CLRCNT.on (setBits v 0 1 1) = false := (on_setBits_apart v 1 rfl).trans h
  have hrdy : F.HEP_CTL_CFGRDY.on (setBits v 0 1 1) = true := on_setBits_one F.HEP_CTL_CFGRDY v rfl rfl
  rw [State.hepCtlWrite, hcnt, hrdy]
  rfl

/-! Configuration requests and the option ROM -/

/-- A configuration request that is answered (R265). -/
def State.configAnswer (u : State) (p : Port) (wr : Bool) (r : Nat) (v : Word) : State :=
  if wr then (u.cfgWrite p r v).hepMap (fun h => { h with answer := some 0 })
  else if cfgOpen r then (u.hepMap (fun h => { h with answer := some ((BitVec.ofNat 32 (Config.unstated u.freeCtr) &&& ~~~ u.cfgMask p r) |||
    (u.port p).cfgWord r) })).tick
  else u.hepMap (fun h => { h with answer := some (u.cfgFixed p r ||| (u.port p).cfgWord r) })

theorem configurationRequest_eq (s : State) {p : Port} (wr : Bool) (reg : Nat) (v : Word) (hon : s.portOn p = true) : configurationRequestOp p wr reg v s =
    if !s.ps4Wake.flag F.HEP_CTL_CFGRDY || (s.ps4Wake.port p).flr then s.ps4Wake.hepMap (fun h => { h with answer := none })
    else s.ps4Wake.configAnswer p wr (reg / 4 * 4) v := if_off (by rw [hon]; rfl)

/-- Whether the option ROM of a port is read at an offset (R263). -/
def State.romOn (s : State) (p : Port) (off : Nat) : Bool :=
  ((s.port p).cfgWord 0x30).getLsbD 0 && ((s.port p).cfgWord 0x04).getLsbD 1 && s.portOn p && decide (off < 0x40000) && decide (s.fget F.HEP_OPTLEN_LEN ≠ 0)

theorem romOn_iff (s : State) (p : Port) (off : Nat) : s.romOn p off = true ↔ ((s.port p).cfgWord 0x30).getLsbD 0 = true ∧
    ((s.port p).cfgWord 0x04).getLsbD 1 = true ∧ s.portOn p = true ∧ off < 0x40000 ∧ s.fget F.HEP_OPTLEN_LEN ≠ 0 := by
  simp only [State.romOn, Bool.and_eq_true, decide_eq_true_eq, and_assoc]

theorem expansionRomRead_eq (s : State) (p : Port) (off : Nat) : expansionRomReadOp p off s = if s.romOn p off then
    s.hepMap (fun h => { h with rom := if off < s.fget F.HEP_OPTLEN_LEN * 512 then s.byte (0x11800000 + off) else 0 }) else s := rfl

/-! Doorbells and completions -/

theorem doorbellWrite_ready (s : State) {p : Port} (isCq : Bool) (qid : Nat) (v : Word) (h : s.rdy p = true) : doorbellWriteOp p isCq qid v s =
    let s := s.ps4Wake
    if isCq then match (s.port p).cqs.find? (fun q => q.qid == qid) with
      | none => s.doorbellError p 0
      | some q => if q.size ≤ v.toNat then s.doorbellError p 1
        else (s.portMap p (fun x => x.cqSet { q with head := q.head + (v.toNat + q.size - q.head % q.size) % q.size })).heldPump p
    else match (s.port p).sqs.find? (fun q => q.qid == qid) with
      | none => s.doorbellError p 0
      | some q => if q.size ≤ v.toNat then s.doorbellError p 1
        else
          let s := s.portMap p (fun x => { x with sqs := x.sqs.map (fun y => if y.qid = qid then { y with tail := v.toNat } else y) })
          if qid = 0 then s.raiseEvent (168 + p.num) else s := if_off (by rw [h]; rfl)

/-- What a completion of a request of this generation does to its command (R268). -/
def State.completionMeets (w : State) (p : Port) (stamp : Nat) (m : PcieCpl) : State :=
  match m with
  | .good => w
  | .poisoned => (w.aer p 0x104 12).endTransfer p stamp
  | _ => w.endTransfer p stamp

theorem pcieCompletion_some (s : State) {p : Port} {tag : Nat} {u : TagUse} (m : PcieCpl) (h : (s.port p).tags.find? (fun u => u.tag == tag) = some u) :
    let w := s.portMap p (fun x => { x with tags := x.tags.filter (fun v => v.tag != tag) })
    pcieCompletionOp p tag m s = if u.old then (w.count (Rg.HEP_STALE_LO p.num)).raiseFault Blk.hep 0 1 0 tag
      else if u.timedOut then (((w.aer p 0x110 13).aer p 0x104 16).count (Rg.HEP_LATE_CPL_LO p.num)).raiseFault Blk.hep 0 1 0 tag
      else ((w.completionMeets p u.stamp m).fetchPump p 256).bmepUpdate p := by
  rw [pcieCompletionOp, h]
  rfl

theorem completionMeets_failed (w : State) (p : Port) (stamp : Nat) {m : PcieCpl} (hg : m ≠ .good) (hp : m ≠ .poisoned) :
    w.completionMeets p stamp m = w.endTransfer p stamp := by
  cases m with
  | good => exact absurd rfl hg
  | poisoned => exact absurd rfl hp
  | unsupported => rfl
  | abort => rfl

theorem completionTimeout_some (s : State) {p : Port} {tag : Nat} {u : TagUse} (h : (s.port p).tags.find? (fun u => u.tag == tag) = some u) :
    let w := s.portMap p (fun x => { x with tags := x.tags.map (fun v => if v.tag = tag then { v with timedOut := true } else v) })
    completionTimeoutOp p tag s = if (u.timedOut || ((s.port p).cfgWord 0x98).getLsbD 4) = true then s
      else if u.old then w
      else ((((((w.aer p 0x104 14).count (Rg.HEP_CTO_LO p.num)).raiseFault Blk.hep 0 2 3 tag).endTransfer p u.stamp)).fetchPump p 256).bmepUpdate p := by
  rw [completionTimeoutOp, h]

/-! I/O commands -/

theorem ioCommand_arrives (s : State) {h : CmdHdr} (k : CmdKind) (hrdy : s.rdy h.port = true) (hon : s.portOn h.port = true) (hq : h.qid ≠ 0)
    (hsq : (s.port h.port).sqs.any (fun q => q.qid == h.qid) = true) : s.ioCommand h k = match s.ioError ⟨h, k⟩ with
      | some st => s.complete h st
      | none => s.portMap h.port (fun x => { x with sqs := x.sqs.map (fun q => if q.qid = h.qid then { q with cmds := q.cmds ++ [⟨h, k⟩] } else q) }) := by
  refine (if_neg ?_).trans rfl
  simp [hrdy, hon, hq, hsq]

end Sys2Proof.Machine

open Sys2Proof Sys2Proof.Machine

/-- Settles O40: the writes of CC and of HEP_CTL are resolved by the bits they change, the requests by what the port allows. -/
theorem hostPort : Obligations.HostPort := by
  refine ⟨fun s p sp w hon h1 h5 hw hc => next_eq (linkUp_trains s hon h1 h5 hw hc), fun s p sp w h => next_eq (linkUp_stays s w h), ?_, ?_, ?_, fun s p => rfl, ?_,
    ?_, ?_⟩
  · intro s p w
    exact ⟨fun h => ⟨next_eq (bmeSet_same s h), next_eq (bmeSet_set s h)⟩, fun h => ⟨next_eq (bmeSet_same s h), next_eq (bmeSet_clear s h)⟩⟩
  · intro s p hon
    refine ⟨next_eq (if_pos hon), next_eq (if_pos hon), fun hf => next_eq (if_pos ?_), fun hf => next_eq (if_off ?_), fun hcc => ?_, fun hcc v => ?_, fun hcc => ?_⟩
    · rw [hon, hf]; rfl
    · rw [hon, hf]; rfl
    · exact next_eq (ccWrite_disable s hon hcc (getLsbD_setBits_zero _ false))
    · intro held
      exact ⟨next_eq (ccWrite_enable s hon hcc (getLsbD_setBits_zero v true)), next_eq (ccWrite_held s hon hcc (getLsbD_setBits_zero _ false)),
        next_eq (ccWrite_held s hon hcc ((getLsbD_setBits_shn _ 1).trans hcc)), next_eq (ccWrite_held s hon hcc ((getLsbD_setBits_shn _ 2).trans hcc))⟩
    · exact ⟨fun hd => next_eq (ccWrite_askShutdown s 1 hon hcc (.inl rfl) hd), fun hd => next_eq (ccWrite_askShutdown s 2 hon hcc (.inr rfl) hd)⟩
  · intro s p v hon c hc
    simp only [List.mem_cons, List.not_mem_nil, or_false] at hc
    rcases hc with rfl | rfl | rfl | rfl | rfl | rfl | rfl
    · exact next_eq (if_off hon)
    · exact next_eq (if_off hon)
    · exact next_eq (if_off (by rw [hon]; rfl))
    all_goals exact next_eq (ccWrite_absent s _ hon)
  · intro s v one bar
    refine ⟨fun h => next_eq (hepCtlWrite_clearCounters s h), fun h hr => next_eq ((hepCtlWrite_ready s h).trans (if_off ?_)),
      fun h hr => next_eq ((hepCtlWrite_ready s h).trans (if_pos ?_))⟩
    · rw [hr]; rfl
    · rw [hr]; rfl
  · intro s p reg v hon u
    refine ⟨fun h wr => next_eq ((configurationRequest_eq s wr reg v hon).trans (if_pos ?_)), fun hr hf => ?_⟩
    · rcases h with h | h <;> simp [u, h]
    · have hanswer : ∀ wr, configurationRequestOp p wr reg v s = u.configAnswer p wr (reg / 4 * 4) v :=
        fun wr => (configurationRequest_eq s wr reg v hon).trans (if_off (by rw [hr, hf]; rfl))
      exact ⟨next_eq ((hanswer true).trans rfl), fun ho => next_eq ((hanswer false).trans (if_off ho)), fun ho => next_eq ((hanswer false).trans (if_pos ho))⟩
  · intro s p off on
    refine ⟨fun h hlt => next_eq ?_, fun h hge => next_eq ?_, fun h => next_eq ?_⟩
    · rw [expansionRomRead_eq, if_pos ((romOn_iff s p off).2 h), if_pos hlt]
    · rw [expansionRomRead_eq, if_pos ((romOn_iff s p off).2 h), if_neg (Nat.not_lt.2 hge)]
    · exact (expansionRomRead_eq s p off).trans (if_neg fun hon => h ((romOn_iff s p off).1 hon))

/-- Settles O41: a doorbell and a completion are looked up first, and each takes its case; the I/O commands share their arrival. -/
theorem hostTraffic : Obligations.HostTraffic := by
  refine ⟨fun s p isCq qid v h => next_eq (if_pos (by rw [h]; rfl)), ?_, ?_, ?_, ?_, ?_, 
    fun s h o hr => next_eq ((if_pos rfl).trans (adminDo_answers s hr rfl rfl))⟩
  · intro s p qid v hrdy u
    refine ⟨fun h => next_eq ((doorbellWrite_ready s true qid v hrdy).trans ?_), fun h => next_eq ((doorbellWrite_ready s false qid v hrdy).trans ?_), fun q h => ?_,
      fun q h => ?_⟩
    · dsimp only
      rw [if_pos rfl, h]
    · dsimp only
      rw [if_neg Bool.false_ne_true, h]
    · have hop : doorbellWriteOp p true qid v s = if q.size ≤ v.toNat then u.doorbellError p 1
          else (u.portMap p (fun x => x.cqSet { q with head := q.head + (v.toNat + q.size - q.head % q.size) % q.size })).heldPump p := by
        rw [doorbellWrite_ready s true qid v hrdy, if_pos rfl, h]
      exact ⟨fun hle => next_eq (hop.trans (if_pos hle)), fun hlt => next_eq (hop.trans (if_neg (Nat.not_le.2 hlt)))⟩
    · intro w
      have hop : doorbellWriteOp p false qid v s = if q.size ≤ v.toNat then u.doorbellError p 1 else if qid = 0 then w.raiseEvent (168 + p.num) else w := by
        rw [doorbellWrite_ready s false qid v hrdy, if_neg Bool.false_ne_true, h]
      exact ⟨fun hle => next_eq (hop.trans (if_pos hle)), fun hlt h0 => next_eq (hop.trans ((if_neg (Nat.not_le.2 hlt)).trans (if_pos h0))),
        fun hlt h0 => next_eq (hop.trans ((if_neg (Nat.not_le.2 hlt)).trans (if_neg h0)))⟩
  · intro s p qid
    refine ⟨fun h => next_eq ?_, fun q h => ⟨fun h0 => next_eq ?_, fun hpos => next_eq ?_⟩⟩
    · rw [coalescingTimerOp, h]
    · rw [coalescingTimerOp, h]
      exact if_neg (by omega)
    · rw [coalescingTimerOp, h]
      exact if_pos hpos
  · intro s p tag h
    refine ⟨next_eq ?_, fun m => next_eq ?_⟩
    · rw [completionTimeoutOp, h]
    · rw [pcieCompletionOp, h]
  · intro s p tag u h w
    refine ⟨fun ho m => next_eq ((pcieCompletion_some s m h).trans (if_pos ho)),
      fun ho ht m => next_eq ((pcieCompletion_some s m h).trans ((if_off ho).trans (if_pos ht))), fun ho ht => ?_, fun hd => next_eq ?_, fun ht hd => ?_⟩
    · have hop : ∀ m, pcieCompletionOp p tag m s = ((w.completionMeets p u.stamp m).fetchPump p 256).bmepUpdate p :=
        fun m => (pcieCompletion_some s m h).trans ((if_off ho).trans (if_off ht))
      refine ⟨next_eq (hop .good), next_eq (hop .poisoned), fun m hg hp => next_eq ((hop m).trans ?_)⟩
      rw [completionMeets_failed w p u.stamp hg hp]
    · exact (completionTimeout_some s h).trans (if_pos (Bool.or_eq_true_iff.2 hd))
    · have hlive : (u.timedOut || ((s.port p).cfgWord 0x98).getLsbD 4) = false := Bool.or_eq_false_iff.2 ⟨ht, hd⟩
      exact ⟨fun ho => next_eq ((completionTimeout_some s h).trans ((if_off hlive).trans (if_pos ho))),
        fun ho => next_eq ((completionTimeout_some s h).trans ((if_off hlive).trans (if_off ho)))⟩
  · intro s h a n fua all hrdy hon hq hsq
    refine ⟨fun c k hc => ?_, fun o => next_eq ((if_neg Bool.false_ne_true).trans (if_pos ?_))⟩
    · have hio : exec c s = .next (s.ioCommand h k) := by
        simp only [List.mem_cons, List.not_mem_nil, or_false, Prod.mk.injEq] at hc
        rcases hc with ⟨rfl, rfl⟩ | ⟨rfl, rfl⟩ | ⟨rfl, rfl⟩ | ⟨rfl, rfl⟩ | ⟨rfl, rfl⟩ | ⟨rfl, rfl⟩ | ⟨rfl, rfl⟩ | ⟨rfl, rfl⟩ | ⟨rfl, rfl⟩ | ⟨rfl, rfl⟩ | ⟨rfl, rfl⟩ <;> rfl
      rw [hio, ioCommand_arrives s k hrdy hon hq hsq]
      refine ⟨fun st hst => ?_, fun hst => ?_⟩
      · rw [hst]
      · rw [hst]
    · simp [hrdy, hq, hsq]
end

section
/-! The Command Queue Engine (spec/11_command_queue.md: R237 to R259, R320), and the statements about it: admission, write data, zone actions and flushes,
the Interlocking, the firmware activation and the power states. -/
namespace Sys2Proof.Machine

/-! The engine's control -/

/-- Where the engine's staging area begins. -/
def State.stageBase (s : State) : Nat := s.fget F.CQE_CSTAGE_BLK * 0x1000000

/-- How long the engine's staging area is. -/
def State.stageSize (s : State) : Nat := max 1 (s.fget F.CQE_CSTAGE_SIZE) * 0x1000000

/-- Whether the engine's staging area is misplaced (Table 11.8). -/
def State.stageBad (s : State) : Bool :=
  !s.inDdrRw s.stageBase s.stageSize || (decide (s.stageBase < s.mdBase + 0x1000000) && decide (s.mdBase < s.stageBase + s.stageSize))

theorem cqeCtlWrite_enable (s : State) {v : Word} (h : F.CQE_CTL_CLRCNT.on v = false) : s.cqeCtlWrite (setBits v 0 1 1) =
    if s.flag F.CQE_STS_RUN then s
    else if s.stageBad || s.forced Blk.cqe 0 4 then (s.fsetB F.CQE_STS_CFGERR true).raiseFault Blk.cqe 0 4 3 0 s.stageBad
    else ((s.fsetB F.CQE_CTL_EN true).fsetB F.CQE_STS_RUN true).earlyUpdate := by
  have hcnt : F.CQE_CTL_CLRCNT.on (setBits v 0 1 1) = false := (on_setBits_apart v 1 rfl).trans h
  have hen : F.CQE_CTL_EN.on (setBits v 0 1 1) = true := on_setBits_one F.CQE_CTL_EN v rfl rfl
  rw [State.cqeCtlWrite, hcnt, hen]
  rfl

theorem cqeCtlWrite_clearCounters (s : State) {v : Word} (h : F.CQE_CTL_EN.on v = false) : s.cqeCtlWrite (setBits v 1 1 1) =
    ((((s.clearCount Rg.CQE_ADMIT_LO).clearCount Rg.CQE_EARLY_LO).clearCount Rg.CQE_MVCAN_LO).clearCount Rg.CQE_POISON_LO).clearCount Rg.CQE_PSABAND_LO := by
  have hcnt : F.CQE_CTL_CLRCNT.on (setBits v 1 1 1) = true := on_setBits_one F.CQE_CTL_CLRCNT v rfl rfl
  have hen : F.CQE_CTL_EN.on (setBits v 1 1 1) = false := (on_setBits_apart v 1 rfl).trans h
  rw [State.cqeCtlWrite, hcnt, hen]
  rfl

/-! Admission, write data, zone actions and flushes -/

theorem commandAdmission_turn (s : State) {p : Port} {qid : Nat} {q : Sq} {c : Cmd} {t : List Cmd} (hf : s.jstallUpdate.flag F.BRL_STS_FENCED = false)
    (hp : s.jstallUpdate.pickNext = some (p, qid)) (hq : (s.jstallUpdate.port p).sqs.find? (fun q => q.qid == qid) = some q) (hc : q.cmds = c :: t) :
    commandAdmissionOp p qid s = ((s.jstallUpdate.portMap p (fun x => { x with
        sqs := x.sqs.map (fun y => if y.qid = qid then { y with cmds := t } else y)
        turn := qid, burst := if x.turn = qid ∧ x.burst < x.burstMax then x.burst + 1 else 1 })).hepMap (fun h => { h with lastPort := p })).admitAny c := by
  refine (if_off hf).trans ((if_pos hp).trans ?_)
  rw [hq]
  dsimp only
  rw [hc]

theorem writeDataReceived_none (s : State) {stamp : Nat} (m : WriteData) (hs : stamp < fwdStamp) (h : s.slotOf stamp = none) : writeDataReceivedOp stamp m s = s := by
  rw [writeDataReceivedOp, if_neg (Nat.not_le.2 hs), h]

theorem writeDataReceived_some (s : State) {stamp : Nat} {x : Slot} (m : WriteData) (hs : stamp < fwdStamp) (h : s.slotOf stamp = some x) :
    let u := if x.cmd.hdr.qid < 65536 then s.fetchDone x.cmd.hdr.port stamp else s
    writeDataReceivedOp stamp m s = if !x.cmd.kind.isData || x.dataIn || !x.applied || (s.port x.cmd.hdr.port).fetch.contains stamp then s
      else if m.outcome = .good then u.dataArrived stamp m.blocks
      else ((u.failWrite x).readsOf stamp).finish x (receiptStatus m.outcome) := by
  rw [writeDataReceivedOp, if_neg (Nat.not_le.2 hs), h]

theorem flushComplete_some (s : State) {stamp : Nat} {x : Slot} (h : s.slotOf stamp = some x) :
    let covers := fun (n : Nat) => x.cmd.hdr.nsid == 0xFFFFFFFF || n == x.cmd.hdr.nsid
    let waits := s.cqe.slots.any (fun y => y.cmd.kind.isData && decide (y.stamp < stamp) && covers y.cmd.hdr.nsid) ||
      s.cqe.buffer.any (fun b => !b.media && decide (b.stamp < stamp) && covers b.nsid && !b.poison)
    flushCompleteOp stamp s = if decide (x.cmd.kind = .flush) && !waits then s.finish x 0 else s := by
  rw [flushCompleteOp, h]

/-! The Interlocking -/

theorem interlockRelease_some (s : State) {index : Nat} (h : s.cqe.il.any (fun e => e.index == index) = true) :
    let u := (s.cqeMap (fun c => { c with il := c.il.filter (fun e => e.index != index) })).ilCounts
    interlockReleaseOp index s = match s.cqe.ilWait with
      | m :: t => (u.cqeMap (fun c => { c with ilWait := t })).ilRequest m
      | [] => u := if_pos h

theorem ilRequest_free (s : State) (m : IlockReq) {i : Nat} (h : s.ilFree = some i) :
    s.ilRequest m = (s.cqeMap (fun c => { c with il := c.il ++ [⟨i, m, s.wide Rg.CQE_STAMP_LO, false⟩] })).ilCounts := by
  delta State.ilRequest
  rw [h]

theorem ilRequest_full (s : State) (m : IlockReq) (h : s.ilFree = none) : s.ilRequest m = s.cqeMap (fun c => { c with ilWait := c.ilWait ++ [m] }) := by
  delta State.ilRequest
  rw [h]

/-- The words that the interlock window shows: those of the selected entry, or zeros. -/
def State.ilShown (s : State) : List Word :=
  match s.cqe.il.find? (fun e => e.index == s.fget F.CQE_ILSEL_INDEX) with
  | some e => e.words
  | none => [0, 0, 0, 0]

theorem interlockCapture_eq (s : State) {w : List Word} (h : s.ilShown = w) :
    let u := (((s.wr (Rg.CQE_ILDATA 0) (w.getD 0 0)).wr (Rg.CQE_ILDATA 1) (w.getD 1 0)).wr (Rg.CQE_ILDATA 2) (w.getD 2 0)).wr (Rg.CQE_ILDATA 3) (w.getD 3 0)
    exec .interlockCapture s = .next { u with core := { u.core with rdata := u.rd (Rg.CQE_ILDATA 0) } } := by
  subst h
  rfl

/-! The firmware activation -/

/-- What follows the end of an activation (R254): its commit completes, and an entry that waited begins. -/
def State.activationEnds (u : State) : State :=
  let u := match u.cqe.fwCmd with
    | some h => (u.cqeMap (fun c => { c with fwCmd := none })).complete h 0
    | none => u
  match u.cqe.entryWait with
  | some t => u.entryStart t
  | none => u

theorem activationEnds_quiet {u : State} (hc : u.cqe.fwCmd = none) (hw : u.cqe.entryWait = none) : u.activationEnds = u := by
  rw [State.activationEnds, hc]
  dsimp only
  rw [hw]

theorem fwaWrite_done (s : State) (v : Word) : s.fwaWrite (setBits v 2 1 1) = if s.flag F.CQE_FWA_READY then
    ((((s.fsetB F.CQE_FWA_REQ false).fsetB F.CQE_FWA_READY false).fsetB F.CQE_STS_FWACT false).quiesce).activationEnds else s := by
  have hdone : F.CQE_FWA_DONE.on (setBits v 2 1 1) = true := on_setBits_one F.CQE_FWA_DONE v rfl rfl
  rw [State.fwaWrite, hdone]
  rfl

/-! The power states -/

theorem psctlWrite_go (s : State) (v : Word) : let t := F.CQE_PSCTL_TARGET.of v
    s.psctlWrite (setBits v 31 1 1) = if ((t == 3 || t == 4) && !s.flag F.CQE_PSTS_ENTRY) = true then s.entryStart t else s := by
  have hgo : F.CQE_PSCTL_GO.on (setBits v 31 1 1) = true := on_setBits_one F.CQE_PSCTL_GO v rfl rfl
  have htgt : F.CQE_PSCTL_TARGET.of (setBits v 31 1 1) = F.CQE_PSCTL_TARGET.of v := of_setBits_apart v 1 rfl
  rw [State.psctlWrite, hgo, htgt]
  rfl

/-- Whether something older than the entry still goes to media (Table 11.4). -/
def State.entryWaits (s : State) : Bool :=
  s.cqe.slots.any (fun x => x.cmd.kind.isData && decide (x.stamp < s.cqe.entryStamp)) ||
    s.cqe.buffer.any (fun b => b.early || (!b.media && decide (b.stamp < s.cqe.entryStamp)))

/-- The work of one checkpoint of an entry (Table 11.4). -/
def State.checkpoint (s : State) : Nat → State
  | 0 => if s.entryWaits then s else (s.fset F.CQE_PSTS_CKPT 1).steMap (fun x => { x with cpPend := s.flag F.STE_STS_RUN })
  | 1 => if s.ste.cpPend || s.ste.cp.isSome then s else s.fset F.CQE_PSTS_CKPT 2
  | 2 => (((s.fset F.CQE_PSTS_CKPT 3).unloadIfMay .zero).unloadIfMay .one).spcCtlWrite (setBits ((s.fset F.CQE_PSTS_CKPT 3).rd Rg.SPC_CTL) 0 1 0)
  | 3 => if s.bothParked then s.fset F.CQE_PSTS_CKPT 4 else s
  | 4 => if s.spcIn SpcS.stopped then
      (if (s.fset F.CQE_PSTS_CKPT 5).fget F.CQE_PSTS_TARGET = 4 && !(s.fset F.CQE_PSTS_CKPT 5).cqe.returnDue then s.fset F.CQE_PSTS_CKPT 5
       else (s.fset F.CQE_PSTS_CKPT 5).entryEnd) else s
  | _ + 5 => s

theorem entryCheckpoint_eq (s : State) {n : Nat} (he : s.flag F.CQE_PSTS_ENTRY = true) (hn : s.fget F.CQE_PSTS_CKPT = n) :
    entryCheckpointOp s = s.checkpoint n := by
  rw [entryCheckpointOp, if_off (by rw [he]; rfl), hn]
  rcases n with _ | _ | _ | _ | _ | n <;> rfl

theorem returnUp_iff (s : State) : (s.flag F.CQE_PSTS_RETURN && s.spcIn SpcS.run && s.flag F.SPC_STS_INBAND && !s.flag (F.SAC_STS_PARKED .zero) &&
    !s.flag (F.SAC_STS_PARKED .one)) = true ↔ s.flag F.CQE_PSTS_RETURN = true ∧ s.spcIn SpcS.run = true ∧ s.flag F.SPC_STS_INBAND = true ∧
      s.flag (F.SAC_STS_PARKED .zero) = false ∧ s.flag (F.SAC_STS_PARKED .one) = false := by
  simp only [Bool.and_eq_true, Bool.not_eq_true', and_assoc]

theorem coreOffWrite_off (s : State) (v : Word) : s.coreOffWrite (setBits v 0 1 1) =
    if (s.flag F.CQE_PSTS_ENTRY && s.fget F.CQE_PSTS_CKPT == 5 && s.fget F.CQE_PSTS_TARGET == 4) = true then
      ((s.pwrMap (fun p => { p with ps4Off := true })).coreMap (fun c => { c with stopped := true })).entryEnd else s := by
  have hoff : F.PWR_CORE_OFF.on (setBits v 0 1 1) = true := on_setBits_one F.PWR_CORE_OFF v rfl rfl
  rw [State.coreOffWrite, hoff]
  rfl

theorem ps4Wake_off (s : State) (h : s.pwr.ps4Off = true) : s.ps4Wake = ((((s.pwrMap (fun p => { p with ps4Off := false })).coreMap (fun c => { c with
      stopped := false, harts := [⟨true, 0, 0, none, 0, false, false⟩, ⟨false, 0, 0, none, 0, false, false⟩, ⟨false, 0, 0, none, 0, false, false⟩, ⟨false, 0, 0, none, 0, false, false⟩]
      wake := some ((s.pwrMap (fun p => { p with ps4Off := false })).rd Rg.PWR_WAKEVEC).toNat }))).returnStart) := by
  refine (if_pos (by rw [h, Bool.or_true])).trans (congrArg State.returnStart ?_)
  exact if_pos h

theorem ps4Wake_current (s : State) (h : s.pwr.ps4Off = false) (hc : s.fget F.CQE_PSTS_CUR = 4) : s.ps4Wake = s.returnStart := by
  refine (if_pos (by rw [hc]; rfl)).trans (congrArg State.returnStart ?_)
  exact if_off h

end Sys2Proof.Machine

open Sys2Proof Sys2Proof.Machine

/-- Settles O42: each command is looked up first, and takes its case. -/
theorem commandQueue : Obligations.CommandQueue := by
  refine ⟨?_, fun s v h => next_eq (cqeCtlWrite_clearCounters s h), ?_, ?_, fun s stamp m h => next_eq (if_pos h), ?_, ?_⟩
  · intro s v h base size bad
    refine ⟨fun hr => next_eq ((cqeCtlWrite_enable s h).trans (if_pos hr)), fun hr hb => next_eq ((cqeCtlWrite_enable s h).trans ((if_off hr).trans (if_pos ?_))),
      fun hr hb hf => next_eq ((cqeCtlWrite_enable s h).trans ((if_off hr).trans (if_off ?_)))⟩
    · exact Bool.or_eq_true_iff.2 hb
    · exact Bool.or_eq_false_iff.2 ⟨hb, hf⟩
  · intro s p qid u
    exact ⟨fun hf => next_eq (if_pos hf), fun hf hp => next_eq ((if_off hf).trans (if_neg hp)), fun hf hp q c t hq hc => next_eq (commandAdmission_turn s hf hp hq hc)⟩
  · intro s stamp m hs
    refine ⟨fun h => next_eq (writeDataReceived_none s m hs h), fun x h => ⟨fun hx => next_eq ?_, fun hd hin ha hf => ?_⟩⟩
    · refine (writeDataReceived_some s m hs h).trans (if_pos ?_)
      simp only [Bool.or_eq_true, Bool.not_eq_true', or_assoc]
      exact hx
    · intro u
      have hopen : (!x.cmd.kind.isData || x.dataIn || !x.applied || (s.port x.cmd.hdr.port).fetch.contains stamp) = false := by rw [hd, hin, ha, hf]; rfl
      exact ⟨fun ho => next_eq ((writeDataReceived_some s m hs h).trans ((if_off hopen).trans (if_pos ho))),
        fun ho => next_eq ((writeDataReceived_some s m hs h).trans ((if_off hopen).trans (if_neg ho)))⟩
  · intro s
    refine ⟨fun h => next_eq ?_, fun x h => next_eq ?_⟩
    · rw [zoneActionApplyOp, h]
    · rw [zoneActionApplyOp, h]
  · intro s stamp
    refine ⟨fun h => next_eq ?_, fun x h => ?_⟩
    · rw [flushCompleteOp, h]
    · intro covers waits
      refine ⟨fun hk hw => next_eq ((flushComplete_some s h).trans (if_pos ?_)), fun hw => next_eq ((flushComplete_some s h).trans (if_neg ?_))⟩
      · exact Bool.and_eq_true_iff.2 ⟨decide_eq_true hk, congrArg Bool.not hw⟩
      · intro hall
        obtain ⟨hk, hn⟩ := Bool.and_eq_true_iff.1 hall
        rcases hw with hw | hw
        · exact Bool.false_ne_true ((congrArg Bool.not hw).symm.trans hn)
        · exact hw (of_decide_eq_true hk)

/-- Settles O43: the interlocks are looked up first; the power states follow their checkpoints. -/
theorem interlocksAndPowerStates : Obligations.InterlocksAndPowerStates := by
  refine ⟨?_, ?_, ?_, ?_, ?_, ?_, ?_, ?_, ?_, ?_, ?_, ?_⟩
  · intro s m
    exact ⟨fun i h => next_eq (ilRequest_free s m h), fun h => next_eq (ilRequest_full s m h)⟩
  · intro s index
    refine ⟨fun h => next_eq ?_, fun e h => ⟨fun hc => next_eq ?_, fun hc => next_eq ?_⟩⟩
    · rw [interlockHeldOp, h]
    · rw [interlockHeldOp, h]
      exact if_off hc
    · rw [interlockHeldOp, h]
      exact if_pos hc
  · intro s index
    refine ⟨fun h => next_eq (if_off h), fun h => ?_⟩
    intro u
    refine ⟨fun hw => next_eq ((interlockRelease_some s h).trans ?_), fun m t hw => next_eq ((interlockRelease_some s h).trans ?_)⟩
    · rw [hw]
    · rw [hw]
  · intro s e h u
    refine interlockCapture_eq s ?_
    rw [State.ilShown, h]
  · intro s h u
    refine interlockCapture_eq s (w := [0, 0, 0, 0]) ?_
    rw [State.ilShown, h]
  · intro s
    refine ⟨fun hr hs => next_eq (if_pos ?_), fun h => next_eq (if_neg ?_)⟩
    · rw [hr, hs]
      rfl
    · rcases h with h | h <;> simp [h]
  · intro s v
    refine ⟨fun h => next_eq ((fwaWrite_done s v).trans (if_off h)), fun h => ?_⟩
    intro u hc hw
    exact next_eq ((fwaWrite_done s v).trans ((if_pos h).trans (activationEnds_quiet hc hw)))
  · intro s v
    refine ⟨fun he ht => next_eq ((psctlWrite_go s v).trans (if_pos ?_)), fun h => next_eq ((psctlWrite_go s v).trans (if_neg ?_))⟩
    · rw [he]
      simpa using ht
    · rcases h with h | ⟨h3, h4⟩
      · simp [h]
      · simp [h3, h4]
  · intro s
    refine ⟨fun he => next_eq (if_pos (by rw [he]; rfl)), fun he => ⟨fun hn hs hb => next_eq ?_, fun hn hp hc => next_eq ?_, fun hn hp => next_eq ?_, fun hn => ?_,
      fun hn => ⟨fun hp => next_eq ?_, fun hp => next_eq ?_⟩, fun hn hp => next_eq ?_, fun hn => next_eq ?_⟩⟩
    · refine (entryCheckpoint_eq s he hn).trans (if_off ?_)
      rw [State.entryWaits, hs, hb]
      rfl
    · exact (entryCheckpoint_eq s he hn).trans (if_off (by rw [hp, hc]; rfl))
    · exact (entryCheckpoint_eq s he hn).trans (if_pos (by rw [hp]; rfl))
    · intro u
      exact next_eq (entryCheckpoint_eq s he hn)
    · exact (entryCheckpoint_eq s he hn).trans (if_pos hp)
    · exact (entryCheckpoint_eq s he hn).trans (if_off hp)
    · exact (entryCheckpoint_eq s he hn).trans (if_off hp)
    · obtain ⟨k, hk⟩ := Nat.exists_eq_add_of_le' hn
      exact entryCheckpoint_eq s he hk
  · intro s up u
    exact ⟨fun h => next_eq (if_pos ((returnUp_iff s).2 h)), fun h => next_eq (if_neg fun hb => h ((returnUp_iff s).1 hb))⟩
  · intro s v may
    have hmay : (s.flag F.CQE_PSTS_ENTRY && s.fget F.CQE_PSTS_CKPT == 5 && s.fget F.CQE_PSTS_TARGET == 4) = true ↔ may := by
      simp only [may, Bool.and_eq_true, beq_iff_eq, and_assoc]
    exact ⟨fun h => next_eq ((coreOffWrite_off s v).trans (if_pos (hmay.2 h))), fun h => next_eq ((coreOffWrite_off s v).trans (if_neg fun hb => h (hmay.1 hb)))⟩
  · intro s
    refine ⟨fun ho hc => next_eq (if_neg ?_), fun ho hc => next_eq (ps4Wake_current s ho hc), fun ho => next_eq (ps4Wake_off s ho)⟩
    rw [ho]
    simpa using hc
end

section
/-! The zone engine (spec/09_zone_engine.md: R195 to R209), and the statement about its commands. -/
namespace Sys2Proof.Machine

/-! The engine's control -/

theorem zneCtlWrite_enable (s : State) {v : Word} (h : F.ZNE_CTL_CLRCNT.on v = false) : s.zneCtlWrite (setBits v 0 1 1) =
    if s.flag F.ZNE_STS_RUN || s.homeLost then s
    else if decide (s.zneCode = 0) && !s.forced Blk.zne 0 4 then
      let u := (s.members 0).foldl (fun s i => (s.computeRegions i).foldl (fun s g => s.regionPut i g) s) s
      (((u.zneMap (fun z => { z with convMembers := u.members 0 })).fsetB F.ZNE_CTL_EN true).fsetB F.ZNE_STS_RUN true).fset F.ZNE_STS_CODE 0
    else ((s.fsetB F.ZNE_STS_CFGERR true).fset F.ZNE_STS_CODE s.zneCode).raiseFault Blk.zne 0 4 3 0 (s.zneCode != 0) := by
  have hcnt : F.ZNE_CTL_CLRCNT.on (setBits v 0 1 1) = false := (on_setBits_apart v 1 rfl).trans h
  have hen : F.ZNE_CTL_EN.on (setBits v 0 1 1) = true := on_setBits_one F.ZNE_CTL_EN v rfl rfl
  rw [State.zneCtlWrite, hcnt, hen]
  rfl

theorem zneCtlWrite_clearCounters (s : State) {v : Word} (h : F.ZNE_CTL_EN.on v = false) : s.zneCtlWrite (setBits v 1 1 1) =
    ((s.clearCount Rg.ZNE_RELOC_LO).clearCount Rg.ZNE_RCLMCNT_LO).clearCount Rg.ZNE_ZRESET_LO := by
  have hcnt : F.ZNE_CTL_CLRCNT.on (setBits v 1 1 1) = true := on_setBits_one F.ZNE_CTL_CLRCNT v rfl rfl
  have hen : F.ZNE_CTL_EN.on (setBits v 1 1 1) = false := (on_setBits_apart v 1 rfl).trans h
  rw [State.zneCtlWrite, hcnt, hen]
  rfl

/-! Chunk writes -/

/-- Whether a chunk is due for its surface (R203). -/
def State.chunkDue (s : State) (z k : Nat) : Bool :=
  k % 18 < 16 && decide (k < 288) && decide (chunkStart k < (s.zdesc z).end_) && s.chunkDirty z k && !s.chunkPending z k &&
    !s.zne.writes.any (fun w => w.zone == z && w.k == k && !w.copy) && s.flag F.ZNE_STS_RUN && s.locked

theorem chunkDue_iff (s : State) (z k : Nat) : s.chunkDue z k = true ↔ k % 18 < 16 ∧ k < 288 ∧ chunkStart k < (s.zdesc z).end_ ∧ s.chunkDirty z k = true ∧
    s.chunkPending z k = false ∧ s.zne.writes.any (fun w => w.zone == z && w.k == k && !w.copy) = false ∧ s.flag F.ZNE_STS_RUN = true ∧ s.locked = true := by
  simp only [State.chunkDue, Bool.and_eq_true, decide_eq_true_eq, Bool.not_eq_true', and_assoc]

theorem commitChunk_idle (s : State) {z k : Nat} (h : s.chunkDue z k = false) : s.commitChunk z k = s := if_off h

theorem commitChunk_homeless (s : State) {z k : Nat} (h : s.chunkDue z k = true) (hi : s.chunkSurf z k = none) : s.commitChunk z k = s := by
  refine (if_pos h).trans ?_
  rw [hi]

theorem commitChunk_queued (s : State) {z k i : Nat} (h : s.chunkDue z k = true) (hi : s.chunkSurf z k = some i) : s.commitChunk z k =
    (if entryState (s.entry z k) = 1 then s.count Rg.ZNE_RELOC_LO else s).queueWrite
      (freshWrite z k i (min 256 ((s.zdesc z).end_ - chunkStart k)) (s.entry z k)) := by
  refine (if_pos h).trans ?_
  rw [hi]

theorem writeRetryTimer_one (s : State) {w : ChunkWr} (h : s.zne.writes.filter (fun w => w.retry) = [w]) (hd : w.dead = false) : writeRetryTimerOp s =
    (s.writeSet w (fun _ => { w with retry := false, refused := false })).writeOut { w with retry := false, refused := false } := by
  rw [writeRetryTimerOp, h]
  exact if_off hd

theorem writeRetryTimer_none (s : State) (h : s.zne.writes.filter (fun w => w.retry) = []) : writeRetryTimerOp s = s := by
  rw [writeRetryTimerOp, h]
  rfl

theorem chunkWriteComplete_some (s : State) {r : CompletionIn} {w : ChunkWr} (h : s.zne.writes.find? (fun w => w.sent && w.tags.contains r.tag.toNat) = some w) :
    let u := s.chunkComplete r
    let more := u.zne.writes.any (fun x => x.reclaim && x.zone == w.zone && x.k == w.k)
    chunkWriteCompleteOp r s = (if w.reclaim && !more then u.reclaimStep w.surf false else u).reclaimStep w.surf true := by
  rw [chunkWriteCompleteOp, h]

theorem reclaimCopyComplete_some (s : State) (ok : Bool) {w : ChunkWr} (h : s.zne.writes.find? (fun w => w.reclaim && w.sent) = some w) :
    let u := (w.tags ++ w.reads.map (fun x => x.1)).foldl (fun s t => s.takeHwCpl (BitVec.ofNat 32 t)) s
    reclaimCopyCompleteOp ok s = if ok && w.tags.isEmpty then s
      else (if ok && u.journalRoom 3 then u.writeGood w else ((u.writeDrop w).bandFull w.surf).sendNext w.surf).reclaimStep w.surf false := by
  rw [reclaimCopyCompleteOp, h]

/-! The Spare table -/

theorem getLsbD_setBits_go (v : Word) : (setBits v 31 1 1).getLsbD 28 = v.getLsbD 28 := by
  rw [getLsbD_setBits v 31 1 1 28 (by decide), if_neg (by decide)]

theorem spaddWrite_held (s : State) {v : Word} (h : s.flag F.ZNE_SPSTS_BUSY = true ∨ (v.getLsbD 28 = true ∧ s.locked = true)) :
    s.spaddWrite (setBits v 31 1 1) = s := by
  refine if_pos ?_
  rw [getLsbD_setBits_go]
  rcases h with h | ⟨hb, hl⟩
  · simp [h]
  · simp [hb, hl]

theorem spaddWrite_open (s : State) {v : Word} (hb : s.flag F.ZNE_SPSTS_BUSY = false) (h : v.getLsbD 28 = false ∨ s.locked = false) :
    let w := setBits v 31 1 1
    s.spaddWrite w = if (decide (12 ≤ bitsOf w 23 5 % 16) || !s.surfOn (surfIndex (bitsOf w 23 5))) = true then
        (s.fsetB F.ZNE_SPSTS_DONE true).fset F.ZNE_SPSTS_RESULT 3
      else if !s.journalRoom 2 then (s.fsetB F.ZNE_SPSTS_BUSY true).steMap (fun x => { x with deferred := x.deferred ++ [.spare w] })
      else (((s.spareInsert (F.ZNE_SPADD_ENTRY.of w)).2.fsetB F.ZNE_SPSTS_BUSY false).fsetB F.ZNE_SPSTS_DONE true).fset F.ZNE_SPSTS_RESULT
        (s.spareInsert (F.ZNE_SPADD_ENTRY.of w)).1 := by
  have hgo : F.ZNE_SPADD_GO.on (setBits v 31 1 1) = true := on_setBits_one F.ZNE_SPADD_GO v rfl rfl
  have hlock : ((setBits v 31 1 1).getLsbD 28 && s.locked) = false := by
    rw [getLsbD_setBits_go]
    exact Bool.and_eq_false_iff.2 h
  intro w
  refine (if_off ?_).trans rfl
  rw [hgo, hb, hlock]
  rfl

end Sys2Proof.Machine

open Sys2Proof Sys2Proof.Machine

/-- Settles O44: each command is looked up first, and takes its case. -/
theorem zoneEngine : Obligations.ZoneEngine := by
  refine ⟨?_, fun s v h => next_eq (zneCtlWrite_clearCounters s h), ?_, ?_, ?_, ?_, fun s v h => next_eq (spaddWrite_held s h), ?_⟩
  · intro s v h
    refine ⟨fun hr => next_eq ((zneCtlWrite_enable s h).trans (if_pos (Bool.or_eq_true_iff.2 hr))), fun hr hl hc => next_eq ?_, fun hr hl hc hf => ?_⟩
    · have hrun : (s.flag F.ZNE_STS_RUN || s.homeLost) = false := Bool.or_eq_false_iff.2 ⟨hr, hl⟩
      refine (zneCtlWrite_enable s h).trans ((if_off hrun).trans (if_neg ?_))
      rcases hc with hc | hf
      · simp [hc]
      · simp [hf]
    · intro u
      have hrun : (s.flag F.ZNE_STS_RUN || s.homeLost) = false := Bool.or_eq_false_iff.2 ⟨hr, hl⟩
      exact next_eq ((zneCtlWrite_enable s h).trans ((if_off hrun).trans (if_pos (by simp [hc, hf]))))
  · intro s z k c hc due count
    have hop : exec c s = .next (s.commitChunk z k) := by
      simp only [List.mem_cons, List.not_mem_nil, or_false] at hc
      rcases hc with rfl | rfl <;> rfl
    rw [hop]
    refine ⟨fun hd => next_eq (commitChunk_idle s ?_), fun hd hi => next_eq (commitChunk_homeless s ((chunkDue_iff s z k).2 hd) hi), fun hd i hi => ?_⟩
    · exact Bool.eq_false_iff.2 fun hb => hd ((chunkDue_iff s z k).1 hb)
    · have hq := commitChunk_queued s ((chunkDue_iff s z k).2 hd) hi
      refine ⟨fun he => next_eq (hq.trans ?_), fun he => next_eq (hq.trans ?_)⟩
      · rw [if_neg he]
      · rw [if_pos he]
  · exact fun s => ⟨fun h => next_eq (writeRetryTimer_none s h), fun w h hd => next_eq (writeRetryTimer_one s h hd)⟩
  · intro s r
    refine ⟨fun h => next_eq ?_, fun w h => ?_⟩
    · rw [chunkWriteCompleteOp, h]
    · intro u more
      refine ⟨fun hr hm => next_eq ((chunkWriteComplete_some s h).trans ?_), fun hr => next_eq ((chunkWriteComplete_some s h).trans ?_)⟩
      · refine congrArg (fun t : State => t.reclaimStep w.surf true) (if_pos ?_)
        exact Bool.and_eq_true_iff.2 ⟨hr, congrArg Bool.not hm⟩
      · refine congrArg (fun t : State => t.reclaimStep w.surf true) (if_off ?_)
        exact Bool.and_eq_false_iff.2 (hr.imp id (congrArg Bool.not))
  · intro s ok
    refine ⟨fun h => next_eq ?_, fun w h => ?_⟩
    · rw [reclaimCopyCompleteOp, h]
    · intro u
      have hop := reclaimCopyComplete_some s ok h
      refine ⟨fun ho ht => next_eq (hop.trans (if_pos (by rw [ho, ht]; rfl))), fun ho ht hr => next_eq (hop.trans ((if_neg ?_).trans ?_)),
        fun ho => next_eq (hop.trans ((if_neg ?_).trans ?_))⟩
      · simp [ht]
      · exact congrArg (fun t : State => t.reclaimStep w.surf false) (if_pos (Bool.and_eq_true_iff.2 ⟨ho, hr⟩))
      · rcases ho with ho | ⟨ht, -⟩
        · simp [ho]
        · simp [ht]
      · exact congrArg (fun t : State => t.reclaimStep w.surf false) (if_off (Bool.and_eq_false_iff.2 (ho.imp id And.right)))
  · intro s v hb h w
    have hop := spaddWrite_open s hb h
    refine ⟨fun hc => next_eq (hop.trans (if_pos ?_)), fun hc ho hj => next_eq (hop.trans ((if_off ?_).trans (if_pos (by rw [hj]; rfl)))), fun hc ho hj => ?_⟩
    · simpa using hc
    · simp only [Bool.or_eq_false_iff, decide_eq_false_iff_not, Bool.not_eq_false']
      exact ⟨Nat.not_le.2 hc, ho⟩
    · intro r
      refine next_eq (hop.trans ((if_off ?_).trans (if_off (by rw [hj]; rfl))))
      simp only [Bool.or_eq_false_iff, decide_eq_false_iff_not, Bool.not_eq_false']
      exact ⟨Nat.not_le.2 hc, ho⟩
end

section
/-! The stripe engine's journal, checkpoints and replay (spec/10_surface_parity.md: R217 to R224), and the statement about them. -/
namespace Sys2Proof.Machine

/-! A write of STE_CTL -/

/-- What enabling the stripe engine does (R220, R223). -/
def State.steEnable (s : State) : State :=
  if s.flag F.STE_STS_RUN || s.homeLost then s
  else if !s.flag F.ZNE_STS_RUN then s.steRefuse 1 true
  else if s.steCode ≠ 0 ∨ s.forced Blk.ste 0 7 then s.steRefuse s.steCode (s.steCode != 0)
  else
    let u := if s.vault.roles.all (fun r => r == 0) then s.vaultMap (fun v => { v with roles := [1, 2, 0, 0] }) else s
    let u := (List.range 4).foldl (fun u a =>
      (u.areaRoleSet a (u.areaRole a)).fset (F.STE_JAREA_W2_SEGS a) (if u.areaOn a then u.areaSegs a else 0)) u
    (((((u.steMap (fun x => { x with since := u.clock.toNat, second := 0, written := 0 })).fsetB F.STE_CTL_EN true).fsetB
      F.STE_STS_RUN true).fset F.STE_STS_CODE 0).fset F.STE_STS_RPHASE 1).journalRegs

theorem steCtlWrite_enable (s : State) {v : Word} (hcnt : F.STE_CTL_CLRCNT.on v = false) (hreq : F.STE_CTL_CPREQ.on v = false) :
    s.steCtlWrite (setBits v 0 1 1) = s.steEnable := by
  have hcnt' : F.STE_CTL_CLRCNT.on (setBits v 0 1 1) = false := (on_setBits_apart v 1 rfl).trans hcnt
  have hreq' : F.STE_CTL_CPREQ.on (setBits v 0 1 1) = false := (on_setBits_apart v 1 rfl).trans hreq
  have hen : F.STE_CTL_EN.on (setBits v 0 1 1) = true := on_setBits_one F.STE_CTL_EN v rfl rfl
  rw [State.steCtlWrite, hcnt', hreq', hen]
  rfl

theorem steCtlWrite_clearCounters (s : State) {v : Word} (hen : F.STE_CTL_EN.on v = false) (hreq : F.STE_CTL_CPREQ.on v = false) :
    s.steCtlWrite (setBits v 1 1 1) = (((((s.clearCount Rg.STE_SILENT_LO).clearCount Rg.STE_RECON_LO).clearCount Rg.STE_UNREC_LO).clearCount
      Rg.STE_MENDCNT_LO).clearCount Rg.STE_PMISM_LO).clearCount Rg.STE_CPCNT_LO := by
  have hcnt : F.STE_CTL_CLRCNT.on (setBits v 1 1 1) = true := on_setBits_one F.STE_CTL_CLRCNT v rfl rfl
  have hreq' : F.STE_CTL_CPREQ.on (setBits v 1 1 1) = false := (on_setBits_apart v 1 rfl).trans hreq
  have hen' : F.STE_CTL_EN.on (setBits v 1 1 1) = false := (on_setBits_apart v 1 rfl).trans hen
  rw [State.steCtlWrite, hcnt, hreq', hen']
  rfl

theorem steCtlWrite_request (s : State) {v : Word} (hen : F.STE_CTL_EN.on v = false) (hcnt : F.STE_CTL_CLRCNT.on v = false) :
    s.steCtlWrite (setBits v 2 1 1) = if s.flag F.STE_STS_RUN then s.steMap (fun x => { x with cpPend := true }) else s := by
  have hcnt' : F.STE_CTL_CLRCNT.on (setBits v 2 1 1) = false := (on_setBits_apart v 1 rfl).trans hcnt
  have hreq : F.STE_CTL_CPREQ.on (setBits v 2 1 1) = true := on_setBits_one F.STE_CTL_CPREQ v rfl rfl
  have hen' : F.STE_CTL_EN.on (setBits v 2 1 1) = false := (on_setBits_apart v 1 rfl).trans hen
  rw [State.steCtlWrite, hcnt', hreq, hen']
  rfl

/-! Checkpoints -/

/-- Whether no checkpoint may begin (R221). -/
def State.checkpointRests (s : State) : Bool :=
  !s.flag F.STE_STS_RUN || !s.ste.cpPend || s.ste.cp.isSome || decide (s.fget F.STE_STS_RPHASE = 1) || !s.locked

theorem checkpointRests_true (s : State) (h : s.flag F.STE_STS_RUN = false ∨ s.ste.cpPend = false ∨ s.ste.cp ≠ none ∨ s.fget F.STE_STS_RPHASE = 1 ∨ s.locked = false) :
    s.checkpointRests = true := by
  simp only [State.checkpointRests, Bool.or_eq_true, Bool.not_eq_true', decide_eq_true_eq, Option.isSome_iff_ne_none, or_assoc]
  exact h

theorem checkpointRests_false (s : State) (hr : s.flag F.STE_STS_RUN = true) (hp : s.ste.cpPend = true) (hc : s.ste.cp = none)
    (hn : s.fget F.STE_STS_RPHASE ≠ 1) (hl : s.locked = true) : s.checkpointRests = false := by
  rw [State.checkpointRests, hr, hp, hc, decide_eq_false hn, hl]
  rfl

theorem checkpointWriteComplete_some (s : State) {area : Fin 4} (ok : Bool) {c : Checkpoint} {w : SegWr} (hc : s.ste.cp = some c)
    (hw : c.todo.find? (fun w => w.area == area) = some w) :
    let fails := look (fun _ => 0) area.val s.ste.fails
    checkpointWriteCompleteOp area ok s = if ok then ((s.steMap (fun x => { x with cp := some { c with todo := c.todo.erase w } })).steMap
        (fun x => { x with fails := put (fun _ => 0) area.val 0 x.fails })).checkpointEnd
      else if fails + 1 < max 1 (s.fget F.ZNE_CFG_WRETRY) then
        (s.steMap (fun x => { x with fails := put (fun _ => 0) area.val (fails + 1) x.fails })).segSubmit w c.c
      else (s.steMap (fun x => { x with fails := put (fun _ => 0) area.val 0 x.fails })).areaFail area := by
  rw [checkpointWriteCompleteOp, hc]
  dsimp only
  rw [hw]

/-! The replay -/

/-- The pages and tables of the last checkpoint, loaded (R223). -/
def State.checkpointLoaded (s : State) : State :=
  if s.vault.cpSeq = 0 then s
  else
    let l : State := { s with mem := s.mem.filter (fun c => (s.pageOf c.1).isNone) }
    let l := l.vault.cpCells.foldl (fun s c => s.setByte (s.pageAddr (c.1 / 0x100000) + c.1 % 0x100000) c.2) l
    let l := l.fset F.ZNE_SPCNT_COUNT l.vault.cpSpares
    l.wr Rg.ZNE_FAIL (l.rd Rg.ZNE_FAIL ||| BitVec.ofNat 32 l.vault.cpFail)

/-- What follows the records of the ring (R223): `r` is the state they leave, the next number, and the conventional chunks left to settle. -/
def replayAfter (lost ue : Bool) (reads : List SectorRead) (conv : List CopyGood) (r : State × Nat × List Nat) : State :=
  let u := (r.1.vaultMap (fun v => { v with jseq := r.2.1 })).journalRegs.restoredLeave
  let u := u.zones.foldl (fun s z => s.restoreWp z) u
  let u := (u.rebuildZne.mendResume.steMap (fun x => { x with accs := [], lost := lost })).rebuildAccs reads
  let w := r.2.2.foldl (fun s m => if s.cqe.buffer.any (fun b => b.early && b.nsid == s.convNsid false && b.lba / 256 == m) then s
    else match conv.find? (fun c => c.chunk == m) with
      | some c => s.convCopy false m (c.copy % 2)
      | none => s) u
  w.fset F.STE_STS_RPHASE (if lost || ue then 2 else if w.ste.accs.any (fun a => a.isSealed) then 3 else 0)

theorem replayLoadEnd_eq (s : State) (lost ue : Bool) (reads : List SectorRead) (conv : List CopyGood) (h : s.fget F.STE_STS_RPHASE = 1) :
    replayLoadEndOp lost ue reads conv s = replayAfter lost ue reads conv (s.checkpointLoaded.applyRing 65536 s.checkpointLoaded.cpBase []) :=
  if_neg (not_not.2 h)

end Sys2Proof.Machine

open Sys2Proof Sys2Proof.Machine

/-- Settles O45: the enabling and the checkpoint's start are resolved by their conditions; the replay goes through what the ring leaves. -/
theorem stripeJournal : Obligations.StripeJournal := by
  refine ⟨?_, fun s v hen hreq => next_eq (steCtlWrite_clearCounters s hen hreq), ?_, ?_, ?_, ?_, ?_, ?_, fun s tags h => next_eq (if_pos h), ?_, ?_, fun s => rfl⟩
  · intro s v hcnt hreq
    have hop := steCtlWrite_enable s hcnt hreq
    refine ⟨fun h => next_eq (hop.trans (if_pos (Bool.or_eq_true_iff.2 h))), fun hr hl => ?_⟩
    have hopen : (s.flag F.STE_STS_RUN || s.homeLost) = false := Bool.or_eq_false_iff.2 ⟨hr, hl⟩
    refine ⟨fun hz => next_eq (hop.trans ((if_off hopen).trans (if_pos (by rw [hz]; rfl)))),
      fun hz hc => next_eq (hop.trans ((if_off hopen).trans ((if_off (by rw [hz]; rfl)).trans (if_pos hc)))), fun hz hc hf => ?_⟩
    intro u w
    refine next_eq (hop.trans ((if_off hopen).trans ((if_off (by rw [hz]; rfl)).trans (if_neg ?_))))
    simp [hc, hf]
  · exact fun s v hen hcnt => ⟨fun h => next_eq ((steCtlWrite_request s hen hcnt).trans (if_pos h)), fun h => next_eq ((steCtlWrite_request s hen hcnt).trans (if_off h))⟩
  · intro s
    refine ⟨fun hr hj => next_eq (if_pos ?_), fun h => next_eq (if_neg ?_)⟩
    · rw [hr, decide_eq_true hj]
      rfl
    · rcases h with h | h <;> simp [h]
  · intro s
    refine ⟨fun h => next_eq (if_pos (checkpointRests_true s h)), fun hr hp hc hn hl => ?_⟩
    intro c u areas plan writes w cp
    exact next_eq (if_off (checkpointRests_false s hr hp hc hn hl))
  · intro s area ok h
    refine next_eq ?_
    rw [checkpointWriteCompleteOp, h]
  · intro s area c w hc hw fails
    exact ⟨next_eq ((checkpointWriteComplete_some s true hc hw).trans (if_pos rfl)),
      fun hf => next_eq ((checkpointWriteComplete_some s false hc hw).trans ((if_neg Bool.false_ne_true).trans (if_pos hf))),
      fun hf => next_eq ((checkpointWriteComplete_some s false hc hw).trans ((if_neg Bool.false_ne_true).trans (if_neg (Nat.not_lt.2 hf))))⟩
  · intro s lost ue reads conv
    refine ⟨fun h => next_eq (if_pos h), fun h => ?_⟩
    intro l0 l1 l2 l r u0 u1 u w
    exact next_eq (replayLoadEnd_eq s lost ue reads conv h)
  · intro s tags h u w
    exact next_eq (if_neg (not_not.2 h))
  · intro s
    refine ⟨fun hp hl => next_eq (if_pos ?_), fun h => next_eq (if_neg ?_)⟩
    · rw [hp, hl]
      rfl
    · rcases h with h | h <;> simp [h]
end

section
/-! Surface retirement, mending, reconstruction and rinsing (spec/10_surface_parity.md: R225 to R231), and the statement about them. -/
namespace Sys2Proof.Machine

/-! Surface retirement -/

theorem retireWrite_go (s : State) (v : Word) : let f := F.STE_RETIRE_SURF.of v
    s.retireWrite (setBits v 31 1 1) = if (decide (12 ≤ f % 16) || !s.surfOn (surfIndex f)) = true then s
      else if s.journalRoom 3 then s.retire (surfIndex f)
      else s.steMap (fun x => { x with deferred := x.deferred ++ [.retire (setBits v 31 1 1)] }) := by
  have hgo : F.STE_RETIRE_GO.on (setBits v 31 1 1) = true := on_setBits_one F.STE_RETIRE_GO v rfl rfl
  have hsurf : F.STE_RETIRE_SURF.of (setBits v 31 1 1) = F.STE_RETIRE_SURF.of v := of_setBits_apart v 1 rfl
  rw [State.retireWrite, hgo, hsurf]
  rfl

/-! Mending -/

/-- Whether no chunk is mended now (R225). -/
def State.mendRests (s : State) : Bool := decide (s.fget F.STE_MSTS_PEND = 0) || s.cqe.paused || s.moversRest || !s.locked

/-- The work on one chunk to be mended (R225, R226): its rows are reconstructed; a lost chunk's entry is marked, another is written anew. -/
def State.mendOne (u : State) (reads : List (List MemberRead)) (key : Nat) : State :=
  let z := key / 288
  let k := key % 288
  let m := k % 18
  let n := if m < 16 then min 256 ((u.zdesc z).end_ - chunkStart k) else 256
  let rows := (List.range n).map (fun i => u.reconstruct z (k / 18) i (reads.getD i []) m)
  let bad := (List.range n).filter (fun i => (rows.getD i none).isNone)
  if bad.length = n ∧ 0 < n ∧ m < 16 then
    let e := u.entry z k
    let new := mkEntry 2 (entryRgen e) (surfCode (entrySurf e)) (entrySlot e)
    let w := u.journal 1 (psetFlag z) (zoneTag (z % zoneSetBase) k) (leBytes 4 e.toNat ++ leBytes 4 new.toNat ++ leBytes 4 0 ++ leBytes 2 (u.zmptr z)) 0
    (((w.killSlot (entrySurf e + surfBase z) (entrySlot e)).entrySet z k new true).unrecoverable
      (bad.filter (fun i => !w.unrecAt z k i)).length).mendCheck
  else match u.chooseSurf z k with
    | none => u.zoneReadOnly z
    | some i => (if m < 16 then u.poison z (k / 18) (bad.map (fun i => (i, reads.getD i []))) m false else u).rewriteChunk z k i rows

theorem mendChunk_none (s : State) (reads : List (List MemberRead)) {u : State} (hr : s.mendRests = false) (h : s.mendNext = (none, u)) :
    mendChunkOp reads s = u.mendCheck := by
  refine (if_off hr).trans ?_
  rw [h]

theorem mendChunk_some (s : State) (reads : List (List MemberRead)) {u : State} {key : Nat} (hr : s.mendRests = false) (h : s.mendNext = (some key, u)) :
    mendChunkOp reads s = u.mendOne reads key := by
  refine (if_off hr).trans ?_
  rw [h]
  rfl

/-! Reconstruction of a sector -/

theorem sectorReconstruction_read (s : State) (m : ReconIn) {p : ReadPart}
    (h : s.cqe.parts.find? (fun p => p.zone == m.zone && p.k == 18 * m.stripe + m.member && decide (p.first ≤ m.sector) &&
      p.waiting.contains (m.sector - p.first)) = some p) : sectorReconstructionOp m s = s.reconRead m p := by
  rw [sectorReconstructionOp, h]

theorem sectorReconstruction_copy (s : State) (m : ReconIn) {o : Option ChunkWr}
    (h : s.cqe.parts.find? (fun p => p.zone == m.zone && p.k == 18 * m.stripe + m.member && decide (p.first ≤ m.sector) &&
      p.waiting.contains (m.sector - p.first)) = none)
    (ho : s.zne.writes.find? (fun w => w.zone == m.zone && w.k == 18 * m.stripe + m.member && w.waiting.contains m.sector) = o) :
    sectorReconstructionOp m s = o.elim s (s.reconCopy m) := by
  rw [sectorReconstructionOp, h]
  dsimp only
  rw [ho]
  cases o <;> rfl

/-- The part of a read no longer waits for a sector. -/
def State.reconDrop (s : State) (m : ReconIn) (p : ReadPart) : State :=
  s.partSet p (fun x => { x with waiting := x.waiting.filter (fun y => y != m.sector - p.first) })

/-- A reconstructed sector enters the data of its read. -/
def State.reconPut (s : State) (m : ReconIn) (p : ReadPart) (d : List Byte) : State :=
  ((((s.setBytes (p.addr + 4128 * (m.sector - p.first)) (d.take 4112)).reconDrop m p).count Rg.STE_RECON_LO)).silent (p.stale.contains (m.sector - p.first))

theorem reconRead_lost (s : State) (m : ReconIn) (p : ReadPart) (h : s.reconGot m = none ∨ m.checkOk = false) : s.reconRead m p =
    (((s.reconDrop m p).lostSector m true).slotMap p.stamp (fun x => { x with status := St.unrecovered })).readTry p.stamp := by
  rw [State.reconRead]
  cases hd : s.reconGot m with
  | none => rfl
  | some d =>
    have hbad : m.checkOk = false := h.resolve_left (by rw [hd]; exact Option.some_ne_none d)
    dsimp only
    rw [hbad]
    rfl

theorem reconRead_found (s : State) (m : ReconIn) (p : ReadPart) {d : List Byte} {o : Option Nat} (hd : s.reconGot m = some d) (hok : m.checkOk = true)
    (ho : (s.reconPut m p d).chunkSurf m.zone (18 * m.stripe + m.member) = o) : s.reconRead m p =
    (o.elim (s.reconPut m p d) (fun i => (s.reconPut m p d).copyChunk m.zone (18 * m.stripe + m.member) i false)).readTry p.stamp := by
  rw [State.reconPut, State.reconDrop] at ho
  rw [State.reconRead, hd]
  dsimp only
  rw [if_pos hok, ho]
  cases o <;> rfl

/-! Rinsing -/

/-- The fields of STE_RCTL that a write takes over (Table 10.8). -/
def State.rinseFields (s : State) (v : Word) : State :=
  (s.fset F.STE_RCTL_CHECKP (F.STE_RCTL_CHECKP.of v)).fset F.STE_RCTL_RELOCREV (F.STE_RCTL_RELOCREV.of v)

theorem rctlWrite_start (s : State) {v : Word} (h : F.STE_RCTL_STOP.on v = false) :
    let u := s.rinseFields v
    let a := u.wide Rg.STE_RSADDR_LO
    s.rctlWrite (setBits v 0 1 1) = if u.ste.rinse.isNone then (if a % 64 ≠ 0 ∨ !u.inDdrRw a 832 then u.rinseOver 2
      else ((u.steMap (fun x => { x with rinse := some { start := u.clock.toNat, stop := false, chunks := 0, stripes := 0, rows := List.replicate 24 noRinse } })).fsetB
        F.STE_STS_RINSE true).fsetB F.STE_RSTS_BUSY true) else u := by
  have hgo : F.STE_RCTL_GO.on (setBits v 0 1 1) = true := on_setBits_one F.STE_RCTL_GO v rfl rfl
  have hstop : F.STE_RCTL_STOP.on (setBits v 0 1 1) = false := (on_setBits_apart v 1 rfl).trans h
  have hcheck : F.STE_RCTL_CHECKP.of (setBits v 0 1 1) = F.STE_RCTL_CHECKP.of v := of_setBits_apart v 1 rfl
  have hrev : F.STE_RCTL_RELOCREV.of (setBits v 0 1 1) = F.STE_RCTL_RELOCREV.of v := of_setBits_apart v 1 rfl
  rw [State.rctlWrite, hgo, hstop, hcheck, hrev]
  rfl

theorem rctlWrite_stop (s : State) {v : Word} (h : F.STE_RCTL_GO.on v = false) : s.rctlWrite (setBits v 1 1 1) =
    (s.rinseFields v).steMap (fun x => { x with rinse := x.rinse.map (fun r => { r with stop := true }) }) := by
  have hgo : F.STE_RCTL_GO.on (setBits v 1 1 1) = false := (on_setBits_apart v 1 rfl).trans h
  have hstop : F.STE_RCTL_STOP.on (setBits v 1 1 1) = true := on_setBits_one F.STE_RCTL_STOP v rfl rfl
  have hcheck : F.STE_RCTL_CHECKP.of (setBits v 1 1 1) = F.STE_RCTL_CHECKP.of v := of_setBits_apart v 1 rfl
  have hrev : F.STE_RCTL_RELOCREV.of (setBits v 1 1 1) = F.STE_RCTL_RELOCREV.of v := of_setBits_apart v 1 rfl
  rw [State.rctlWrite, hgo, hstop, hcheck, hrev]
  rfl

/-- Whether a chunk is passed over by a rinse now (R227). -/
def State.rinsePasses (s : State) (m : RinseIn) (i : Nat) : Bool :=
  s.surfFailed i || !(s.rd Rg.STE_RMASK).getLsbD (surfBit i) || entryState (s.entry m.zone m.k) != 1 || s.cqe.paused || s.moversRest

/-- Whether a rinsed chunk is copied elsewhere (R227). -/
def State.rinseMoves (s : State) (m : RinseIn) : Bool :=
  decide (max 1 (s.fget F.STE_RCTL_RELOCREV) ≤ m.maxRevs) || decide (0 < m.reconstructed) || decide (0 < m.checkFails)

/-- The counts and faults of a rinsed chunk on surface `i` (R227). -/
def State.rinseCounted (s : State) (m : RinseIn) (i : Nat) : State :=
  (List.range m.checkFails).foldl (fun s _ => ((s.count Rg.STE_SILENT_LO).raiseFault Blk.ste 0 1 1 0).blockRecord Blk.ste 0 1 0)
    ((s.steMap (fun x => { x with rinse := x.rinse.map (fun r => { r with chunks := r.chunks + 1 }) })).rinseRow i (fun r => { r with
      chunks := r.chunks + 1, recovered := r.recovered + m.recovered, reconstructed := r.reconstructed + m.reconstructed
      checkFails := r.checkFails + m.checkFails, rehomed := r.rehomed + (s.rinseMoves m).toNat, unrecoverable := r.unrecoverable + m.unrecoverable.length
      maxRevs := max r.maxRevs m.maxRevs }))

/-- What a rinsed chunk on surface `i` leaves before its parity is compared (R227). -/
def State.rinsed (s : State) (m : RinseIn) (i : Nat) : State :=
  if m.unrecoverable.isEmpty || decide (16 ≤ m.k % 18) then (if s.rinseMoves m then (s.rinseCounted m i).copyChunk m.zone m.k i false else s.rinseCounted m i)
  else (s.rinseCounted m i).poison m.zone (m.k / 18) (m.unrecoverable.map (fun i => (i, m.members.getD i []))) (m.k % 18) true

theorem rinseChunkRead_some (s : State) (m : RinseIn) {x : Rinse} {i : Nat} (hx : s.ste.rinse = some x) (hi : s.chunkSurf m.zone m.k = some i) :
    rinseChunkReadOp m s = if s.rinsePasses m i then s
      else if (s.rinsed m i).flag F.STE_RCTL_CHECKP && !m.members.isEmpty && (s.rinsed m i).stripeClosed m.zone (m.k / 18) then
        (s.rinsed m i).parityCompare m.zone (m.k / 18) m.members
      else s.rinsed m i := by
  rw [rinseChunkReadOp, hx, hi]
  rfl

theorem rinseChunkRead_none (s : State) (m : RinseIn) (h : s.ste.rinse = none ∨ s.chunkSurf m.zone m.k = none) : rinseChunkReadOp m s = s := by
  rw [rinseChunkReadOp]
  rcases h with h | h
  · rw [h]
  · rw [h]
    cases s.ste.rinse <;> rfl

/-! Conventional writes -/

/-- Whether a conventional write waits or finds nothing (R228). -/
def State.convRests (s : State) (stamp : Nat) : Bool :=
  (s.convBlocks stamp).isEmpty || (s.convBlocks stamp).any s.mediaRead || (s.convBlocks stamp).any s.olderWrite || !s.locked || !s.flag F.STE_STS_RUN

theorem convRests_iff (s : State) (stamp : Nat) : s.convRests stamp = true ↔ s.convBlocks stamp = [] ∨ (s.convBlocks stamp).any s.mediaRead = true ∨
    (s.convBlocks stamp).any s.olderWrite = true ∨ s.locked = false ∨ s.flag F.STE_STS_RUN = false := by
  simp only [State.convRests, Bool.or_eq_true, Bool.not_eq_true', List.isEmpty_iff, or_assoc]

end Sys2Proof.Machine

open Sys2Proof Sys2Proof.Machine

/-- Settles O46: each command is looked up first, and takes its case; the work on one chunk has a name of its own. -/
theorem stripeRepair : Obligations.StripeRepair := by
  refine ⟨?_, ?_, fun s a bad => rfl, ?_, ?_, fun s v h => next_eq (rctlWrite_stop s h), fun s m h => next_eq (rinseChunkRead_none s m h), ?_, ?_, ?_⟩
  · intro s v f
    have hop := retireWrite_go s v
    refine ⟨fun h => next_eq (hop.trans (if_pos (by simpa using h))), fun hf ho hj => ?_, fun hf ho hj => ?_⟩
    all_goals
      have hopen : (decide (12 ≤ f % 16) || !s.surfOn (surfIndex f)) = false := by rw [decide_eq_false (Nat.not_le.2 hf), ho]; rfl
    · exact next_eq (hop.trans ((if_off hopen).trans (if_pos hj)))
    · exact next_eq (hop.trans ((if_off hopen).trans (if_off hj)))
  · intro s reads
    refine ⟨fun h => next_eq (if_pos ?_), fun hp hc hm hl => ?_⟩
    · simpa [or_assoc] using h
    have hrest : s.mendRests = false := by rw [State.mendRests, decide_eq_false hp, hc, hm, hl]; rfl
    refine ⟨fun u h => next_eq (mendChunk_none s reads hrest h), fun u key h => ?_⟩
    have hop := mendChunk_some s reads hrest h
    intro z k m n rows bad
    refine ⟨fun hn => ⟨fun hi => next_eq (hop.trans ((if_neg hn).trans ?_)), fun i hi => ⟨fun hm => next_eq (hop.trans ((if_neg hn).trans ?_)),
      fun hm => next_eq (hop.trans ((if_neg hn).trans ?_))⟩⟩, fun hb h0 hm => ?_⟩
    · rw [hi]
    · rw [hi]
      exact congrArg (fun t : State => t.rewriteChunk z k i rows) (if_neg (Nat.not_lt.2 hm))
    · rw [hi]
      exact congrArg (fun t : State => t.rewriteChunk z k i rows) (if_pos hm)
    · intro e new w
      exact next_eq (hop.trans (if_pos ⟨hb, h0, hm⟩))
  · intro s m k find copy
    refine ⟨fun hf hc => next_eq (sectorReconstruction_copy s m hf hc), fun hf w hc => next_eq (sectorReconstruction_copy s m hf hc), fun p hf => ?_⟩
    have hop := sectorReconstruction_read s m hf
    intro j drop
    refine ⟨fun h => next_eq (hop.trans (reconRead_lost s m p h)), fun d hd hok => ?_⟩
    intro u
    exact ⟨fun i hi => next_eq (hop.trans (reconRead_found s m p hd hok hi)), fun hi => next_eq (hop.trans (reconRead_found s m p hd hok hi))⟩
  · intro s v h u a
    have hop := rctlWrite_start s h
    refine ⟨fun hr => next_eq (hop.trans (if_neg ?_)), fun hr ha => next_eq (hop.trans ((if_pos ?_).trans (if_pos ?_))),
      fun hr ha hd => next_eq (hop.trans ((if_pos ?_).trans (if_neg ?_)))⟩
    · exact fun hn => hr (Option.isNone_iff_eq_none.1 hn)
    · exact Option.isNone_iff_eq_none.2 hr
    · exact ha.imp_right fun hd => congrArg Bool.not hd
    · exact Option.isNone_iff_eq_none.2 hr
    · rintro (h1 | h1)
      · exact h1 ha
      · exact Bool.false_ne_true ((congrArg Bool.not hd).symm.trans h1)
  · intro s m x i hx hi
    have hop := rinseChunkRead_some s m hx hi
    refine ⟨fun h => next_eq (hop.trans (if_pos ?_)), fun hf hm he hc hr => ?_⟩
    · simp only [State.rinsePasses, Bool.or_eq_true, Bool.not_eq_true', bne_iff_ne, or_assoc]
      exact h
    have hpass : s.rinsePasses m i = false := by rw [State.rinsePasses, hf, hm, he, hc, hr]; rfl
    intro move u0 u w
    refine ⟨fun h => next_eq (hop.trans ((if_off hpass).trans (if_neg ?_))), fun hch hmem hcl => next_eq (hop.trans ((if_off hpass).trans (if_pos ?_)))⟩
    · intro hall
      simp only [Bool.and_eq_true, Bool.not_eq_true', List.isEmpty_eq_false_iff] at hall
      obtain ⟨⟨hch, hmem⟩, hcl⟩ := hall
      rcases h with h | h | h
      · exact Bool.false_ne_true (h.symm.trans hch)
      · exact hmem h
      · exact Bool.false_ne_true (h.symm.trans hcl)
    · exact Bool.and_eq_true_iff.2 ⟨Bool.and_eq_true_iff.2 ⟨hch, by simpa using hmem⟩, hcl⟩
  · intro s
    refine ⟨fun h => next_eq ?_, fun r h => next_eq ?_⟩
    · rw [rinseEndOp, h]
    · rw [rinseEndOp, h]
  · intro s stamp bs
    refine ⟨fun h => next_eq (if_pos ((convRests_iff s stamp).2 h)), fun hb hm ho hl hr => ?_⟩
    have hrest : s.convRests stamp = false := by
      refine Bool.eq_false_iff.2 fun h => ?_
      rcases (convRests_iff s stamp).1 h with h | h | h | h | h
      · exact hb h
      · exact Bool.false_ne_true (hm.symm.trans h)
      · exact Bool.false_ne_true (ho.symm.trans h)
      · exact Bool.false_ne_true (h.symm.trans hl)
      · exact Bool.false_ne_true (h.symm.trans hr)
    refine ⟨fun hj => next_eq ((if_off hrest).trans (if_pos (by rw [hj]; rfl))), fun hj => ?_⟩
    intro one
    exact next_eq ((if_off hrest).trans (if_off (by rw [hj]; rfl)))
end

section
/-! The twin and the Branch Line (spec/17_twin.md: R353 to R377), and the statements about them: frames and timers, heartbeats, Tokens, steering and the
hand-back. -/
namespace Sys2Proof.Machine

/-! Frames -/

/-- Whether a frame that arrives is valid (R363). -/
def State.frameGood (s : State) (f : FrameIn) : Bool := f.crcOk && s.brl.rxSeq.all (fun n => f.seq == n + 1)

theorem onFrame_down (s : State) (f : FrameIn) (k : State → State) (h : s.flag F.BRL_STS_LINK = false) : s.onFrame f k = s := if_pos (by rw [h]; rfl)

theorem onFrame_up (s : State) (f : FrameIn) (k : State → State) (h : s.flag F.BRL_STS_LINK = true) : s.onFrame f k =
    if s.frameGood f then k ((s.brlMap (fun b => { b with rxSeq := some f.seq })).silenceEnd) else s.count Rg.BRL_CRCERR_LO := by
  refine (if_off (by rw [h]; rfl)).trans ?_
  rw [State.frameGood]
  cases s.brl.rxSeq <;> rfl

theorem frameGood_false (s : State) {f : FrameIn} (h : f.crcOk = false ∨ ∃ q, s.brl.rxSeq = some q ∧ f.seq ≠ q + 1) : s.frameGood f = false := by
  rcases h with h | ⟨q, hq, hne⟩
  · rw [State.frameGood, h]
    rfl
  · rw [State.frameGood, hq, Option.all_some, beq_eq_false_iff_ne.2 hne, Bool.and_false]

theorem frameGood_true (s : State) {f : FrameIn} (hc : f.crcOk = true) (hs : ∀ q, s.brl.rxSeq = some q → f.seq = q + 1) : s.frameGood f = true := by
  rw [State.frameGood, hc, Bool.true_and]
  cases hq : s.brl.rxSeq with
  | none => rfl
  | some q => rw [Option.all_some, beq_iff_eq]; exact hs q hq

/-! Timers of the link -/

/-- Whether the link may train (R363). -/
def State.linkMayTrain (s : State) : Bool := s.flag F.BRL_CTL_EN && !s.flag F.BRL_STS_LINK && !s.flag F.BRL_STS_FENCED

theorem handshakeTimeout_some (s : State) {tag : Nat} {w : LineWait} (h : s.brl.waits.find? (fun w => w.tag == tag) = some w) :
    let u := s.count Rg.BRL_XRDYTO_LO
    handshakeTimeoutOp tag s = if w.again then ((u.linkFall).brlMap (fun b => { b with late := b.late ++ [tag] })).raiseFault Blk.brl 0 4 3 tag
      else (u.brlMap (fun b => { b with waits := b.waits.map (fun x => if x.tag = tag then { x with again := true } else x) })).sendFrame tag (!w.ack) w.pkt := by
  rw [handshakeTimeoutOp, h]

theorem handshakeTimeout_none (s : State) {tag : Nat} (h : s.brl.waits.find? (fun w => w.tag == tag) = none) : handshakeTimeoutOp tag s = s := by
  rw [handshakeTimeoutOp, h]

/-! A write of BRL_CTL -/

theorem brlCtlWrite_enable (s : State) {v : Word} (hcnt : F.BRL_CTL_CLRCNT.on v = false) (hhand : F.BRL_CTL_HANDBACK.on v = false)
    (hfence : F.BRL_CTL_FENCE.on v = false) : s.brlCtlWrite (setBits v 0 1 1) = if (!s.flag F.BRL_CTL_EN) = true then
      (if s.mirrorGood then s.fsetB F.BRL_CTL_EN true else (s.fsetB F.BRL_STS_CFGERR true).fset F.BRL_STS_CODE 1) else s := by
  have hcnt' : F.BRL_CTL_CLRCNT.on (setBits v 0 1 1) = false := (on_setBits_apart v 1 rfl).trans hcnt
  have hen : F.BRL_CTL_EN.on (setBits v 0 1 1) = true := on_setBits_one F.BRL_CTL_EN v rfl rfl
  have hhand' : F.BRL_CTL_HANDBACK.on (setBits v 0 1 1) = false := (on_setBits_apart v 1 rfl).trans hhand
  have hfence' : F.BRL_CTL_FENCE.on (setBits v 0 1 1) = false := (on_setBits_apart v 1 rfl).trans hfence
  rw [State.brlCtlWrite, hcnt', hen, hhand', hfence']
  rfl

theorem brlCtlWrite_fence (s : State) {v : Word} (hcnt : F.BRL_CTL_CLRCNT.on v = false) (hen : F.BRL_CTL_EN.on v = false)
    (hhand : F.BRL_CTL_HANDBACK.on v = false) : s.brlCtlWrite (setBits v 1 1 1) = s.fence := by
  have hcnt' : F.BRL_CTL_CLRCNT.on (setBits v 1 1 1) = false := (on_setBits_apart v 1 rfl).trans hcnt
  have hen' : F.BRL_CTL_EN.on (setBits v 1 1 1) = false := (on_setBits_apart v 1 rfl).trans hen
  have hhand' : F.BRL_CTL_HANDBACK.on (setBits v 1 1 1) = false := (on_setBits_apart v 1 rfl).trans hhand
  have hfence : F.BRL_CTL_FENCE.on (setBits v 1 1 1) = true := on_setBits_one F.BRL_CTL_FENCE v rfl rfl
  rw [State.brlCtlWrite, hcnt', hen', hhand', hfence]
  rfl

theorem brlCtlWrite_handBack (s : State) {v : Word} (hcnt : F.BRL_CTL_CLRCNT.on v = false) (hen : F.BRL_CTL_EN.on v = false)
    (hfence : F.BRL_CTL_FENCE.on v = false) : s.brlCtlWrite (setBits v 2 1 1) = s.handBackStart := by
  have hcnt' : F.BRL_CTL_CLRCNT.on (setBits v 2 1 1) = false := (on_setBits_apart v 1 rfl).trans hcnt
  have hen' : F.BRL_CTL_EN.on (setBits v 2 1 1) = false := (on_setBits_apart v 1 rfl).trans hen
  have hhand : F.BRL_CTL_HANDBACK.on (setBits v 2 1 1) = true := on_setBits_one F.BRL_CTL_HANDBACK v rfl rfl
  have hfence' : F.BRL_CTL_FENCE.on (setBits v 2 1 1) = false := (on_setBits_apart v 1 rfl).trans hfence
  rw [State.brlCtlWrite, hcnt', hen', hhand, hfence']
  rfl

theorem brlCtlWrite_clearCounters (s : State) {v : Word} (hen : F.BRL_CTL_EN.on v = false) (hhand : F.BRL_CTL_HANDBACK.on v = false)
    (hfence : F.BRL_CTL_FENCE.on v = false) : s.brlCtlWrite (setBits v 3 1 1) =
      ((s.clearCount Rg.BRL_LATE_CPL_LO).clearCount Rg.BRL_CRCERR_LO).clearCount Rg.BRL_XRDYTO_LO := by
  have hcnt : F.BRL_CTL_CLRCNT.on (setBits v 3 1 1) = true := on_setBits_one F.BRL_CTL_CLRCNT v rfl rfl
  have hen' : F.BRL_CTL_EN.on (setBits v 3 1 1) = false := (on_setBits_apart v 1 rfl).trans hen
  have hhand' : F.BRL_CTL_HANDBACK.on (setBits v 3 1 1) = false := (on_setBits_apart v 1 rfl).trans hhand
  have hfence' : F.BRL_CTL_FENCE.on (setBits v 3 1 1) = false := (on_setBits_apart v 1 rfl).trans hfence
  rw [State.brlCtlWrite, hcnt, hen', hhand', hfence']
  rfl

/-! The heartbeat, the Tokens, steering and the hand-back -/

/-- Whether the guard time may end in a takeover (R366). -/
def State.guardDue (s : State) : Bool :=
  s.twin && s.flag F.BRL_STS_PSILENT && !s.flag F.BRL_STS_FENCED && s.brl.synced && !s.flag F.BRL_STS_CARRY && !s.brl.tokWait

theorem guardDue_iff (s : State) : s.guardDue = true ↔ s.twin = true ∧ s.flag F.BRL_STS_PSILENT = true ∧ s.flag F.BRL_STS_FENCED = false ∧ s.brl.synced = true ∧
    s.flag F.BRL_STS_CARRY = false ∧ s.brl.tokWait = false := by
  simp only [State.guardDue, Bool.and_eq_true, Bool.not_eq_true', and_assoc]

theorem guardExpiry_due (s : State) (h : s.guardDue = true) : guardExpiryOp s =
    ((s.fset F.BRL_TKSTS_DRIVE (if s.flag F.BRL_STS_SENIOR then withBit (s.fget F.BRL_TKSTS_DRIVE) s.partToken true
      else withBit (withBit (s.fget F.BRL_TKSTS_DRIVE) s.partToken true) 2 true)).brlMap (fun b => { b with tokWait := true })).anaUpdate := if_pos h

theorem tokenGained_stays (s : State) (net : TokenNet)
    (h : s.twin = false ∨ (s.fget F.BRL_TKSTS_LEVEL).testBit (TokenBit net) ≠ s.tokenLevel (TokenBit net) ∨ s.held.testBit (TokenBit net) = true) :
    tokenGainedOp net s = s := by
  refine if_pos ?_
  simp only [Bool.or_eq_true, Bool.not_eq_true', bne_iff_ne, or_assoc]
  exact h

theorem tokenLost_stays (s : State) (net : TokenNet)
    (h : s.twin = false ∨ (s.fget F.BRL_TKSTS_LEVEL).testBit (TokenBit net) = s.tokenLevel (TokenBit net) ∨ s.held.testBit (TokenBit net) = false) :
    tokenLostOp net s = s := by
  refine if_pos ?_
  simp only [Bool.or_eq_true, Bool.not_eq_true', decide_eq_true_eq, or_assoc]
  exact h

theorem tokenGained_comes (s : State) (net : TokenNet) (ht : s.twin = true)
    (hl : (s.fget F.BRL_TKSTS_LEVEL).testBit (TokenBit net) = s.tokenLevel (TokenBit net)) (hh : s.held.testBit (TokenBit net) = false) :
    let b := TokenBit net
    let u := s.fset F.BRL_TKSTS_HELD (withBit (s.fget F.BRL_TKSTS_HELD) b true)
    tokenGainedOp net s = if b = 2 then
        (let w := (((u.fsetB F.BRL_STS_SENIOR true).fsetB F.TTB_STS_TWINSYNC true).inhUpdate).henUpdate
         if w.brl.tokWait && w.held.testBit w.partToken then w.carryStart else w)
      else if b = u.ownToken then
        (let w := (u.brlMap (fun x => { x with firstOwn := true })).permBoth
         if w.flag F.BRL_STS_PAIRED && !w.flag F.BRL_STS_MIRSYNC then w.copyStart false else w)
      else if u.brl.tokWait && (u.fget F.BRL_TKSTS_DRIVE).testBit 2 && !u.held.testBit 2 then u
      else u.carryStart := by
  refine if_off ?_
  rw [ht, hl, hh, bne_self_eq_false]
  rfl

theorem tokenLost_goes (s : State) (net : TokenNet) (ht : s.twin = true)
    (hl : (s.fget F.BRL_TKSTS_LEVEL).testBit (TokenBit net) ≠ s.tokenLevel (TokenBit net)) (hh : s.held.testBit (TokenBit net) = true) :
    let b := TokenBit net
    let active := b != 2 && b == (if s.flag F.BRL_STEER_SET then s.partToken else s.ownToken)
    let u := s.fset F.BRL_TKSTS_HELD (withBit (s.fget F.BRL_TKSTS_HELD) b false)
    let u := if active then (u.portLost .zero).portLost .one else u
    let w := ((u.spcEnter SpcS.stopped).bridgeSet .gatesLow).fsetB F.BRL_STS_SENIOR false
    let u := if b = 2 then (({ w with ttb := { w.ttb with syncRun := 0, syncMiss := 0 } }).fsetB F.TTB_STS_TWINSYNC false).inhUpdate else u
    tokenLostOp net s = if b == s.partToken && !(s.fget F.BRL_TKSTS_DRIVE).testBit b then u.raiseEvent 120 else (u.raiseEvent 120).fence := by
  refine if_off ?_
  rw [ht, hh, decide_eq_false hl]
  rfl

/-- The state in which a write of BRL_STEER is judged (R373): REJ is cleared by 1. -/
def State.steerJudged (s : State) (v : Word) : State := if F.BRL_STEER_REJ.on v then s.fsetB F.BRL_STEER_REJ false else s

/-- Whether the ports may be switched (R373). -/
def State.maySteer (u : State) : Bool :=
  u.twin && u.held.testBit u.partToken && u.sacIn .zero SacS.parked && u.sacIn .one SacS.parked && (u.msqOf .zero).cur.isNone && (u.msqOf .one).cur.isNone

theorem steerWrite_eq (s : State) (v : Word) : let u := s.steerJudged v
    let w := (u.fsetB F.BRL_STEER_SET (F.BRL_STEER_SET.on v)).fsetB F.BRL_STEER_BUSY true
    s.steerWrite v = if F.BRL_STEER_SET.on v = u.flag F.BRL_STEER_SET then u
      else if !u.maySteer then u.fsetB F.BRL_STEER_REJ true
      else if (if F.BRL_STEER_SET.on v then u.brl.firstPartner else u.brl.firstOwn) then (w.sacEnter .zero SacS.unload).sacEnter .one SacS.unload else w := rfl

/-- The hand-back's work at a stage (R375), with `n` stages left to go on to. -/
def State.handStage (s : State) (n : Nat) : HandBack → State
  | .idle => s
  | .locks => if (s.cqe.il.filter (fun e => e.req.owner == 5 && e.req.part && e.held)).length < 2 then s
    else (s.brlMap (fun b => { b with handBack := .commit })).handStep n
  | .commit => if s.cqe.buffer.any (fun b => b.early && s.isPartner b.nsid) then s
    else ((s.brlMap (fun b => { b with handBack := .checkpoint })).steMap (fun x => { x with cpPend := s.flag F.STE_STS_RUN })).handStep n
  | .checkpoint => if s.ste.cpPend || s.ste.cp.isSome then s else ((s.brlMap (fun b => { b with handBack := .copy })).copyStart true).handStep n
  | .copy => if s.brl.copyNext.isSome then s else (s.brlMap (fun b => { b with handBack := .park })).handStep n
  | .park => if s.flag F.BRL_STEER_SET && !s.bothParked then (s.unloadIfMay .zero).unloadIfMay .one
    else
      let u := (s.fsetB F.BRL_STEER_SET false).fset F.BRL_TKSTS_DRIVE (withBit (s.fget F.BRL_TKSTS_DRIVE) s.partToken false)
      let w := ((u.cqe.il.filter (fun e => e.req.owner == 5)).map (fun e => e.index)).foldl (fun s i => interlockReleaseOp i s) u
      (((((((w.fsetB F.BRL_STS_HBACK false).fsetB F.BRL_STS_CARRY false).brlMap (fun b => { b with handBack := .idle, copySet := false })).dropSet).raiseEvent
        122).quiesce).anaUpdate).copyStart false

theorem handStep_succ (s : State) (n : Nat) {h : HandBack} (hh : s.brl.handBack = h) : s.handStep (n + 1) = s.handStage n h := by
  rw [State.handStep, hh]
  cases h <;> rfl

end Sys2Proof.Machine

open Sys2Proof Sys2Proof.Machine

/-- Settles O47: a frame's validity is resolved once; each packet's command is that frame with its packet's effect. -/
theorem branchLineFrames : Obligations.BranchLineFrames := by
  refine ⟨?_, ?_, ?_, ?_, fun s => ⟨rfl, fun ht hh => next_eq (if_pos (by rw [ht, hh]; rfl)), fun h => next_eq (if_off (Bool.and_eq_false_iff.2 h))⟩, ?_, ?_⟩
  · intro s f k u
    refine ⟨fun h => ⟨onFrame_down s f k h, onFrame_down s f _ h⟩, fun h hbad => ?_, fun h hc hs => ⟨?_, fun hr => ?_, fun hr => ?_⟩⟩
    · have hgood := frameGood_false s hbad
      exact ⟨(onFrame_up s f k h).trans (if_off hgood), (onFrame_up s f _ h).trans (if_off hgood)⟩
    all_goals have hgood := frameGood_true s hc hs
    · exact (onFrame_up s f k h).trans (if_pos hgood)
    · exact (onFrame_up s f _ h).trans ((if_pos hgood).trans (if_off hr))
    · exact (onFrame_up s f _ h).trans ((if_pos hgood).trans (if_pos hr))
  · intro s f id glb rev sts speed side parked a b n m k bytes ids e c msg
    exact ⟨rfl, rfl, rfl, rfl, rfl, rfl, rfl, rfl, rfl, rfl, rfl, rfl, rfl, rfl, rfl, rfl, rfl⟩
  · exact fun s id side a => ⟨fun h => if_pos h, fun h hs => (if_neg (not_not.2 h)).trans (if_pos hs)⟩
  · intro s cid st dw0 hd u hu
    refine (if_off hd).trans ?_
    rw [hu]
  · intro s delay
    refine ⟨fun he hl hf => ?_, fun h => next_eq (if_off ?_), fun h => next_eq (if_pos h), fun h => next_eq (if_off h)⟩
    · intro u
      exact next_eq (if_pos (by rw [he, hl, hf]; rfl))
    · rcases h with h | h | h <;> simp [h]
  · intro s tag
    refine ⟨fun h => next_eq (handshakeTimeout_none s h), fun w h => ?_⟩
    intro u
    exact ⟨fun ha => next_eq ((handshakeTimeout_some s h).trans (if_pos ha)), fun ha => next_eq ((handshakeTimeout_some s h).trans (if_off ha))⟩

/-- Settles O48: the conditions of each command are resolved, and the command takes its case. -/
theorem twinCommands : Obligations.TwinCommands := by
  refine ⟨?_, ?_, fun s v hen hhand hfence => next_eq (brlCtlWrite_clearCounters s hen hhand hfence),
    fun s v => next_eq (if_pos (on_setBits_one F.BRL_HBKICK_KICK v rfl rfl)), ?_, ?_, ?_, fun s net level => rfl, ?_,
    fun s => ⟨fun h => next_eq (if_off h), fun h => next_eq (if_pos h)⟩, ?_, ?_, ?_⟩
  · intro s v hcnt hhand hfence
    have hop := brlCtlWrite_enable s hcnt hhand hfence
    exact ⟨fun he => next_eq (hop.trans (if_off (by rw [he]; rfl))), fun he hm => next_eq (hop.trans ((if_pos (by rw [he]; rfl)).trans (if_pos hm))),
      fun he hm => next_eq (hop.trans ((if_pos (by rw [he]; rfl)).trans (if_off hm)))⟩
  · exact fun s v hcnt hen => ⟨fun hhand => next_eq (brlCtlWrite_fence s hcnt hen hhand), fun hfence => next_eq (brlCtlWrite_handBack s hcnt hen hfence)⟩
  · intro s pad
    refine ⟨fun ht he hf hk => ?_, fun h => next_eq (if_off ?_)⟩
    · intro u
      have hbeats : (s.twin && s.flag F.BRL_CTL_EN && !s.flag F.BRL_STS_FENCED && s.brl.kicked) = true := by rw [ht, he, hf, hk]; rfl
      exact ⟨fun hb => next_eq ((if_pos hbeats).trans (if_neg (Nat.not_le.2 hb))), fun hb => next_eq ((if_pos hbeats).trans (if_pos hb))⟩
    · rcases h with h | h | h | h <;> simp [h]
  · intro s
    refine ⟨fun ht he => next_eq (if_pos (by rw [ht, he]; rfl)), fun h => next_eq (if_off (Bool.and_eq_false_iff.2 h)), fun ht => next_eq (if_pos ht),
      fun ht => next_eq (if_off ht), fun ht he hl hb => next_eq (if_pos (by rw [ht, he, hl, hb]; rfl)), fun h => next_eq (if_off ?_),
      fun h => next_eq (if_off ?_), fun ht he hf hp => ?_⟩
    · rcases h with h | h | h | h <;> simp [h]
    · rcases h with h | h | h | h <;> simp [h]
    · intro u
      have hsilent : (s.twin && s.flag F.BRL_CTL_EN && !s.flag F.BRL_STS_FENCED && !s.flag F.BRL_STS_PSILENT) = true := by rw [ht, he, hf, hp]; rfl
      exact ⟨fun hs => next_eq ((if_pos hsilent).trans (if_pos hs)), fun hs => next_eq ((if_pos hsilent).trans (if_off hs))⟩
  · intro s due d
    refine ⟨fun h => next_eq (if_neg fun hb => h ((guardDue_iff s).1 hb)), fun h hs => next_eq ((guardExpiry_due s ((guardDue_iff s).2 h)).trans ?_),
      fun h hs => next_eq ((guardExpiry_due s ((guardDue_iff s).2 h)).trans ?_)⟩
    · rw [if_pos hs]
    · rw [if_off hs]
  · intro s net b
    refine ⟨fun h => next_eq (tokenGained_stays s net h), fun h => next_eq (tokenLost_stays s net h), fun ht hl hh => ?_, fun ht hl hh => ?_⟩
    · have hop := tokenGained_comes s net ht hl hh
      intro u
      refine ⟨fun h2 => ?_, fun h2 ho => ?_, fun h2 ho => next_eq (hop.trans ((if_neg h2).trans (if_neg ho)))⟩
      · intro w
        exact next_eq (hop.trans (if_pos h2))
      · intro w
        exact next_eq (hop.trans ((if_neg h2).trans (if_pos ho)))
    · have hop := tokenLost_goes s net ht hl hh
      intro active given u0 u1 w u
      exact ⟨fun hg => next_eq (hop.trans (if_pos hg)), fun hg => next_eq (hop.trans (if_off hg))⟩
  · intro s v set u may
    have hop := steerWrite_eq s v
    refine ⟨fun h => next_eq (hop.trans (if_pos h)), fun h hm => next_eq (hop.trans ((if_neg h).trans (if_pos (congrArg Bool.not hm)))), fun h hm => ?_⟩
    intro w
    exact next_eq (hop.trans ((if_neg h).trans (if_off (congrArg Bool.not hm))))
  · intro s reads
    refine ⟨fun h => next_eq (if_pos (by rw [h]; rfl)), fun hb hs => ?_⟩
    intro u0 u1 u
    refine next_eq ((if_off (by rw [hb]; rfl)).trans ?_)
    rw [hs]
    rfl
  · intro s
    refine ⟨fun h => next_eq (handStep_succ s 7 h), fun h hl => next_eq ((handStep_succ s 7 h).trans (if_pos hl)),
      fun h hb => next_eq ((handStep_succ s 7 h).trans (if_pos hb)), fun h hc => next_eq ((handStep_succ s 7 h).trans (if_pos ?_)),
      fun h hc => next_eq ((handStep_succ s 7 h).trans (if_pos ?_)), fun h hs hp => next_eq ((handStep_succ s 7 h).trans (if_pos (by rw [hs, hp]; rfl))),
      fun h hs => ?_⟩
    · exact Bool.or_eq_true_iff.2 (hc.imp_right Option.isSome_iff_ne_none.2)
    · exact Option.isSome_iff_ne_none.2 hc
    · intro u w
      refine next_eq ((handStep_succ s 7 h).trans (if_off ?_))
      exact Bool.and_eq_false_iff.2 (hs.imp id (congrArg Bool.not))
end

section
/-! Resets, the start, the lock and boundary scan (spec/01_architecture.md, spec/16_boot_records_security.md, spec/13_memories.md: R6, R22, R24, R307, R336 to
R340, R386), and the statement about them. -/
namespace Sys2Proof.Machine

/-! Resets -/

/-- Whether a write of GLB_RST asks for a device reset (R24). -/
def State.resetTaken (s : State) (v : Word) : Bool :=
  F.GLB_RST_KEY.of v = 0x5A17 && F.GLB_RST_DEVRST.on v && s.core.resetDue.isNone && !s.ms.faultReset && !s.flt.fatalSeq && s.pwr.saving.isNone && !s.pwr.held

theorem resetTaken_iff (s : State) (v : Word) : s.resetTaken v = true ↔ F.GLB_RST_KEY.of v = 0x5A17 ∧ F.GLB_RST_DEVRST.on v = true ∧ s.core.resetDue = none ∧
    s.ms.faultReset = false ∧ s.flt.fatalSeq = false ∧ s.pwr.saving = none ∧ s.pwr.held = false := by
  simp only [State.resetTaken, Bool.and_eq_true, decide_eq_true_eq, Bool.not_eq_true', Option.isNone_iff_eq_none, and_assoc]

/-! The start -/

/-- Whether the boot ROM does not start (R339). -/
def State.startRests (s : State) : Bool :=
  decide (s.fget F.SEC_BOOTSTS_STEP ≠ 0) || decide (s.fget F.SEC_BOOTSTS_CODE ≠ 0) || s.core.resetDue.isSome || s.pwr.held || s.flt.fatalHold

theorem startRests_true (s : State) (h : s.fget F.SEC_BOOTSTS_STEP ≠ 0 ∨ s.fget F.SEC_BOOTSTS_CODE ≠ 0 ∨ s.core.resetDue ≠ none ∨ s.pwr.held = true ∨
    s.flt.fatalHold = true) : s.startRests = true := by
  simp only [State.startRests, Bool.or_eq_true, decide_eq_true_eq, Option.isSome_iff_ne_none, or_assoc]
  exact h

theorem startRests_false (s : State) (hs : s.fget F.SEC_BOOTSTS_STEP = 0) (hc : s.fget F.SEC_BOOTSTS_CODE = 0) (hd : s.core.resetDue = none)
    (hh : s.pwr.held = false) (hf : s.flt.fatalHold = false) : s.startRests = false := by
  rw [State.startRests, hs, hc, hd, hh, hf]
  rfl

/-- The slot that the start tries first (R336). -/
def firstSlot (f : Flash) (strap : Nat) : Nat := if strap = 1 then 2 else if flashActive f = 2 then 2 else 1

/-- The slots of a flash are tried (R338). -/
def State.startSlots (x : State) (f : Flash) (strap : Nat) : State :=
  match slotCheck (flashSlot f (firstSlot f strap)) (x.fget F.SEC_SVN_SVNMIN) with
  | none => x.slotPass (firstSlot f strap) (flashSlot f (firstSlot f strap))
  | some c => if strap = 1 then x.startFail c
    else match slotCheck (flashSlot f (3 - firstSlot f strap)) (x.fget F.SEC_SVN_SVNMIN) with
      | none => ((x.fsetB F.SEC_BOOTSTS_FALLBACK true).raiseFault Blk.sec 0 1 2 0).slotPass (3 - firstSlot f strap) (flashSlot f (3 - firstSlot f strap))
      | some d => x.startFail d

/-- The flash is read (R339 step 2). -/
def State.startFlash (w : State) (strap : Nat) : State :=
  match w.flash with
  | none => w.startFail 0x11
  | some f => if !f.responds then w.startFail 0x11 else (w.bootStep 3).startSlots f strap

theorem start_runs (s : State) (flash : Option Flash) (h : s.startRests = false) :
    let u := s.vaultLoads.markWord.startRecord.startLoads.bootStep 1
    startOp flash s = if u.fget F.GLB_CFG_STRAP = 2 then u else ((u.flashPlaced flash).bootStep 2).startFlash (u.fget F.GLB_CFG_STRAP) := if_off h

theorem startFlash_none (w : State) (strap : Nat) (h : w.flash = none) : w.startFlash strap = w.startFail 0x11 := by
  rw [State.startFlash, h]

theorem startFlash_some (w : State) (strap : Nat) {f : Flash} (h : w.flash = some f) :
    w.startFlash strap = if !f.responds then w.startFail 0x11 else (w.bootStep 3).startSlots f strap := by
  rw [State.startFlash, h]

theorem startSlots_first (x : State) (f : Flash) (strap : Nat) (h : slotCheck (flashSlot f (firstSlot f strap)) (x.fget F.SEC_SVN_SVNMIN) = none) :
    x.startSlots f strap = x.slotPass (firstSlot f strap) (flashSlot f (firstSlot f strap)) := by
  rw [State.startSlots, h]

theorem startSlots_strapped (x : State) (f : Flash) {strap c : Nat} (h : slotCheck (flashSlot f (firstSlot f strap)) (x.fget F.SEC_SVN_SVNMIN) = some c)
    (hs : strap = 1) : x.startSlots f strap = x.startFail c := by
  rw [State.startSlots, h]
  exact if_pos hs

theorem startSlots_second (x : State) (f : Flash) {strap c : Nat} (h : slotCheck (flashSlot f (firstSlot f strap)) (x.fget F.SEC_SVN_SVNMIN) = some c)
    (hs : strap ≠ 1) (h2 : slotCheck (flashSlot f (3 - firstSlot f strap)) (x.fget F.SEC_SVN_SVNMIN) = none) : x.startSlots f strap =
    ((x.fsetB F.SEC_BOOTSTS_FALLBACK true).raiseFault Blk.sec 0 1 2 0).slotPass (3 - firstSlot f strap) (flashSlot f (3 - firstSlot f strap)) := by
  rw [State.startSlots, h]
  dsimp only
  rw [if_neg hs, h2]

theorem startSlots_fails (x : State) (f : Flash) {strap c d : Nat} (h : slotCheck (flashSlot f (firstSlot f strap)) (x.fget F.SEC_SVN_SVNMIN) = some c)
    (hs : strap ≠ 1) (h2 : slotCheck (flashSlot f (3 - firstSlot f strap)) (x.fget F.SEC_SVN_SVNMIN) = some d) : x.startSlots f strap = x.startFail d := by
  rw [State.startSlots, h]
  dsimp only
  rw [if_neg hs, h2]

/-! The memory of the start -/

theorem ddr5TrainingEnd_stays (s : State) (ok : Bool) (gib : Nat) (h : s.fget F.SEC_BOOTSTS_STEP ≠ 4 ∨ s.fget F.SEC_BOOTSTS_CODE ≠ 0 ∨
    s.flag F.MEM_DDRSTS_TRAINED = true ∨ s.bootImage = none) : ddr5TrainingEndOp ok gib s = s := by
  by_cases hrest : s.fget F.SEC_BOOTSTS_STEP ≠ 4 ∨ s.fget F.SEC_BOOTSTS_CODE ≠ 0 ∨ s.flag F.MEM_DDRSTS_TRAINED = true
  · refine if_pos ?_
    simp only [Bool.or_eq_true, decide_eq_true_eq, or_assoc]
    exact hrest
  · have himage : s.bootImage = none := by tauto
    rw [ddr5TrainingEndOp, himage]
    exact ite_self s

theorem ddr5TrainingEnd_image (s : State) (ok : Bool) (gib : Nat) {i : SlotImage} (hs : s.fget F.SEC_BOOTSTS_STEP = 4) (hc : s.fget F.SEC_BOOTSTS_CODE = 0)
    (ht : s.flag F.MEM_DDRSTS_TRAINED = false) (hi : s.bootImage = some i) :
    let u := ((s.fsetB F.MEM_DDRSTS_TRAINED true).msMap (fun m => { m with fitted := gib * 2 ^ 30 })).bootStep 5
    ddr5TrainingEndOp ok gib s = if !ok || decide (s.fget F.MEM_DDRCFG_SIZE = 3) then s.startFail 0x20
      else if decide (gib < 2) || (u.twin && decide (gib < 4)) then u.startFail 0x21
      else if 524288 < imageZones i then u.startFail 0x22
      else (i.sections.foldl (fun s x => s.copySection x) (u.bootStep 6)).bootStep 7 := by
  refine (if_off ?_).trans ?_
  · rw [hs, hc, ht]
    rfl
  · rw [hi]

end Sys2Proof.Machine

open Sys2Proof Sys2Proof.Machine

/-- Settles O49: the resets and the lock by their conditions, the start by the slots it tries, the training by what it finds. -/
theorem chipCommands : Obligations.ChipCommands := by
  refine ⟨?_, ?_, ?_, fun s flash h => next_eq (if_pos (startRests_true s h)), ?_, ?_, fun s => ⟨fun h => next_eq (if_pos h), fun h => next_eq (if_off h)⟩,
    fun s c => ⟨rfl, rfl, rfl, rfl, rfl, rfl⟩⟩
  · intro s straps aux
    refine ⟨fun h => next_eq (if_pos (by rw [h]; rfl)), fun h => next_eq (if_off ?_)⟩
    exact Bool.and_eq_false_iff.2 (h.imp id (congrArg Bool.not))
  · intro s v taken
    exact ⟨fun h => next_eq (if_pos ((resetTaken_iff s v).2 h)), fun h => next_eq (if_neg fun hb => h ((resetTaken_iff s v).1 hb))⟩
  · intro s
    refine ⟨fun h => next_eq ?_, fun c h => next_eq ?_⟩
    · rw [deviceResetOp, h]
    · rw [deviceResetOp, h]
  · intro s flash hs hc hd hh hf u w
    have hop := start_runs s flash (startRests_false s hs hc hd hh hf)
    refine ⟨fun h2 => next_eq (hop.trans (if_pos h2)), fun h2 => ?_⟩
    have hflash := hop.trans (if_neg h2)
    refine ⟨fun hn => next_eq (hflash.trans (startFlash_none w _ hn)), fun f hw => ?_⟩
    have hread := hflash.trans (startFlash_some w _ hw)
    refine ⟨fun hr => next_eq (hread.trans (if_pos (by rw [hr]; rfl))), fun hr => ?_⟩
    have hslots := hread.trans (if_off (by rw [hr]; rfl))
    intro x n
    exact ⟨fun hc => next_eq (hslots.trans (startSlots_first x f _ hc)), fun c hc => ⟨fun h1 => next_eq (hslots.trans (startSlots_strapped x f hc h1)),
      fun h1 => ⟨fun h2 => next_eq (hslots.trans (startSlots_second x f hc h1 h2)), fun d h2 => next_eq (hslots.trans (startSlots_fails x f hc h1 h2))⟩⟩⟩
  · intro s ok gib
    refine ⟨fun h => next_eq (ddr5TrainingEnd_stays s ok gib h), fun i hs hc ht hi => ?_⟩
    have hop := ddr5TrainingEnd_image s ok gib hs hc ht hi
    intro u
    refine ⟨fun h => next_eq (hop.trans (if_pos (by simpa using h))), fun hok hsize => ?_⟩
    have htrained := hop.trans (if_neg (by simp [hok, hsize]))
    refine ⟨fun h => next_eq (htrained.trans (if_pos ?_)), fun h2 h4 hz => next_eq (htrained.trans ((if_neg ?_).trans (if_pos hz))),
      fun h2 h4 hz => next_eq (htrained.trans ((if_neg ?_).trans (if_neg (Nat.not_lt.2 hz))))⟩
    · exact Bool.or_eq_true_iff.2 (h.imp decide_eq_true fun h => Bool.and_eq_true_iff.2 ⟨h.1, decide_eq_true h.2⟩)
    all_goals
      simp only [Bool.or_eq_true, Bool.and_eq_true, decide_eq_true_eq]
      rintro (h | ⟨ht, h⟩)
      · omega
      · rcases h4 with h4 | h4
        · exact Bool.false_ne_true (h4.symm.trans ht)
        · omega
end

section
/-! The processor cluster (spec/01_architecture.md, spec/13_memories.md: R19 to R27, R287, R333), and the statement about it. -/
namespace Sys2Proof.Machine

/-! A hart that does not run -/

theorem coreAccess_stopped (s : State) {h : Fin 4} (kind : AccessKind) (a n : Nat) (v : BitVec 64) (e : ArrErr) (hr : s.hartRuns h = false) :
    coreAccessOp h kind a n v e s = s := if_pos (by rw [hr]; rfl)

/-! Accesses to the map of a hart that runs -/

/-- The work of an access of a hart that runs (R19), given the region that holds it. -/
def State.coreReach (s : State) (h : Fin 4) (a n : Nat) (v : BitVec 64) (e : ArrErr) (g : Option CoreRegion) : AccessKind → State
  | .csrRead m => s.csrRead h m a
  | .csrWrite m => s.csrWrite h m a v
  | .fetch => g.elim (s.trap h 1) (fun g => if g.fetches then s.coreLoad h g a n e else s.trap h 1)
  | .load => g.elim (s.trap h 5) (fun g => s.coreLoad h g a n e)
  | .store => g.elim (s.trap h 7) (fun g => if g.stores then s.coreStore h g a n v e else s.trap h 7)

theorem coreAccess_runs (s : State) {h : Fin 4} (kind : AccessKind) {a n : Nat} (v : BitVec 64) (e : ArrErr) {g : Option CoreRegion} (hr : s.hartRuns h = true)
    (hg : s.region a n = g) : coreAccessOp h kind a n v e s = s.coreReach h a n v e g kind := by
  refine (if_off (by rw [hr]; rfl)).trans ?_
  rw [hg]
  cases kind <;> cases g <;> rfl

/-! Device-specific CSRs -/

theorem csrRead_unprivileged (s : State) (h : Fin 4) {r : Nat} (hr : r ∈ [0x7C0, 0x7C1, 0x7C2, 0xFC0, 0xFC1]) : s.csrRead h false r = s.trap h 2 := by
  simp only [List.mem_cons, List.not_mem_nil, or_false] at hr
  rcases hr with rfl | rfl | rfl | rfl | rfl <;> rfl

theorem hartRelease_runs (s : State) {h : Fin 4} (machine : Bool) (v : Word) (hr : s.hartRuns h = true) : hartReleaseOp h machine v s =
    if !machine || h != 0 then s.trap h 2 else (((s.releaseHart v 1).releaseHart v 2).releaseHart v 3).done h := if_off (by rw [hr]; rfl)

theorem csrWrite_unprivileged (s : State) {h : Fin 4} (v : BitVec 64) {r : Nat} (hrun : s.hartRuns h = true) (hr : r ∈ [0x7C0, 0x7C1, 0x7C2, 0xFC0, 0xFC1]) :
    s.csrWrite h false r v = s.trap h 2 := by
  simp only [List.mem_cons, List.not_mem_nil, or_false] at hr
  rcases hr with rfl | rfl | rfl | rfl | rfl
  case inr.inr.inl => exact hartRelease_runs s false _ hrun
  all_goals rfl

/-! Claims and completions -/

theorem eventClaim_runs (s : State) {h : Fin 4} (machine : Bool) (hr : s.hartRuns h = true) :
    eventClaimOp h machine s = if machine then s.claim h else s.trap h 2 := if_off (by rw [hr]; rfl)

theorem eventClaim_machine (s : State) {h : Fin 4} (hr : s.hartRuns h = true) : eventClaimOp h true s = s.claim h :=
  (eventClaim_runs s true hr).trans (if_pos rfl)

theorem eventComplete_runs (s : State) {h : Fin 4} (machine : Bool) (v : Word) (hr : s.hartRuns h = true) :
    eventCompleteOp h machine v s = if machine then s.completeEvent h v else s.trap h 2 := if_off (by rw [hr]; rfl)

theorem claim_none (s : State) {h : Fin 4} (hn : s.claimNext h = none) : s.claim h = s.give h 0 := by
  delta State.claim
  rw [hn]

theorem claim_some (s : State) {h : Fin 4} {n : Nat} (hn : s.claimNext h = some n) : s.claim h =
    ({ s with evr := { s.evr with claimed := s.evr.claimed ||| bit640 n } }).give h (BitVec.ofNat 64 (2 ^ 31 + s.fget (F.EVR_ROUTE_PRIO n) * 2 ^ 10 + n)) := by
  delta State.claim
  rw [hn]

end Sys2Proof.Machine

open Sys2Proof Sys2Proof.Machine

/-- Settles O51: an access is resolved by its region and kind, a claim by the event it takes, a release by its hart. -/
theorem processorCluster : Obligations.ProcessorCluster := by
  refine ⟨?_, ?_, ?_, ?_, fun s h => ⟨rfl, rfl⟩, fun s a => ⟨fun h => next_eq (if_pos h), fun h => next_eq (if_off h)⟩⟩
  · intro s h kind a n v e m w hr
    have hstop : (!s.hartRuns h) = true := by rw [hr]; rfl
    exact ⟨next_eq (coreAccess_stopped s kind a n v e hr), next_eq (if_pos hstop), next_eq (if_pos hstop), next_eq (if_pos hstop)⟩
  · intro s h a n v e hr
    have hop : ∀ kind, coreAccessOp h kind a n v e s = s.coreReach h a n v e (s.region a n) kind := fun kind => coreAccess_runs s kind v e hr rfl
    refine ⟨fun hg => ⟨?_, ?_, ?_⟩, fun g hg => ⟨?_, fun hf => ?_, fun hf => ?_, fun hs => ?_, fun hs => ?_⟩, fun m => ⟨next_eq (hop _), next_eq (hop _)⟩,
      fun r hm => ⟨?_, ?_⟩, ?_, ?_, ?_⟩
    · exact next_eq (coreAccess_runs s .fetch v e hr hg)
    · exact next_eq (coreAccess_runs s .load v e hr hg)
    · exact next_eq (coreAccess_runs s .store v e hr hg)
    · exact next_eq (coreAccess_runs s .load v e hr hg)
    · exact next_eq ((coreAccess_runs s .fetch v e hr hg).trans (if_pos hf))
    · exact next_eq ((coreAccess_runs s .fetch v e hr hg).trans (if_off hf))
    · exact next_eq ((coreAccess_runs s .store v e hr hg).trans (if_pos hs))
    · exact next_eq ((coreAccess_runs s .store v e hr hg).trans (if_off hs))
    · exact next_eq ((coreAccess_runs s (.csrRead false) v e hr rfl).trans (csrRead_unprivileged s h hm))
    · exact next_eq ((coreAccess_runs s (.csrWrite false) v e hr rfl).trans (csrWrite_unprivileged s v hr hm))
    · exact next_eq (coreAccess_runs s (.csrRead true) v e hr rfl)
    · exact next_eq (coreAccess_runs s (.csrRead true) v e hr rfl)
    · exact next_eq (coreAccess_runs s (.csrWrite true) v e hr rfl)
  · intro s h hr
    exact ⟨next_eq (eventClaim_runs s false hr), fun hn => next_eq ((eventClaim_machine s hr).trans (claim_none s hn)),
      fun n hn => next_eq ((eventClaim_machine s hr).trans (claim_some s hn))⟩
  · intro s h w hr k
    refine ⟨next_eq (eventComplete_runs s false w hr), next_eq (eventComplete_runs s true w hr), next_eq (hartRelease_runs s false w hr), fun h0 => next_eq ?_,
      fun h0 => next_eq ?_⟩
    · exact (hartRelease_runs s true w hr).trans (if_pos (by simpa using h0))
    · exact (hartRelease_runs s true w hr).trans (if_neg (by simpa using h0))
end
